-- ==== Sys2Proof/Word.lean ====
section
/-! DEFINITION. The words of the model: the bit-vector widths the spec uses and the numbering of dies,
ports and quadrants (R5, R6, R17, R479). -/

namespace Sys2Proof

/-- A register word (R14). -/
abbrev Word := BitVec 32
/-- A 64-bit register, an event detail or a scratchpad word's data. -/
abbrev DWord := BitVec 64
abbrev Byte := BitVec 8
/-- A byte string, lowest address first (R7). -/
abbrev Bytes := List Byte
/-- Luna dies 0–15 (R17). -/
abbrev Luna := Fin 16
/-- All dies: 0–15 Luna, 16–19 hubs N, E, S, W (R17, R248). -/
abbrev Die := Fin 20
/-- HBM stacks 0–23 (R18). -/
abbrev Stack := Fin 24
/-- Shawm ports: 0 +X, 1 −X, 2 +Y, 3 −Y (R479). -/
abbrev Port := Fin 4
/-- Ethernet ports (R523). -/
abbrev EthPort := Fin 2
/-- RoCE queue pairs (R527). -/
abbrev Qp := Fin 4096

end Sys2Proof
end

