-- ==== Sys2Proof/Syntax.lean ====
section
/-! DEFINITION. The commands of the block: one constructor of `Instr` for each row of
spec/opcode_table.json, with the row's operands.

Every command's first operand `dt` is the number of CCLK cycles (R8, R31) since the command before it; 0
means the same cycle.  What the analogue and physical world shows the part (converter codes, voltages,
diode readings, the outcome of a training) is an operand too: the spec fixes no value for it (R76). -/

namespace Sys2Proof

/-! ## What physical tests report -/

/-- One lane of one UCIe module of a die-to-die link: direction as D2D_FAIL_SEL.DIR. -/
structure Lane where
  link : Nat
  module : Nat
  dir : Bool
  lane : Nat
deriving DecidableEq, Repr

/-- Means of channels 15, 1 and 0 over an HKC_CAL, in 1/16 LSB (R452). -/
structure HkcMeans where
  m15 : Int
  m1 : Int
  m0 : Int
deriving DecidableEq, Repr

/-- What COLCAL found on one physical array (R458, R460). -/
structure ColcalObs where
  die : Luna
  phys : Nat
  colFail : List Nat
  rowFail : Nat
  maxOffset : Nat
  maxGain : Nat
deriving DecidableEq, Repr

/-- The converter codes of one pass or quarter pass: 512 column codes (or 1,024 row codes) and the eight
reference codes, none for a transpose pass (R50, R60, R90); the main and reference codes that failed their parity
check (R127). -/
structure PassCodes where
  main : List Byte
  refs : List Byte
  bad : List Nat := []
  refBad : List Nat := []
deriving DecidableEq, Repr

/-- The codes of each pass of a baseline read of one physical array: one pass, or four quarter passes (R98); its main
codes are discarded (R99) and may be left out. An array not listed shows the codes of one without drift.
[DEDUCED: log 40] -/
structure BaselineObs where
  die : Luna
  phys : Nat
  refs : List PassCodes
deriving DecidableEq, Repr

/-- One diode read: mean ΔV code and the temperature in 1/16 °C that follows from it and the die's
ideality trim (R466). -/
structure DiodeObs where
  code : BitVec 16
  temp : Int
deriving DecidableEq, Repr

/-- A HELLO's content (R481): shape bits as SHAWM_MACHINE [3:0]. -/
structure Hello where
  x : BitVec 3
  y : BitVec 3
  shape : BitVec 4
deriving DecidableEq, Repr

/-- Outcome of one port's training (R482, R483): a partner present, the lanes that fail
(direction as SHAWM_LANE_FAIL, lane), the partner's spare assignment, half the mean round trip in 1/16 tick, and the partner's HELLO. -/
structure PortObs where
  partner : Bool
  laneFail : List (Bool × Nat)
  partnerTxSpare : BitVec 4
  partnerRxSpare : BitVec 4
  delay : BitVec 24
  hello : Option Hello
deriving DecidableEq, Repr

/-- What the ECC of the NVM record area finds on one block: corrected or not, and, where no mirror or other slot is
readable either, the structure lost (R571). -/
structure NvmObs where
  block : BitVec 24
  uncorrectable : Bool
  lost : Bool
deriving DecidableEq, Repr

/-- Everything the start-up steps of R563 test or read, step by step. -/
structure StartupObs where
  /-- Duration of each step, 1 to 9, in CCLK cycles: the module waits for each however long it takes. -/
  stepCycles : List Nat
  /-- Input voltage in mV when the module starts (R601). -/
  supplyMv : Nat
  /-- The strap contacts: [0] XDIM, [1] YDIM, [2] XWRAP, [3] YWRAP, [6:4] X, [9:7] Y, [13:10] PEN (R607). -/
  straps : BitVec 14
  pcieRefclk : Bool
  /-- Step 2: which firmware copies verify against the vendor key (R572). -/
  fwOk : Bool × Bool
  /-- Step 3: what the ECC of the record area finds on the blocks it reads (R571). -/
  nvm : List NvmObs
  /-- Step 4. -/
  laneFail : List Lane
  bankFail : List (Die × Nat)
  hawkFail : List Nat
  /-- Step 5: stacks whose training fails, with the channel. -/
  hbmFail : List (Stack × Nat)
  /-- Step 6, dies 0–19. -/
  hkc : List HkcMeans
  diode : List DiodeObs
  /-- Step 7: arrays on which a converter failed; step 8: reference codes of every IN_USE array. -/
  colcal : List ColcalObs
  baseline : List BaselineObs
  /-- Step 9, ports 0–3. -/
  ports : List PortObs
deriving DecidableEq, Repr

/-- How CLOCK_FAULT shows (R33). -/
inductive ClockFault where
  | refLoss (missed : Byte)
  | pllUnlock (die : Die)
  | alignFail (die : Die) (cycles : Byte)
deriving DecidableEq, Repr

/-- What the decompressor and the broadcast wires do at a compare point: slots whose parity fails on a die
(slot 0 header, 1–4 hubs, 5–20 LUNA), a mismatch of the two decompressor copies, whether the prefetch buffer
holds the next bundle (R247, R269), and the words of descriptor tables that the bundle's operations find
uncorrectable, with the dies that corrected one (R246, R282). -/
structure IssueObs where
  parityBad : List (Die × Nat)
  decompBad : Bool
  fetched : Bool
  tableBad : List (Die × Nat) := []
  tableCorr : List Die := []
deriving DecidableEq, Repr

/-- What the checks of a tensor operation report: accumulators whose residue fails at a stage (R232), file
words corrected, or uncorrectable with their status word readable or not (R221), and scratchpad words the
operation read that were corrected or could not be (R282). -/
structure AccObs where
  residue : List (Nat × Nat) := []
  corrected : Nat := 0
  uncorrected : List (Nat × Bool) := []
  spadCorr : Nat := 0
  spadUncorr : List Nat := []
deriving DecidableEq, Repr

/-- What the array read delivers to Piccolo (R118): the codes of each pass that ran, in order, and the
outputs whose Piccolo residue failed (R128), whether a word of the array's tracker was uncorrectable (R128), and what the accumulators' checks report where the chunks enter (R221, R232). -/
structure ReadObs where
  high : List PassCodes
  low : List PassCodes
  residueBad : List Nat
  trackerBad : Bool := false
  acc : AccObs := {}
deriving DecidableEq, Repr

/-- What the memories' checks report on a transfer's reads: HBM bursts (byte address / 64) corrected and
uncorrectable (R299), and scratchpad words (die, word) likewise (R282). -/
structure XferObs where
  hbmCorr : List Nat := []
  hbmUncorr : List Nat := []
  spadCorr : List (Nat × Nat) := []
  spadUncorr : List (Nat × Nat) := []
deriving DecidableEq, Repr

/-- What verify reads of one cell pair after each pulse, in 1/256 level, by physical row and column (R138). -/
structure CellObs where
  row : Nat
  col : Nat
  reads : List Int
deriving DecidableEq, Repr

/-- A column result of an acceptance pass (R140). -/
structure AcceptObs where
  pass : Nat
  col : Nat
  y : Word
deriving DecidableEq, Repr

/-- What the analogue side shows of a program's phases (R138 to R144). Cell pairs not listed pass at their first
iteration, acceptance results not listed meet the limit, and codes not listed are 0. [DEDUCED: log 37] -/
structure ProgObs where
  cells : List CellObs := []
  accept : List AcceptObs := []
  /-- Codes of the gain measure's passes, one set or four (R141). -/
  gainFwd : List (List PassCodes) := []
  gainTrn : List (List PassCodes) := []
  beta : BitVec 16
  /-- codes of the seeding baseline pass (R97, R98). -/
  refs : List PassCodes
  /-- What ECC finds on the block of the physical record written (R571). -/
  nvm : List NvmObs := []
deriving DecidableEq, Repr

/-- A cell pair's level as an audit finds it, in 1/256 level, by physical row and column. -/
structure CellLevel where
  row : Nat
  col : Nat
  level : Int
deriving DecidableEq, Repr

/-- What an audit reads (R158): cell pairs whose level is not their old target, and after the erase those that are
not at level 0. -/
structure AuditObs where
  found : List CellLevel := []
  erased : List CellLevel := []
deriving DecidableEq, Repr

/-- One die's twelve raw scan results, in the order of R450: rail voltages and currents of rails 0–5. -/
structure ScanObs where
  die : Die
  raw : List (BitVec 12)
deriving DecidableEq, Repr

/-! ## Messages of the fabric -/

/-- A TENSOR frame as accepted from a port (R484, R493): `first` with the packets of the whole write in
`length`, up to eight payload packets; a poisoned packet is written as no bytes. -/
structure WriteFrame where
  port : Port
  vc : Bool
  src : BitVec 6
  dst : BitVec 6
  first : Bool
  last : Bool
  window : BitVec 16
  offset : BitVec 26
  length : BitVec 24
  die : BitVec 5
  thread : BitVec 10
  data : List Bytes
deriving DecidableEq, Repr

/-- A row group of a wave (R393). -/
structure RowGroup where
  slot : BitVec 16
  gen : BitVec 16
  pos : BitVec 21
  count : BitVec 4
  kind : BitVec 3
  row : BitVec 9
  realRows : BitVec 5
  adapter : BitVec 12
  adp : Bool
deriving DecidableEq, Repr

/-- Items of GO and COMMIT_DONE messages (R500). -/
inductive MsgItem where
  | rowGroup (g : RowGroup)
  | verdict (req : Word) (accepted : Word) (poison : Bool) (step : DWord)
  | admits (req : Word) (home : Byte) (flags : Byte) (adapter : BitVec 16) (len : Word) (keys : Word) (maxNew : Word) (kind : Byte)
  | key (req : Word) (block : Word) (key : Bytes)
  | retire (req : Word) (stateCode : Byte) (reason : Byte)
  | expire (handle : Word)
  | ship (req : Word) (ticket : Word) (side : Bool) (len : Word)
  | park (req : Word) (handle : Word) (region : BitVec 16) (offset : DWord) (capacity : DWord)
  | resume (req : Word) (handle : Word) (region : BitVec 16) (offset : DWord) (positions : Word)
  | ioProgress (req : Word) (kind : Byte) (status : Byte) (cause : Byte) (pages : Word)
  | parity (req : Word) (table : Byte) (index : Word)
  | capacityFail (req : Word)
  | unknown
deriving DecidableEq, Repr

/-- A GO message (R392, R500). -/
structure GoMsg where
  step : DWord
  start : DWord
  rows : BitVec 16
  role : Byte
  train : Bool
  job : Word
  items : List MsgItem
deriving DecidableEq, Repr

/-- A COMMIT_DONE message (R392, R500) with the module it comes from. -/
structure CommitMsg where
  src : BitVec 6
  step : DWord
  stepError : Bool
  outFlags : DWord
  free : List Word
  items : List MsgItem
deriving DecidableEq, Repr

/-- A SYNC frame with the receiving port's arrival timestamp, and this module's residence time toward port 0 and
port 2, in 1/16 tick (R504, R505). -/
structure SyncFrame where
  port : Port
  src : BitVec 6
  master : Nat
  accum : Word
  breathTicks : Word
  breathNumber : Word
  arrival : Nat
  resX : Nat
  resY : Nat
deriving DecidableEq, Repr

/-- A record of a broadcast stream (R502): header fields, its body, and `packets` of header and body. -/
structure BcastRecord where
  mask : DWord
  dst : DWord
  length : Word
  number : Word
  digest : Bytes
  zeroOk : Bool
  body : Bytes
deriving DecidableEq, Repr

/-- A frame of a shape R488 speaks of: `op` is OP of a CONTROL frame, `zerosOk` whether every bit is zero where
the header or the operation's table gives zero (R499). -/
structure AnyFrame where
  port : Port
  type : BitVec 4
  packets : BitVec 4
  op : BitVec 8
  zerosOk : Bool
  src : BitVec 6
  dst : BitVec 6
deriving DecidableEq, Repr

/-- The tunnel fields of a CONTROL frame (R499). -/
structure TunnelFrame where
  port : Port
  vc : Bool
  src : BitVec 6
  dst : BitVec 6
  offset : BitVec 24
  data : Word
  window : BitVec 2
  tag : BitVec 8
deriving DecidableEq, Repr

/-- A FAULT_NOTICE (R495, R499). -/
structure FaultNotice where
  port : Port
  src : BitVec 6
  code : BitVec 16
  linkPort : BitVec 2
  tick : Word
deriving DecidableEq, Repr

/-- What an acknowledging RoCE packet carries (R527, R532). -/
inductive RoceAck where
  | none
  /-- an ACK of that many of the oldest messages -/
  | ack (messages : Nat)
  /-- the response of the oldest message, a READ, with its data; it acknowledges it -/
  | readResponse (data : Bytes)
  /-- a PSN sequence error -/
  | seqNak
  | rnrNak
  | accessNak
  | operationNak
deriving DecidableEq, Repr

/-- An Ethernet frame as the port sees it (R524, R525, R527, R531). -/
inductive EthFrame where
  /-- a PFC frame: priorities paused -/
  | pfc (mask : Byte)
  /-- an 802.3x PAUSE frame -/
  | pause
  /-- a RoCE v2 packet to queue pair number `qpn`: ECN mark, the ACK or NAK it carries, its priority and how
  full that priority's receive buffer is after it, in percent -/
  | roce (qpn : BitVec 24) (ce : Bool) (carries : RoceAck) (prio : Fin 8) (fill : Nat)
  /-- a frame with a bad FCS, or FEC codewords corrected and uncorrected with it -/
  | fcsError
  | fec (corrected : Nat) (uncorrected : Nat)
  /-- anything else addressed to the port's MAC -/
  | other
  /-- addressed to another MAC -/
  | notOurs
deriving DecidableEq, Repr

/-! ## The commands -/

/-- The commands of spec/opcode_table.json, one constructor a row, in the table's order. -/
inductive Instr where
  /-- POWER_UP (R563). -/
  | powerUp (dt : Nat) (obs : StartupObs)
  /-- ENTER_READY (R568). -/
  | enterReady (dt : Nat)
  /-- PWR_EN_DEASSERT (R610). -/
  | pwrEnDeassert (dt : Nat)
  /-- INPUT_VOLTAGE_LOCKOUT (R601): the input voltage in mV. -/
  | inputVoltageLockout (dt : Nat) (mv : Nat)
  /-- RAIL_OUT_OF_RANGE (R609): a rail of a die. -/
  | railOutOfRange (dt : Nat) (die : Die) (rail : Fin 6)
  /-- CLOCK_FAULT (R33). -/
  | clockFault (dt : Nat) (kind : ClockFault)
  /-- BUNDLE_COMPARE_POINT (R263). -/
  | bundleComparePoint (dt : Nat) (obs : IssueObs)
  /-- XFER_ISSUE (R252): the ISSUE in the issued bundle's slot of a die. -/
  | xferIssue (dt : Nat) (die : Die)
  /-- WINDOW_OPEN (R306): words of its table entry, 0 to 3, found uncorrectable when it is latched (R282). -/
  | windowOpen (dt : Nat) (die : Die) (entryBad : List (Fin 4))
  /-- WINDOW_CLOSE (R308). -/
  | windowClose (dt : Nat) (die : Die)
  /-- RING_PUBLISH (R290). -/
  | ringPublish (dt : Nat) (die : Die)
  /-- RING_RELEASE (R290). -/
  | ringRelease (dt : Nat) (die : Die)
  /-- END (R270). -/
  | endProgram (dt : Nat)
  /-- ARRAY_GROUP_FWD (R47). -/
  | arrayGroupFwd (dt : Nat) (die : Luna)
  /-- ARRAY_GROUP_TRN (R61). -/
  | arrayGroupTrn (dt : Nat) (die : Luna)
  /-- MATMUL (R208). -/
  | matmul (dt : Nat) (die : Luna) (obs : AccObs)
  /-- CLEAR (R222). -/
  | clear (dt : Nat) (die : Luna)
  /-- PRELOAD (R222). -/
  | preload (dt : Nat) (die : Luna) (obs : AccObs)
  /-- ADD (R214). -/
  | add (dt : Nat) (die : Luna) (obs : AccObs)
  /-- READ (R226). -/
  | read (dt : Nat) (die : Luna) (obs : AccObs)
  /-- READ_CLEAR (R222). -/
  | readClear (dt : Nat) (die : Luna) (obs : AccObs)
  /-- SAVE (R234). -/
  | save (dt : Nat) (die : Luna) (obs : AccObs)
  /-- RESTORE (R235). -/
  | restore (dt : Nat) (die : Luna) (obs : AccObs)
  /-- EXT_INIT (R229). -/
  | extInit (dt : Nat) (die : Luna)
  /-- EXT_CHUNK (R229). -/
  | extChunk (dt : Nat) (die : Luna) (obs : AccObs)
  /-- VECTOR (R207). -/
  | vector (dt : Nat) (die : Luna) (obs : AccObs)
  /-- QUANT (R187). -/
  | quant (dt : Nat) (die : Luna) (obs : AccObs)
  /-- SEGQ (R193). -/
  | segq (dt : Nat) (die : Luna) (obs : AccObs)
  /-- SHADOW_CHECK (R122). -/
  | shadowCheck (dt : Nat) (die : Luna) (obs : XferObs) (sramBad : Bool)
  /-- FLAG_CLEAR (R227). -/
  | flagClear (dt : Nat) (die : Luna)
  /-- MARK (R262). -/
  | mark (dt : Nat) (die : Luna)
  /-- SEQ_WAIT_TIMEOUT (R265). -/
  | seqWaitTimeout (dt : Nat)
  /-- ISSUE_HALT (R272). -/
  | issueHalt (dt : Nat)
  /-- STEP_COMMIT (R389). -/
  | stepCommit (dt : Nat)
  /-- COMMIT_DONE (R390). -/
  | commitDone (dt : Nat) (msg : CommitMsg)
  /-- SERVE_COMMIT_TIMEOUT (R391). -/
  | serveCommitTimeout (dt : Nat)
  /-- GO (R392). -/
  | go (dt : Nat) (msg : GoMsg)
  /-- ARRAY_PASS_START (R49): the die's oldest scheduled operation. -/
  | arrayPassStart (dt : Nat) (die : Luna) (obs : AccObs)
  /-- PICCOLO_DELIVER (R118): the die's oldest started read. -/
  | piccoloDeliver (dt : Nat) (die : Luna) (obs : ReadObs)
  /-- XFER_THREAD_START (R254): the oldest descriptor of the die's issue queue, onto a free thread. -/
  | xferThreadStart (dt : Nat) (die : Die) (thread : BitVec 10) (obs : XferObs)
  /-- XFER_COMPLETE (R256). -/
  | xferComplete (dt : Nat) (die : Die) (thread : BitVec 10)
  /-- BREATH_BOUNDARY (R432). -/
  | breathBoundary (dt : Nat) (stackTemps : List (BitVec 8))
  /-- HKC_SCAN_START (R450). -/
  | hkcScanStart (dt : Nat)
  /-- HKC_SCAN_END (R450): the raw codes of each die that scanned. -/
  | hkcScanEnd (dt : Nat) (scans : List ScanObs)
  /-- ATLAS_SAMPLE_MISSING (R442). -/
  | atlasSampleMissing (dt : Nat) (die : Die)
  /-- DRONE_CORRECTION (R506). -/
  | droneCorrection (dt : Nat)
  /-- SYNC (R505). -/
  | sync (dt : Nat) (frame : SyncFrame)
  /-- DRONE_HOLDOVER (R507). -/
  | droneHoldover (dt : Nat)
  /-- THERMTRIP_ASSERT (R475). -/
  | thermtripAssert (dt : Nat)
  /-- PROGRAM_COMPLETE (R144): one of the die's 16 program channels. -/
  | programComplete (dt : Nat) (die : Luna) (channel : Fin 16) (obs : ProgObs)
  /-- PROG_TIMEOUT (R142). -/
  | progTimeout (dt : Nat) (die : Luna) (channel : Fin 16)
  /-- BG_PASS_RERUN (R143). -/
  | bgPassRerun (dt : Nat) (die : Luna) (channel : Fin 16)
  /-- AUDIT_COMPLETE (R158). -/
  | auditComplete (dt : Nat) (die : Luna) (phys : BitVec 13) (obs : AuditObs)
  /-- INSTALL_COMPLETE (R150). -/
  | installComplete (dt : Nat) (die : Luna)
  /-- PENDING_SWAP_EXPIRE (R156). -/
  | pendingSwapExpire (dt : Nat) (die : Luna) (logical : BitVec 12)
  /-- TRACKER_STALE (R96). -/
  | trackerStale (dt : Nat) (die : Luna) (phys : BitVec 13)
  /-- PAGE_CRC_COMPUTE (R342): a page table entry. -/
  | pageCrcCompute (dt : Nat) (entry : BitVec 24)
  /-- PREFIX_AGE_TICK (R354). -/
  | prefixAgeTick (dt : Nat)
  /-- SPAD_SCRUB (R283): one word, and whether its stored code had a correctable error. -/
  | spadScrub (dt : Nat) (die : Die) (word : BitVec 26) (corrected uncorrectable : Bool)
  /-- LIFE_RECORD_WRITE (R575): what ECC finds on the blocks of the records written, dies 0–19 and the module's 20. -/
  | lifeRecordWrite (dt : Nat) (nvm : List (Fin 21 × NvmObs))
  /-- EVTLOG_RECORD_WRITE (R616). -/
  | evtlogRecordWrite (dt : Nat)
  /-- TENSOR_FRAME (R307). -/
  | tensorFrame (dt : Nat) (frame : WriteFrame)
  /-- WINDOW_WRITE_LANDED (R310): an admitted write, by window and XFER. -/
  | windowWriteLanded (dt : Nat) (window : BitVec 12) (src : BitVec 6) (die : BitVec 5) (thread : BitVec 10)
  /-- BROADCAST_FRAME (R501). -/
  | broadcastFrame (dt : Nat) (port : Port) (src : BitVec 6) (packets : List Bytes)
  /-- BCAST_RECORD (R503). -/
  | bcastRecord (dt : Nat) (record : BcastRecord)
  /-- XFER_REPLY (R493). -/
  | xferReply (dt : Nat) (port : Port) (die : BitVec 5) (thread : BitVec 10) (status : BitVec 3)
  /-- TUNNEL_WR (R496). -/
  | tunnelWr (dt : Nat) (frame : TunnelFrame)
  /-- TUNNEL_RD (R496). -/
  | tunnelRd (dt : Nat) (frame : TunnelFrame)
  /-- TUNNEL_RSP (R499). -/
  | tunnelRsp (dt : Nat) (frame : TunnelFrame)
  /-- FAULT_NOTICE (R495). -/
  | faultNotice (dt : Nat) (notice : FaultNotice)
  /-- EVENT_NOTICE (R520). -/
  | eventNotice (dt : Nat) (src : BitVec 6) (code : BitVec 16) (severity : BitVec 3)
  /-- HELLO (R481). -/
  | hello (dt : Nat) (port : Port) (msg : Hello)
  /-- ACK (R486): the sequence number acknowledged. -/
  | ack (dt : Nat) (port : Port) (seq : BitVec 20)
  /-- NAK (R487): the sequence number requested. -/
  | nak (dt : Nat) (port : Port) (seq : BitVec 20)
  /-- FRAME_CRC_ERROR (R486): a frame with a bad CRC, or with a SEQ that is not the one expected. -/
  | frameCrcError (dt : Nat) (port : Port) (crcBad : Bool) (seq : BitVec 20)
  /-- SHAWM_ACK_TIMER (R486). -/
  | shawmAckTimer (dt : Nat) (port : Port)
  /-- SHAWM_REPLAY_TIMEOUT (R487). -/
  | shawmReplayTimeout (dt : Nat) (port : Port)
  /-- SHAWM_LINK_DOWN (R487, R495): cause 1 replay limit, 2 lane (its direction and number), 3 loss of signal. -/
  | shawmLinkDown (dt : Nat) (port : Port) (cause : BitVec 2) (dir : Bool) (lane : BitVec 4)
  /-- SHAWM_REPLY_TIMEOUT (R494). -/
  | shawmReplyTimeout (dt : Nat) (die : Die) (thread : BitVec 10)
  /-- SHAWM_TUNNEL_TIMEOUT (R498). -/
  | shawmTunnelTimeout (dt : Nat) (window : Fin 3) (tag : BitVec 8)
  /-- D2D_FLIT_REPLAY (R24). -/
  | d2dFlitReplay (dt : Nat) (link : Fin 20)
  /-- D2D_LINK_DOWN (R25). -/
  | d2dLinkDown (dt : Nat) (link : Fin 20) (seq : BitVec 24)
  /-- HAWK_CORE_FAULT (R385): cause 1 self-check, 2 watchdog. -/
  | hawkCoreFault (dt : Nat) (core : Fin 9) (cause : BitVec 2)
  /-- SERVE_TABLE_PARITY (R387): table 1 request, 2 wave, 3 planner queue; word index in the table. -/
  | serveTableParity (dt : Nat) (table : BitVec 2) (index : Word)
  /-- PCIE_RESET (R515): 1 PERST#, 2 hot reset, 3 function-level reset. -/
  | pcieReset (dt : Nat) (kind : BitVec 2)
  /-- PCIE_LINK_DOWN (R516). -/
  | pcieLinkDown (dt : Nat)
  /-- PCIE_LINK_UP (R516): SPEED, WIDTH and FLIT of PCIE_LINK_STATUS. -/
  | pcieLinkUp (dt : Nat) (speed : BitVec 4) (width : BitVec 3) (flit : Bool)
  /-- BAR2_ACCESS_INVALID (R514): BAR number, offset, bytes, write. -/
  | bar2AccessInvalid (dt : Nat) (bar : BitVec 2) (offset : Word) (bytes : BitVec 7) (write : Bool)
  /-- ETH_FRAME_RECEIVE (R524): a frame and its length in bytes. -/
  | ethFrameReceive (dt : Nat) (port : EthPort) (bytes : Nat) (frame : EthFrame)
  /-- ETH_LINK_DOWN (R526). -/
  | ethLinkDown (dt : Nat) (port : EthPort)
  /-- ETH_PAUSE_STORM (R525). -/
  | ethPauseStorm (dt : Nat) (port : EthPort) (prio : Fin 8)
  /-- ROCE_SEND_RECEIVE (R533). -/
  | roceSendReceive (dt : Nat) (qp : Qp) (payload : Bytes)
  /-- RDMA_WRITE_RECEIVE (R530). -/
  | rdmaWriteReceive (dt : Nat) (qp : Qp) (rkey : Word) (addr : DWord) (data : Bytes)
  /-- RDMA_READ_RECEIVE (R530). -/
  | rdmaReadReceive (dt : Nat) (qp : Qp) (rkey : Word) (addr : DWord) (length : Word)
  /-- ROCE_ACK_TIMEOUT (R527). -/
  | roceAckTimeout (dt : Nat) (qp : Qp)
  /-- CNP_RECEIVE (R531). -/
  | cnpReceive (dt : Nat) (qp : Qp)
  /-- ROCE_RATE_INCREASE (R531). -/
  | roceRateIncrease (dt : Nat) (qp : Qp)
  /-- D2D_REPAIR (R27): the value written to D2D_REPAIR_CMD; lanes failing when the link retrains come with
  D2D_TRAINING_END. -/
  | d2dRepair (dt : Nat) (value : Word)
  /-- INSTALL (R149). -/
  | install (dt : Nat) (die : Luna) (repair : Bool)
  /-- REPLACE (R159). -/
  | replace (dt : Nat) (die : Luna) (logical : BitVec 12) (phys : BitVec 13) (retireOld : Bool) (repair : Bool)
  /-- APPLY (R156). -/
  | apply (dt : Nat) (die : Luna)
  /-- REFRESH_CANCEL (R170). -/
  | refreshCancel (dt : Nat) (die : Luna)
  /-- RETIRE (R162). -/
  | retire (dt : Nat) (die : Luna) (phys : BitVec 13)
  /-- REFRESH_OFF_HOURS (R166). -/
  | refreshOffHours (dt : Nat) (die : Luna) (hours : Word)
  /-- PICCOLO_SNAP_SEL (R131). -/
  | piccoloSnapSel (dt : Nat) (die : Luna) (value : Word)
  /-- WIDEN_ENABLE (R197). -/
  | widenEnable (dt : Nat) (id : BitVec 12) (thresh : BitVec 16)
  /-- WIDEN_DISABLE (R204). -/
  | widenDisable (dt : Nat) (id : BitVec 12)
  /-- WIDEN_RESET (R200). -/
  | widenReset (dt : Nat) (id : BitVec 12)
  /-- WIDEN_RESET_ALL (R198). -/
  | widenResetAll (dt : Nat)
  /-- RUN (R273): the value of SEQ_CONTROL.RUN. -/
  | run (dt : Nat) (on : Bool)
  /-- HALT_CLEAR (R287). -/
  | haltClear (dt : Nat)
  /-- SPAD_REPAIR (R285). -/
  | spadRepair (dt : Nat) (die : Die)
  /-- HBM_RETIRE (R301): the row of HBM_RETIRE_CMD. -/
  | hbmRetire (dt : Nat) (stack : Stack) (row : BitVec 27)
  /-- ADAPTER_LOAD (R361). -/
  | adapterLoad (dt : Nat) (index : BitVec 12)
  /-- ADAPTER_UNLOAD (R362). -/
  | adapterUnload (dt : Nat) (index : BitVec 12)
  /-- HAWK_SUB_TAIL (R399): the BAR2 writes that the host link carried before it (R518): offset and bytes. -/
  | hawkSubTail (dt : Nat) (writes : List (Word × Bytes)) (tail : Word)
  /-- HAWK_SPARE (R384). -/
  | hawkSpare (dt : Nat) (core : Fin 8)
  /-- BREATH_TICKS (R430). -/
  | breathTicks (dt : Nat) (ticks : Word)
  /-- HKC_CAL (R452). -/
  | hkcCal (dt : Nat) (die : Die)
  /-- HKC_CAL_END (R454). -/
  | hkcCalEnd (dt : Nat) (die : Die) (means : HkcMeans)
  /-- HKC_CONVERT (R451). -/
  | hkcConvert (dt : Nat) (die : Die) (ch : BitVec 5)
  /-- HKC_CONVERT_END (R451). -/
  | hkcConvertEnd (dt : Nat) (die : Die) (raw : BitVec 12)
  /-- COLCAL_GO (R457). -/
  | colcalGo (dt : Nat) (die : Luna) (all : Bool)
  /-- COLCAL_END (R459). -/
  | colcalEnd (dt : Nat) (die : Luna) (found : List ColcalObs)
  /-- BASELINE_CHECK_END (R98). -/
  | baselineCheckEnd (dt : Nat) (die : Luna) (obs : List BaselineObs)
  /-- THERM_SEED (R464): the twenty diode readings. -/
  | thermSeed (dt : Nat) (readings : List DiodeObs)
  /-- THERM_DIODE_READ (R466). -/
  | thermDiodeRead (dt : Nat) (mask : BitVec 20)
  /-- DIODE_READ_END (R467). -/
  | diodeReadEnd (dt : Nat) (die : Die) (reading : DiodeObs)
  /-- SHAWM_MACHINE_WRITE (R480). -/
  | shawmMachineWrite (dt : Nat) (value : Word)
  /-- SHAWM_RETRAIN (R483): TX_SPARE and RX_SPARE. -/
  | shawmRetrain (dt : Nat) (port : Port) (tx : BitVec 4) (rx : BitVec 4)
  /-- RESYNC (R507). -/
  | resync (dt : Nat)
  /-- PCIE_REMOTE_PENDING_CLEAR (R520): the word written, in the high word or the low. -/
  | pcieRemotePendingClear (dt : Nat) (high : Bool) (value : Word)
  /-- TUNNEL_WINDOW_WRITE (R496). -/
  | tunnelWindowWrite (dt : Nat) (window : Fin 3) (offset : BitVec 24) (data : Word)
  /-- TUNNEL_WINDOW_READ (R496). -/
  | tunnelWindowRead (dt : Nat) (window : Fin 3) (offset : BitVec 24)
  /-- ROCE_CTX_READ (R528). -/
  | roceCtxRead (dt : Nat)
  /-- ROCE_CTX_WRITE (R528). -/
  | roceCtxWrite (dt : Nat)
  /-- ROCE_CTX_MODIFY (R528): the new STATE. -/
  | roceCtxModify (dt : Nat) (state : BitVec 3)
  /-- ATTEST (R552). -/
  | attest (dt : Nat)
  /-- ATTEST_DONE (R552). -/
  | attestDone (dt : Nat)
  /-- DEV_ENTER (R549): ARG. -/
  | devEnter (dt : Nat) (arg : BitVec 16)
  /-- EVTLOG_SEL (R557). -/
  | evtlogSel (dt : Nat) (index : Word)
  /-- EVTLOG_READ (R559). -/
  | evtlogRead (dt : Nat) (index : Word)
  /-- ACK_SHUTDOWN (R567): ARG, and what start-up then tests from step 4 on. -/
  | ackShutdown (dt : Nat) (arg : BitVec 16) (obs : StartupObs)
  /-- RETRY (R565). -/
  | retry (dt : Nat) (obs : StartupObs)
  /-- PREPARE_OFF (R570). -/
  | prepareOff (dt : Nat)
  /-- BOOT_RESET (R569): ARG. -/
  | bootReset (dt : Nat) (arg : BitVec 16) (obs : StartupObs)
  /-- NVREC_FW_WRITE (R572): image length in 4 KiB units. -/
  | nvrecFwWrite (dt : Nat) (units : BitVec 12)
  /-- NVREC_FW_SELECT (R572). -/
  | nvrecFwSelect (dt : Nat) (copy : Bool)
  /-- FW_UPDATE_DONE (R572). -/
  | fwUpdateDone (dt : Nat)
  /-- NVREC_HOST_TIME (R578): one word of the pair. -/
  | nvrecHostTime (dt : Nat) (high : Bool) (value : Word)
  /-- FE_REARM (R594): a page. -/
  | feRearm (dt : Nat) (page : BitVec 10)
  /-- SNAPSHOT (R595): the value of BLK_CONTROL.SNAPSHOT. -/
  | snapshot (dt : Nat) (page : BitVec 10) (on : Bool)
  /-- REG64_LOW_READ (R14): the BAR0 address of a register word. -/
  | reg64LowRead (dt : Nat) (addr : BitVec 26)
  /-- UNMAPPED_ACCESS (R586). -/
  | unmappedAccess (dt : Nat) (addr : BitVec 26) (write : Bool)
  /-- REGISTER_WRITE (R588). -/
  | registerWrite (dt : Nat) (addr : BitVec 26) (value : Word)
  /-- SHAWM_FRAME_INVALID (R488). -/
  | shawmFrameInvalid (dt : Nat) (frame : AnyFrame)
  /-- D2D_TRAINING_END (R27): the lanes found failed. -/
  | d2dTrainingEnd (dt : Nat) (link : Fin 20) (failed : List Lane)
  /-- SPAD_SELF_TEST_END (R285): the banks found failed. -/
  | spadSelfTestEnd (dt : Nat) (die : Die) (failed : List Nat)
  /-- HBM_ROW_RETIRED (R301): 64-bit words of the row that could not be corrected, by burst. -/
  | hbmRowRetired (dt : Nat) (stack : Stack) (corrected badBursts : List (Fin 16))
  /-- SHAWM_TRAINING_END (R483). -/
  | shawmTrainingEnd (dt : Nat) (port : Port) (obs : PortObs)
  /-- TRAIN_JOB_END (R380). -/
  | trainJobEnd (dt : Nat)
  /-- EVTLOG_FETCH_DONE (R557). -/
  | evtlogFetchDone (dt : Nat)
  /-- ETH_LINK_UP (R523). -/
  | ethLinkUp (dt : Nat) (port : EthPort)
  /-- ROCE_RNR_TIMEOUT (R527). -/
  | roceRnrTimeout (dt : Nat) (qp : Qp)
  /-- PCIE_CONFIG_WRITE (R516): Bus Master Enable and D3hot. -/
  | pcieConfigWrite (dt : Nat) (busMaster : Bool) (d3hot : Bool)
  /-- AER_ERROR (R513): an uncorrectable error, and the AER uncorrectable status. -/
  | aerError (dt : Nat) (uncorrectable : Bool) (status : Word)
  /-- PCIE_DATA_POISON (R517). -/
  | pcieDataPoison (dt : Nat) (offset : Word)
deriving DecidableEq, Repr

end Sys2Proof
end

