-- ==== Sys2Proof/Decode.lean ====
section
/-! DEFINITION. The commands that a word spells: none, since no row of the command table gives bits. -/

namespace Sys2Proof

/-- The command that a word of `nbits` bits spells: the table gives no row an encoding, so none.
[DESIGN CHOICE: log 1] -/
def decodeTableWord (_nbits _w : Nat) : Option Instr := none

end Sys2Proof
end

