-- ==== Sys2Proof/Machine/Bits.lean ====
section
/-! DEFINITION. Bit fields (R5), byte order (R6, R7), saturating counters (R560) and signed readings. -/

namespace Sys2Proof

/-- Bits [hi:lo] of a number (R5). -/
def bits (w hi lo : Nat) : Nat := (w >>> lo) % 2 ^ (hi + 1 - lo)

/-- Bit `i` of a number. -/
def bit (w i : Nat) : Bool := (w >>> i) % 2 == 1

/-- Bits [hi:lo] of a register word. -/
def fld (w : Word) (hi lo : Nat) : Nat := bits w.toNat hi lo

/-- Bit `i` of a register word. -/
def flag (w : Word) (i : Nat) : Bool := w.getLsbD i

/-- A register word with bits [hi:lo] set to `v`. -/
def putFld (w : Word) (hi lo v : Nat) : Word :=
  let n := hi + 1 - lo
  let mask := (2 ^ n - 1) <<< lo
  (w &&& ~~~ (BitVec.ofNat 32 mask)) ||| BitVec.ofNat 32 ((v % 2 ^ n) <<< lo)

/-- A register word with bit `i` set to `b`. -/
def putFlag (w : Word) (i : Nat) (b : Bool) : Word := putFld w i i b.toNat

/-- The word of a number, its low 32 bits. -/
def word (n : Nat) : Word := BitVec.ofNat 32 n

/-- The number a `w`-bit two's complement field reads as. -/
def signed (w n : Nat) : Int := if n % 2 ^ w < 2 ^ (w - 1) then (n % 2 ^ w : Nat) else (n % 2 ^ w : Nat) - (2 ^ w : Nat)

/-- An integer as a `w`-bit two's complement field. -/
def unsigned (w : Nat) (i : Int) : Nat := (i % (2 ^ w : Nat)).toNat

/-- An integer held in a signed `w`-bit field, saturating. -/
def satSigned (w : Nat) (i : Int) : Nat :=
  unsigned w (max (-(2 ^ (w - 1) : Nat)) (min ((2 ^ (w - 1) : Nat) - 1) i))

/-- A saturating 32-bit counter advanced by `n` (R560). -/
def satAdd (w : Word) (n : Nat) : Word := word (min (w.toNat + n) 0xFFFFFFFF)

/-- The `n` bytes of `v`, least significant first (R6). -/
def toBytes : Nat → Nat → List Byte
  | 0, _ => []
  | n + 1, v => BitVec.ofNat 8 v :: toBytes n (v / 256)

/-- The number whose bytes, least significant first, are given (R6). -/
def ofBytes : List Byte → Nat
  | [] => 0
  | b :: bs => b.toNat + 256 * ofBytes bs

/-- Bytes a–b of a structure as a number (R7). -/
def byteField (bs : List Byte) (a b : Nat) : Nat := ofBytes ((bs.drop a).take (b + 1 - a))

/-- Byte `i` of a structure, zero beyond its end. -/
def byteAt (bs : List Byte) (i : Nat) : Nat := (bs.getD i 0).toNat

/-- `bs` padded with zeros, or cut, to `n` bytes. -/
def padTo (n : Nat) (bs : List Byte) : List Byte := (bs ++ List.replicate (n - bs.length) 0).take n

/-- Every byte is zero. -/
def allZero (bs : List Byte) : Bool := bs.all (· == 0)

/-- `b` as 0 or 1. -/
def one (b : Bool) : Nat := b.toNat

/-- Round up to a multiple. -/
def ceilDiv (a b : Nat) : Nat := (a + b - 1) / b

/-- `v` limited to `lo`–`hi`. -/
def clamp (lo hi v : Nat) : Nat := max lo (min hi v)

end Sys2Proof
end

