-- ==== Sys2Proof/Machine/Shake.lean ====
section
/-! DEFINITION. SHAKE256 over byte strings (R349, R358, R361, R542, R543): Keccak-f[1600] with 24 rounds, rate 136
bytes, suffix 1111. -/

namespace Sys2Proof.Machine

/-- Rotate a 64-bit lane left. -/
def rotl64 (x k : Nat) : Nat := ((x <<< (k % 64)) ||| (x >>> (64 - k % 64))) % 2 ^ 64

/-- Round constants of ι. -/
def keccakRC : List Nat :=
  [0x0000000000000001, 0x0000000000008082, 0x800000000000808A, 0x8000000080008000, 0x000000000000808B,
   0x0000000080000001, 0x8000000080008081, 0x8000000000008009, 0x000000000000008A, 0x0000000000000088,
   0x0000000080008009, 0x000000008000000A] ++
  [0x000000008000808B, 0x800000000000008B, 0x8000000000008089, 0x8000000000008003, 0x8000000000008002,
   0x8000000000000080, 0x000000000000800A, 0x800000008000000A, 0x8000000080008081, 0x8000000000008080,
   0x0000000080000001, 0x8000000080008008]

/-- Rotation offsets of ρ by lane x + 5y. -/
def keccakRot : List Nat :=
  [0, 1, 62, 28, 27, 36, 44, 6, 55, 20, 3, 10, 43, 25, 39, 41, 45, 15, 21, 8, 18, 2, 61, 56, 14]

/-- One round on the 25 lanes, lane x + 5y. -/
def keccakRound (rc : Nat) (a : List Nat) : List Nat :=
  let at_ := fun i => a.getD i 0
  let c := (List.range 5).map (fun x => (List.range 5).foldl (fun n y => n ^^^ at_ (x + 5 * y)) 0)
  let d := (List.range 5).map (fun x => c.getD ((x + 4) % 5) 0 ^^^ rotl64 (c.getD ((x + 1) % 5) 0) 1)
  let t := (List.range 25).map (fun i => rotl64 (at_ i ^^^ d.getD (i % 5) 0) (keccakRot.getD i 0))
  -- π: lane (y, 2x + 3y) takes lane (x, y)
  let b := (List.range 25).map (fun i => let X := i % 5; let Y := i / 5; t.getD ((X + 3 * Y) % 5 + 5 * X) 0)
  let chi := (List.range 25).map (fun i =>
    let x := i % 5; let y := i / 5 * 5
    b.getD i 0 ^^^ ((b.getD (y + (x + 1) % 5) 0 ^^^ (2 ^ 64 - 1)) &&& b.getD (y + (x + 2) % 5) 0))
  (chi.getD 0 0 ^^^ rc) :: chi.drop 1

def keccakF (a : List Nat) : List Nat := keccakRC.foldl (fun a rc => keccakRound rc a) a

/-- Absorb blocks of 136 bytes. -/
def keccakAbsorb : Nat → List Nat → List Byte → List Nat
  | 0, a, _ => a
  | n + 1, a, bs =>
    let lanes := (List.range 25).map (fun i =>
      a.getD i 0 ^^^ (if i < 17 then ofBytes ((bs.drop (8 * i)).take 8) else 0))
    keccakAbsorb n (keccakF lanes) (bs.drop 136)

/-- The message padded to whole blocks. -/
def shakePad (bs : List Byte) : List Byte :=
  let k := 136 - bs.length % 136
  bs ++ (if k = 1 then [0x9F] else 0x1F :: List.replicate (k - 2) 0 ++ [0x80])

/-- The first `n` bytes (at most 136) of SHAKE256. -/
def shake256 (n : Nat) (bs : List Byte) : List Byte :=
  let p := shakePad bs
  ((keccakAbsorb (p.length / 136) (List.replicate 25 0) p).flatMap (toBytes 8)).take n

end Sys2Proof.Machine
end

