-- ==== Sys2Proof/Config.lean ====
section
/-! DEFINITION. What an implementation fixes and what the spec leaves open: constants without a body. -/

namespace Sys2Proof

/-- Free values, one for each use of the counter `State.freeIdx`: nothing constrains them. [DESIGN CHOICE: log 9] -/
opaque Config.free : Nat → Nat

/-- Whether a Falcon-1024 signature over a message verifies under the publisher key of a slot of the
firmware with the given digest (R543, R544). [DESIGN CHOICE: log 10] -/
opaque Config.publisherVerify (firmware : Bytes) (slot : Nat) (message signature : Bytes) : Bool

/-- Whether a firmware image verifies against the vendor key in the boot ROM (R572). [DESIGN CHOICE: log 10] -/
opaque Config.vendorVerify (image : Bytes) : Bool

/-- The firmware digest that a firmware image has (R552). [DESIGN CHOICE: log 10] -/
opaque Config.firmwareDigest (image : Bytes) : Bytes

/-- The Falcon-1024 signature of the module's identity key over a message (R552). [DESIGN CHOICE: log 10] -/
opaque Config.identitySign (message : Bytes) : Bytes

/-- K_T where 1 + β × (T_est − 50) is zero (R101 states no result): β in 10⁻⁶ /K, T_est in 1/16 °C.
[DESIGN CHOICE: log 11] -/
opaque Config.ktPole (beta temp : Int) : BitVec 32

/-- Packets that one row of A and one row of Bᵀ take together for the matrix a TARGETS bit names, in the model
the wingset installs (R359); no register holds its dimensions. [DESIGN CHOICE: log 11] -/
opaque Config.adapterPackets (target : Nat) : Nat

/-- Issue cycles after its start in which an array read takes a word of its segment or of Piccolo's tables (R277 makes them
scheduled accesses and states no cycle): die, word, issue cycle of the start. [DESIGN CHOICE: log 30] -/
opaque Config.readCycle (die word start : Nat) : Nat

/-- Nibble of the test segments of a program's acceptance and gain passes (R140, R141): LFSR, whether a transpose pass,
pass, element; how the LFSR gives them is not stated. [DESIGN CHOICE: log 37] -/
opaque Config.testNibble (lfsr : BitVec 32) (trn : Bool) (pass element : Nat) : BitVec 4

/-- Counted CCLK cycles of a channel after which a phase of its work is over: die, physical array, number of the start,
phase (R145, R158: the durations are typical ones). [DESIGN CHOICE: log 38] -/
opaque Config.phaseEnd (die phys order phase : Nat) : Nat

/-- Whether a pass of a channel's work is in a read slot at a counted CCLK cycle (R143). [DESIGN CHOICE: log 32] -/
opaque Config.channelPass (die phys order counted : Nat) : Bool

/-- Weight codes of an array whose program or erase was broken off, by row × 536 + column. [DESIGN CHOICE: log 38] -/
opaque Config.partialCells (n : Nat) : List (Nat × Int)

/-- The functions that the vector unit serves (R207): elementwise ones in FP32, the score tile of R374, and what the spec
names but does not define. -/
inductive VecFunc where
  | add | subtract | multiply | divide | root | exponent | logarithm | tile | other
deriving DecidableEq, Repr, Inhabited

/-- The function that a FUNC other than 0x40 selects (R618 numbers KV_MASK alone). [DESIGN CHOICE: log 41] -/
opaque Config.vectorFunc (func : Nat) : VecFunc

/-- The logarithm and the square root where the spec states no result: of a value that is not positive, or negative.
[DESIGN CHOICE: log 41] -/
opaque Config.logOpen (w : BitVec 32) : BitVec 32
opaque Config.rootOpen (w : BitVec 32) : BitVec 32

/-- Target logits of a group's position in FP32, one for each token ID, the draft token tested there, and the draft's
distribution: what stage S − 1's program leaves for the sampler (R410, R411) at a draw. [DESIGN CHOICE: log 55] -/
opaque Config.targetLogits (draw position : Nat) : List (BitVec 32)
opaque Config.draftToken (draw position : Nat) : Nat
opaque Config.draftProbs (draw position : Nat) : List (BitVec 32)

/-- The TARGETS bit of the matrix that an array-group descriptor's column block belongs to: die, index in its table
(R364). [DESIGN CHOICE: log 53] -/
opaque Config.groupMatrix (die index : Nat) : Nat

/-- Sequences that a training step takes as one micro-batch, less one (R368). [DESIGN CHOICE: log 54] -/
opaque Config.microBatch : Nat

end Sys2Proof
end

