-- ==== Sys2Proof/Machine/Fp.lean ====
section
/-! DEFINITION. Number formats and rounding: exact values are rationals, and one rounding to nearest, ties to
even, narrows them to FP32, BF16 and the narrow formats. -/

namespace Sys2Proof.Fp

/-- Magnitude. -/
def mag (x : Rat) : Rat := if x < 0 then -x else x

/-- 2 to an integer power. -/
def pow2 (e : Int) : Rat := if 0 ≤ e then ((2 ^ e.toNat : Nat) : Rat) else 1 / ((2 ^ (-e).toNat : Nat) : Rat)

/-- Round to the nearest integer, ties to even. -/
def rne (x : Rat) : Int :=
  let f := x.floor
  let r := x - (f : Rat)
  if r < 1 / 2 then f else if 1 / 2 < r then f + 1 else if f % 2 = 0 then f else f + 1

/-- The exponent e with 2^e ≤ |x| < 2^(e+1), for x ≠ 0. -/
def expo (x : Rat) : Int :=
  let a := mag x
  let e := (Nat.log2 a.num.natAbs : Int) - (Nat.log2 a.den : Int)
  if a < pow2 e then e - 1 else e

/-- Round to a significand of `p` bits with least exponent `emin` (subnormals below it), ties to even. -/
def roundTo (p : Nat) (emin : Int) (x : Rat) : Rat :=
  if x = 0 then 0
  else
    let q := max (expo x) emin - ((p : Int) - 1)
    (rne (x / pow2 q) : Rat) * pow2 q

/-- Value of a finite float of `eb` exponent bits and `mb` fraction bits, from its code. -/
def decode (eb mb : Nat) (w : Nat) : Rat :=
  let bias : Int := 2 ^ (eb - 1) - 1
  let e := bits w (eb + mb - 1) mb
  let m := w % 2 ^ mb
  let v := if e = 0 then (m : Rat) * pow2 (1 - bias - mb) else ((2 ^ mb + m : Nat) : Rat) * pow2 ((e : Int) - bias - mb)
  if bit w (eb + mb) then -v else v

/-- Code of a rational the format holds exactly; `neg0` makes a zero negative. -/
def encode (eb mb : Nat) (x : Rat) (neg0 : Bool) : Nat :=
  let bias : Int := 2 ^ (eb - 1) - 1
  let sgn := if x < 0 ∨ (x = 0 ∧ neg0) then 2 ^ (eb + mb) else 0
  if x = 0 then sgn
  else
    let e := max (expo x) (1 - bias)
    let m := (mag x / pow2 (e - mb)).floor.toNat
    sgn + (if m < 2 ^ mb then m else ((e + bias).toNat * 2 ^ mb + (m - 2 ^ mb)))

/-! ## FP32 -/

def isNaN (w : Word) : Bool := fld w 30 23 == 255 && fld w 22 0 != 0
def isInf (w : Word) : Bool := fld w 30 23 == 255 && fld w 22 0 == 0
def isFinite (w : Word) : Bool := fld w 30 23 != 255
def nan32 : Word := 0x7FC00000
def inf32 (neg : Bool) : Word := if neg then 0xFF800000 else 0x7F800000

/-- The value of a finite FP32 word. -/
def val (w : Word) : Rat := decode 8 23 w.toNat

/-- One rounding to FP32, to infinity beyond the largest finite value. -/
def round32 (x : Rat) (neg0 : Bool := false) : Word :=
  let r := roundTo 24 (-126) x
  if pow2 128 ≤ mag r then inf32 (decide (r < 0)) else word (encode 8 23 r neg0)

/-- Sign of a word. -/
def sgn (w : Word) : Bool := flag w 31

def add (a b : Word) : Word :=
  if isNaN a || isNaN b then nan32
  else if isInf a then (if isInf b && sgn a != sgn b then nan32 else a)
  else if isInf b then b
  else round32 (val a + val b) (sgn a && sgn b)

def neg (a : Word) : Word := putFlag a 31 (!sgn a)
def sub (a b : Word) : Word := add a (neg b)

def mul (a b : Word) : Word :=
  if isNaN a || isNaN b then nan32
  else if isInf a || isInf b then
    (if (isFinite a && val a == 0) || (isFinite b && val b == 0) then nan32 else inf32 (sgn a != sgn b))
  else round32 (val a * val b) (sgn a != sgn b)

def div (a b : Word) : Word :=
  if isNaN a || isNaN b then nan32
  else if isInf a then (if isInf b then nan32 else inf32 (sgn a != sgn b))
  else if isInf b then round32 0 (sgn a != sgn b)
  else if val b = 0 then (if val a = 0 then nan32 else inf32 (sgn a != sgn b))
  else round32 (val a / val b) (sgn a != sgn b)

def one32 : Word := 0x3F800000

/-! ## Functions of the vector unit (R207): each result is rounded once -/

/-- The integer square root, by bits from `n` down. -/
def isqrt (n : Nat) (v : Nat) : Nat :=
  (List.range n).reverse.foldl (fun q i => if (q + 2 ^ i) * (q + 2 ^ i) ≤ v then q + 2 ^ i else q) 0

/-- A square root of a value that is a multiple of 2^-149: exact but for a last bit that stands for the rest, so that one
rounding of it is the rounding of the root. -/
def rootRat (x : Rat) : Rat :=
  let v := (x * pow2 256).floor.toNat
  let q := isqrt 256 v
  ((2 * q + (if q * q < v then 1 else 0) : Nat) : Rat) / pow2 129

/-- atanh of z / 2^160 in units of 2^-160, for |z| ≤ 2^160 / 3. -/
def atanhFix (z : Int) : Int :=
  let z2 := z * z / 2 ^ 160
  ((List.range 64).foldl (fun (a : Int × Int) k => (a.1 + a.2 / (2 * (k : Int) + 1), a.2 * z2 / 2 ^ 160)) (0, z)).1

/-- ln 2 in units of 2^-160. -/
def ln2Fix : Int := 2 * atanhFix (2 ^ 160 / 3)

/-- The logarithm of a positive value to 2^-150, far below half an FP32 step of any result. -/
def lnRat (x : Rat) : Rat :=
  let e := expo x
  let m := x / pow2 e
  let z := ((m - 1) / (m + 1) * pow2 160).floor
  ((2 * atanhFix z + e * ln2Fix : Int) : Rat) / pow2 160

/-- The exponential of a value from -104 to 89, to a relative 2^-140. -/
def expRat (x : Rat) : Rat :=
  let y := (x * pow2 160).floor
  let n := y / ln2Fix
  let r := y - n * ln2Fix
  let s := ((List.range 48).foldl (fun (a : Int × Int) k => (a.1 + a.2, a.2 * r / 2 ^ 160 / ((k : Int) + 1))) (0, 2 ^ 160)).1
  (s : Rat) / pow2 160 * pow2 n

/-- exp of a word: beyond the largest FP32 value it is infinite, below half the smallest it is +0. -/
def exp (a : Word) : Word :=
  if isNaN a then nan32
  else if isInf a then (if sgn a then 0 else inf32 false)
  else if 89 < val a then inf32 false
  else if val a < -104 then 0
  else round32 (expRat (val a))

/-- ln of a word; of a value that is not positive the spec states none. [DESIGN CHOICE: log 41] -/
def ln (a : Word) : Word :=
  if isNaN a then nan32
  else if sgn a || val a == 0 then Config.logOpen a
  else if isInf a then a
  else round32 (lnRat (val a))

/-- The square root of a word; of a negative value the spec states none. [DESIGN CHOICE: log 41] -/
def sqrt (a : Word) : Word :=
  if isNaN a then nan32
  else if isFinite a && val a == 0 then a
  else if sgn a then Config.rootOpen a
  else if isInf a then a
  else round32 (rootRat (val a))

/-- A word to a whole power, rounded once. -/
def pow (a : Word) (n : Nat) : Word := if isFinite a then round32 (val a ^ n) else a

/-- a < b, for words that are not NaN. -/
def lt (a b : Word) : Bool :=
  if isNaN a || isNaN b then false
  else if isInf a then sgn a && !(isInf b && sgn b)
  else if isInf b then !sgn b
  else decide (val a < val b)

/-- The greater of two words. -/
def maxw (a b : Word) : Word := if lt a b then b else a

/-- BF16 codes are the upper half of FP32 words. -/
def bf16val (w : Nat) : Word := word (w % 2 ^ 16 * 2 ^ 16)

/-- One rounding from an exact value to BF16. -/
def roundBf16 (x : Rat) (neg0 : Bool := false) : Nat :=
  let r := roundTo 8 (-126) x
  if pow2 128 ≤ mag r then (if r < 0 then 0xFF80 else 0x7F80) else encode 8 7 r neg0

/-- FP32 word to BF16. -/
def toBf16 (w : Word) : Nat :=
  if isNaN w then 0x7FC0 else if isInf w then (if sgn w then 0xFF80 else 0x7F80) else roundBf16 (val w) (sgn w)

end Sys2Proof.Fp
end

