-- ==== Sys2Proof/Machine/Events.lean ====
section
/-! DEFINITION. The event codes of every chapter and the fixed severity of each (R16, R554). -/

namespace Sys2Proof.Evt

/-- NOTICE; detail: link [7:0], replays in the breath [39:8] -/
abbrev D2D_REPLAY : Nat := 0x0010
/-- FAULT; detail: link [7:0], direction [8] as D2D_FAIL_SEL.DIR, index of the first failing UCIe module [12:9], lanes failed in that module [19:13], lowest failed lane [26:20], highest failed lane [33:27]; the full map is in D2D_FAIL_MAP -/
abbrev D2D_LANE_FAIL : Nat := 0x0011
/-- FATAL; detail: link [7:0], flit sequence [31:8] -/
abbrev D2D_LINK_DOWN : Nat := 0x0012
/-- NOTICE; detail: value written [31:0] -/
abbrev D2D_CMD_INVALID : Nat := 0x0013
/-- FATAL; detail: reference periods missed [7:0] -/
abbrev CLK_REF_LOSS : Nat := 0x0020
/-- FATAL; detail: die [7:0] reporting -/
abbrev CLK_PLL_UNLOCK : Nat := 0x0021
/-- FATAL; detail: die [7:0], misalignment in root cycles [15:8] -/
abbrev CLK_ALIGN_FAIL : Nat := 0x0022
/-- INFO; detail: index [11:0], rank [20:12] -/
abbrev ADAPTER_LOADED : Nat := 0x0030
/-- NOTICE; detail: value written [31:0] -/
abbrev ADAPTER_CMD_INVALID : Nat := 0x0031
/-- DEGRADED; detail: index [11:0], RESULT [19:12] -/
abbrev ADAPTER_LOAD_FAIL : Nat := 0x0032
/-- DEGRADED; detail: adapter [11:0], cause [15:12]: 1 non-finite, 2 flag; step t [47:16] -/
abbrev TRAIN_UPDATE_SKIPPED : Nat := 0x0033
/-- NOTICE; detail: adapter [11:0], cause [15:12]: 1 done, 2 cancelled, 3 failed; steps taken [47:16] -/
abbrev TRAIN_JOB_END : Nat := 0x0034
/-- INFO; detail: die [7:0], split passes in the breath [39:8] -/
abbrev ARRAY_SPLIT : Nat := 0x1000
/-- NOTICE; detail: die [7:0], clamped elements in the breath [39:8] -/
abbrev A8_INPUT_CLAMP : Nat := 0x1001
/-- DEGRADED; detail: die [7:0], physical array [20:8], physical column 0–535 or physical row 0–1,039 [31:21], transpose [32], quarter index [35:33], 7 for unsplit -/
abbrev ADC_OVERRANGE : Nat := 0x1002
/-- FAULT; detail: die [7:0], arrays in the operation [23:8], slots occupied at the start edge [39:24] -/
abbrev ARRAY_CAP_REFUSED : Nat := 0x1003
/-- DEGRADED; detail: die [7:0], EST_C [15:8], flagged reads in the breath [47:16] -/
abbrev ARRAY_OUT_OF_RANGE : Nat := 0x1004
/-- DEGRADED; detail: die [7:0], logical array [19:8], cause [23:20]: 1 refresh age, 2 die life, 3 tracking inactive -/
abbrev ARRAY_BOUND_LAPSED : Nat := 0x1005
/-- FAULT; detail: die [7:0], EST_C [15:8], blocked passes in the breath [47:16] -/
abbrev ARRAY_READ_BLOCKED : Nat := 0x1006
/-- FAULT; detail: die [7:0], logical array [19:8] -/
abbrev ARRAY_MAP_INVALID : Nat := 0x1007
/-- NOTICE; detail: die [7:0], clipped elements in the breath [39:8] -/
abbrev ACT_CLIP_HIGH : Nat := 0x2000
/-- FAULT; detail: die [7:0], logical array [19:8], part [23:20]: 1 outlier table, 2 static list, 3 not resident, 4 directory base, 5 uncorrectable or poisoned word (R87) -/
abbrev PICCOLO_TABLE_INVALID : Nat := 0x2001
/-- NOTICE; detail: die [7:0], physical array [20:8], G_TRK × 1,000 [31:21] -/
abbrev REF_DRIFT_HIGH : Nat := 0x2002
/-- DEGRADED; detail: die [7:0], physical array [20:8], cause [23:21]: 1 rejections, 2 gain limit, 3 SRAM -/
abbrev REF_TRACK_LOST : Nat := 0x2003
/-- DEGRADED; detail: die [7:0], physical array [20:8], ĝ × 1,000 [31:21] -/
abbrev REF_BASELINE_FAIL : Nat := 0x2004
/-- INFO; detail: die [7:0], rejections in the breath [39:8] -/
abbrev REF_TRACK_REJECT : Nat := 0x2005
/-- FAULT; detail: die [7:0], expected slot [23:8], header slot [39:24] -/
abbrev ADAPTER_TERM_MISMATCH : Nat := 0x2006
/-- DEGRADED; detail: die [7:0], physical array [20:8], column [29:21], η in units of 10⁻⁶ [61:30] -/
abbrev SHADOW_EXCEED : Nat := 0x2007
/-- NOTICE; detail: die [7:0], physical array [20:8], RMS_ETA [47:32] -/
abbrev SHADOW_MARGIN_LOW : Nat := 0x2008
/-- INFO; detail: die [7:0], samples discarded in the breath [39:8] -/
abbrev SHADOW_SKIP : Nat := 0x2009
/-- FAULT; detail: die [7:0], logical array [19:8], results poisoned [39:20] -/
abbrev PICCOLO_OVERRUN : Nat := 0x200A
/-- FAULT; detail: die [7:0], kind [11:8]: 1 parity, 2 residue, 3 SRAM, 4 non-finite result (R86); logical or physical array [24:12] -/
abbrev PICCOLO_INTEGRITY : Nat := 0x200B
/-- INFO; detail: die [7:0], logical array [19:8], old physical [32:20], new physical [45:33] -/
abbrev ROTATION_SWAP : Nat := 0x3000
/-- NOTICE; detail: die [7:0], EST_C [15:8], channels stopped [20:16] -/
abbrev PROG_DEFERRED : Nat := 0x3001
/-- DEGRADED; detail: die [7:0], physical [20:8], logical [32:21], stage [35:33], failing cells or worst η in 10⁻⁶ [63:36] -/
abbrev PROG_VERIFY_FAIL : Nat := 0x3002
/-- DEGRADED; detail: die [7:0], physical [20:8], phase [23:21] -/
abbrev PROG_TIMEOUT : Nat := 0x3003
/-- DEGRADED; detail: die [7:0], physical [20:8], RETIRE_CAUSE [23:21], pool [32:24] -/
abbrev ARRAY_RETIRED : Nat := 0x3004
/-- DEGRADED; detail: die [7:0], pool [16:8] -/
abbrev SPARE_POOL_LOW : Nat := 0x3005
/-- FAULT; detail: die [7:0], pool [16:8] -/
abbrev REFRESH_STOPPED : Nat := 0x3006
/-- FAULT; detail: die [7:0], logical array [19:8] -/
abbrev NO_SPARE : Nat := 0x3007
/-- NOTICE; detail: die [7:0], register offset [19:8], value written [51:20] -/
abbrev REFRESH_CMD_INVALID : Nat := 0x3008
/-- NOTICE; detail: die [7:0], logical array [19:8], spare [32:20], cause [34:33]: 1 stale, 2 power-up -/
abbrev SWAP_DISCARDED : Nat := 0x3009
/-- INFO; detail: die [7:0], aborts in the breath [39:8] -/
abbrev REFRESH_BG_ABORT : Nat := 0x300A
/-- NOTICE; detail: die [7:0], logical array [19:8], refresh age [35:20] -/
abbrev REFRESH_AGE_WARN : Nat := 0x300B
/-- FAULT; detail: die [7:0], arrays failed [20:8] -/
abbrev INSTALL_INCOMPLETE : Nat := 0x300C
/-- INFO; detail: die [7:0], underflow blocks in the breath [39:8] -/
abbrev FMT_UNDERFLOW : Nat := 0x4000
/-- NOTICE; detail: die [7:0], saturated blocks in the breath [39:8], first WIDEN_ID [51:40] -/
abbrev FMT_SATURATE : Nat := 0x4001
/-- DEGRADED; detail: die [7:0], elements in the breath [39:8] -/
abbrev FMT_NONFINITE : Nat := 0x4002
/-- FAULT; detail: die [7:0], occurrences in the breath [39:8], kind of the first [43:40]: 1 zero mask, 2 saturated mask, 3 T2B code, 4 segment σ -/
abbrev FMT_CODE_INVALID : Nat := 0x4003
/-- FAULT; detail: die [7:0], format word bits [31:0] [39:8] -/
abbrev FMT_DESC_INVALID : Nat := 0x4004
/-- NOTICE; detail: WIDEN_ID [11:0], layer [19:12], S × 65,536 / B of the step [35:20] -/
abbrev FMT_WIDEN : Nat := 0x4005
/-- DEGRADED; detail: layer [7:0], entries left REQUESTED [20:8], free space units [52:21] -/
abbrev FMT_WIDEN_DENIED : Nat := 0x4006
/-- INFO; detail: WIDEN_ID [11:0], layer [19:12] -/
abbrev FMT_WIDEN_RESET : Nat := 0x4007
/-- NOTICE; detail: value written [31:0] -/
abbrev FMT_CMD_INVALID : Nat := 0x4008
/-- FAULT; detail: die [7:0], accumulator [24:8], KSEQ [48:25], COUNT [63:49], low 15 bits -/
abbrev ACC_ORDER : Nat := 0x5000
/-- FAULT; detail: die [7:0], accumulator [24:8], chunks in the cycle [31:25] -/
abbrev ACC_SCHEDULE : Nat := 0x5001
/-- FAULT; detail: die [7:0], accumulator [24:8], stage [27:25]: 1 promotion, 2 addition, 3 file read -/
abbrev ACC_RESIDUE : Nat := 0x5002
/-- DEGRADED; detail: die [7:0], accumulator [24:8] -/
abbrev ACC_BOUND_SAT : Nat := 0x5003
/-- FAULT; detail: die [7:0], accumulator [24:8], cause [27:25]: 1 residue, 2 reserved bytes, 3 encoding -/
abbrev ACC_RESTORE_INVALID : Nat := 0x5004
/-- FAULT; detail: die [7:0], accumulator [24:8], mode held [26:25], mode of the operation [28:27], both as R231 gives -/
abbrev ACC_MODE_MISMATCH : Nat := 0x5005
/-- FAULT; detail: die [7:0], additions dropped in the breath [39:8] -/
abbrev ACC_OVERRUN : Nat := 0x5006
/-- INFO; detail: die [7:0], corrections in the breath [39:8] -/
abbrev ACC_ECC_CORRECTED : Nat := 0x5007
/-- FAULT; detail: die [7:0], accumulator [24:8] -/
abbrev ACC_ECC_UNCORRECTED : Nat := 0x5008
/-- FATAL; detail: die [7:0], slot [12:8]: 0 header, 1–4 hubs, 5–20 LUNA[0–15], 0x1F decompressor -/
abbrev SEQ_BUNDLE_PARITY : Nat := 0x6000
/-- FATAL; detail: die [7:0], slot [12:8], sub-slot [14:13], bit position of the field, or for a table fault of the index field that named the entry [25:15], TABLE [26]: 1 for a fault in a descriptor, table directory or array list (R246), byte offset of the faulty field within the entry [32:27], 0x3F for an index at or beyond COUNT or a fault in the directory -/
abbrev SEQ_BUNDLE_INVALID : Nat := 0x6001
/-- FATAL; detail: cause [2:0] as SEQ_STATUS.STALL, tag or ring [14:3], target low 16 bits [30:15], COUNT low 16 bits [46:31] -/
abbrev SEQ_WAIT_TIMEOUT : Nat := 0x6002
/-- FAULT; detail: die [7:0], thread [17:8], descriptor index [37:18], side [38]: 0 source, 1 destination -/
abbrev XFER_BOUNDS : Nat := 0x6003
/-- FAULT; detail: die [7:0], thread [17:8], descriptor index [37:18] -/
abbrev XFER_INVALID : Nat := 0x6004
/-- INFO; detail: die [7:0], occurrences in the breath [39:8] -/
abbrev XFER_ZERO_LEN : Nat := 0x6005
/-- NOTICE; detail: class [3:0], ACLK cycles gated in the breath [35:4] -/
abbrev SEQ_GATE_STALL : Nat := 0x6006
/-- INFO; detail: ACLK cycles stalled in the breath [31:0] -/
abbrev SEQ_FETCH_STALL : Nat := 0x6007
/-- NOTICE; detail: program [11:0], ticks late [43:12] -/
abbrev SEQ_LATE_START : Nat := 0x6008
/-- NOTICE; detail: program [11:0], issue cycle within the program [43:12], event code of the FATAL [59:44] -/
abbrev SEQ_HALT : Nat := 0x6009
/-- NOTICE; detail: value written [31:0] -/
abbrev SEQ_CMD_INVALID : Nat := 0x600A
/-- FAULT; detail: die [7:0], bank [14:8], accesses in the cycle [17:15], issue cycle within the program [49:18] -/
abbrev SPAD_BANK_CONFLICT : Nat := 0x7000
/-- INFO; detail: die [7:0], corrections in the breath [39:8] -/
abbrev SPAD_ECC_CORRECTED : Nat := 0x7001
/-- FAULT; detail: die [7:0], word address [33:8] -/
abbrev SPAD_ECC_UNCORRECTED : Nat := 0x7002
/-- FAULT; detail: die [7:0], bank [14:8] -/
abbrev SPAD_BANK_FAIL : Nat := 0x7003
/-- FAULT; detail: die [7:0], ring [17:8], occurrences in the breath [49:18] -/
abbrev SLOT_UNDERRUN : Nat := 0x7004
/-- FAULT; detail: die [7:0], ring [17:8], occurrences in the breath [49:18] -/
abbrev SLOT_OVERRUN : Nat := 0x7005
/-- FAULT; detail: window [11:0], other module [17:12], side [18]: 0 owner, 1 sender, cause [20:19]: 1 closed, 2 source not permitted, sending die [25:21] -/
abbrev WINDOW_CLOSED_WRITE : Nat := 0x7006
/-- FAULT; detail: window [15:0], cause [17:16]: 1 bounds, 2 index, source module [23:18], word offset [49:24] -/
abbrev WINDOW_REJECT : Nat := 0x7007
/-- NOTICE; detail: die [7:0], window [19:8], cause [21:20]: 1 open while open, 2 close while closed or closing, 3 invalid entry -/
abbrev WINDOW_CMD_CONFLICT : Nat := 0x7008
/-- INFO; detail: stack [7:0], corrections in the breath [39:8] -/
abbrev HBM_ECC_CORRECTED : Nat := 0x7009
/-- FAULT; detail: stack [7:0], row [34:8] -/
abbrev HBM_ECC_UNCORRECTED : Nat := 0x700A
/-- NOTICE; detail: stack [7:0], row [34:8] -/
abbrev HBM_ROW_SUSPECT : Nat := 0x700B
/-- INFO; detail: stack [7:0], row [34:8], rows retired [45:35] -/
abbrev HBM_ROW_RETIRED : Nat := 0x700C
/-- FAULT; detail: stack [7:0], row [34:8] -/
abbrev HBM_RETIRE_FULL : Nat := 0x700D
/-- FAULT; detail: stack [7:0], channel [12:8] -/
abbrev HBM_TRAIN_FAIL : Nat := 0x700E
/-- NOTICE; detail: page number [7:0], register offset [19:8], value written [51:20] -/
abbrev MEM_CMD_INVALID : Nat := 0x700F
/-- FAULT; detail: die [7:0], entry [31:8], list GEN [47:32], entry GEN [63:48] -/
abbrev KV_PAGE_STALE : Nat := 0x8000
/-- FAULT; detail: die [7:0], entry [31:8], layer [35:32] -/
abbrev KV_CRC_FAIL : Nat := 0x8001
/-- FAULT; detail: die [7:0], entry [31:8], layer [35:32], slot [39:36] -/
abbrev KV_UNWRITTEN_READ : Nat := 0x8002
/-- FAULT; detail: die [7:0], entry [31:8], cause [35:32] as in R333, list position [52:36] -/
abbrev KV_APPEND_REJECT : Nat := 0x8003
/-- FAULT; detail: die [7:0], entry [31:8], slot [35:32] -/
abbrev KV_ROPE_FORMAT : Nat := 0x8004
/-- NOTICE; detail: die [7:0], clamped elements in the breath [39:8] -/
abbrev KV_ROPE_CLAMP : Nat := 0x8005
/-- NOTICE; detail: quadrant [1:0], free pages [31:2] -/
abbrev KV_POOL_LOW : Nat := 0x8006
/-- DEGRADED; detail: quadrant [1:0], refusals in the breath [31:2], pages needed by the first [48:32] -/
abbrev KV_POOL_EMPTY : Nat := 0x8007
/-- NOTICE; detail: last position requested [31:0] -/
abbrev KV_CONTEXT_LIMIT : Nat := 0x8008
/-- NOTICE; detail: entry [23:0] -/
abbrev KV_REFCOUNT_FULL : Nat := 0x8009
/-- INFO; detail: insertions refused in the breath [31:0] -/
abbrev KV_PREFIX_FULL : Nat := 0x800A
/-- FAULT; detail: PAGE_UNITS [7:0], LAYERS [11:8] -/
abbrev KV_CONFIG_INVALID : Nat := 0x800B
/-- NOTICE; detail: KIND [7:0], cause [15:8], ring index [47:16] -/
abbrev SERVE_SUB_REJECT : Nat := 0x9000
/-- NOTICE; detail: commit tick minus DEADLINE [63:0] -/
abbrev SERVE_LATE : Nat := 0x9001
/-- DEGRADED; detail: cause [7:0], step [55:8] low 48 bits -/
abbrev SERVE_REQ_FAILED : Nat := 0x9002
/-- FATAL; detail: step [47:0], first missing module [53:48] -/
abbrev SERVE_COMMIT_TIMEOUT : Nat := 0x9003
/-- FATAL; detail: bucket requirement: rows [9:0], positions [30:10], k [34:31] -/
abbrev SERVE_NO_PROGRAM : Nat := 0x9004
/-- FAULT; detail: module [5:0], quadrant [7:6], predicted [37:8], reported [63:38] low 26 bits -/
abbrev SERVE_POOL_DIVERGED : Nat := 0x9005
/-- DEGRADED; detail: cause [3:0]: 1 CRC, 2 digest, 3 positions, 4 ticket, 5 RoCE; side [4]: 0 sender, 1 receiver; page [24:5]; ticket [56:25] low 32 bits -/
abbrev SHIP_FAIL : Nat := 0x9006
/-- INFO; detail: ticket [31:0], pages [51:32] -/
abbrev SHIP_DONE : Nat := 0x9007
/-- DEGRADED; detail: cause [3:0]: 1 write, 2 read back, 3 CRC; module [9:4]; page [29:10]; handle [61:30] low 32 bits -/
abbrev PARK_FAIL : Nat := 0x9008
/-- INFO; detail: handle [31:0], expiries deferred [63:32] -/
abbrev PARK_EXPIRED : Nat := 0x9009
/-- FAULT or FATAL; detail: table [3:0]: 1 request, 2 wave, 3 planner queue; word index [35:4] -/
abbrev SERVE_TABLE_PARITY : Nat := 0x900A
/-- FATAL; detail: core [3:0], cause [7:4]: 1 self-check, 2 watchdog -/
abbrev HAWK_CORE_FAULT : Nat := 0x900B
/-- NOTICE; detail: completions waiting [31:0] -/
abbrev SERVE_CPL_BACKLOG : Nat := 0x900C
/-- NOTICE; detail: register offset [11:0], value written [43:12] -/
abbrev SERVE_CMD_INVALID : Nat := 0x900D
/-- INFO; detail: class [3:0], resources gated [7:4]: array, HBM, fabric, energy; breath [39:8] -/
abbrev BREATH_EXHAUSTED : Nat := 0xA000
/-- NOTICE; detail: class [3:0], resource [7:4], units beyond budget [39:8] -/
abbrev BREATH_OVERSHOOT : Nat := 0xA001
/-- INFO; detail: lenders drawn on [9:0], energy borrowed in µJ [41:10] -/
abbrev BREATH_BORROW : Nat := 0xA002
/-- NOTICE; detail: ticks gated in the breath [31:0], cause [33:32]: 1 all classes, 2 all but DECODE, 3 allowance below base -/
abbrev POWER_LIMIT_GATE : Nat := 0xA003
/-- DEGRADED; detail: allowance [31:0], measured input µJ [63:32] -/
abbrev POWER_LIMIT_EXCEEDED : Nat := 0xA004
/-- NOTICE; detail: breath index in window [15:0], allowance [47:16] -/
abbrev ENERGY_WINDOW_LOW : Nat := 0xA005
/-- DEGRADED; detail: die [7:0], samples missed in the breath [23:8] -/
abbrev ATLAS_SAMPLE_MISSING : Nat := 0xA006
/-- NOTICE; detail: unclamped K × 65,536 [31:0] -/
abbrev ATLAS_CORRECTION_CLAMP : Nat := 0xA007
/-- NOTICE; detail: page number [7:0], register offset [19:8], value written [51:20] -/
abbrev BREATH_CMD_INVALID : Nat := 0xA008
/-- INFO; detail: die [7:0], CAL_OFFSET [23:8], CAL_GAIN [39:24] -/
abbrev HKC_CAL_DONE : Nat := 0xB000
/-- FAULT; detail: die [7:0], CAL_OFFSET [23:8], CAL_GAIN [39:24], check failed [41:40]: 1 offset, 2 gain, 3 linearity -/
abbrev HKC_CAL_FAIL : Nat := 0xB001
/-- NOTICE; detail: page number [7:0], register offset [19:8], value written [51:20] -/
abbrev HKC_CMD_INVALID : Nat := 0xB002
/-- DEGRADED; detail: die [7:0], physical array [20:8], column ADCs failed [27:21], row converters failed [35:28] -/
abbrev COLCAL_CONVERTER_FAIL : Nat := 0xB003
/-- NOTICE; detail: die [7:0], estimate [23:8] -/
abbrev THERM_WARN : Nat := 0xB004
/-- DEGRADED; detail: hottest die [7:0], estimate [23:8], cause [25:24]: 1 threshold, 2 rate, 3 both -/
abbrev THERM_THROTTLE : Nat := 0xB005
/-- NOTICE; detail: breaths throttled [31:0] -/
abbrev THERM_THROTTLE_END : Nat := 0xB006
/-- DEGRADED; detail: new D [3:0], hottest die [11:4], estimate [27:12] -/
abbrev THERM_IDLE_FALLBACK : Nat := 0xB007
/-- NOTICE; detail: die [7:0], rate [23:8] -/
abbrev THERM_RATE : Nat := 0xB008
/-- NOTICE; detail: die [7:0], estimate [23:8] -/
abbrev THERM_LOW : Nat := 0xB009
/-- DEGRADED; detail: die [7:0], estimate [23:8] -/
abbrev THERM_LOW_BLOCK : Nat := 0xB00A
/-- DEGRADED; detail: die [7:0], estimate [23:8], diode [39:24] -/
abbrev THERM_MODEL_DISAGREE : Nat := 0xB00B
/-- FAULT; detail: die [7:0], mean ΔV code [23:8] -/
abbrev THERM_DIODE_FAIL : Nat := 0xB00C
/-- FATAL; detail: die [7:0], estimate or diode [23:8], CAUSE [31:24] -/
abbrev THERM_TRIP : Nat := 0xB00D
/-- NOTICE; detail: register offset [11:0], value written [43:12] -/
abbrev THERM_CMD_INVALID : Nat := 0xB00E
/-- NOTICE; detail: port [1:0], replays in the breath [33:2] -/
abbrev SHAWM_REPLAY : Nat := 0xC000
/-- FAULT; detail: port [1:0], direction [2]: 0 receive, 1 transmit; lane [6:3] -/
abbrev SHAWM_LANE_FAIL : Nat := 0xC001
/-- FATAL; detail: port [1:0], cause [3:2]: 1 replay limit, 2 lane, 3 loss of signal; SEQ [23:4] -/
abbrev SHAWM_LINK_DOWN : Nat := 0xC002
/-- FAULT; detail: port [1:0], cause [5:2]: 1 no partner, 2 lane, 3 spare mismatch -/
abbrev SHAWM_TRAIN_FAIL : Nat := 0xC003
/-- FAULT; detail: port [1:0], partner x [4:2], partner y [7:5], expected x [10:8], expected y [13:11] -/
abbrev SHAWM_WIRING : Nat := 0xC004
/-- FAULT; detail: port [1:0], TYPE [5:2], cause [7:6]: 1 field, 2 destination, 3 source -/
abbrev SHAWM_FRAME_INVALID : Nat := 0xC005
/-- FAULT; detail: die [7:0], thread [17:8], destination module [23:18] -/
abbrev SHAWM_REPLY_TIMEOUT : Nat := 0xC006
/-- FAULT; detail: window [1:0], target [7:2], offset [31:8] -/
abbrev SHAWM_TUNNEL_TIMEOUT : Nat := 0xC007
/-- FAULT; detail: reporting module [5:0], port [7:6], event code [23:8] -/
abbrev SHAWM_FAULT_NOTICE : Nat := 0xC008
/-- FAULT; detail: record [31:0], cause [35:32]: 1 digest, 2 bounds, 3 not stopped, 4 header -/
abbrev BCAST_RECORD_FAIL : Nat := 0xC009
/-- INFO; detail: θ [15:0] -/
abbrev DRONE_LOCKED : Nat := 0xC00A
/-- DEGRADED; detail: θ [31:0] -/
abbrev DRONE_OFFSET : Nat := 0xC00B
/-- FAULT; detail: θ [31:0] -/
abbrev DRONE_UNLOCK : Nat := 0xC00C
/-- NOTICE; detail: breaths without a SYNC [31:0] -/
abbrev DRONE_HOLDOVER : Nat := 0xC00D
/-- FAULT; detail: lead BREATH_TICKS [21:0], local [43:22] -/
abbrev DRONE_BREATH_MISMATCH : Nat := 0xC00E
/-- NOTICE; detail: page number [7:0], register offset [19:8], value written [51:20] -/
abbrev SHAWM_CMD_INVALID : Nat := 0xC00F
/-- NOTICE; detail: SPEED [3:0], WIDTH [6:4] -/
abbrev PCIE_LINK_DEGRADED : Nat := 0xD000
/-- FAULT; detail: zero -/
abbrev PCIE_LINK_DOWN : Nat := 0xD001
/-- NOTICE; detail: kind [1:0]: 1 PERST#, 2 hot reset, 3 function-level reset -/
abbrev PCIE_RESET : Nat := 0xD002
/-- NOTICE; detail: BAR [1:0], offset [33:2], bytes [40:34], write [41] -/
abbrev PCIE_ACCESS_INVALID : Nat := 0xD003
/-- FAULT; detail: BAR2 offset [31:0] -/
abbrev PCIE_DATA_POISON : Nat := 0xD004
/-- FAULT; detail: AER uncorrectable status [31:0] -/
abbrev PCIE_UNCORRECTABLE : Nat := 0xD005
/-- NOTICE; detail: window [1:0], target [7:2] -/
abbrev TUNNEL_TARGET_INVALID : Nat := 0xD006
/-- DEGRADED; detail: port [0] -/
abbrev ETH_LINK_DOWN : Nat := 0xD007
/-- DEGRADED; detail: port [0], priority [3:1] -/
abbrev ETH_PAUSE_STORM : Nat := 0xD008
/-- INFO; detail: port [0], codewords in the breath [32:1] -/
abbrev ETH_FEC_UNCORRECTED : Nat := 0xD009
/-- DEGRADED; detail: QP [11:0], cause [15:12]: 1 retry, 2 RNR retry, 3 access NAK, 4 operation NAK, 5 host -/
abbrev ROCE_QP_ERROR : Nat := 0xD00A
/-- FAULT; detail: QP [11:0], RKEY [43:12], cause [47:44]: 1 key, 2 access, 3 bounds -/
abbrev ROCE_ACCESS_REJECT : Nat := 0xD00B
/-- NOTICE; detail: page number [7:0], register offset [19:8], value written [51:20] -/
abbrev ROCE_CMD_INVALID : Nat := 0xD00C
/-- FAULT; detail: QP [11:0], message bytes [43:12] -/
abbrev BCAST_INGRESS_INVALID : Nat := 0xD00D
/-- NOTICE; detail: RNR NAKs in the breath [31:0] -/
abbrev SP_RECV_EMPTY : Nat := 0xD00E
/-- FAULT; detail: KIND [3:0], KEY [11:4] -/
abbrev STREAM_SIG_FAIL : Nat := 0xE000
/-- FAULT; detail: record [31:0], program [43:32], or 0xFFF for a record -/
abbrev STREAM_DIGEST_FAIL : Nat := 0xE001
/-- INFO; detail: KIND [3:0], records [35:4] -/
abbrev STREAM_ACCEPTED : Nat := 0xE002
/-- FAULT; detail: RESULT [3:0], records stored [35:4] -/
abbrev STREAM_REJECTED : Nat := 0xE003
/-- NOTICE; detail: development count [31:0] -/
abbrev DEV_MODE_ENTERED : Nat := 0xE004
/-- FAULT; detail: KIND [3:0] -/
abbrev UNSIGNED_STORE_REFUSED : Nat := 0xE005
/-- INFO; detail: nonce bytes 0–3 [31:0] -/
abbrev ATTEST_DONE : Nat := 0xE006
/-- DEGRADED; detail: records dropped from the queue since the last EVTLOG_LOST [31:0] (R558) -/
abbrev EVTLOG_LOST : Nat := 0xE007
/-- NOTICE; detail: WRITE [31:0] -/
abbrev EVTLOG_FULL : Nat := 0xE008
/-- NOTICE; detail: register offset [11:0], value written [43:12] -/
abbrev SECURE_CMD_INVALID : Nat := 0xE009
/-- NOTICE; detail: register offset [11:0], value written [43:12] -/
abbrev EVTLOG_CMD_INVALID : Nat := 0xE00A
/-- FAULT; detail: step [3:0], ending event code [19:4] -/
abbrev BOOT_STEP_FAIL : Nat := 0xF000
/-- DEGRADED; detail: copy that failed [0] -/
abbrev BOOT_FW_FALLBACK : Nat := 0xF001
/-- NOTICE; detail: CAUSE [7:0], record complete [8] -/
abbrev BOOT_HELD : Nat := 0xF002
/-- INFO; detail: ms since power good [31:0] -/
abbrev BOOT_READY_LOCAL : Nat := 0xF003
/-- INFO; detail: ms since power good [31:0] -/
abbrev BOOT_READY : Nat := 0xF004
/-- INFO; detail: record TICK bytes 0–3 [31:0] -/
abbrev SHUTDOWN_ACK : Nat := 0xF005
/-- NOTICE; detail: module resets [31:0] -/
abbrev MODULE_RESET : Nat := 0xF006
/-- DEGRADED; detail: block [23:0] -/
abbrev NVM_ECC_UNCORRECTED : Nat := 0xF007
/-- FAULT; detail: block [23:0] -/
abbrev NVM_WRITE_FAIL : Nat := 0xF008
/-- DEGRADED; detail: free spare blocks [8:0] -/
abbrev NVM_SPARE_LOW : Nat := 0xF009
/-- NOTICE; detail: die [7:0], MEAN_EST [23:8] -/
abbrev LIFE_TEMP_HIGH : Nat := 0xF00A
/-- NOTICE; detail: die [7:0], die life in hours [39:8] -/
abbrev LIFE_NEAR_END : Nat := 0xF00B
/-- DEGRADED; detail: die [7:0], die life in hours [39:8] -/
abbrev LIFE_END : Nat := 0xF00C
/-- INFO; detail: OP [3:0], copy [4] -/
abbrev FW_UPDATE_DONE : Nat := 0xF00D
/-- FAULT; detail: FW_RESULT [2:0] -/
abbrev FW_UPDATE_FAIL : Nat := 0xF00E
/-- NOTICE; detail: register offset [11:0], value written [43:12] -/
abbrev GLOBAL_CMD_INVALID : Nat := 0xF00F

/-- The codes of severity NOTICE (1). -/
def noticeCodes : List Nat := [
  D2D_REPLAY, D2D_CMD_INVALID, ADAPTER_CMD_INVALID, TRAIN_JOB_END, A8_INPUT_CLAMP, ACT_CLIP_HIGH, REF_DRIFT_HIGH, SHADOW_MARGIN_LOW, PROG_DEFERRED, REFRESH_CMD_INVALID, SWAP_DISCARDED, REFRESH_AGE_WARN, FMT_SATURATE, FMT_WIDEN, FMT_CMD_INVALID, SEQ_GATE_STALL, SEQ_LATE_START, SEQ_HALT, SEQ_CMD_INVALID, WINDOW_CMD_CONFLICT, HBM_ROW_SUSPECT, MEM_CMD_INVALID, KV_ROPE_CLAMP, KV_POOL_LOW, KV_CONTEXT_LIMIT, KV_REFCOUNT_FULL, SERVE_SUB_REJECT, SERVE_LATE, SERVE_CPL_BACKLOG, SERVE_CMD_INVALID, BREATH_OVERSHOOT, POWER_LIMIT_GATE, ENERGY_WINDOW_LOW, ATLAS_CORRECTION_CLAMP, BREATH_CMD_INVALID, HKC_CMD_INVALID, THERM_WARN, THERM_THROTTLE_END, THERM_RATE, THERM_LOW, THERM_CMD_INVALID, SHAWM_REPLAY, DRONE_HOLDOVER, SHAWM_CMD_INVALID, PCIE_LINK_DEGRADED, PCIE_RESET, PCIE_ACCESS_INVALID, TUNNEL_TARGET_INVALID, ROCE_CMD_INVALID, SP_RECV_EMPTY, DEV_MODE_ENTERED, EVTLOG_FULL, SECURE_CMD_INVALID, EVTLOG_CMD_INVALID, BOOT_HELD, MODULE_RESET, LIFE_TEMP_HIGH, LIFE_NEAR_END, GLOBAL_CMD_INVALID]
/-- The codes of severity DEGRADED (2). -/
def degradedCodes : List Nat := [
  ADAPTER_LOAD_FAIL, TRAIN_UPDATE_SKIPPED, ADC_OVERRANGE, ARRAY_OUT_OF_RANGE, ARRAY_BOUND_LAPSED, REF_TRACK_LOST, REF_BASELINE_FAIL, SHADOW_EXCEED, PROG_VERIFY_FAIL, PROG_TIMEOUT, ARRAY_RETIRED, SPARE_POOL_LOW, FMT_NONFINITE, FMT_WIDEN_DENIED, ACC_BOUND_SAT, KV_POOL_EMPTY, SERVE_REQ_FAILED, SHIP_FAIL, PARK_FAIL, POWER_LIMIT_EXCEEDED, ATLAS_SAMPLE_MISSING, COLCAL_CONVERTER_FAIL, THERM_THROTTLE, THERM_IDLE_FALLBACK, THERM_LOW_BLOCK, THERM_MODEL_DISAGREE, DRONE_OFFSET, ETH_LINK_DOWN, ETH_PAUSE_STORM, ROCE_QP_ERROR, EVTLOG_LOST, BOOT_FW_FALLBACK, NVM_ECC_UNCORRECTED, NVM_SPARE_LOW, LIFE_END]
/-- The codes of severity FAULT (3). -/
def faultCodes : List Nat := [
  D2D_LANE_FAIL, ARRAY_CAP_REFUSED, ARRAY_READ_BLOCKED, ARRAY_MAP_INVALID, PICCOLO_TABLE_INVALID, ADAPTER_TERM_MISMATCH, PICCOLO_OVERRUN, PICCOLO_INTEGRITY, REFRESH_STOPPED, NO_SPARE, INSTALL_INCOMPLETE, FMT_CODE_INVALID, FMT_DESC_INVALID, ACC_ORDER, ACC_SCHEDULE, ACC_RESIDUE, ACC_RESTORE_INVALID, ACC_MODE_MISMATCH, ACC_OVERRUN, ACC_ECC_UNCORRECTED, XFER_BOUNDS, XFER_INVALID, SPAD_BANK_CONFLICT, SPAD_ECC_UNCORRECTED, SPAD_BANK_FAIL, SLOT_UNDERRUN, SLOT_OVERRUN, WINDOW_CLOSED_WRITE, WINDOW_REJECT, HBM_ECC_UNCORRECTED, HBM_RETIRE_FULL, HBM_TRAIN_FAIL, KV_PAGE_STALE, KV_CRC_FAIL, KV_UNWRITTEN_READ, KV_APPEND_REJECT, KV_ROPE_FORMAT, KV_CONFIG_INVALID, SERVE_POOL_DIVERGED, SERVE_TABLE_PARITY, HKC_CAL_FAIL, THERM_DIODE_FAIL, SHAWM_LANE_FAIL, SHAWM_TRAIN_FAIL, SHAWM_WIRING, SHAWM_FRAME_INVALID, SHAWM_REPLY_TIMEOUT, SHAWM_TUNNEL_TIMEOUT, SHAWM_FAULT_NOTICE, BCAST_RECORD_FAIL, DRONE_UNLOCK, DRONE_BREATH_MISMATCH, PCIE_LINK_DOWN, PCIE_DATA_POISON, PCIE_UNCORRECTABLE, ROCE_ACCESS_REJECT, BCAST_INGRESS_INVALID, STREAM_SIG_FAIL, STREAM_DIGEST_FAIL, STREAM_REJECTED, UNSIGNED_STORE_REFUSED, BOOT_STEP_FAIL, NVM_WRITE_FAIL, FW_UPDATE_FAIL]
/-- The codes of severity FATAL (4). -/
def fatalCodes : List Nat := [
  D2D_LINK_DOWN, CLK_REF_LOSS, CLK_PLL_UNLOCK, CLK_ALIGN_FAIL, SEQ_BUNDLE_PARITY, SEQ_BUNDLE_INVALID, SEQ_WAIT_TIMEOUT, SERVE_COMMIT_TIMEOUT, SERVE_NO_PROGRAM, HAWK_CORE_FAULT, THERM_TRIP, SHAWM_LINK_DOWN]

/-- The severity of an event code (R554): INFO unless its chapter's table says more. -/
def sevOf (code : Nat) : Nat :=
  if fatalCodes.contains code then 4 else if faultCodes.contains code then 3
  else if degradedCodes.contains code then 2 else if noticeCodes.contains code then 1 else 0

end Sys2Proof.Evt
end

