-- ==== Sys2Proof/Machine/Formats.lean ====
section
/-! DEFINITION. Narrow formats (R172 to R186, R617): packets, block scales and elements; the block quantiser
(R187 to R190, R316); array-input segments (R192 to R194); CRC-32C (R342). -/

namespace Sys2Proof.Machine

open Sys2Proof.Fp

/-! ## Values -/

/-- A value a reader delivers: poison, or an exact number (`neg` tells −0 from +0). -/
structure Num where
  x : Rat
  neg : Bool := false
deriving DecidableEq, Repr

abbrev Elem := Option Num

/-- FORMAT codes of a format word. -/
abbrev fQ4B : Nat := 0
abbrev fF4B : Nat := 1
abbrev fT2B : Nat := 2
abbrev fE4M3 : Nat := 3
abbrev fBF16 : Nat := 4
abbrev fFP32 : Nat := 5
abbrev fSEG4 : Nat := 6
abbrev fSEG8 : Nat := 7
abbrev fSTAGE : Nat := 8

/-- FORMAT, WIDEN_ID and TSCALE of a format word. -/
def fmtOf (w : Nat) : Nat := bits w 3 0
def widenOf (w : Nat) : Nat := bits w 15 4
def tscaleOf (w : Nat) : Word := word (bits w 63 32)

/-- R178: the format word is valid, and names one of the formats the operation takes (R618). -/
def fmtValid (w : Nat) (allowed : List Nat) : Bool :=
  let t := bits w 63 32
  allowed.contains (fmtOf w) && bits w 31 16 == 0 &&
    decide (bits t 31 31 = 0) && decide (0 < bits t 30 23) && decide (bits t 30 23 < 255)

/-- Elements in a packet (R179). -/
def perPacket (f : Nat) : Nat :=
  if f = fQ4B ∨ f = fF4B then 128 else if f = fT2B then 256 else if f = fE4M3 then 64 else if f = fBF16 then 32 else 16

/-- Scratchpad words of `n` elements. -/
def wordsFor (f n : Nat) : Nat := if f = fSTAGE then n else 9 * ceilDiv n (perPacket f)

/-- Value of a UE5M3 code (R176). -/
def ue5m3 (c : Nat) : Rat :=
  let e := c / 8; let m := c % 8
  if e = 0 then (m : Rat) * pow2 (-17) else ((8 + m : Nat) : Rat) * pow2 ((e : Int) - 18)

/-- Magnitudes of E2M1 (R180). -/
def e2m1 (m : Nat) : Rat := ([0, 1/2, 1, 3/2, 2, 3, 4, 6] : List Rat).getD m 0

/-- One element's code in a packet. -/
def elemCode (f : Nat) (bs : Bytes) (i : Nat) : Nat :=
  if f = fQ4B ∨ f = fF4B then bits (byteAt bs (i / 2)) (4 * (i % 2) + 3) (4 * (i % 2))
  else if f = fT2B then bits (byteAt bs (i / 4)) (2 * (i % 4) + 1) (2 * (i % 4))
  else if f = fE4M3 then byteAt bs i
  else if f = fBF16 then byteField bs (2 * i) (2 * i + 1)
  else byteField bs (4 * i) (4 * i + 3)

/-- An FP32 word read as an element: none for a NaN or an infinity; the second part says that it counts as
non-finite (R186). -/
def readFp32 (w : Word) (t : Rat) : Elem × Bool :=
  if w = 0xFFC00001 then (none, false)
  else if !isFinite w then (none, true)
  else (some ⟨val w * t, sgn w⟩, false)

/-- An element of a format with block scale `s` and tensor scale `t`, before the block rules (R177, R180 to
R183, R186). -/
def readElem (f code : Nat) (s t : Rat) : Elem × Bool :=
  if f = fQ4B then (some ⟨(signed 4 code : Rat) * s * t, false⟩, false)
  else if f = fF4B then (some ⟨(if 8 ≤ code then -e2m1 (code % 8) else e2m1 code) * s * t, false⟩, false)
  else if f = fT2B then (some ⟨(if code = 1 then 1 else if code = 3 then -1 else 0) * s * t, false⟩, false)
  else if f = fE4M3 then
    (if code = 0xFF then (none, false) else if code = 0x7F then (none, true)
    else (some ⟨decode 4 3 code * s * t, decide (128 ≤ code)⟩, false))
  else if f = fBF16 then
    (if code = 0xFFC1 then (none, false) else readFp32 (bf16val code) t)
  else readFp32 (word code) t

/-- The result of reading: elements, kinds of invalid blocks in order, non-finite elements. -/
structure Reading where
  elems : List Elem
  kinds : List Nat := []
  nonfinite : Nat := 0
deriving DecidableEq, Repr

def Reading.append (a b : Reading) : Reading :=
  ⟨a.elems ++ b.elems, a.kinds ++ b.kinds, a.nonfinite + b.nonfinite⟩

/-- Block `b` of a packet in Q4B, F4B, T2B or E4M3 (R184). -/
def readBlock (f : Nat) (bs : Bytes) (b : Nat) (t : Rat) : Reading :=
  let bad := List.replicate 32 (none : Elem)
  let codes := (List.range 32).map (fun i => elemCode f bs (32 * b + i))
  let sc := byteAt bs (64 + b)
  let (zero, sat) := if f = fE4M3 then (bit (byteAt bs 66) b, bit (byteAt bs 66) (4 + b))
    else (bit (byteAt bs 68) b, bit (byteAt bs 68) (4 + b))
  if sc = 0xFF then ⟨bad, [], 0⟩
  else if f ≠ fT2B ∧ zero ≠ (sc == 0) then ⟨bad, [1], 0⟩
  else if f ≠ fT2B ∧ sat = true ∧ sc ≠ 0xFE then ⟨bad, [2], 0⟩
  else if f = fT2B ∧ codes.contains 2 = true then ⟨bad, [3], 0⟩
  else if sc = 0 then ⟨List.replicate 32 (some ⟨0, false⟩), [], 0⟩
  else
    let es := codes.map (fun c => readElem f c (ue5m3 sc) t)
    ⟨es.map (·.1), [], (es.filter (·.2)).length⟩

/-- The first `m` elements of a packet of a format (R184 to R186); a poisoned packet is poisoned in every element
(R281). -/
def readPart (f : Nat) (bs : Bytes) (poison : Bool) (t : Rat) (m : Nat) : Reading :=
  if poison then ⟨List.replicate m none, [], 0⟩
  else if f = fQ4B ∨ f = fF4B ∨ f = fT2B ∨ f = fE4M3 then
    (List.range (ceilDiv m 32)).foldl (fun r b => r.append (readBlock f bs b t)) ⟨[], [], 0⟩
  else
    let es := (List.range m).map (fun i => readElem f (elemCode f bs i) 1 t)
    ⟨es.map (·.1), [], (es.filter (·.2)).length⟩

/-- A whole packet. -/
def readPacket (f : Nat) (bs : Bytes) (poison : Bool) (t : Rat) : Reading := readPart f bs poison t (perPacket f)

/-- One STAGE word (R617). -/
def readStage (data : DWord) (poison : Bool) (t : Rat) : Elem × Bool :=
  if poison then (none, false)
  else if data.toNat / 2 ^ 32 ≠ 0 then (none, true)
  else readFp32 (word data.toNat) t

/-! ## The block quantiser (R187 to R190) -/

/-- s_min and s_max of UE5M3. -/
def sMin : Rat := pow2 (-17)
def sMax : Rat := 114688

def eMax (f : Nat) : Rat := if f = fQ4B then 7 else if f = fF4B then 6 else 448

/-- The element code nearest to `q`, ties to even, magnitude limited to e_max, without −0 (R187, R189). -/
def quantElem (f : Nat) (q : Rat) : Nat :=
  let lim := fun (y : Rat) => if eMax f < y then eMax f else if y < -eMax f then -eMax f else y
  if f = fQ4B then unsigned 4 (lim (rne q : Rat)).num
  else if f = fF4B then encode 2 1 (lim (roundTo 2 0 q)) false
  else encode 4 3 (lim (roundTo 4 (-6) q)) false

/-- Smallest finite UE5M3 code at or above a scale bound. -/
def scaleCode (a em : Rat) : Nat := ((List.range 255).find? (fun c => decide (0 < c ∧ a ≤ ue5m3 c * em))).getD 254

/-- v = x / t in FP32 (R187); beyond the FP32 range the quotient stays exact, and saturates. -/
def quotient (x t : Rat) : Rat := let r := roundTo 24 (-126) (x / t); r

/-- What quantising one block gives: scale byte, element codes, saturated and underflow. -/
structure QBlock where
  scale : Nat
  codes : List Nat
  sat : Bool := false
  under : Bool := false
deriving DecidableEq, Repr

/-- R187; `rotary` is the form of R316, whose second count is the elements clamped. -/
def quantBlock (f : Nat) (xs : List Elem) (t : Rat) (rotary : Bool) : QBlock × Nat :=
  let zeros := List.replicate 32 0
  if xs.any (·.isNone) then (⟨0xFF, zeros, false, false⟩, 0)
  else
    let v := xs.map (fun e => quotient ((e.map (·.x)).getD 0) t)
    let a := v.foldl (fun m y => max m (mag y)) 0
    if a = 0 then (⟨0, zeros, false, false⟩, 0)
    else if a < sMin / 2 then (⟨0, zeros, false, true⟩, 0)
    else if rotary then
      (⟨0x78, v.map (quantElem f), false, false⟩, (v.filter (fun y => decide (448 < mag y))).length)
    else if sMax * eMax f < a then (⟨0xFE, v.map (fun y => quantElem f (y / sMax)), true, false⟩, 0)
    else
      let c := scaleCode a (eMax f)
      (⟨c, v.map (fun y => quantElem f (y / ue5m3 c)), false, false⟩, 0)

/-- Pack codes of a format into 64 bytes. -/
def packCodes (f : Nat) (cs : List Nat) : Bytes :=
  if f = fE4M3 then padTo 64 (cs.map (BitVec.ofNat 8))
  else (List.range 64).map (fun i => BitVec.ofNat 8 (cs.getD (2 * i) 0 + 16 * cs.getD (2 * i + 1) 0))

/-- One packet of quantised blocks with its scale area (R179); blocks a partial packet lacks are zero blocks (R189). -/
def packBlocks (f : Nat) (bs : List QBlock) : Bytes :=
  let m := (List.range (perPacket f / 32)).map (fun i =>
    (if ((bs.map (·.scale)).getD i 0) = 0 then 2 ^ i else 0) + (if (bs.map (·.sat)).getD i false then 2 ^ (4 + i) else 0))
  let scales := bs.map (fun b => BitVec.ofNat 8 b.scale)
  let area : Bytes := if f = fE4M3 then padTo 2 scales ++ [BitVec.ofNat 8 m.sum] else padTo 4 scales ++ [BitVec.ofNat 8 m.sum]
  padTo 72 (padTo 64 (packCodes f (bs.flatMap (·.codes))) ++ area)

/-- Chunks of a list. -/
def chunksOf {α : Type} (n : Nat) (xs : List α) : List (List α) :=
  (List.range (ceilDiv xs.length n)).map (fun i => (xs.drop (n * i)).take n)

/-- An FP32 or BF16 element of value / t, rounded once; none beyond the finite range (R226). -/
def narrow (f : Nat) (e : Elem) (t : Rat) : Option Nat :=
  match e with
  | none => none
  | some n =>
    if f = fBF16 then
      let w := roundBf16 (n.x / t) n.neg
      if bits w 14 7 = 255 then none else some w
    else
      let w := round32 (n.x / t) n.neg
      if isFinite w then some w.toNat else none

/-- The result of converting values to a tensor. -/
structure Writing where
  words : List DWord
  poison : Bool := false
  under : Nat := 0
  sat : Nat := 0
  blocks : Nat := 0
  nonfinite : Nat := 0
  clamped : Nat := 0
deriving DecidableEq, Repr

def bytesToWords (bs : Bytes) : List DWord :=
  (List.range (ceilDiv bs.length 8)).map (fun i => BitVec.ofNat 64 (ofBytes ((bs.drop (8 * i)).take 8)))

/-- Values as a tensor of a format (R226, R187): the words, and what is counted. -/
def writeTensor (f : Nat) (xs : List Elem) (t : Rat) (rotary : Bool) : Writing :=
  if f = fQ4B ∨ f = fF4B ∨ f = fE4M3 then
    let qs := (chunksOf 32 xs).map (fun b => quantBlock f b t rotary)
    let pk := (chunksOf (perPacket f / 32) (qs.map (·.1))).map (packBlocks f)
    { words := bytesToWords pk.flatten
      poison := xs.any (·.isNone)
      under := (qs.filter (·.1.under)).length
      sat := (qs.filter (·.1.sat)).length
      blocks := qs.length
      clamped := (qs.map (·.2)).sum }
  else
    let es := xs.map (fun e => (e.isSome, narrow f e t))
    let bad := (es.filter (fun e => e.1 && e.2.isNone)).length
    let code := fun (e : Bool × Option Nat) => e.2.getD (if f = fBF16 then 0xFFC1 else 0xFFC00001)
    let ws : List DWord :=
      if f = fSTAGE then es.map (fun e => BitVec.ofNat 64 (code e))
      else
        let n := if f = fBF16 then 2 else 4
        bytesToWords ((chunksOf (perPacket f) es).flatMap (fun p => padTo 72 (p.flatMap (fun e => toBytes n (code e)))))
    { words := ws, poison := es.any (fun e => e.2.isNone), nonfinite := bad }

/-! ## Array-input segments (R192 to R194) -/

/-- c / L rounded toward +∞ in FP32 (R193). -/
def sigmaUp (q : Rat) : Word :=
  let w := round32 q
  if val w < q then w + 1 else w

/-- A quantised segment: its packets, and what is counted. -/
structure SegOut where
  bytes : Bytes
  poison : Bool
  /-- Clipped elements, with their value in units of σ (R108). -/
  clipped : List (Nat × Rat)
  nonfinite : Nat
deriving DecidableEq, Repr

/-- R193: the values of one segment (1,024, or 512 for a transpose read) with the static rows of the row group.
[DEDUCED: log 36] -/
def quantSegment (f : Nat) (xs : List Elem) (static : List Nat) (clip : Word) : SegOut :=
  let l : Nat := if f = fSEG4 then 7 else 119
  let static := static.filter (fun i => decide (i < xs.length))
  let rows := (List.range xs.length).map (fun i => ((xs.getD i none), static.contains i))
  let free := rows.filter (fun r => !r.2)
  let m := free.foldl (fun m r => match r.1 with | none => m | some n => max m (mag n.x)) 0
  let c := if m < val clip then m else val clip
  let sigma : Word := if m = 0 then one32 else sigmaUp (c / l)
  let sv := val sigma
  let elem := fun (r : Elem × Bool) => match r with
    | (none, _) => (0 : Int)
    | (some _, true) => 0
    | (some n, false) => if c < mag n.x then (if n.x < 0 then -(l : Int) else l) else rne (n.x / sv)
  let codes := rows.map elem
  let clipped := ((List.range rows.length).zip rows).filterMap (fun r => match r.2 with
    | (some n, false) => if c < mag n.x ∧ m ≠ 0 then some (r.1, n.x / sv) else none
    | _ => none)
  let bad := xs.any (·.isNone)
  let tail : Bytes := toBytes 4 sigma.toNat ++ [BitVec.ofNat 8 (one bad)]
  let packs := if f = fSEG4 then
      (chunksOf 128 (codes.map (unsigned 4))).map (fun p => padTo 72 (padTo 64 (packCodes fQ4B p) ++ tail))
    else (chunksOf 64 (codes.map (unsigned 8))).map (fun p => padTo 72 (padTo 64 (p.map (BitVec.ofNat 8)) ++ tail))
  let entry := fun i => match xs.getD i none with
    | none => 0xFFC1
    | some n => let b := roundBf16 n.x n.neg; if b % 0x8000 = 0x7F80 then 0xFFC1 else b
  let side := static.flatMap (fun i => toBytes 2 (entry i))
  let beyond := (static.filter (fun i => (xs.getD i none).isSome && entry i == 0xFFC1)).length
  let sidePk := padTo 72 (padTo 64 side ++ tail ++ [BitVec.ofNat 8 static.length])
  ⟨packs.flatten ++ sidePk, bad, clipped, beyond⟩

/-! ## CRC (R342) -/

def crcStep (poly : Nat) (c : Nat) : Nat := if c % 2 = 1 then (c / 2).xor poly else c / 2

/-- A reflected CRC-32 over bytes: initial value and final XOR all ones. -/
def crc32With (poly : Nat) (bs : Bytes) : Nat :=
  (bs.foldl (fun c b => (List.range 8).foldl (fun c _ => crcStep poly c) (c.xor b.toNat)) 0xFFFFFFFF).xor 0xFFFFFFFF

/-- CRC-32C: polynomial 0x1EDC6F41, reflected. -/
def crc32c (bs : Bytes) : Nat := crc32With 0x82F63B78 bs

end Sys2Proof.Machine
end

