-- ==== Sys2Proof/Machine/Map.lean ====
section
/-! DEFINITION. Sparse maps keyed by numbers: sorted lists without repeats and without an entry equal to
what an unlisted key reads as, so equal maps are equal data. Registers, memories and tables are held so. -/

namespace Sys2Proof.Map

/-- A sparse map from numbers to `α`. -/
abbrev SMap (α : Type) := List (Nat × α)

variable {α : Type}

/-- The entry at `k`, if listed. -/
def find? : List (Nat × α) → Nat → Option α
  | [], _ => none
  | (k', v) :: m, k => if k' = k then some v else find? m k

/-- What key `k` reads as, `d` where nothing is listed. -/
def mget (d : α) (m : List (Nat × α)) (k : Nat) : α := (find? m k).getD d

/-- `m` without key `k`. -/
def mdel : List (Nat × α) → Nat → List (Nat × α)
  | [], _ => []
  | (k', v) :: m, k => if k' = k then mdel m k else (k', v) :: mdel m k

/-- `m` with `v` listed at `k`. -/
def mput : List (Nat × α) → Nat → α → List (Nat × α)
  | [], k, v => [(k, v)]
  | (k', v') :: m, k, v =>
    if k' = k then (k, v) :: m else if k < k' then (k, v) :: (k', v') :: m
    else (k', v') :: mput m k v

/-- `m` with `k` reading as `v`; writing what an unlisted key reads as (`d`) removes the entry. -/
def mset [DecidableEq α] (d : α) (m : List (Nat × α)) (k : Nat) (v : α) : List (Nat × α) :=
  if v = d then mdel m k else mput m k v

/-- Change what `k` reads as. -/
def mupd [DecidableEq α] (d : α) (m : List (Nat × α)) (k : Nat) (f : α → α) : List (Nat × α) :=
  mset d m k (f (mget d m k))

/-- Keys rise strictly, all above `lo`. -/
def sortedFrom : Nat → List (Nat × α) → Bool
  | _, [] => true
  | lo, (k, _) :: m => decide (lo ≤ k) && sortedFrom (k + 1) m

/-- The canonical form: keys rise strictly and no entry equals `d`. -/
def wf [DecidableEq α] (d : α) (m : List (Nat × α)) : Bool :=
  sortedFrom 0 m && m.all (fun e => decide (e.2 ≠ d))

end Sys2Proof.Map
end

