-- ==== Sys2Proof/Machine/Regs.lean ====
section
/-! DEFINITION. The register pages (R584 to R592): the page map, and one row for every register of every
chapter's table with its access codes (R10), its reset value and the point where a write takes effect
(R588).  A register is named by its BAR0 address, page × 0x1000 + offset. -/

namespace Sys2Proof.Machine

/-- Block types of the page index. -/
inductive Blk where
  | global | seq | hawk | atlas | breath | therm | drone | evtlog | nvrec | secure | pcie | tunnel
  | hkcLuna | hkcHub | core | map | piccolo | refresh | colcal | tensor | spad | windows
  | hbm | hubspad | shawm | eth | roce | shippark
deriving DecidableEq, Repr

/-- Where a write takes effect (R588). -/
inductive When where
  | now | breath | stepCommit | machineCommit | programStart | training
deriving DecidableEq, Repr

/-- Halves of a 64-bit register (R14, R15). -/
inductive Half where
  | one | low | high
deriving DecidableEq, Repr

/-- One row of a register table. `rw` are the bits a write sets, `w1c` those it clears; `ctr` marks a
counter (R560, R595), `stop` a register accepted only while bundle issue is stopped (R590), `wing` one whose
reset is "from wingset" (R548). -/
structure RegRow where
  off : Nat
  count : Nat := 1
  stride : Nat := 4
  rw : Nat := 0
  w1c : Nat := 0
  reset : Nat := 0
  ctr : Bool := false
  half : Half := .one
  eff : When := .now
  stop : Bool := false
  wing : Bool := false
deriving DecidableEq, Repr

namespace Row
/-- A read-only word. -/
def ro (off : Nat) (reset : Nat := 0) : RegRow := { off := off, reset := reset }
/-- `n` read-only words. -/
def ros (off n : Nat) (stride : Nat := 4) : RegRow := { off := off, count := n, stride := stride }
/-- A read/write word. -/
def rw (off mask : Nat) (reset : Nat := 0) (eff : When := .now) : RegRow :=
  { off := off, rw := mask, reset := reset, eff := eff }
/-- `n` saturating 32-bit counters. -/
def ctrs (off n : Nat) : RegRow := { off := off, count := n, rw := 0xFFFFFFFF, ctr := true }
/-- A 64-bit read-only pair. -/
def ro64 (off : Nat) (ctr : Bool := false) (wing : Bool := false) : List RegRow :=
  [{ off := off, half := .low, ctr := ctr, wing := wing },
   { off := off + 4, half := .high, ctr := ctr, wing := wing }]
/-- A 64-bit read/write pair. -/
def rw64 (off : Nat) (eff : When := .now) (stop : Bool := false) : List RegRow :=
  [{ off := off, half := .low, rw := 0xFFFFFFFF, eff := eff, stop := stop },
   { off := off + 4, half := .high, rw := 0xFFFFFFFF, eff := eff, stop := stop }]
/-- A word loaded from the wingset (R548). -/
def wing (off : Nat) (n : Nat := 1) : RegRow := { off := off, count := n, wing := true }
/-- Words written only while bundle issue is stopped. -/
def stopped (off mask : Nat) (n : Nat := 1) (stride : Nat := 4) : RegRow :=
  { off := off, count := n, stride := stride, rw := mask, stop := true }
end Row

open Row

/-- The common header (R591). -/
def headerRows : List RegRow :=
  [ro 0x000, ro 0x004, ro 0x008, rw 0x00C 0x2, ro 0x010, rw 0x014 0x1F 0x18,
   { off := 0x018, w1c := 0x1F }, { off := 0x01C, rw := 0xFFFFFFFF, ctr := true }, ro 0x020, ros 0x024 3]

def spadRows : List RegRow :=
  [ro 0x100, rw 0x104 0xFF 24, ro 0x108, ro 0x10C, stopped 0x110 0x3FFFFFF, stopped 0x114 0x3FFFFFF,
   rw 0x118 0x3FF, ro 0x11C, ro 0x120, ctrs 0x124 5, stopped 0x180 0x3FFFFFF 16 8, stopped 0x184 0x3FFFFFF 16 8]

/-- The WINDOWS registers, from offset `o`. -/
def windowsRows (o : Nat) : List RegRow :=
  [stopped o 0x3FFFFFF, rw (o + 4) 0xFFF, ro (o + 8), ro (o + 0xC), ctrs (o + 0x10) 3]

def hkcRows : List RegRow :=
  [rw 0x100 0x1, ro 0x104, ro 0x108, ro 0x10C, ro 0x110 32768, ro 0x114, ros 0x180 24, ros 0x208 22]

def globalRows : List RegRow :=
  [ros 0x100 3] ++ ro64 0x10C ++ [ro 0x114, ro 0x118] ++
  [{ off := 0x200, count := 20, reset := 0x4 }, ctrs 0x260 20, ro 0x2C0, ro 0x2C4, rw 0x2C8 0x3FF, ros 0x2CC 3] ++
  [ro 0x300, rw 0x304 0xFFF, ros 0x308 3, wing 0x314 2, ros 0x31C 2, ctrs 0x324 4] ++
  [{ off := 0x400, rw := 0x30000, reset := 0x20000, eff := .stepCommit, wing := true }] ++
  ro64 0x404 (wing := true) ++ ro64 0x40C (wing := true) ++
  [rw 0x414 0x3FFFFFFF 1024, ros 0x418 4, ro 0x428, ro 0x42C, ctrs 0x430 8] ++
  ro64 0x480 (wing := true) ++
  [ro 0x488, ro 0x48C, rw 0x490 0xFFF, ro 0x494, rw 0x498 0xFF 0 .machineCommit, ctrs 0x49C 3] ++
  [stopped 0x500 0x770F, ro 0x504, rw 0x508 0xFFFFFFFF 800000, stopped 0x50C 0x1,
   { off := 0x510, w1c := 0x80000000 }, ctrs 0x514 1] ++
  [ros 0x600 8, ctrs 0x620 1, { off := 0x630, count := 4, rw := 0xFFFFFFFF }]

def seqRows : List RegRow :=
  [rw 0x100 0x1, ro 0x104, rw 0x108 0xFFFFFFFF 0x01312D00 .programStart] ++ ro64 0x10C ++ ro64 0x114 (ctr := true) ++
  ro64 0x11C (ctr := true) ++
  [rw 0x124 0x1FF, ros 0x128 3, wing 0x134, ctrs 0x138 6, wing 0x160 20]

def hawkRows : List RegRow :=
  [rw 0x100 0x1F07 0x800 .machineCommit, ro 0x104 0xF000, rw 0x108 0x1F 10, rw 0x10C 0xFFFFFFFF, ro 0x110,
   rw 0x114 0x1F 10, rw 0x118 0xFFFFFFFF, ro 0x11C, rw 0x120 0xFFFFFFFF 8000, rw 0x124 0xFFFFFFFF 2400000,
   ro 0x128] ++ ro64 0x12C (wing := true) ++ [ros 0x134 2, ctrs 0x13C 5] ++
  ro64 0x150 (ctr := true) ++ ro64 0x158 (ctr := true)

def atlasRows : List RegRow :=
  [rw 0x100 0x1 1 .breath, rw 0x104 0xFFF 2150 .breath, rw 0x108 0xFFFFFFFF 0 .breath, rw 0x10C 0xFFF 0 .breath,
   rw 0x110 0xFFFF 0] ++ rw64 0x114 ++ ro64 0x11C ++
  [ro 0x124, ro 0x128 65536, rw 0x12C 0xF] ++ ro64 0x130 ++ [ro 0x138, wing 0x13C, ctrs 0x140 3]

def breathRows : List RegRow :=
  [rw 0x100 0x3 0x3 .breath, { off := 0x104, rw := 0x3FFFFF, reset := 800000, stop := true },
   rw 0x108 0x3FC 0x238 .breath, ro 0x10C, ro 0x110, ctrs 0x114 2,
   { off := 0x200, count := 40, rw := 0xFFFFFFFF, reset := 0xFFFFFFFF, eff := .breath }, ros 0x300 40]

def thermRows : List RegRow :=
  [rw 0x100 0x7 0x3 .breath, rw 0x104 0xFFFFFF 0x6E645F .breath, rw 0x108 0xFFFF 60 .breath,
   rw 0x10C 0xFFFF 0 .breath, rw 0x110 0xFFFFFFFF 0 .breath, ro 0x114, ro 0x118, ro 0x11C 100, ro 0x120,
   ctrs 0x124 3, { off := 0x140, count := 20, rw := 0xFFFFFFFF, eff := .breath }, ros 0x1A0 20, ros 0x200 20]

def droneRows : List RegRow :=
  ro64 0x100 (ctr := true) ++ [ro 0x108, ro 0x10C, rw 0x110 0x1 1, ro 0x114, ctrs 0x118 3]

def evtlogRows : List RegRow :=
  [rw 0x100 0x1] ++ rw64 0x104 (stop := true) ++
  [ro 0x10C, rw 0x110 0xFFFFFFFF, ro 0x114, ctrs 0x118 1, rw 0x11C 0xFFFFFFFF, ros 0x120 16, ctrs 0x160 5]

def nvrecRows : List RegRow :=
  [ros 0x100 3] ++ rw64 0x10C ++ rw64 0x114 ++ [ro 0x11C, ctrs 0x120 2]

def secureRows : List RegRow :=
  [ros 0x100 3, { off := 0x10C, rw := 0x3FFFFFF, stop := true }, ctrs 0x110 1,
   { off := 0x140, count := 8, rw := 0xFFFFFFFF }, ros 0x800 512]

def pcieRows : List RegRow :=
  [ro 0x100, rw 0x104 0x77 0x32, { off := 0x108, w1c := 0xFFFFFFFF, half := .low },
   { off := 0x10C, w1c := 0xFFFFFFFF, half := .high }, ctrs 0x110 3,
   { off := 0x800, count := 64, stride := 16, rw := 0xFFFFFFFF },
   { off := 0x804, count := 64, stride := 16, rw := 0xFFFFFFFF }, { off := 0x808, count := 64, stride := 16, rw := 0xFFFFFFFF },
   { off := 0x80C, count := 64, stride := 16, rw := 1, reset := 1 }, ros 0xC00 2]

def tunnelRows : List RegRow :=
  [{ off := 0x100, count := 3, rw := 0x3F }, ros 0x110 3, ctrs 0x120 3]

def coreRows : List RegRow :=
  [rw 0x100 0x3 0x1 .stepCommit, ro 0x104 0x480, { off := 0x108, rw := 0x7FF0000 }, ro 0x10C] ++
  ro64 0x110 (ctr := true) ++ [ctrs 0x118 8]

def piccoloRows : List RegRow :=
  [rw 0x100 0xF0F1F 0xC0A1F .stepCommit, rw 0x104 0x3FFFFFF 0 .stepCommit, rw 0x108 0x1FFFF 600 .stepCommit,
   rw 0x10C 0xFFFFFFFF 1, { off := 0x110, rw := 0x1F00 }, ro 0x114, ro 0x118,
   rw 0x11C 0xFFFFFFFF 0x10000 .stepCommit, ctrs 0x120 7, rw 0x13C 0x1FFF, ros 0x140 6]

def refreshRows : List RegRow :=
  [rw 0x100 0x9FFFFFFF 0x140804B0 .breath, ros 0x104 5, rw 0x118 0xFFFFFFFF, stopped 0x11C 0x3FFFFFF] ++
  rw64 0x120 (stop := true) ++ [ctrs 0x128 5]

def colcalRows : List RegRow := [ros 0x100 3, ctrs 0x10C 1]

def tensorRows : List RegRow :=
  [ro 0x100 0x20000, rw 0x104 0x1 1 .stepCommit] ++ ro64 0x108 (ctr := true) ++ [ctrs 0x110 7]

def hbmRows : List RegRow :=
  [ro 0x100, ctrs 0x104 2, rw 0x10C 0xFF 4, ro 0x110, ro 0x114, stopped 0x180 0xFFFFFFFF 32 16,
   stopped 0x184 0x7FFFFFF 32 16, stopped 0x188 0x8000000F 32 16]

def shawmRows : List RegRow :=
  [ro 0x100, rw 0x104 0x1 0 .training, ro 0x108, ro 0x10C, ctrs 0x110 3] ++
  ro64 0x11C (ctr := true) ++ ro64 0x124 (ctr := true)

def ethRows : List RegRow :=
  [ro 0x100, rw 0x104 0xFF01 1, rw 0x108 0xFFFFFFFF 100000] ++ ro64 0x10C ++ [ctrs 0x114 5] ++
  ro64 0x128 (ctr := true) ++ ro64 0x130 (ctr := true)

def roceRows : List RegRow :=
  [rw 0x100 0x7 6, rw 0x104 0xF0000FFF, ro 0x108, ro 0x10C, rw 0x110 0xFFFFFF 0x50037, ctrs 0x114 5,
   { off := 0x140, count := 16, rw := 0xFFFFFFFF }]

def shipparkRows : List RegRow :=
  [stopped 0x100 0x80000FFF, stopped 0x104 0x3FFFFFF, stopped 0x108 0x1FF] ++ rw64 0x10C (stop := true) ++
  [stopped 0x114 0xFFFF, stopped 0x118 0xFFFF, ctrs 0x11C 5]

/-- The rows of a block's own registers. -/
def blkRows : Blk → List RegRow
  | .global => globalRows | .seq => seqRows | .hawk => hawkRows | .atlas => atlasRows
  | .breath => breathRows | .therm => thermRows | .drone => droneRows | .evtlog => evtlogRows
  | .nvrec => nvrecRows | .secure => secureRows | .pcie => pcieRows | .tunnel => tunnelRows
  | .hkcLuna => hkcRows | .hkcHub => hkcRows | .core => coreRows | .map => [ros 0x100 3]
  | .piccolo => piccoloRows | .refresh => refreshRows | .colcal => colcalRows | .tensor => tensorRows
  | .spad => spadRows | .windows => windowsRows 0x100 | .hbm => hbmRows
  | .hubspad => spadRows ++ windowsRows 0x300 | .shawm => shawmRows | .eth => ethRows | .roce => roceRows
  | .shippark => shipparkRows

/-- The block and instance of a page, none where the page is unmapped (R586). -/
def pageBlk (p : Nat) : Option (Blk × Nat) :=
  if p < 0x00C then
    some ([Blk.global, .seq, .hawk, .atlas, .breath, .therm, .drone, .evtlog, .nvrec, .secure, .pcie,
      .tunnel].getD p .global, 0)
  else if 0x010 ≤ p ∧ p < 0x020 then some (.hkcLuna, p - 0x010)
  else if 0x020 ≤ p ∧ p < 0x024 then some (.hkcHub, p - 0x020)
  else if 0x040 ≤ p ∧ p < 0x0C0 then
    some ([Blk.core, .map, .piccolo, .refresh, .colcal, .tensor, .spad, .windows].getD (p % 8) .core,
      (p - 0x040) / 8)
  else if 0x0C0 ≤ p ∧ p < 0x0D8 then some (.hbm, p - 0x0C0)
  else if 0x0E0 ≤ p ∧ p < 0x0E4 then some (.hubspad, p - 0x0E0)
  else if 0x0F0 ≤ p ∧ p < 0x0F4 then some (.shawm, p - 0x0F0)
  else if 0x0F8 ≤ p ∧ p < 0x0FA then some (.eth, p - 0x0F8)
  else if p = 0x0FA then some (.roce, 0)
  else if p = 0x0FB then some (.shippark, 0)
  else none

/-- The pages of single blocks and the page of an instance (R586). -/
def pgLuna (n k : Nat) : Nat := 0x040 + 8 * n + k
def pgHkc (d : Nat) : Nat := if d < 16 then 0x010 + d else 0x020 + (d - 16)
def pgHbm (s : Nat) : Nat := 0x0C0 + s
def pgHubspad (h : Nat) : Nat := 0x0E0 + h
def pgShawm (p : Nat) : Nat := 0x0F0 + p
def pgEth (p : Nat) : Nat := 0x0F8 + p
/-- The page with a die's scratchpad registers: SPAD or HUBSPAD. -/
def pgSpad (d : Nat) : Nat := if d < 16 then pgLuna d 6 else pgHubspad (d - 16)
/-- The page with a die's window registers. -/
def pgWin (d : Nat) : Nat := if d < 16 then pgLuna d 7 else pgHubspad (d - 16)
/-- BAR0 address of a register. -/
def ra (page off : Nat) : Nat := page * 0x1000 + off
/-- Address of a window register: HUBSPAD holds them 0x200 higher. -/
def winReg (d off : Nat) : Nat := if d < 16 then ra (pgWin d) off else ra (pgWin d) (off + 0x200)

def RegRow.covers (r : RegRow) (off : Nat) : Bool :=
  decide (r.off ≤ off) && decide (off < r.off + r.count * r.stride) && (off - r.off) % r.stride == 0

/-- The row of a register, none where no table defines the offset (R587). -/
def rowOf (addr : Nat) : Option RegRow :=
  match pageBlk (addr / 0x1000) with
  | none => none
  | some (b, _) =>
    let off := addr % 0x1000
    (if off < 0x100 then headerRows else blkRows b).find? (·.covers off)

/-- TYPE of BLK_IDENT, BLK_CAPS [3:0] and the reset of BUDGET_CLASS, by block (page index). -/
def blkInfo : Blk → Nat × Nat × Nat
  | .global => (0x0001, 9, 0x00C0000F) | .seq => (0x0002, 1, 0xF) | .hawk => (0x0003, 13, 0x02000009)
  | .atlas => (0x0004, 1, 0xF) | .breath => (0x0005, 9, 0xF) | .therm => (0x0006, 1, 0x01000008)
  | .drone => (0x0007, 9, 0xF) | .evtlog => (0x0008, 9, 0x02000009) | .nvrec => (0x0009, 11, 0xF)
  | .secure => (0x000A, 9, 0xF) | .pcie => (0x000B, 1, 0xF) | .tunnel => (0x000C, 5, 0xF)
  | .hkcLuna => (0x0010, 1, 0x01000008) | .hkcHub => (0x0011, 1, 0x01000008) | .core => (0x0020, 1, 0xF)
  | .map => (0x0021, 2, 0xF) | .piccolo => (0x0022, 3, 0x01000008) | .refresh => (0x0023, 9, 0x00C00006)
  | .colcal => (0x0024, 11, 0x01000008) | .tensor => (0x0025, 1, 0xF) | .spad => (0x0026, 9, 0x00800007)
  | .windows => (0x0027, 9, 0xF) | .hbm => (0x0030, 9, 0xF) | .hubspad => (0x0031, 9, 0x00800007)
  | .shawm => (0x0040, 9, 0xF) | .eth => (0x0041, 1, 0x02000009) | .roce => (0x0042, 1, 0x02300009)
  | .shippark => (0x0043, 9, 0x00300004)

/-- BUDGET_CLASS.CLASS of a page (R597). -/
def pageClass (page : Nat) : Nat :=
  match pageBlk page with
  | some (b, _) => (blkInfo b).2.2 % 16
  | none => 0xF

/-- The value of a register's home at power-up: its table's reset value, and the constants that differ by
instance. [DESIGN CHOICE: log 5; PRESUMED: log 19] -/
def regReset (addr : Nat) : Word :=
  match rowOf addr with
  | none => 0
  | some r => BitVec.ofNat 32 r.reset

/-- The registers of one page that a predicate picks, as addresses. -/
def regAddrs (page : Nat) (p : RegRow → Bool) : List Nat :=
  match pageBlk page with
  | none => []
  | some (b, _) =>
    ((headerRows ++ blkRows b).filter p).flatMap
      (fun r => (List.range r.count).map (fun i => ra page (r.off + i * r.stride)))

/-- Every mapped page. -/
def allPages : List Nat := (List.range 0x0FC).filter (fun p => (pageBlk p).isSome)

/-- Counters of a page (R595). [DEDUCED: log 15] -/
def pageCounters (page : Nat) : List Nat := regAddrs page (·.ctr)

/-! ## Register addresses, by the manual's names -/

namespace Reg
abbrev BOOT_STATUS : Nat := 0x114
abbrev BOOT_CMD : Nat := 0x118
abbrev D2D_REPAIR_CMD : Nat := 0x2C0
abbrev CLK_STATUS : Nat := 0x2C4
abbrev D2D_FAIL_SEL : Nat := 0x2C8
abbrev FMT_WIDEN_CMD : Nat := 0x300
abbrev FMT_RESERVE_SPACE : Nat := 0x314
abbrev FMT_RESERVE_HBM : Nat := 0x318
abbrev FMT_UNDERFLOW_COUNT : Nat := 0x324
abbrev FMT_SATURATE_COUNT : Nat := 0x328
abbrev FMT_NONFINITE_COUNT : Nat := 0x32C
abbrev FMT_CODE_INVALID_COUNT : Nat := 0x330
abbrev KV_CONFIG : Nat := 0x400
abbrev KV_PT_BASE : Nat := 0x404
abbrev KV_PREFIX_BASE : Nat := 0x40C
abbrev KV_POOL_LOW_MARK : Nat := 0x414
abbrev KV_STALE_COUNT : Nat := 0x430
abbrev KV_CRC_FAIL_COUNT : Nat := 0x434
abbrev KV_UNWRITTEN_COUNT : Nat := 0x438
abbrev KV_APPEND_REJECT_COUNT : Nat := 0x43C
abbrev KV_ROPE_CLAMP_COUNT : Nat := 0x440
abbrev KV_PREFIX_HIT_COUNT : Nat := 0x444
abbrev KV_PREFIX_FULL_COUNT : Nat := 0x448
abbrev KV_ALLOC_FAIL_COUNT : Nat := 0x44C
abbrev ADAPTER_BASE : Nat := 0x480
abbrev ADAPTER_CMD : Nat := 0x488
abbrev ADAPTER_CMD_STATUS : Nat := 0x48C
abbrev TRAIN_CONFIG : Nat := 0x498
abbrev TRAIN_STEP_COUNT : Nat := 0x49C
abbrev TRAIN_SKIP_COUNT : Nat := 0x4A0
abbrev TRAIN_NONFINITE_COUNT : Nat := 0x4A4
abbrev SHAWM_MACHINE : Nat := 0x500
abbrev SHAWM_ROUTE_STATUS : Nat := 0x504
abbrev SHAWM_REPLY_TIMEOUT : Nat := 0x508
abbrev BCAST_CONTROL : Nat := 0x50C
abbrev BCAST_STATUS : Nat := 0x510
abbrev BCAST_FAIL_COUNT : Nat := 0x514
abbrev GLOBAL_PAGE_PENDING : Nat := 0x600
abbrev GLOBAL_UNMAPPED_COUNT : Nat := 0x620
abbrev SEQ_CONTROL : Nat := 0x1100
abbrev SEQ_STATUS : Nat := 0x1104
abbrev SEQ_WAIT_TIMEOUT : Nat := 0x1108
abbrev SEQ_STEP_START : Nat := 0x110C
abbrev SEQ_STEP_NUMBER : Nat := 0x1114
abbrev SEQ_ISSUE_COUNT : Nat := 0x111C
abbrev SEQ_TAG_SEL : Nat := 0x1124
abbrev SEQ_STORE_INFO : Nat := 0x1134
abbrev SEQ_STALL_SPLIT_COUNT : Nat := 0x1138
abbrev SEQ_STALL_WAIT_COUNT : Nat := 0x113C
abbrev SEQ_STALL_GATE_COUNT : Nat := 0x1140
abbrev SEQ_STALL_OTHER_COUNT : Nat := 0x1144
abbrev SEQ_XFER_ERR_COUNT : Nat := 0x1148
abbrev SEQ_ZERO_LEN_COUNT : Nat := 0x114C
abbrev SEQ_DESC_BASE (d : Nat) : Nat := 0x1160 + 4 * d
abbrev HAWK_CONFIG : Nat := 0x2100
abbrev HAWK_STATUS : Nat := 0x2104
abbrev HAWK_SUB_RING : Nat := 0x2108
abbrev HAWK_SUB_TAIL : Nat := 0x210C
abbrev HAWK_SUB_HEAD : Nat := 0x2110
abbrev HAWK_CPL_RING : Nat := 0x2114
abbrev HAWK_CPL_HEAD : Nat := 0x2118
abbrev HAWK_CPL_TAIL : Nat := 0x211C
abbrev HAWK_PLAN_LEAD : Nat := 0x2120
abbrev HAWK_COMMIT_TIMEOUT : Nat := 0x2124
abbrev HAWK_SPARE_CMD : Nat := 0x2128
abbrev HAWK_PARK_BASE : Nat := 0x212C
abbrev HAWK_ADMIT_COUNT : Nat := 0x213C
abbrev HAWK_REJECT_COUNT : Nat := 0x2140
abbrev HAWK_LATE_COUNT : Nat := 0x2144
abbrev HAWK_FAIL_COUNT : Nat := 0x2148
abbrev HAWK_EXPIRE_COUNT : Nat := 0x214C
abbrev HAWK_SPEC_PROPOSED : Nat := 0x2150
abbrev HAWK_SPEC_ACCEPTED : Nat := 0x2158
abbrev ATLAS_CONFIG : Nat := 0x3100
abbrev ATLAS_POWER_LIMIT : Nat := 0x3104
abbrev ATLAS_INPUT_FACTOR : Nat := 0x3108
abbrev ATLAS_BASE_POWER : Nat := 0x310C
abbrev ATLAS_WINDOW_BREATHS : Nat := 0x3110
abbrev ATLAS_WINDOW_BUDGET : Nat := 0x3114
abbrev ATLAS_WINDOW_SPENT : Nat := 0x311C
abbrev ATLAS_ALLOWANCE : Nat := 0x3124
abbrev ATLAS_CORRECTION : Nat := 0x3128
abbrev ATLAS_COUNTER_SEL : Nat := 0x312C
abbrev ATLAS_ENERGY : Nat := 0x3130
abbrev ATLAS_LAST_BREATH : Nat := 0x3138
abbrev ATLAS_COST_BASE : Nat := 0x313C
abbrev ATLAS_SAMPLE_MISS_COUNT : Nat := 0x3140
abbrev ATLAS_EXCEED_COUNT : Nat := 0x3144
abbrev ATLAS_GATE_COUNT : Nat := 0x3148
abbrev BREATH_CONFIG : Nat := 0x4100
abbrev BREATH_TICKS : Nat := 0x4104
abbrev BREATH_LEND : Nat := 0x4108
abbrev BREATH_NUMBER : Nat := 0x410C
abbrev BREATH_GATE_STATUS : Nat := 0x4110
abbrev BREATH_OVERSHOOT_COUNT : Nat := 0x4114
abbrev BREATH_BORROW_COUNT : Nat := 0x4118
/-- Budget register of class `c`, resource `r` (0 ARRAY, 1 HBM, 2 FABRIC, 3 ENERGY). -/
abbrev BREATH_BUDGET (c r : Nat) : Nat := 0x4200 + 16 * c + 4 * r
abbrev BREATH_LAST (c r : Nat) : Nat := 0x4300 + 16 * c + 4 * r
abbrev THERM_CONFIG : Nat := 0x5100
abbrev THERM_LIMITS : Nat := 0x5104
abbrev THERM_RATE : Nat := 0x5108
abbrev THERM_COOLANT : Nat := 0x510C
abbrev THERM_PLATE_COEF : Nat := 0x5110
abbrev THERM_CMD : Nat := 0x5114
abbrev THERM_DIODE_CMD : Nat := 0x5118
abbrev THERM_STATE : Nat := 0x511C
abbrev THERM_PLATE_EST : Nat := 0x5120
abbrev THERM_THROTTLE_COUNT : Nat := 0x5124
abbrev THERM_IDLE_COUNT : Nat := 0x5128
abbrev THERM_DISAGREE_COUNT : Nat := 0x512C
abbrev THERM_DIE_COEF (d : Nat) : Nat := 0x5140 + 4 * d
abbrev THERM_EST (d : Nat) : Nat := 0x51A0 + 4 * d
abbrev THERM_DIODE (d : Nat) : Nat := 0x5200 + 4 * d
abbrev DRONE_COUNT : Nat := 0x6100
abbrev DRONE_STATUS : Nat := 0x6108
abbrev DRONE_RATE : Nat := 0x610C
abbrev DRONE_CONFIG : Nat := 0x6110
abbrev DRONE_PATH_DELAY : Nat := 0x6114
abbrev DRONE_OFFSET_MAX : Nat := 0x6118
abbrev DRONE_SYNC_COUNT : Nat := 0x611C
abbrev DRONE_SYNC_MISS_COUNT : Nat := 0x6120
abbrev EVTLOG_CONFIG : Nat := 0x7100
abbrev EVTLOG_BASE : Nat := 0x7104
abbrev EVTLOG_WRITE : Nat := 0x710C
abbrev EVTLOG_READ : Nat := 0x7110
abbrev EVTLOG_STATUS : Nat := 0x7114
abbrev EVTLOG_LOST_COUNT : Nat := 0x7118
abbrev EVTLOG_SEL : Nat := 0x711C
abbrev EVTLOG_RECORD (k : Nat) : Nat := 0x7120 + 4 * k
abbrev EVTLOG_LAST_FATAL (k : Nat) : Nat := 0x7140 + 4 * k
abbrev EVTLOG_SEV_COUNT (s : Nat) : Nat := 0x7160 + 4 * s
abbrev NVREC_STATUS : Nat := 0x8100
abbrev NVREC_GENERATION : Nat := 0x8104
abbrev NVREC_HOST_TIME : Nat := 0x810C
abbrev NVREC_FW_SRC : Nat := 0x8114
abbrev NVREC_FW_CMD : Nat := 0x811C
abbrev NVREC_ECC_CORR_COUNT : Nat := 0x8120
abbrev NVREC_ECC_UNCORR_COUNT : Nat := 0x8124
abbrev SECURE_STATUS : Nat := 0x9100
abbrev SECURE_CMD : Nat := 0x9104
abbrev SECURE_STREAM_STATUS : Nat := 0x9108
abbrev SECURE_STAGE_BASE : Nat := 0x910C
abbrev SECURE_SIG_FAIL_COUNT : Nat := 0x9110
abbrev SECURE_NONCE (k : Nat) : Nat := 0x9140 + 4 * k
abbrev SECURE_REPORT : Nat := 0x9800
abbrev PCIE_LINK_STATUS : Nat := 0xA100
abbrev PCIE_IRQ_CONFIG : Nat := 0xA104
abbrev PCIE_REMOTE_PENDING : Nat := 0xA108
abbrev PCIE_CORR_COUNT : Nat := 0xA110
abbrev PCIE_UNCORR_COUNT : Nat := 0xA114
abbrev PCIE_ACCESS_INVALID_COUNT : Nat := 0xA118
abbrev TUNNEL_TARGET (w : Nat) : Nat := 0xB100 + 4 * w
abbrev TUNNEL_STATUS (w : Nat) : Nat := 0xB110 + 4 * w
abbrev TUNNEL_WRITE_COUNT : Nat := 0xB120
abbrev TUNNEL_READ_COUNT : Nat := 0xB124
abbrev TUNNEL_TIMEOUT_COUNT : Nat := 0xB128
abbrev ROCE_CONFIG : Nat := 0xFA100
abbrev ROCE_CTX_SEL : Nat := 0xFA104
abbrev ROCE_CTX_CMD : Nat := 0xFA108
abbrev ROCE_CTX_STATUS : Nat := 0xFA10C
abbrev ROCE_RATE_CONFIG : Nat := 0xFA110
abbrev ROCE_RETRANS_COUNT : Nat := 0xFA114
abbrev ROCE_ACCESS_REJECT_COUNT : Nat := 0xFA118
abbrev ROCE_CNP_TX_COUNT : Nat := 0xFA11C
abbrev ROCE_CNP_RX_COUNT : Nat := 0xFA120
abbrev ROCE_QP_ERROR_COUNT : Nat := 0xFA124
abbrev ROCE_CTX_DATA (k : Nat) : Nat := 0xFA140 + 4 * k
abbrev SP_SHIP_QP : Nat := 0xFB100
abbrev SP_RECV_BASE : Nat := 0xFB104
abbrev SP_RECV_COUNT : Nat := 0xFB108
abbrev SP_ING_BASE : Nat := 0xFB10C
abbrev SP_ING_SIZE : Nat := 0xFB114
abbrev SP_ING_COUNT : Nat := 0xFB118
abbrev SP_PAGES_SENT : Nat := 0xFB11C
abbrev SP_PAGES_RECEIVED : Nat := 0xFB120
abbrev SP_PAGES_PARKED : Nat := 0xFB124
abbrev SP_PAGES_RESTORED : Nat := 0xFB128
abbrev SP_RECV_EMPTY_COUNT : Nat := 0xFB12C
/-- Registers of LUNA CORE, PICCOLO, REFRESH and the like: `luna n k off`. -/
abbrev luna (n k off : Nat) : Nat := (0x040 + 8 * n + k) * 0x1000 + off
end Reg

end Sys2Proof.Machine
end

