-- ==== Sys2Proof/Machine/State.lean ====
section
/-! DEFINITION. The machine's state: every register, memory, queue, counter, mode and pin the spec gives the
module, as plain data, and the queue of waiting commands. -/

namespace Sys2Proof.Machine

open Sys2Proof.Map

/-! ## Time, power, clocks -/

/-- Power and the time base (R30 to R34, R609, R610). -/
structure Clock where
  /-- CCLK cycles since power good (R31: 1.6 GHz, locked to the reference); of a module without power, since it
  went off. -/
  now : Nat := 0
  /-- PWR_EN took the rails away: they stay off for at least 1 s (R610). -/
  offHold : Bool := false
  /-- The rails are up: the module runs. -/
  powered : Bool := false
  /-- The root clock is lost; nothing issues or commits until the next power-up (R34). -/
  rootLost : Bool := false
  /-- Module pins of R610, R611: PWR_EN driven, PWRGD, THERMTRIP_N asserted. -/
  pwrEn : Bool := false
  pwrGood : Bool := false
  thermtrip : Bool := false
  /-- Input voltage below the lockout (R601). -/
  lockout : Bool := false
deriving DecidableEq, Repr

/-! ## Events and the log -/

/-- An event record (R555's table). -/
structure Event where
  tick : Nat
  step : Nat
  block : Nat
  code : Nat
  sev : Nat
  cls : Nat
  request : Nat
  detail : Nat
deriving DecidableEq, Repr

/-- What FIRST_ERR_INFO would capture of the qualifying events of one SCLK cycle (R594). -/
structure FirstErr where
  cycle : Nat
  sev : Nat
  code : Nat
  detail : Nat
  several : Bool := false
deriving DecidableEq, Repr

/-- The event log's writer (R556 to R558) and what the events of one SCLK cycle have done (R594). -/
structure Log where
  /-- Records waiting, oldest first (R556). -/
  queue : List Event := []
  /-- Records dropped from the queue since the last EVTLOG_LOST (R558). -/
  dropped : Nat := 0
  /-- EVTLOG_BASE has been written in this power-up. -/
  baseSet : Bool := false
  stopped : Bool := false
  /-- The record of the last even index, which the writer still holds (R616). -/
  held : Bytes := []
  /-- The index of an EVTLOG_SEL fetch in progress (R557). -/
  fetching : Option Nat := none
  /-- SCLK cycle of each FIRST_ERR_INFO capture, by page (R594). -/
  feCycle : SMap Nat := []
  /-- What a page's last SCLK cycle with qualifying events would capture (R594). -/
  feNow : SMap FirstErr := []
  /-- Events of the breath, collected until its boundary (R29, R274, R313, R512, R540 and others): key code × 2^32 + instance. -/
  breathCount : SMap Nat := []
  /-- What the first occurrence in the breath showed, by the same keys (R205, R357). -/
  breathFirst : SMap Nat := []
  /-- Keys already raised in this breath, for codes raised at most once a breath. -/
  breathSeen : SMap Nat := []
  /-- MSI-X vectors 16–31 signalled in this breath (R519), EVENT_NOTICE sent in this breath (R520). -/
  vecSeen : SMap Nat := []
  noticeSent : Bool := false
  /-- CLASS and REQUEST of the work under way, as its events' records show them; 0xFF and 0 for none. -/
  cls : Nat := 0xFF
  req : Nat := 0
deriving DecidableEq, Repr

/-! ## Registers -/

/-- The register file (R10 to R15, R588 to R595). -/
structure RegFile where
  /-- Words that differ from their reset value, by BAR0 address. -/
  words : SMap Word := []
  /-- Values in force of registers whose writes take effect later (R588). -/
  inForce : SMap Word := []
  /-- High words held by a low-word read (R14), by the low word's address. -/
  holdHigh : SMap Word := []
  /-- Low words written and not yet applied (R15), by the low word's address. -/
  heldLow : SMap Word := []
  /-- Counters as frozen by SNAPSHOT (R595). -/
  snap : SMap Word := []
  /-- Host writes and hardware updates of the current SCLK cycle (R13, R589): hardware-set bits, by address. -/
  hwSet : SMap Word := []
  hwInc : SMap Nat := []
  hwCycle : Nat := 0
  /-- BLK_STATUS.UP of a page (R615). -/
  up : SMap Bool := []
deriving DecidableEq, Repr

/-! ## Sequencer -/

inductive SeqState where
  | stopped | idle | running | halted
deriving DecidableEq, Repr

/-- The sub-slots of a Luna slot and a hub slot, as raw field values (R242, R243). -/
structure LunaSlot where
  agroup : Nat := 0
  tensor : Nat := 0
  move : Nat := 0
  sync : Nat := 0
deriving DecidableEq, Repr

/-- A bundle: header, four hub slots, sixteen Luna slots (R242). -/
structure Bundle where
  header : Nat
  hub : List Nat
  luna : List LunaSlot
deriving DecidableEq, Repr

/-- A completion tag (R258). -/
structure Tag where
  count : Word := 0
  base : Word := 0
  err : Bool := false
  last : Nat := 0
deriving DecidableEq, Repr

/-- The bundle at the execution point (R263): `rep` repetitions done. -/
structure Held where
  bundle : Bundle
  offset : Nat
  rep : Nat := 0
  /-- Compare points since arrival at which each timed cause held: wait, QUIESCE of END, ring hold (R265). -/
  waitHeld : Nat := 0
  quiesceHeld : Nat := 0
  ringHeld : Nat := 0
deriving DecidableEq, Repr

/-- What the last issue cycle issued, and the sub-slots not yet executed by their commands. -/
structure Issued where
  bundle : Bundle
  rep : Nat
  cycle : Nat
  /-- When it issued. -/
  time : Nat := 0
  /-- Slots with a parity mismatch on a die: executed by none (R247). -/
  bad : List (Nat × Nat) := []
  /-- Words of descriptor tables found uncorrectable: die and word (R246). -/
  tableBad : List (Nat × Nat) := []
  /-- Sub-slots done: die × 4 + sub-slot (hubs: sub-slot 0). -/
  done : List Nat := []
deriving DecidableEq, Repr

/-- A scratchpad word: 64 bits, or the poison marker (R281), or an uncorrectable word. -/
structure SWord where
  data : DWord := 0
  poison : Bool := true
deriving DecidableEq, Repr

/-- An accumulator: its 48-bit value field and its status word (R211, R221); at power-up it holds poison. -/
structure Acc where
  value : BitVec 48 := 0x7FE000000001
  status : Word := 0x01000000
deriving DecidableEq, Repr

/-- A tensor operation under way: what it read in its issue cycle, and where its result goes (R249, R618).
`a` and `b` are the words read with their addresses; `fl` the flags of its source tensors. -/
structure TensorOp where
  die : Nat
  op : Nat
  cycle : Nat
  cls : Nat
  func : Nat
  blocks : Nat
  dst : Nat
  kseq : Nat
  fmtA : Nat
  fmtB : Nat
  a : List (Nat × SWord) := []
  b : List (Nat × SWord) := []
  fl : Nat := 0
  /-- Flag word of a VECTOR's destination. -/
  flagAddr : Nat := 0
  obs : AccObs
deriving DecidableEq, Repr

/-- A scheduled write of consecutive words with the flags it ORs into a flag word (R227); a word none is
the poison marker. -/
structure WriteOp where
  die : Nat
  addr : Nat
  words : List (Option DWord)
  /-- Flag word, none for an operation that has no flags to give; whether it is found uncorrectable. -/
  flagAddr : Option Nat
  flags : Nat
  flagBad : Bool := false
  /-- Scheduled reads whose clash poisons the words written, as keys of `Mem.access` (R279). -/
  reads : List Nat := []
deriving DecidableEq, Repr

/-- One delivered Piccolo chunk: its accumulator or word address, KSEQ, FP32 value (0xFFC00001 poison) and
flags [1] OUT_OF_RANGE, [2] BOUND_LAPSED (R86, R210). -/
structure PicChunk where
  dest : Nat
  kseq : Nat
  value : Word
  flags : Nat
deriving DecidableEq, Repr

/-- Effects placed by fixed latencies in later issue cycles (R262). -/
inductive Effect where
  | window (die win : Nat) (opening : Bool) (entryBad : List Nat)
  | ring (die ring : Nat) (publish : Bool)
  | flagClear (die addr : Nat)
  | tensor (op : TensorOp)
  | write (op : WriteOp)
  | accChunks (die : Nat) (cs : List PicChunk) (obs : AccObs)
  | stageChunks (die : Nat) (cs : List PicChunk) (flagAddr : Nat) (flagBad : Bool)
deriving DecidableEq, Repr

/-- The sequencer (R238 to R274). -/
structure Seq where
  state : SeqState := .stopped
  run : Bool := false
  stepError : Bool := false
  program : Nat := 0
  /-- Program chosen by the step planner, to start when issue continues (R270). -/
  chosen : Option Nat := none
  /-- Store byte offset of the next record and of the program's end. -/
  next : Nat := 0
  last : Nat := 0
  held : Option Held := none
  issued : Option Issued := none
  /-- Issue cycle within the program. -/
  cycle : Nat := 0
  /-- When the bundle at the execution point arrived, and its compare points so far (R263). -/
  arrival : Option Nat := none
  points : Nat := 0
  /-- Split time remaining in ACLK (R264). -/
  split : Nat := 0
  /-- The stall cause shown in SEQ_STATUS.STALL. -/
  stall : Nat := 0
  /-- Code of the FATAL event that stops issue at the next boundary (R272). -/
  fatal : Option Nat := none
  /-- END has issued and waits as QUIESCE (R270). -/
  ending : Bool := false
  /-- The quiesced step waits for its commit. -/
  commitReady : Bool := false
  tags : SMap Tag := []
  /-- Program runs started; the current program's descriptors carry it (QUIESCE). -/
  epoch : Nat := 0
  effects : List (Nat × Effect) := []
  /-- SEQ_WAIT_TIMEOUT in force. -/
  timeout : Nat := 20000000
  /-- A wait, hold or QUIESCE has reached its timeout (R265). -/
  timeoutDue : Option (Nat × Nat) := none
  /-- The wave's row groups as the batch tables give them (R112, R393). -/
  batch : List RowGroup := []
  /-- The trace of MARK: issue cycle, die, value (R262). -/
  trace : List (Nat × Nat × Nat) := []
deriving DecidableEq, Repr

/-! ## Scratchpad, HBM, windows, transfers -/

/-- A slot ring's counters (R289). -/
structure Ring where
  p : Word := 0
  c : Word := 0
deriving DecidableEq, Repr

inductive WinState where
  | closed | opened | closing
deriving DecidableEq, Repr

/-- An admitted write in flight (R309): source module, sending die and thread; the base, ARRIVE tag and LINKED
ring of the entry it was admitted under; packets of the write, packets landed, slots it broke R291 in, and
whether a packet was poisoned. -/
structure Flight where
  src : Nat
  die : Nat
  thread : Nat
  base : Nat
  arrive : Option Nat := none
  ring : Option Nat := none
  packets : Nat
  got : Nat := 0
  slots : List Nat := []
  poison : Bool := false
deriving DecidableEq, Repr

/-- A remote window with the entry its last open latched (R305, R306) and its writes in flight (R309). -/
structure Win where
  state : WinState := .closed
  base : Nat := 0
  len : Nat := 0
  mask : DWord := 0
  arrive : Option Nat := none
  ring : Option Nat := none
  /-- Admitted writes not landed (R309). -/
  flight : List Flight := []
deriving DecidableEq, Repr

/-- Where a transfer in a thread stands: its check waits for a hold-mode ring slot that holds its length word or page
list (R293), its class is gated (R257), its data waits for such a slot,
its local remote-window write has not landed, its reply has not come (R494), its queue pair works on it (R533),
or all of its effects are done and its status is known. -/
inductive XferPhase where
  | startHold | gated | ringHold | landing | waitReply | queuePair | finished
deriving DecidableEq, Repr

/-- A transfer descriptor as issued (R251, R252): its table index, its 32 bytes, and the program run that
issued it (QUIESCE). -/
structure Desc where
  index : Nat
  bytes : Bytes
  epoch : Nat
  /-- The CCLK cycle of its ISSUE (R262). -/
  time : Nat := 0
deriving DecidableEq, Repr

/-- A transfer thread in use. `sentAt` is the tick at which a SEND's last frame left, `dst` its module. -/
structure Xfer where
  desc : Desc
  phase : XferPhase := .gated
  status : Nat := 0
  /-- Side of a bounds failure, for XFER_BOUNDS. -/
  side : Nat := 0
  sentAt : Nat := 0
  dst : Nat := 0
  /-- Some packets were poisoned. -/
  poison : Bool := false
  /-- The CCLK cycle from which a ZERO_LEN completion is visible (R262). -/
  due : Nat := 0
  /-- Slots of the die whose underrun the transfer has counted: ring and slot (R292). -/
  counted : List (Nat × Nat) := []
deriving DecidableEq, Repr

/-- Corrected errors of an HBM row (R300): the powered hour, the distinct breaths of it with one, the last such
breath, and whether HBM_ROW_SUSPECT has been raised in the hour. -/
structure RowCe where
  hour : Nat := 0
  breaths : Nat := 0
  last : Nat := 0
  raised : Bool := false
deriving DecidableEq, Repr

/-- Memories and movement. -/
structure Mem where
  /-- Scratchpad words by die × 2^26 + word; unlisted words read as the poison marker (R284). -/
  spad : SMap SWord := []
  /-- HBM bytes by address (R294); unlisted bytes read 0. -/
  hbm : SMap Byte := []
  /-- Bursts holding the poison marker, by address / 64 (R299). -/
  hbmPoison : SMap Bool := []
  rings : SMap Ring := []
  wins : SMap Win := []
  /-- Issue queue of each die, oldest first (R252). -/
  queue : SMap (List Desc) := []
  /-- Threads by die × 1024 + thread. -/
  threads : SMap Xfer := []
  /-- Segments that the quantiser clipped, by scratchpad key of the first word: their words, and by element what it
  was in units of σ before clipping (R66, R108, R121). -/
  clips : SMap (List DWord × List (Nat × Rat)) := []
  /-- Scheduled accesses by (issue cycle × 20 + die) × 128 + bank, and the keys of banks found in conflict
  (R277, R279). -/
  access : SMap Nat := []
  clash : List Nat := []
  /-- Keys of the reads noted for the operation at hand. -/
  noted : List Nat := []
  /-- Banks found failed at the last self-test: logical 0–127 and spares 128–131. -/
  bankFail : List (Nat × Nat) := []
  selfTest : SMap Bool := []
  /-- The scrub of a die: the period of SCRUB_HOURS it is in, and the next word to read (R283). -/
  scrubAt : SMap (Nat × Nat) := []
  /-- Row being retired, by stack (R301); the retired rows are in the NVM record area. -/
  retiring : SMap Nat := []
  /-- Corrected errors of a row in the powered hour, by stack × 2^27 + row (R300). -/
  rowCe : SMap RowCe := []
deriving DecidableEq, Repr

/-! ## Breath budgets and Atlas -/

/-- Budgets and spends (R429 to R440). Resources: 0 array passes, 1 HBM bursts, 2 fabric bytes, 3 charged
package energy in 1/100 pJ. -/
structure Breath where
  number : Word := 0
  /-- BREATH_TICKS in force and the tick of the last boundary. -/
  ticks : Nat := 800000
  start : Nat := 0
  /-- Tick of the last write of BREATH_TICKS (R430). -/
  ticksAt : Nat := 0
  /-- Spends by class × 4 + resource, in the units above (borrowed charges at the lender). -/
  spend : SMap Nat := []
  /-- Charges not yet seen at compare points: issue count from which they are, class, resource, amount (R437). -/
  fresh : List (Nat × Nat × Nat × Nat) := []
  /-- Energy borrowed in 1/100 pJ and the lenders drawn on in this breath (R438). -/
  borrowed : Nat := 0
  lenders : Nat := 0
  idle : Bool := false
  /-- Module gate: 0 open, 1 all classes, 2 all but DECODE, 3 allowance below base (R443). -/
  gate : Nat := 0
  gateFrom : Nat := 0
  gatedTicks : Nat := 0
  gateCause : Nat := 0
  gatedMask : Nat := 0
  /-- Classes and resources a gate closed in this breath, by class: resource bits (BREATH_EXHAUSTED). -/
  exhausted : SMap Nat := []
deriving DecidableEq, Repr

/-- The last sample of a die: its tick, the power of each rail in µW (R441), and the package energy (1/100 pJ;
all rails, hub rails 2–4) of the running interval that a breath boundary has already counted. -/
structure Sample where
  tick : Nat := 0
  rails : List Nat := []
  counted : Nat := 0
  countedHbm : Nat := 0
deriving DecidableEq, Repr

/-- The Atlas ledger (R441 to R445). Energies are in 1/1024 µJ of input energy. -/
structure Atlas where
  /-- K × 65,536. -/
  k : Nat := 65536
  allowance : Nat := 0
  /-- A boundary has set an allowance. -/
  allowed : Bool := false
  /-- Counters 0–9 classes, 10 UNATTRIBUTED, 11 TOTAL. -/
  energy : SMap Nat := []
  /-- Measured in the breath so far, and up to the last sample tick. -/
  meas : Nat := 0
  lastSample : Nat := 0
  /-- Charged package energy (1/100 pJ): in the breath, since the last sample, and by die × 16 + class in the interval. -/
  chgBreath : Nat := 0
  chgSince : Nat := 0
  chgDie : SMap Nat := []
  /-- The same of the interval that the running scan ends, and `chgSince` when the scan started. -/
  chgInt : SMap Nat := []
  chgMark : Nat := 0
  /-- Charged package energy of each die in the breath (R455) and measured package energy of it (R461), in 1/100 pJ. -/
  dieChg : SMap Nat := []
  dieMeas : SMap Nat := []
  /-- The part of `dieMeas` drawn by hub rails 2–4 (R461). -/
  dieHbm : SMap Nat := []
  samples : SMap Sample := []
  last : Nat := 0
  winSpent : Nat := 0
  winIndex : Nat := 0
  winCount : Nat := 0
  winBudget : Nat := 0
  winLow : Bool := false
deriving DecidableEq, Repr

/-! ## Housekeeping and thermal -/

/-- A result of the housekeeping converter (R453, R456). -/
structure HkcRes where
  value : Int := 0
  valid : Bool := false
  seq : Byte := 0
deriving DecidableEq, Repr

/-- One die's housekeeping converter (R449 to R456). -/
structure Hkc where
  calBusy : Bool := false
  calFail : Bool := false
  calDone : Bool := false
  offset : Int := 0
  gain : Nat := 32768
  /-- On-demand conversion of a channel pending; a diode read pending. -/
  conv : Option Nat := none
  diode : Bool := false
  /-- CCLK edges: HKC_CAL started; the pending conversion ends; the pending diode read ends (R451, R452, R466). -/
  calAt : Nat := 0
  convAt : Nat := 0
  diodeAt : Nat := 0
  scanning : Bool := false
  scanTick : Nat := 0
  results : SMap HkcRes := []
deriving DecidableEq, Repr

/-- The thermal model and throttling (R461 to R477). FP32 words. -/
structure Therm where
  td : SMap Word := []
  tp : Word := 0
  seeded : Bool := false
  seededAt : Nat := 0
  /-- Readings of a SEED waiting for the boundary (R464). -/
  seed : Option (List DiodeObs) := none
  /-- A SEED's diode reads are pending. -/
  est : SMap Int := []
  rate : SMap Int := []
  plate : Int := 0
  /-- Estimates at past boundaries, newest first: tick and the twenty estimates (R470, R472). -/
  history : List (Nat × List Int) := []
  f : Nat := 100
  nf : Nat := 0
  d : Nat := 0
  throttled : Nat := 0
  /-- Dies whose WARN, RATE, LOW, LOW_BLOCK event has been raised and is not re-armed (R469). -/
  warned : List Nat := []
  rated : List Nat := []
  lowed : List Nat := []
  blocked : List Nat := []
  tripped : Bool := false
  tripTick : Nat := 0
deriving DecidableEq, Repr

/-! ## What the module sends -/

/-- A RoCE message this module requests (R527). -/
inductive RoceMsg where
  | send (data : Bytes)
  | write (rkey addr : Nat) (data : Bytes)
  | read (rkey addr len : Nat)
deriving DecidableEq, Repr

/-- A numbered frame of a Shawm port (R484, R499 to R504). `part` numbers the frames of one message. -/
inductive Frame where
  | tensor (f : WriteFrame)
  | control (vc : Bool) (src dst op : Nat) (fields : List Nat)
  | go (vc : Bool) (dst part : Nat) (msg : GoMsg)
  | commitDone (vc : Bool) (dst part : Nat) (msg : CommitMsg)
  | broadcast (packets : List Bytes)
  | sync (master accum ticks number : Nat)
deriving DecidableEq, Repr

/-- A frame on a port: of a forwarded one, the sequence number and the frame received (R485, R491). -/
structure LinkFrame where
  frame : Frame
  recv : Option (Nat × Frame) := none
deriving DecidableEq, Repr

/-- What leaves the module: frames with their CRC, LINK frames, interrupts, read data, RoCE messages and replies, pins. -/
inductive Output where
  | frame (port seq : Nat) (f : Frame) (crc : Nat)
  | link (port lop : Nat) (fields : List Nat)
  | msix (vector : Nat)
  | hostData (value : Word)
  | hostPoison
  | roce (qp : Nat) (msg : RoceMsg)
  | roceAck (qp : Nat)
  | roceNak (qp kind : Nat)
  | roceData (qp : Nat) (data : Bytes)
  | cnp (qp : Nat)
  | pfc (port prio : Nat) (off : Bool)
  | thermtrip
  | pwrgd (high : Bool)
deriving DecidableEq, Repr

/-! ## Fabric and Drone -/

/-- One Shawm port (R479 to R487). -/
structure ShawmPort where
  up : Bool := false
  training : Bool := false
  trainFail : Bool := false
  helloOk : Bool := false
  partner : Nat := 0
  delay : Nat := 0
  /-- Next sequence number sent and expected (R486). -/
  txSeq : BitVec 20 := 0
  rxSeq : BitVec 20 := 0
  /-- A NAK has been sent and its frame has not arrived. -/
  nakSent : Bool := false
  /-- Frames sent and not acknowledged, oldest first, at most 512, and frames waiting for an ACK (R487). -/
  unacked : List LinkFrame := []
  waiting : List LinkFrame := []
  /-- Of TENSOR and BROADCAST, the last frame was TENSOR; TYPEs whose last frame was a forwarded one (R491). -/
  lastTensor : Bool := false
  lastFwd : List Nat := []
  oldestAt : Nat := 0
  /-- The frame replayed last and its consecutive replays; above 8 when eight of them have failed. -/
  replaySeq : BitVec 20 := 0
  replays : Nat := 0
  /-- Frames accepted since the last ACK sent, and when it was sent. -/
  sinceAck : Nat := 0
  ackAt : Nat := 0
  hello : Option Hello := none
deriving DecidableEq, Repr

/-- A tunnel read in flight at the lead (R498, R522). -/
structure TunnelRead where
  window : Nat
  tag : Nat
  target : Nat
  offset : Nat
  sent : Nat
deriving DecidableEq, Repr

/-- The fabric (R478 to R503). -/
structure Fabric where
  ports : SMap ShawmPort := []
  routeOk : Bool := false
  /-- Notices seen: reporter, port, tick (R495). -/
  notices : List (Nat × Nat × Nat) := []
  /-- Next TAG of each tunnel window, and the reads in flight (R499, R522). -/
  tagNext : SMap Nat := []
  reads : List TunnelRead := []
deriving DecidableEq, Repr

inductive DroneState where
  | free | acquiring | locked | holdover | unlocked
deriving DecidableEq, Repr

/-- The Drone counter and its synchroniser (R504 to R510). Sixteenths of a tick are signed. -/
structure Drone where
  count : Nat := 0
  running : Bool := false
  state : DroneState := .free
  theta : Int := 0
  rho : Int := 0
  carry : Int := 0
  /-- Whole ticks still to apply: adds positive, holds negative. -/
  corr : Int := 0
  /-- Whole ticks that the next breath adds to them (R505). -/
  next : Int := 0
  /-- Ticks between two corrections of this breath. -/
  every : Nat := 1024
  lastCorr : Nat := 0
  path : Nat := 0
  /-- A RESYNC waits for its SYNC. -/
  armed : Bool := false
  good : Nat := 0
  synced : Bool := false
  missed : Nat := 0
  mismatch : Nat := 0
  /-- DRONE_OFFSET raised in this breath. -/
  offsetSeen : Bool := false
deriving DecidableEq, Repr

/-! ## Host, Ethernet, RoCE -/

/-- Whose message a queue pair carries: a transfer, a ship, park or resume of a request (page by page), or an
egress write. -/
inductive WorkOwner where
  | xfer (die thread : Nat)
  | ship (req page : Nat)
  | park (req page : Nat)
  | resume (req page : Nat)
  | egress (target : Nat)
deriving DecidableEq, Repr

/-- A message queued on a queue pair and not yet acknowledged. -/
structure Work where
  owner : WorkOwner
  msg : RoceMsg
deriving DecidableEq, Repr

/-- What a queue pair holds beside its context (R527, R531, R532): the send rate in Gb/s, the times (CCLK) of
the last CNP sent and of the last CNP or rate step, of the oldest message's last transmission, retries used,
whether an RNR NAK is being waited out, and the queue, oldest first. -/
structure QpState where
  rate : Rat := 400
  cnpSent : Option Nat := none
  cnpAt : Nat := 0
  sentAt : Nat := 0
  retries : Nat := 0
  rnrRetries : Nat := 0
  rnrWait : Bool := false
  queue : List Work := []
  /-- Messages at the front of the queue that have been sent at least once. -/
  sent : Nat := 0
deriving DecidableEq, Repr

/-- A port's pause episodes: priorities held paused since, and storms raised (R525). -/
structure EthState where
  up : Bool := false
  fecLock : Bool := false
  paused : SMap Nat := []
  storm : List Nat := []
  /-- Priorities on which XOFF stands. -/
  xoff : List Nat := []
deriving DecidableEq, Repr

/-- Host interfaces (R513 to R540). -/
structure Hostif where
  busMaster : Bool := false
  d3hot : Bool := false
  linkUp : Bool := false
  refclk : Bool := false
  /-- Host-interface memory behind BAR2, by offset (R517). -/
  bar2 : SMap Byte := []
  qps : SMap QpState := []
  /-- Context table entries by table × 4096 + index; unlisted entries are zero (R528). -/
  ctx : SMap Bytes := []
  eth : SMap EthState := []
deriving DecidableEq, Repr

/-! ## Signed streams, attestation -/

/-- A broadcast stream in progress (R502, R544 to R548). -/
structure Stream where
  /-- RESULT of SECURE_STREAM_STATUS. -/
  result : Nat := 0
  kind : Nat := 0
  key : Nat := 0
  records : Nat := 0
  shape : Nat := 0
  root : Bytes := []
  leaves : List Bytes := []
  stored : Nat := 0
  /-- Records that have passed. -/
  passed : Nat := 0
  /-- Bundle-store records stored with their place: record, word address, words. -/
  places : List (Nat × Nat × Nat) := []
  signed : Bool := true
  /-- Configuration records stored in it, and the bytes of the last (R548). -/
  configs : Nat := 0
  config : Bytes := []
deriving DecidableEq, Repr

/-- The secure unit (R543 to R552). -/
structure Secure where
  devMode : Bool := false
  stream : Stream := {}
  wingsetOk : Bool := false
  /-- The shadow of the dies is that of an accepted stream; the bundle store is, and may be used (R546). -/
  shadowOk : Bool := false
  storeOk : Bool := false
  storeSigned : Bool := false
  /-- ROOT of the accepted wingset or restore, and of the store in use. -/
  wingset : Bytes := []
  store : Bytes := []
  attestBusy : Bool := false
  attestDone : Bool := false
  report : Bytes := []
  /-- The report being signed, as of the SCLK cycle of its command. -/
  draft : Bytes := []
deriving DecidableEq, Repr

/-! ## Start-up, NVM, service life -/

inductive BootState where
  | starting | held | failed | readyLocal | ready
deriving DecidableEq, Repr

/-- Start-up (R563 to R570). -/
structure Boot where
  state : BootState := .starting
  step : Nat := 0
  failEvent : Nat := 0
  recordIncomplete : Bool := false
  offSafe : Bool := false
  /-- Firmware copy running; both copies failed. -/
  fwCopy : Bool := false
  fwNone : Bool := false
  /-- NVREC_HOST_TIME has been completed in this power-up (R578). -/
  hostTimeSet : Bool := false
  /-- REFRESH_OFF_HOURS written, by die; a step commit has happened (R166). -/
  offHours : List Nat := []
  committed : Bool := false
  /-- Dies whose baseline check has passed (R72, R99). -/
  baselined : List Nat := []
  /-- What the latest start-up showed: what a BOOT_CMD through a register meets again. -/
  phys : Option StartupObs := none
  /-- Lanes found failed at each link's last training (D2D_FAIL_MAP). -/
  lanesFailed : List Lane := []
  fwBusy : Option (Nat × Nat) := none
  fwResult : Nat := 0
  /-- Dies on which INSTALL has completed since the stream was accepted, with arrays programmed and failed (R568). -/
  installDone : List (Nat × Nat × Nat) := []
  /-- The last powered hour at which the life records were written (R575). -/
  hour : Nat := 0
  /-- SCLK cycle of the last write of the life records (R570). -/
  lifeAt : Option Nat := none
deriving DecidableEq, Repr

/-- A die's life record (the table of Life records). Estimates in 1/16 °C. -/
structure Life where
  poweredS : Nat := 0
  seq : Nat := 0
  powerUps : Nat := 0
  ageClock : Nat := 0
  /-- Sum of estimate × ticks and the ticks summed, for MEAN_EST. -/
  estSum : Int := 0
  estTicks : Nat := 0
  /-- Ticks in each band of BAND_S. -/
  bands : List Nat := [0, 0, 0, 0, 0, 0]
  peak : Int := 0
  /-- Measured input energy in 1/1024 µJ. -/
  energy : Nat := 0
  pool : Nat := 0
  factory : Nat := 0
  rotations : Nat := 0
  replacements : Nat := 0
  throttleTicks : Nat := 0
  trips : Nat := 0
  /-- LIFE_TEMP_HIGH raised and not armed again; LIFE_NEAR_END and LIFE_END raised (R579). -/
  hot : Bool := false
  nearEnd : Bool := false
  ended : Bool := false
deriving DecidableEq, Repr

/-- The module's life record. -/
structure ModLife where
  poweredS : Nat := 0
  seq : Nat := 0
  powerUps : Nat := 0
  devCount : Nat := 0
  trips : Nat := 0
  clockLosses : Nat := 0
  resets : Nat := 0
  installs : Nat := 0
  hostTime : Nat := 0
  fwCopy : Nat := 0
deriving DecidableEq, Repr

/-- An install record (R574). -/
structure InstallRec where
  seq : Nat
  wingset : Bytes
  poweredS : Nat
  hostTime : Nat
  programmed : Nat
  failed : Nat
  equiv : Nat
deriving DecidableEq, Repr

/-- A logical map entry (chapter 2's table): VALID, MAXLEVEL, PHYS. -/
structure MapEntry where
  valid : Bool := false
  level : Nat := 0
  phys : Nat := 0
deriving DecidableEq, Repr

/-- A physical array's record: STATE 0 FREE_SPARE, 1 IN_USE, 2 PROGRAMMING, 3 AUDIT, 4 RETIRED; repair lists;
and its wear record (R82's table, R167). -/
structure Phys where
  state : Nat := 0
  rows : List Nat := []
  cols : List Nat := []
  adc : Nat := 0xFF
  logical : Nat := 0xFFFF
  programs : Nat := 0
  programmedAt : Nat := 0
  auditCells : Nat := 0
  auditDrift : Nat := 0
  audits : Nat := 0
  iterMax : Nat := 0
  cause : Nat := 0
deriving DecidableEq, Repr

/-- The NVM record area (R571 to R578): what outlives a power cycle. -/
structure Nvm where
  /-- Factory identity, trims and model defaults, by the register they load. -/
  trims : SMap Word := []
  fwPref : Bool := false
  fwDigest : Bytes × Bytes := ([], [])
  /-- The identity block, the identity public key and the certificate chain. -/
  identity : Bytes := []
  idKey : Bytes := []
  cert : Bytes := []
  lanes : List Lane := []
  /-- Shawm spares of a port, TX × 16 + RX; 0xFF none. -/
  shawmSpare : SMap Nat := []
  /-- SPAD_REPAIR [31:0] of a die. -/
  banks : SMap Word := []
  spareFail : SMap Nat := []
  /-- Retirements, oldest first: stack × 2^27 + row (R301). -/
  rows : List Nat := []
  installs : List InstallRec := []
  life : SMap Life := []
  modLife : ModLife := {}
  history : SMap Life := []
  /-- Shutdown record, erased when none; its history by slot, at most 16, and records ever put there. -/
  shutdown : Option Bytes := none
  shutHistory : List Bytes := []
  shutCount : Nat := 0
  devEver : Bool := false
  spares : Nat := 256
  generation : Word := 0
  /-- Logical maps (die × 4096 + logical), physical records and β of R101 (die × 2^13 + physical): they stand
  here while the module runs too (R167). -/
  map : SMap MapEntry := []
  phys : SMap Phys := []
  /-- Physical records whose last write failed: what the record area still holds of them (R571). -/
  stale : SMap Phys := []
  beta : SMap Int := []
  /-- Weight codes L⁺ − L⁻ of the cell pairs of physical arrays, die × 2^13 + physical (R38): cells other than 0 by row
  × 536 + column. An array not listed is erased. -/
  cells : SMap (SMap Int) := []
  /-- Pending-swap entries: die, logical, spare (R153, R157). -/
  swaps : List (Nat × Nat × Nat) := []
  /-- Arrays in AUDIT that go to RETIRED (R160), die × 2^13 + physical; logical arrays with REFRESH_AGE_WARN raised
  (R168), die × 4096 + logical. -/
  retireOld : List Nat := []
  ageWarned : List Nat := []
deriving DecidableEq, Repr

/-! ## Tensor engines and formats -/

/-- The accumulators and what the current completion cycle has added (R206 to R237). -/
structure Tensor where
  /-- By die × 2^17 + accumulator. -/
  accs : SMap Acc := []
  /-- Completion cycle of the chunks counted in `chunks` (by accumulator) and `adds` (by die) (R219, R220). -/
  cycle : Nat := 0
  chunks : SMap Nat := []
  adds : SMap Nat := []
  /-- MACs below one unit of TENSOR_MAC_COUNT, by die. -/
  macs : SMap Nat := []
deriving DecidableEq, Repr

/-- A widening table entry (R197 to R200): state 0 NARROW, 1 REQUESTED, 2 WIDE; `sat` and `blocks` of the step. -/
structure Widen where
  valid : Bool := false
  layer : Nat := 0
  space : Nat := 0
  hbm : Nat := 0
  en : Bool := false
  thresh : Nat := 0
  state : Nat := 0
  /-- Blocks of the current step: underflown, saturated, quantised; the tensor ran narrow (R190, R198). -/
  under : Nat := 0
  sat : Nat := 0
  blocks : Nat := 0
  narrow : Bool := false
  /-- Saturated and quantised blocks of the step committed last, whether it ran narrow, and whether that commit's test
  changed the state. -/
  last : Nat × Nat × Bool := (0, 0, false)
  fresh : Bool := false
deriving DecidableEq, Repr

/-- Widening (R196 to R205). -/
structure Fmt where
  entries : SMap Widen := []
  /-- Commands latched for the next commit, oldest first. -/
  cmds : List Word := []
  /-- Layers with FMT_WIDEN_DENIED raised. -/
  denied : List Nat := []
  /-- SCLK cycle of the last step commit. -/
  commitAt : Option Nat := none
deriving DecidableEq, Repr

/-! ## Key-value cache -/

/-- A first-in, first-out list of numbers: those never yet taken, `fresh` to `limit` − 1, and then those
returned, oldest first (R327). -/
structure Fifo where
  fresh : Nat := 0
  limit : Nat := 0
  back : List Nat := []
deriving DecidableEq, Repr

/-- The page engine's lists (R327, R329, R342, R356).  The page table, page headers, pages and the prefix
table are bytes of HBM. -/
structure Kv where
  /-- Free pages by quadrant, free entries. -/
  pages : SMap Fifo := []
  entries : Fifo := {}
  /-- Entries whose page CRC is to be computed, oldest first. -/
  crcDue : List Nat := []
  /-- Valid prefix entries. -/
  prefixValid : Nat := 0
  /-- Powered seconds aged so far (R354). -/
  aged : Nat := 0
deriving DecidableEq, Repr

/-! ## Luna arrays, Piccolo, programming -/

/-- A tracker (R90 to R96): state 0 UNSEEDED, 1 ACTIVE, 2 STALE, 3 LOST; the regression sums in WA48; the values
that reads starting before a time still use, oldest first (R94); and which of its events have been logged since
its seeding (R133). -/
structure Tracker where
  g : Word := 0
  o : Int := 0
  last : Nat := 0
  run : Nat := 0
  state : Nat := 0
  me : BitVec 48 := 0
  ee : BitVec 48 := 0
  sum6 : Int := 0
  count : Nat := 0
  recent : List (Nat × Word × Int × Nat) := []
  drifted : Bool := false
  lost : Bool := false
deriving DecidableEq, Repr

/-- A margin record: the mean of η² is kept in 10⁻¹⁴; the powered hour of the last SHADOW_MARGIN_LOW (R123,
R124). -/
structure Margin where
  samples : Nat := 0
  exceeds : Nat := 0
  maxEta : Nat := 0
  mean : Nat := 0
  lowHour : Option Nat := none
deriving DecidableEq, Repr

/-- A shadow sample (R121): elements as delivered, those clipped before the segment was stored, static rows with x̃,
the eight results before T_ad (poison 0xFFC00001), the read's flags and its bound in 10⁻⁵ (R67, R68). -/
structure ShadowSample where
  logical : Nat
  phys : Nat
  step : Nat
  temp : Int
  sigma : Word
  elems : List Int
  clipped : List (Nat × Rat) := []
  static : List (Nat × Word)
  group : Nat
  results : List Word
  flags : Nat
  bound : Nat
deriving DecidableEq, Repr

/-- An array-group operation that has executed and waits for its first pass (R47): the issue cycle that carried
it, the issue cycle and the time of its start edge, its descriptor and list entries. -/
structure ArrOp where
  cls : Nat
  cycle : Nat
  startCycle : Nat
  edge : Nat
  trn : Bool
  a8 : Bool
  row : Nat
  desc : Bytes
  entries : List Nat
deriving DecidableEq, Repr

/-- One nibble pass of a read: skipped (R58), split (R54), its signed nibbles by logical row or column. -/
structure PassPlan where
  skip : Bool
  split : Bool
  nibs : List Int
deriving DecidableEq, Repr

/-- What an output needs beside its code (R84, R113): s_j, g_col or g_row, T_out, T_stat, and T_ad. -/
structure OutTerm where
  scale : Word
  gain : Word
  out : Word
  stat : Word
  ad : Word
deriving DecidableEq, Repr

/-- A read of one array under way (R49): due in issue cycle `due` (R118), its outputs from `dest`. `flags` are
[1] OUT_OF_RANGE and [2] BOUND_LAPSED. -/
structure ArrRead where
  logical : Nat
  phys : Nat
  cls : Nat
  trn : Bool
  a8 : Bool
  start : Nat
  due : Nat
  dest : Nat
  kseq : Nat
  staged : Bool
  flagAddr : Nat
  flags : Nat
  poison : Bool
  cfg : Word := 0
  g : Word := 0
  o : Int := 0
  kt : Word := 0
  sigma : Word := 0
  passes : List PassPlan := []
  /-- Extension of its operation, in ACLK cycles (R56). -/
  ext : Nat := 0
  terms : List OutTerm := []
  /-- Outputs whose terms are not complete at delivery (R119). -/
  late : List Nat := []
  /-- Static rows of the array, with x̃ (R106). -/
  static : List (Nat × Word) := []
  /-- The segment's elements as delivered, and what those that dynamic clipping cut were (R66, R121). -/
  elems : List Int := []
  clipped : List (Nat × Rat) := []
  temp : Int := 0
  bound : Nat := 0
  /-- Scheduled reads of its segment and adapter row, and of its tables, as keys of `Mem.access` (R277). -/
  spots : List Nat := []
  tabSpots : List Nat := []
deriving DecidableEq, Repr

/-- What a program channel does: an installation, an installation's erase, a rotation, a replacement or an
audit (R144 to R160). -/
inductive ChanKind where
  | install | erase | rotate | replace | audit
deriving DecidableEq, Repr

/-- A busy program channel (R142 to R147): `gated` CCLK cycles of it are not counted, `gatedAt` says since when
it is gated; `aborted` a background pass of it waits to rerun (R143). -/
structure Channel where
  kind : ChanKind
  phys : Nat
  logical : Nat := 0xFFFF
  repair : Bool := false
  since : Nat
  gated : Nat := 0
  gatedAt : Option Nat := none
  aborted : Bool := false
  /-- Number in the order of starts. -/
  order : Nat
  /-- Staging block. -/
  stage : Nat := 0
deriving DecidableEq, Repr

/-- A pending swap (R153 to R156): `level` is the new entry's MAXLEVEL. -/
structure Swap where
  logical : Nat
  spare : Nat
  stage : Nat
  seededAt : Nat
  level : Nat
  /-- A rotation's, not a REPLACE's (R151). -/
  rotation : Bool := true
deriving DecidableEq, Repr

/-- REFRESH_CMD in progress and REFRESH_CMD_STATUS (R148 to R170). -/
structure RefreshCmd where
  busy : Bool := false
  deferred : Bool := false
  done : Nat := 0
  failed : Nat := 0
  result : Nat := 0
  op : Nat := 0
  logical : Nat := 0
  phys : Nat := 0
  repair : Bool := false
  retireOld : Bool := false
  /-- CANCEL has come in that SCLK cycle; the command ends with its channels' present phases. -/
  cancelAt : Option Nat := none
  /-- A REPLACE that CANCEL ended in that SCLK cycle: its logical array and RETIRE_OLD (R170). -/
  cancelled : Option (Nat × Nat × Bool) := none
  /-- INSTALL: logical arrays still to program and to erase. -/
  todo : List Nat := []
  erase : List Nat := []
  /-- REPLACE: waiting for a channel or a spare, programming, or its swap pending. -/
  waiting : Bool := false
deriving DecidableEq, Repr

/-- One Luna die beside its registers and memories. -/
structure LunaDie where
  lfsr : Word := 1
  /-- MAP_GENERATION. -/
  mapGen : Word := 0
  shadow : List ShadowSample := []
  scheduled : List ArrOp := []
  reads : List ArrRead := []
  /-- Read slots taken: from and to a CCLK cycle, arrays (R63). -/
  slots : List (Nat × Nat × Nat) := []
  /-- Rates of R119 spent: CCLK cycle × 4 + kind. -/
  rates : SMap Nat := []
  channels : SMap Channel := []
  chanCount : Nat := 0
  pending : List Swap := []
  cmd : RefreshCmd := {}
  /-- Arrays in AUDIT whose audit has not begun; those whose audit the window stopped (R146, R155). -/
  auditDue : List Nat := []
  auditHeld : List Nat := []
  /-- The estimate lay in the window of R145 at the last boundary. -/
  inWindow : Bool := false
  /-- Free staging blocks, as word addresses (R141, R154). -/
  stages : List Nat := (List.range 16).map (· * 768)
  /-- ARRAY_BOUND_LAPSED raised: logical × 4 + cause. -/
  lapsed : List Nat := []
  /-- COLCAL runs since a CCLK cycle; DONE of COLCAL_STATUS; the baseline check after a COLCAL runs (R457). -/
  colSince : Option Nat := none
  colDone : Bool := false
  checking : Bool := false
  /-- The next physical array of the baseline check (R98). -/
  checkFrom : Nat := 0
deriving DecidableEq, Repr

/-- A COLCAL record (R460): failed column ADCs as bits, failed row converters, largest trims. -/
structure ColRec where
  cols : Nat := 0
  rows : Nat := 0
  offset : Nat := 0
  gain : Nat := 0
deriving DecidableEq, Repr

/-- The Luna dies; trackers, margin and COLCAL records by die × 2^13 + physical array. -/
structure LunaState where
  dies : SMap LunaDie := []
  trackers : SMap Tracker := []
  margins : SMap Margin := []
  colRecs : SMap ColRec := []
  /-- β that K_T uses until the next breath boundary, where a program has written another (R101). -/
  betaOld : SMap Int := []
  /-- Split extension counted for each bundle's issue cycle (R57, R264). -/
  splits : SMap Nat := []
deriving DecidableEq, Repr

/-! ## Adapters, training, serving -/

/-- Adapter commands and the training job of a module (R360, R367, R380). -/
structure Adapt where
  /-- ADAPTER_CMD latched for the next step commit. -/
  cmd : Option Word := none
  /-- Request ID of the active job, its adapter, and updates taken. -/
  job : Nat := 0
  adapter : Nat := 0
  steps : Nat := 0
  /-- Whether it has failed under R379. -/
  failed : Bool := false
  /-- A job that has ended and whose digest is being computed: request, adapter, cause, steps. -/
  ending : Option (Nat × Nat × Nat × Nat) := none
  /-- Entries that a LOAD has made known, by index, as the module keeps them (R358). -/
  table : SMap Bytes := []
  /-- The active job's parameter block, the next sequence record's address, and the page table entries that each sequence of
  the micro-batch under way has reserved (R368). -/
  params : Bytes := []
  dataAt : Nat := 0
  batch : List (List Nat) := []
deriving DecidableEq, Repr

/-- A module's part in shipping, parking or resuming a request (R417 to R424): KIND, STATUS, CAUSE and pages as
IO_PROGRESS gives them; `ticket` or park handle; remote target and offset; sender's request ID; whether the
manifest has been accepted. -/
structure IoJob where
  kind : Nat
  status : Nat := 0
  cause : Nat := 0
  done : Nat := 0
  total : Nat := 0
  /-- Pages not yet posted. -/
  todo : List Nat := []
  ticket : Nat := 0
  target : Nat := 0
  offset : Nat := 0
  capacity : Nat := 0
  peer : Nat := 0
  started : Bool := false
deriving DecidableEq, Repr

/-- Sampling fields of a request (R400, R410): TEMP, TOP_P, TOP_K, SEED and STOP. -/
structure Sampling where
  temp : Word := 0
  topP : Word := 0x3F800000
  topK : Nat := 0
  seed : DWord := 0
  stop : Nat := 0xFFFFFFFF
deriving DecidableEq, Repr

/-- What every module keeps for an admitted request (R330, R389, R392): its ID and what ADMIT gave, its page
table entries in page order, positions resolved, and its part in shipping or parking. -/
structure ModReq where
  id : Nat
  kind : Nat
  flags : Nat
  home : Nat
  adapter : Nat
  length : Nat
  maxNew : Nat
  keys : List Bytes := []
  pages : List Nat := []
  reused : Nat := 0
  committed : Nat := 0
  out : Nat := 0
  /-- At stage S − 1, its egress buffer, how it is sampled, and whether a token of it has been late: no field of a message
  carries them. -/
  egress : Nat := 0
  samp : Sampling := {}
  late : Bool := false
  io : Option IoJob := none
deriving DecidableEq, Repr

/-- A request of the lead (R395 to R420): generation and state of its slot, the submission entry, the prompt
store, the record's flag byte and cause, positions, tokens, and what planning needs. -/
structure Req where
  gen : Nat := 0
  state : Nat := 0
  entry : Bytes := []
  prompt : Bytes := []
  seen : Nat := 0
  cause : Nat := 0
  home : Nat := 0
  length : Nat := 0
  committed : Nat := 0
  out : Nat := 0
  admitStep : Nat := 0
  changeStep : Nat := 0
  proposed : Nat := 0
  accepted : Nat := 0
  handle : Nat := 0
  /-- CLIENT and ring index of the PARK that applies to it. -/
  parkClient : Nat := 0
  parkIndex : Nat := 0
  /-- Number in the order of submissions. -/
  order : Nat := 0
  /-- The step from which a DECODE request may be planned (R407); the next prompt position to plan. -/
  readyAt : Nat := 0
  planned : Nat := 0
  idle : Bool := false
  /-- Late with ON_LATE = 1: planned into no further wave (R415). -/
  retiring : Bool := false
  late : Bool := false
  /-- The park entry that its RESUME claimed, as it was at admission (R424). -/
  parked : Bytes := []
  /-- Modules that have reported their part of a ship, park or resume complete. -/
  ioDone : List Nat := []
  /-- Its terminal completion has been written: the slot frees at the next machine commit (R397). -/
  closed : Bool := false
deriving DecidableEq, Repr

/-- A wave in flight as the lead sees it: the step at which it entered, its row groups, the flags reported for it. -/
structure Wave where
  step : Nat
  groups : List RowGroup
  flags : Nat := 0
deriving DecidableEq, Repr

/-- The lead's serving engine (R386, R390 to R428). -/
structure Lead where
  reqs : SMap Req := []
  /-- COMMIT_DONE messages of the step, by module, and the tick of the lead's own commit of it. -/
  done : SMap CommitMsg := []
  ownAt : Option Nat := none
  /-- Waves in flight, newest first. -/
  waves : List Wave := []
  /-- Items for the next GO. -/
  orders : List MsgItem := []
  /-- Completions waiting for room in the ring (R402), and those of the machine commit under way. -/
  cplWait : List Bytes := []
  /-- Submissions taken so far. -/
  taken : Nat := 0
  /-- Serving steps since the last training step. -/
  sinceTrain : Nat := 0
  /-- Requests whose reservation was refused (R406). -/
  poolFail : List Nat := []
deriving DecidableEq, Repr

/-- Tokens of a request that stage S − 1 holds until they are delivered, with the flag word of the wave there (R411, R412,
R419). -/
structure OutTokens where
  req : Nat
  toks : List Nat
  flags : Nat := 0
deriving DecidableEq, Repr

/-- The serving engine of a module. -/
structure Serve where
  /-- Requests by slot. -/
  reqs : SMap ModReq := []
  /-- The last GO, whose step is to be committed (R389, R392). -/
  go : Option GoMsg := none
  /-- COMMIT_DONE has been sent and its GO awaited; the step it reports was a training step. -/
  waiting : Bool := false
  trained : Bool := false
  /-- Waves by the step at which they entered, newest first (R388), and this module's wave. -/
  waves : List (Nat × List RowGroup) := []
  wave : Nat × List RowGroup := (0, [])
  /-- The module's program runs no rows: it commits at tick T (R392). -/
  commitAt : Option Nat := none
  /-- Parity errors and failed CAPACITY checks to report. -/
  parity : List (Nat × Nat × Nat) := []
  capFail : List Nat := []
  /-- Tokens not yet delivered, those of verdicts and the first ones of adopted requests. -/
  tokens : List OutTokens := []
  lead : Lead := {}
deriving DecidableEq, Repr

/-! ## The whole state -/

/-- The state of one module. -/
@[ext]
structure State where
  clk : Clock := {}
  log : Log := {}
  regs : RegFile := {}
  seq : Seq := {}
  mem : Mem := {}
  breath : Breath := {}
  atlas : Atlas := {}
  hkc : SMap Hkc := []
  therm : Therm := {}
  fabric : Fabric := {}
  drone : Drone := {}
  host : Hostif := {}
  secure : Secure := {}
  boot : Boot := {}
  nvm : Nvm := {}
  /-- Life records as they accrue; the written ones are in `nvm`. -/
  life : SMap Life := []
  modLife : ModLife := {}
  tensor : Tensor := {}
  fmt : Fmt := {}
  kv : Kv := {}
  luna : LunaState := {}
  adapt : Adapt := {}
  serve : Serve := {}
  /-- What the module has sent, oldest first. -/
  out : List Output := []
  /-- The model's own: the next free value's number (Config.free). -/
  freeIdx : Nat := 0
  /-- The commands waiting, first in, first out. -/
  pending : List Instr := []
deriving DecidableEq, Repr

/-- Why a step stops. -/
inductive Fault where
  /-- Raised by a command whose operand lists have a shape no such command has (WellFormed refuses it too);
  safe: the hardware never meets such a command. -/
  | illFormed (mnemonic : String)
deriving DecidableEq, Repr

/-- Why a command has no meaning. -/
inductive Refusal where
  /-- Raised by the dispatcher for a row whose meaning is not written; safe. -/
  | notModelled (mnemonic : String)
deriving DecidableEq, Repr

/-- Factory contents of the NVM record area: identity, trims and thermal defaults, by the register that
loads them (R462, R563 step 3).  DESIGN CHOICE: the spec gives typical values for some and none for most.
[DESIGN CHOICE: log 6] -/
def factoryTrims : SMap Word :=
  [(0x100, 0x0001), (0x104, 0x0001), (0x108, 0x00000001), (0x10C, 0x00000001)] ++
  [(Reg.ATLAS_INPUT_FACTOR, 72018), (Reg.ATLAS_BASE_POWER, 330), (Reg.THERM_COOLANT, 560),
   (Reg.THERM_PLATE_COEF, 0x9C400312)] ++
  (List.range 20).map (fun d =>
    (Reg.THERM_DIE_COEF d, if d < 16 then (0x00C88000 : Word) else 0x012C6666)) ++
  (List.range 20).flatMap (fun d => (ra (pgHkc d) 0x114, (1200000 : Word)) ::
    (List.range 22).map (fun i => (ra (pgHkc d) (0x208 + 4 * i),
      if i < 6 then (781 : Word) else if i < 12 then (10000 : Word) else (391 : Word)))) ++
  [(ra (pgEth 0) 0x10C, 0x00000010), (ra (pgEth 1) 0x10C, 0x00000011)]

/-- The machine before power good: nothing is powered, and only the NVM record area holds anything (R563,
R571).  A start-up begins with POWER_UP. [DESIGN CHOICE: log 5] -/
def State.reset : State :=
  { nvm := { trims := factoryTrims } }

end Sys2Proof.Machine
end

