-- ==== Sys2Proof/Machine/Frames.lean ====
section
/-! DEFINITION. Shawm frames as bytes (R484, R493, R499, R500, R504): headers, CONTROL operations, GO and COMMIT_DONE messages,
and the frame CRC with the update of a forwarder (R485). -/

namespace Sys2Proof.Machine

/-! ## Messages (R393, R500) -/

/-- A wave row group entry. -/
def groupBytes (g : RowGroup) : Bytes :=
  toBytes 16 (g.slot.toNat + g.gen.toNat * 2 ^ 16 + g.pos.toNat * 2 ^ 32 + g.count.toNat * 2 ^ 53 + g.kind.toNat * 2 ^ 57 +
    g.row.toNat * 2 ^ 64 + g.realRows.toNat * 2 ^ 73 + g.adapter.toNat * 2 ^ 80 + one g.adp * 2 ^ 92)

/-- An item of a message. -/
def itemBytes (i : MsgItem) : Bytes :=
  let start := fun (t : Nat) (req : Word) => toBytes 4 t ++ toBytes 4 req.toNat
  padTo 32 (match i with
  | .rowGroup g => start 1 0 ++ List.replicate 8 0 ++ groupBytes g
  | .verdict r a p st => start 2 r ++ toBytes 4 a.toNat ++ toBytes 4 (one p) ++ toBytes 8 st.toNat
  | .admits r h f ad len ks mx k =>
    start 3 r ++ [h, f] ++ toBytes 2 ad.toNat ++ toBytes 4 len.toNat ++ toBytes 4 ks.toNat ++ toBytes 4 mx.toNat ++ [k]
  | .key r b k => start 4 r ++ toBytes 8 b.toNat ++ padTo 16 k
  | .retire r st c => start 5 r ++ [st, c]
  | .expire h => start 6 0 ++ toBytes 4 h.toNat
  | .ship r t side len => start 7 r ++ toBytes 4 t.toNat ++ toBytes 4 (one side) ++ toBytes 4 len.toNat
  | .park r h rg o c => start 8 r ++ toBytes 4 h.toNat ++ toBytes 4 rg.toNat ++ toBytes 8 o.toNat ++ toBytes 8 c.toNat
  | .resume r h rg o p => start 9 r ++ toBytes 4 h.toNat ++ toBytes 4 rg.toNat ++ toBytes 8 o.toNat ++ toBytes 4 p.toNat
  | .ioProgress r k st c n => start 10 r ++ [k, st, c, 0] ++ toBytes 4 n.toNat
  | .parity r t n => start 11 r ++ [t, 0, 0, 0] ++ toBytes 4 n.toNat
  | .capacityFail r => start 12 r
  | .unknown => [])

/-- Heads of GO and COMMIT_DONE. -/
def goHead (m : GoMsg) : Bytes :=
  padTo 64 (toBytes 8 m.step.toNat ++ toBytes 8 m.start.toNat ++ toBytes 4 m.items.length ++ toBytes 2 m.rows.toNat ++ [m.role] ++
    toBytes 1 (one m.train) ++ toBytes 4 m.job.toNat)
def doneHead (m : CommitMsg) : Bytes :=
  padTo 64 (toBytes 8 m.step.toNat ++ toBytes 8 (one m.stepError) ++ toBytes 8 m.outFlags.toNat ++
    (m.free.flatMap (fun w => toBytes 4 w.toNat)) ++ toBytes 4 m.items.length)

/-- Packets of a message of `n` items: the head and two items a packet. -/
def messagePackets (n : Nat) : Nat := 1 + (n + 1) / 2
/-- Parts of a message: frames of eight packets. -/
def messageParts (items : List MsgItem) : Nat := ceilDiv (messagePackets items.length) 8

/-- The packets of one part of a message: 64 message bytes and 8 zero bytes each. -/
def partPackets (head : Bytes) (items : List MsgItem) (part : Nat) : List Bytes :=
  (((chunksOf 64 (head ++ items.flatMap itemBytes)).drop (8 * part)).take 8).map (padTo 72)

/-! ## Frames (R484) -/

/-- Payload packets of one frame. -/
def framePackets : Frame → Nat
  | .tensor f => f.data.length
  | .control _ _ _ _ _ => 0
  | .go _ _ part m => min 8 (messagePackets m.items.length - 8 * part)
  | .commitDone _ _ part m => min 8 (messagePackets m.items.length - 8 * part)
  | .broadcast ps => ps.length
  | .sync _ _ _ _ => 1

/-- TYPE: 0 TENSOR, 1 BROADCAST, 2 CONTROL, 3 SYNC. -/
def frameType : Frame → Nat
  | .tensor _ => 0
  | .broadcast _ => 1
  | .control _ _ _ _ _ | .go _ _ _ _ | .commitDone _ _ _ _ => 2
  | .sync _ _ _ _ => 3

/-- Header bits [127:52] of a CONTROL operation (R499). -/
def controlBody (op : Nat) (xs : List Nat) : Nat :=
  let x := fun i => xs.getD i 0
  if op = 1 then x 2 + (x 1 + x 0 * 2 ^ 10) * 2 ^ 58
  else if op ≤ 4 then x 0 + x 1 * 2 ^ 24 + x 2 * 2 ^ 56 + x 3 * 2 ^ 58
  else x 0 + x 1 * 2 ^ 16 + x 2 * 2 ^ 18

/-- A message's part in the header: its step, and with the first part the packets of the whole message. -/
def messageBody (step part packets : Nat) : Nat := step % 2 ^ 48 + (if part = 0 then packets * 2 ^ 48 else 0)

/-- Virtual channel, FIRST, LAST, DST, SRC and header bits [127:44] of a frame.  A CONTROL frame of one frame is not a transfer:
its FIRST and LAST are 0. [DEDUCED: log 67] -/
def frameFields : Frame → Bool × Bool × Bool × Nat × Nat × Nat
  | .tensor f => (f.vc, f.first, f.last, f.dst.toNat, f.src.toNat,
      f.window.toNat + f.offset.toNat * 2 ^ 16 + f.length.toNat * 2 ^ 42 + (f.thread.toNat + f.die.toNat * 2 ^ 10) * 2 ^ 66)
  | .control vc src dst op xs => (vc, false, false, dst, src, op + controlBody op xs * 2 ^ 8)
  | .go vc dst part m => (vc, part == 0, part + 1 == messageParts m.items, dst, 0,
      5 + messageBody m.step.toNat part (messagePackets m.items.length) * 2 ^ 8)
  | .commitDone vc dst part m => (vc, part == 0, part + 1 == messageParts m.items, dst, m.src.toNat,
      7 + messageBody m.step.toNat part (messagePackets m.items.length) * 2 ^ 8)
  | .broadcast _ | .sync _ _ _ _ => (false, false, false, 0, 0, 0)

/-- The payload. -/
def framePayload : Frame → List Bytes
  | .tensor f => f.data.map (padTo 72)
  | .control _ _ _ _ _ => []
  | .go _ _ part m => partPackets (goHead m) m.items part
  | .commitDone _ _ part m => partPackets (doneHead m) m.items part
  | .broadcast ps => ps.map (padTo 72)
  | .sync master accum ticks number =>
    [padTo 72 (toBytes 12 (master % 2 ^ 72) ++ toBytes 4 accum ++ toBytes 4 ticks ++ toBytes 4 number)]

/-- Header and payload of a frame with a sequence number. -/
def frameBytes (seq : Nat) (f : Frame) : Bytes :=
  let (vc, first, last, dst, src, rest) := frameFields f
  toBytes 16 (seq % 2 ^ 20 + frameType f * 2 ^ 20 + framePackets f * 2 ^ 24 + one vc * 2 ^ 28 + one first * 2 ^ 29 +
    one last * 2 ^ 30 + dst * 2 ^ 32 + src * 2 ^ 38 + rest * 2 ^ 44) ++ (framePayload f).flatten

/-! ## The frame CRC (R485) -/

/-- CRC-32: polynomial 0x04C11DB7, reflected. -/
def frameCrc (seq : Nat) (f : Frame) : Nat := crc32With 0xEDB88320 (frameBytes seq f)

/-- The CRC of a change alone: initial value and final XOR zero. -/
def crcDelta (bs : Bytes) : Nat :=
  bs.foldl (fun c b => (List.range 8).foldl (fun c _ => crcStep 0xEDB88320 c) (c.xor b.toNat)) 0

/-- A received CRC updated for the fields that a forwarder changes. -/
def crcUpdate (crc : Nat) (before after : Bytes) : Nat :=
  crc.xor (crcDelta ((before.zip after).map (fun e => e.1 ^^^ e.2)))

/-- The CRC that a frame leaves with: a forwarded frame's is the received one, which was right (R486), updated. -/
def linkCrc (seq : Nat) (f : LinkFrame) : Nat :=
  match f.recv with
  | none => frameCrc seq f.frame
  | some (n, r) => crcUpdate (frameCrc n r) (frameBytes n r) (frameBytes seq f.frame)

end Sys2Proof.Machine
end

