-- ==== Sys2Proof/Machine/Ops.lean ====
section
/-! DEFINITION. The named operations over the state: time, registers, raising an event, memory words and
bytes, charges, outputs.  Every meaning is written with them. -/

namespace Sys2Proof.Machine

open Sys2Proof.Map

/-! ## Time (R8, R31, R506, R575) -/

/-- The SCLK cycle of now: 4 CCLK cycles each (R31). -/
def sclk (s : State) : Nat := s.clk.now / 4

/-- The Drone tick (R429, R504). -/
def tick (s : State) : Nat := s.drone.count

/-- Drone ticks of a span of time: 2 CCLK cycles each (R31). [DESIGN CHOICE: log 3] -/
def ticksIn (now dt : Nat) : Nat := (now + dt) / 2 - now / 2

/-- Let `dt` CCLK cycles pass.  The Drone counter runs while its clock does (R34). [DESIGN CHOICE: log 3] -/
def advance (dt : Nat) (s : State) : State :=
  let n := if s.drone.running && !s.clk.rootLost then ticksIn s.clk.now dt else 0
  { s with
    clk := { s.clk with now := s.clk.now + dt }
    drone := { s.drone with count := s.drone.count + n } }

/-- Powered seconds since power good (R575): 1,600,000,000 CCLK cycles each. -/
def poweredNow (s : State) : Nat := s.clk.now / 1600000000

/-- A free value (an open value of the spec) and the state that has used it. [DESIGN CHOICE: log 9] -/
def takeFree (s : State) : Nat × State := (Config.free s.freeIdx, { s with freeIdx := s.freeIdx + 1 })

/-- Send something out of the module. [DESIGN CHOICE: log 12] -/
def emit (o : Output) (s : State) : State := { s with out := s.out ++ [o] }

/-- The outcomes of a command. -/
abbrev Result := Host.Outcome State Fault Refusal

/-- A command of a powered module: time passes, then its effect, which is on everything but the queue.
[DESIGN CHOICE: log 4] -/
def actPowered (dt : Nat) (f : State → State) (s : State) : Result :=
  let s1 := advance dt s
  .next { (if s1.clk.powered then f s1 else s1) with pending := s.pending }

/-- As `actPowered`, for an effect of logic that the root clock drives: with it lost the module only holds (R34).
[DESIGN CHOICE: log 4] -/
def act (dt : Nat) (f : State → State) (s : State) : Result :=
  actPowered dt (fun s => if s.clk.rootLost then s else f s) s

/-- A command that acts without power. -/
def always (dt : Nat) (f : State → State) (s : State) : Result :=
  .next { f (advance dt s) with pending := s.pending }

/-! ## Registers: their homes (R10, R588) -/

/-- The word a register's home holds. -/
def reg (s : State) (a : Nat) : Word := mget (regReset a) s.regs.words a

def setReg (a : Nat) (v : Word) (s : State) : State :=
  { s with regs := { s.regs with words := mset (regReset a) s.regs.words a v } }

def updReg (a : Nat) (f : Word → Word) (s : State) : State := setReg a (f (reg s a)) s

/-- Set a field of a register. -/
def setFld (a hi lo v : Nat) (s : State) : State := updReg a (fun w => putFld w hi lo v) s

/-- A field of a register. -/
def regFld (s : State) (a hi lo : Nat) : Nat := fld (reg s a) hi lo

/-- The value in force of a register: of one whose writes take effect later, the value at that point (R588). -/
def force (s : State) (a : Nat) : Word :=
  if (rowOf a).any (·.eff != .now) then mget (regReset a) s.regs.inForce a else reg s a

def forceFld (s : State) (a hi lo : Nat) : Nat := fld (force s a) hi lo

/-- Every register whose writes take effect at `w` takes its last written value (R79, R588). -/
def commitRegs (w : When) (s : State) : State :=
  let isW := fun (e : Nat × Word) => (rowOf e.1).any (·.eff == w)
  let kept := s.regs.inForce.filter (fun e => !isW e)
  { s with regs := { s.regs with
      inForce := (s.regs.words.filter isW).foldl (fun m e => mput m e.1 e.2) kept } }

/-- Start a new SCLK cycle's record of hardware updates when the cycle has changed (R13, R589).
[DESIGN CHOICE: log 13] -/
def freshCycle (s : State) : RegFile :=
  if s.regs.hwCycle = sclk s then s.regs
  else { s.regs with hwSet := [], hwInc := [], hwCycle := sclk s }

/-- Advance a saturating counter by `n`, remembered for a host write of the same SCLK cycle (R560). -/
def bump (a n : Nat) (s : State) : State :=
  let r := freshCycle s
  { s with regs := { r with
      words := mset (regReset a) r.words a (satAdd (mget (regReset a) r.words a) n)
      hwInc := mset 0 r.hwInc a (mget 0 r.hwInc a + n) } }

/-- Set bits of a W1C register, remembered for a clearing write of the same SCLK cycle (R13). -/
def hwSetBits (a : Nat) (m : Word) (s : State) : State :=
  let r := freshCycle s
  { s with regs := { r with
      words := mset (regReset a) r.words a (mget (regReset a) r.words a ||| m)
      hwSet := mset 0 r.hwSet a (mget 0 r.hwSet a ||| m) } }

/-- A 64-bit register pair as one number. -/
def reg64 (s : State) (a : Nat) : Nat := (reg s a).toNat + (reg s (a + 4)).toNat * 2 ^ 32

def setReg64 (a v : Nat) (s : State) : State := setReg (a + 4) (word (v / 2 ^ 32)) (setReg a (word v) s)

def bump64 (a n : Nat) (s : State) : State := setReg64 a ((reg64 s a + n) % 2 ^ 64) s

/-- Raise a HIGH_WATER field in [hi:lo] to at least `v`, remembered for a host write of the same SCLK cycle
(R589). -/
def highWater (a hi lo v : Nat) (s : State) : State :=
  let r := freshCycle s
  let s := { s with regs := { r with hwInc := mset 0 r.hwInc a (max (mget 0 r.hwInc a) v) } }
  if regFld s a hi lo < v then setFld a hi lo v s else s

/-! ## Module conditions -/

/-- "Bundle issue is stopped": the state STOPPED (R273). -/
def isStopped (s : State) : Bool := s.seq.state == .stopped

/-- A program runs. -/
def isRunning (s : State) : Bool := s.seq.state == .running

/-- The module's coordinates, shape and ID (R478, R480). -/
def dimX (s : State) : Nat := if flag (reg s Reg.SHAWM_MACHINE) 0 then 8 else 4
def dimY (s : State) : Nat := if flag (reg s Reg.SHAWM_MACHINE) 1 then 8 else 4
def wrapX (s : State) : Bool := flag (reg s Reg.SHAWM_MACHINE) 2
def wrapY (s : State) : Bool := flag (reg s Reg.SHAWM_MACHINE) 3
def myX (s : State) : Nat := regFld s Reg.SHAWM_MACHINE 10 8
def myY (s : State) : Nat := regFld s Reg.SHAWM_MACHINE 14 12
def machineSize (s : State) : Nat := dimX s * dimY s
def moduleId (s : State) : Nat := myY s * dimX s + myX s
/-- The module is the lead: its ID is 0 (R478). -/
def isLead (s : State) : Bool := moduleId s == 0

/-- SEQ_STEP_NUMBER, and the STEP of an event record (R555's table). -/
def stepNumber (s : State) : Nat := reg64 s Reg.SEQ_STEP_NUMBER
def recordStep (s : State) : Nat := if isRunning s then stepNumber s + 1 else stepNumber s

/-! ## Shawm ports: sending (R484 to R491) -/

def portOf (s : State) (p : Nat) : ShawmPort := mget {} s.fabric.ports p

def setPort (p : Nat) (x : ShawmPort) (s : State) : State :=
  { s with fabric := { s.fabric with ports := mset {} s.fabric.ports p x } }

/-- Put a frame on the wire of a port: it takes the next sequence number. -/
def transmit (p : Nat) (f : LinkFrame) (s : State) : State :=
  let x := portOf s p
  let c := frameType f.frame
  let s := setPort p { x with
    txSeq := x.txSeq + 1, unacked := x.unacked ++ [f]
    oldestAt := if x.unacked.isEmpty then s.clk.now else x.oldestAt
    lastTensor := if c < 2 then c == 0 else x.lastTensor
    lastFwd := (if f.recv.isSome then [c] else []) ++ x.lastFwd.filter (· != c) } s
  bump64 (ra (pgShawm p) 0x11C) (72 * framePackets f.frame) (emit (.frame p x.txSeq.toNat f.frame (linkCrc x.txSeq.toNat f)) s)

/-- Send on a port: a 513th unacknowledged frame waits (R487); a port that is not up carries nothing. -/
def sendLink (p : Nat) (f : LinkFrame) (s : State) : State :=
  let x := portOf s p
  if !x.up then s
  else if x.unacked.length < 512 ∧ x.waiting.isEmpty = true then transmit p f s
  else setPort p { x with waiting := x.waiting ++ [f] } s

/-- Send a frame of this module's own. -/
def sendFrame (p : Nat) (f : Frame) (s : State) : State := sendLink p { frame := f } s

/-- Send on a frame that came in on a port, whose received form is given. -/
def sendOn (inPort p : Nat) (received f : Frame) (s : State) : State :=
  sendLink p { frame := f, recv := some (((portOf s inPort).rxSeq - 1).toNat, received) } s

/-- R489 in one dimension of `n` places: none for no hop, else whether the hop goes in the + direction. -/
def hopDir (n : Nat) (wrap : Bool) (src dst : Nat) : Option Bool :=
  if src = dst then none
  else if wrap then some (decide (2 * ((dst + n - src) % n) ≤ n))
  else some (decide (src < dst))

/-- The port on which a frame to module `dst` leaves, and whether that hop crosses a wrap link (R489, R490);
none for this module itself and for a module outside the machine. -/
def routePort (s : State) (dst : Nat) : Option (Nat × Bool) :=
  if machineSize s ≤ dst then none
  else
    let X := dimX s; let Y := dimY s
    match hopDir X (wrapX s) (myX s) (dst % X) with
    | some true => some (0, myX s == X - 1)
    | some false => some (1, myX s == 0)
    | none =>
      match hopDir Y (wrapY s) (myY s) (dst / X) with
      | some true => some (2, myY s == Y - 1)
      | some false => some (3, myY s == 0)
      | none => none

/-- The port on which frames from module `src` arrive here (R489). -/
def arrivalPort (s : State) (src : Nat) : Nat :=
  let X := dimX s
  match hopDir (dimY s) (wrapY s) (src / X) (myY s) with
  | some true => 3
  | some false => 2
  | none =>
    match hopDir X (wrapX s) (src % X) (myX s) with
    | some true => 1
    | _ => 0

/-- Originate a frame to another module: nothing but LINK frames leaves before ROUTE_OK (R481). -/
def sendTo (dst : Nat) (f : Bool → Frame) (s : State) : State :=
  if !s.fabric.routeOk then s
  else
    match routePort s dst with
    | none => s
    | some (p, wrap) => sendFrame p (f wrap) s

/-! ## Interrupts (R516, R519) -/

/-- Signal MSI-X vector `v`: sent, or its pending bit set while the link is down, Bus Master Enable is clear
or the function is in D3hot; a masked vector also stays pending (R513, R516). -/
def msix (v : Nat) (s : State) : State :=
  if !isLead s then s
  else if s.host.linkUp && s.host.busMaster && !s.host.d3hot && !flag (reg s (0xA800 + 16 * v + 12)) 0 then
    emit (.msix v) s
  else updReg (0xAC00 + 4 * (v / 32)) (fun w => putFlag w (v % 32) true) s

/-! ## Raising an event (R553 to R558, R591 to R597) -/

/-- FIRST_ERR_INFO of a page holds the event `(sev, code, detail)` (R594). -/
def captureFirst (page sev code detail : Nat) (ovf : Bool) (s : State) : State :=
  let w0 : Nat := 2 ^ 31 + (if ovf then 2 ^ 30 else 0) + sev * 2 ^ 24 + code
  let s := setReg (ra page 0x02C) (word (detail / 2 ^ 32))
    (setReg (ra page 0x028) (word detail) (setReg (ra page 0x024) (word w0) s))
  { s with log := { s.log with feCycle := mput s.log.feCycle page (sclk s) } }

/-- The event that FIRST_ERR_INFO would capture among those that a page has raised in this SCLK cycle, and whether
there were several: the highest severity, among those the lowest code (R594). -/
def cycleFirst (s : State) (page sev code detail : Nat) : FirstErr :=
  let e : FirstErr := { cycle := sclk s, sev := sev, code := code, detail := detail }
  match find? s.log.feNow page with
  | none => e
  | some o =>
    if o.cycle ≠ sclk s then e
    else if o.sev < sev ∨ (o.sev = sev ∧ code < o.code) then { e with several := true }
    else { o with several := true }

/-- R594: the first qualifying event is captured, of several in one SCLK cycle the one that `cycleFirst` picks; a
qualifying event of a later cycle sets OVERFLOW. -/
def firstErr (page sev code detail : Nat) (s : State) : State :=
  if sev < 2 then s
  else
    let e := cycleFirst s page sev code detail
    let w := reg s (ra page 0x024)
    let s := { s with log := { s.log with feNow := mput s.log.feNow page e } }
    if !flag w 31 || find? s.log.feCycle page == some (sclk s) then
      captureFirst page e.sev e.code e.detail e.several s
    else setReg (ra page 0x024) (putFlag w 30 true) s

/-- The 32 bytes of an event record. -/
def eventBytes (e : Event) : Bytes :=
  toBytes 8 e.tick ++ toBytes 6 e.step ++ toBytes 2 e.block ++ toBytes 2 e.code ++ toBytes 1 e.sev ++
  toBytes 1 e.cls ++ toBytes 4 e.request ++ toBytes 8 e.detail

/-- The writer's queue takes a record, or it is lost (R556). -/
def enqueueEvent (e : Event) (s : State) : State :=
  if s.log.queue.length < 1024 then { s with log := { s.log with queue := s.log.queue ++ [e] } }
  else bump Reg.EVTLOG_LOST_COUNT 1 { s with log := { s.log with dropped := s.log.dropped + 1 } }

/-- EVTLOG_LAST_FATAL holds a FATAL record (R556). -/
def keepFatal (e : Event) (s : State) : State :=
  (List.range 8).foldl (fun s k =>
    setReg (Reg.EVTLOG_LAST_FATAL k) (word (byteField (eventBytes e) (4 * k) (4 * k + 3))) s) s

/-- Notices of a logged event: MSI-X vectors 16–31 on the lead, an EVENT_NOTICE elsewhere (R519, R520). -/
def noticeEvent (sev code : Nat) (s : State) : State :=
  let cfg := reg s Reg.PCIE_IRQ_CONFIG
  if isLead s then
    let v := 16 + code / 0x1000
    if fld cfg 2 0 ≤ sev ∧ (find? s.log.vecSeen v).isNone then
      msix v { s with log := { s.log with vecSeen := mput s.log.vecSeen v 1 } }
    else s
  else if fld cfg 6 4 ≤ sev ∧ s.log.noticeSent = false ∧ s.fabric.routeOk = true then
    sendTo 0 (fun vc => .control vc (moduleId s) 0 8 [code, sev]) { s with log := { s.log with noticeSent := true } }
  else s

/-- A FATAL event stops issue at the next bundle boundary (R272). -/
def fatalStop (sev code : Nat) (s : State) : State :=
  if sev = 4 ∧ s.seq.fatal = none then { s with seq := { s.seq with fatal := some code } } else s

/-- The record of an event. -/
def recordOf (s : State) (t page code sev cls req detail : Nat) : Event :=
  { tick := t, step := recordStep s, block := page, code := code, sev := sev, cls := cls, request := req
    detail := detail % 2 ^ 64 }

/-- What raising an event does beside its record: the page's header, the counts, the last FATAL record, the
notices and the stop of issue. -/
def signalEvent (e : Event) (s : State) : State :=
  let page := e.block
  let code := e.code
  let sev := e.sev
  let s := updReg (ra page 0x010) (fun w => putFld (putFlag w sev true) 31 16 code) s
  let s := if flag (reg s (ra page 0x014)) sev then hwSetBits (ra page 0x018) (word (2 ^ sev)) s else s
  let s := bump (ra page 0x01C) 1 s
  let s := firstErr page sev code e.detail s
  let s := bump (Reg.EVTLOG_SEV_COUNT sev) 1 s
  let s := if sev = 4 then keepFatal e s else s
  let s := noticeEvent sev code s
  fatalStop sev code s

/-- Raise an event of a severity at a tick, on a page, with the class and request its record names. -/
def raiseAt (t page code sev cls req detail : Nat) (s : State) : State :=
  let e := recordOf s t page code sev cls req detail
  signalEvent e (enqueueEvent e s)

/-- Raise an event with the class and request given. -/
def raiseFor (page code cls req detail : Nat) (s : State) : State :=
  raiseAt (tick s) page code (Evt.sevOf code) cls req detail s

/-- CLASS of an event (R597): that of the bundle, transfer or engine at work; else, on the pages whose events are their
block's autonomous work (HAWK, THERM, HKC, REFRESH), the page's BUDGET_CLASS; else none. [DEDUCED: log 20] -/
def eventClass (page : Nat) (s : State) : Nat :=
  if s.log.cls ≠ 0xFF then s.log.cls
  else
    match pageBlk page with
    | some (b, _) => if [Blk.hawk, .therm, .hkcLuna, .hkcHub, .refresh].contains b then pageClass page else 0xFF
    | none => 0xFF

/-- Raise an event of the work under way. [DEDUCED: log 20] -/
def raise (page code detail : Nat) (s : State) : State :=
  raiseFor page code (eventClass page s) s.log.req detail s

/-- Run work of a breath class: its events' records name the class. [DEDUCED: log 20] -/
def inClass (c : Nat) (f : State → State) (s : State) : State :=
  let s' := f { s with log := { s.log with cls := c } }
  { s' with log := { s'.log with cls := s.log.cls } }

/-- Run work for a request: its events' records name it. [DEDUCED: log 20] -/
def forRequest (r : Nat) (f : State → State) (s : State) : State :=
  let s' := f { s with log := { s.log with req := r } }
  { s' with log := { s'.log with req := s.log.req } }

/-- Raise an event of a block's autonomous work: the record's CLASS is BUDGET_CLASS.CLASS (R597). [DEDUCED: log 20] -/
def raiseOwn (page code detail : Nat) (s : State) : State :=
  raiseFor page code (if pageClass page = 0xF then 0xFF else pageClass page) 0 detail s

/-- Count `n` occurrences of an event that is logged at the breath boundary, with the breath's count (R83, R237, R313).
[DEDUCED: log 20] -/
def collect (code key n : Nat) (s : State) : State :=
  { s with log := { s.log with breathCount := mupd 0 s.log.breathCount (code * 2 ^ 32 + key) (· + n) } }

/-- As `collect`, remembering what the breath's first occurrence showed. -/
def collectFirst (code key n first : Nat) (s : State) : State :=
  let k := code * 2 ^ 32 + key
  collect code key n (if (find? s.log.breathFirst k).isSome then s else
    { s with log := { s.log with breathFirst := mput s.log.breathFirst k first } })

/-- Raise an event that is raised at most once per key and breath. -/
def raiseOnce (page code key detail : Nat) (s : State) : State :=
  if (find? s.log.breathSeen (code * 2 ^ 32 + key)).isSome then s
  else raise page code detail
    { s with log := { s.log with breathSeen := mput s.log.breathSeen (code * 2 ^ 32 + key) 1 } }

/-- A command-invalid event whose detail is page, offset, value (R596). -/
def cmdInvalidPg (code addr : Nat) (v : Word) (s : State) : State :=
  raiseFor (addr / 0x1000) code s.log.cls s.log.req
    (addr / 0x1000 % 256 + (addr % 0x1000) * 2 ^ 8 + v.toNat * 2 ^ 20) s

/-- A command-invalid event whose detail is offset, value. -/
def cmdInvalid (page code addr : Nat) (v : Word) (s : State) : State :=
  raiseFor page code s.log.cls s.log.req (addr % 0x1000 + v.toNat * 2 ^ 12) s

/-! ## Scratchpad (R275 to R284) -/

/-- Words of a die's general space (R275). -/
def spadWords (d : Nat) : Nat := if d < 16 then 50331648 else if d = 16 then 58720256 else 67108864

def spadKey (d w : Nat) : Nat := d * 2 ^ 26 + w

/-- A stored word; unwritten words hold the poison marker (R284). [DEDUCED: log 8] -/
def spadWord (s : State) (d w : Nat) : SWord := mget {} s.mem.spad (spadKey d w)

def setSpad (d w : Nat) (x : SWord) (s : State) : State :=
  { s with mem := { s.mem with spad := mset {} s.mem.spad (spadKey d w) x } }

/-- Store data in consecutive words. -/
def setSpadWords (d w : Nat) : List SWord → State → State
  | [], s => s
  | x :: xs, s => setSpadWords d (w + 1) xs (setSpad d w x s)

/-- `n` consecutive words. -/
def spadRead (s : State) (d w n : Nat) : List SWord := (List.range n).map (fun i => spadWord s d (w + i))

def anyPoison (ws : List SWord) : Bool := ws.any (·.poison)

/-- The bytes of words, least significant first (R6). -/
def wordsBytes (ws : List SWord) : Bytes := ws.flatMap (fun w => toBytes 8 w.data.toNat)

/-- The words of bytes, the last one zero-filled. -/
def bytesWords (bs : Bytes) (poison : Bool) : List SWord :=
  (List.range (ceilDiv bs.length 8)).map (fun i =>
    { data := BitVec.ofNat 64 (ofBytes ((bs.drop (8 * i)).take 8)), poison := poison })

/-- `n` bytes of scratchpad from a word address, none where a word reads as poison. -/
def spadBytes (s : State) (d w n : Nat) : Option Bytes :=
  let ws := spadRead s d w (ceilDiv n 8)
  if anyPoison ws then none else some ((wordsBytes ws).take n)

/-- A word is resident (R286). -/
def resident (s : State) (d w : Nat) : Bool :=
  (List.range 16).any (fun i =>
    let base := (reg s (ra (pgSpad d) (0x180 + 8 * i))).toNat
    let len := (reg s (ra (pgSpad d) (0x184 + 8 * i))).toNat
    decide (base ≤ w) && decide (w < base + len))

/-- A run of words is wholly resident (R286): each stretch lies in some region. -/
def residentRun (s : State) (d w n : Nat) : Bool :=
  let spans := (List.range 16).map (fun i =>
    ((reg s (ra (pgSpad d) (0x180 + 8 * i))).toNat, (reg s (ra (pgSpad d) (0x184 + 8 * i))).toNat))
  let reach := (List.range 16).foldl (fun p _ =>
    spans.foldl (fun p e => if e.1 ≤ p ∧ p < e.1 + e.2 then e.1 + e.2 else p) p) w
  decide (w + n ≤ reach)

/-! ## HBM (R294 to R299) -/

/-- A byte of HBM; unlisted bytes read 0. [DESIGN CHOICE: log 7] -/
def hbmByte (s : State) (a : Nat) : Byte := mget 0 s.mem.hbm a

def setHbmByte (a : Nat) (b : Byte) (s : State) : State :=
  { s with mem := { s.mem with hbm := mset 0 s.mem.hbm a b } }

/-- Write bytes from an address. -/
def hbmWrite (a : Nat) : Bytes → State → State
  | [], s => s
  | b :: bs, s => hbmWrite (a + 1) bs (setHbmByte a b s)

def hbmRead (s : State) (a n : Nat) : Bytes := (List.range n).map (fun i => hbmByte s (a + i))

/-- A burst holds the poison marker (R299). [DESIGN CHOICE: log 7] -/
def burstPoison (s : State) (b : Nat) : Bool := mget false s.mem.hbmPoison b

def setBurstPoison (b : Nat) (p : Bool) (s : State) : State :=
  { s with mem := { s.mem with hbmPoison := mset false s.mem.hbmPoison b p } }

/-- The bursts a byte range touches. -/
def burstsOf (a n : Nat) : List Nat :=
  if n = 0 then [] else (List.range ((a + n - 1) / 64 - a / 64 + 1)).map (· + a / 64)

/-- Some burst of a range is poisoned (R299). -/
def hbmPoisoned (s : State) (a n : Nat) : Bool := (burstsOf a n).any (burstPoison s)

/-- Write data to HBM: a write of all 64 bytes of a burst clears its marker, a poisoned write sets it, a
partial write leaves it (R299). Answers whether a burst it wrote stays poisoned. -/
def hbmStore (a : Nat) (bs : Bytes) (poison : Bool) (s : State) : Bool × State :=
  let stays := (burstsOf a bs.length).any (fun b =>
    burstPoison s b && !(decide (a ≤ b * 64) && decide (b * 64 + 64 ≤ a + bs.length)))
  let s' := (burstsOf a bs.length).foldl (fun s b =>
    if poison then setBurstPoison b true s
    else if a ≤ b * 64 ∧ b * 64 + 64 ≤ a + bs.length then setBurstPoison b false s
    else s) (hbmWrite a bs s)
  (stays, s')

/-- Write consecutive parts to HBM as one write; a part without bytes is poisoned and stands for `size` bytes
(R175, R299). Answers whether some burst of it holds the marker after it. -/
def hbmStoreParts (a size : Nat) (ps : List Bytes) (s : State) : Bool × State :=
  let (stays, s) := hbmStore a (ps.flatMap (fun p => if p.isEmpty then List.replicate size 0 else p)) false s
  let s := ((List.range ps.length).zip ps).foldl (fun s e =>
    if e.2.isEmpty then (burstsOf (a + size * e.1) size).foldl (fun s b => setBurstPoison b true s) s else s) s
  (stays || ps.any (·.isEmpty), s)

/-- Stack and offset of an HBM byte address (R294). -/
def hbmStack (a : Nat) : Nat := bits a 43 37
def hbmOffset (a : Nat) : Nat := bits a 36 0
def hbmValid (a : Nat) : Bool := decide (hbmStack a < 24) && decide (hbmOffset a < 0x1200000000)

/-- Region k of a stack: valid, base and length in bytes, KIND (R295). -/
def region (s : State) (st k : Nat) : Bool × Nat × Nat × Nat :=
  let p := pgHbm st
  let at_ := reg s (ra p (0x188 + 16 * k))
  (flag at_ 31, (reg s (ra p (0x180 + 16 * k))).toNat * 64, (reg s (ra p (0x184 + 16 * k))).toNat * 576,
    fld at_ 3 0)

/-- The valid region a byte range lies in, with its base offset (R296). -/
def regionOf (s : State) (a n : Nat) : Option (Nat × Nat) :=
  if !hbmValid a then none
  else ((List.range 32).find? (fun k =>
    let r := region s (hbmStack a) k
    r.1 && decide (r.2.1 ≤ hbmOffset a) && decide (hbmOffset a + n ≤ r.2.1 + r.2.2.1))).map
    (fun k => ((region s (hbmStack a) k).2.1, (region s (hbmStack a) k).2.2.2))

/-! ## Charges (R433 to R438) -/

/-- Issue cycles executed: charges made now are seen 16 issue cycles later (R437). -/
def issueCount (s : State) : Nat := reg64 s Reg.SEQ_ISSUE_COUNT

/-- A charge to a class in a resource on a die; `cpj` is its charged package energy in 1/100 pJ. -/
def charge (die cls res amount cpj : Nat) (s : State) : State :=
  let add := fun (b : Breath) r n => if n = 0 then b else { b with fresh := b.fresh ++ [(issueCount s + 16, cls, r, n)] }
  { s with
    breath := add (add s.breath res amount) 3 cpj
    atlas := { s.atlas with
      chgBreath := s.atlas.chgBreath + cpj
      chgSince := s.atlas.chgSince + cpj
      chgDie := mupd 0 s.atlas.chgDie (die * 16 + cls) (· + cpj)
      dieChg := mupd 0 s.atlas.dieChg die (· + cpj) } }

/-- An HBM burst read or written: 1,536 pJ (R436). -/
def chargeHbm (die cls bursts : Nat) (s : State) : State := charge die cls 1 bursts (bursts * 153600) s
/-- Shawm payload bytes: 50 pJ each. -/
def chargeShawm (die cls n : Nat) (s : State) : State := charge die cls 2 n (n * 5000) s
/-- Ethernet payload bytes: 150 pJ each. -/
def chargeEth (cls n : Nat) (s : State) : State := charge 18 cls 2 n (n * 15000) s

/-- Every program channel stops; their arrays stay as they are until the next power-up (R475, R157). -/
def stopPrograms (s : State) : State :=
  { s with luna := { s.luna with dies := s.luna.dies.map (fun e => (e.1, { e.2 with channels := [] })) } }

/-- Host commands and writes of a page act (R34, R475, R565, R566): not after a trip or with the root clock lost;
only on GLOBAL and NVREC while the module is held or has no firmware. [DESIGN CHOICE: log 14] -/
def hostActs (s : State) (page : Nat) : Bool :=
  !s.therm.tripped && !s.clk.rootLost &&
  (page == 0 || page == 8 || (s.boot.state != .held && !s.boot.fwNone))

/-- A command of the host to a page. [DESIGN CHOICE: log 4] -/
def actHost (dt page : Nat) (f : State → State) (s : State) : Result :=
  actPowered dt (fun s => if hostActs s page then f s else s) s

/-! ## Completion tags (R256 to R260) -/

def tagOf (s : State) (t : Nat) : Tag := mget {} s.seq.tags t

def setTag (t : Nat) (x : Tag) (s : State) : State :=
  { s with seq := { s.seq with tags := mset {} s.seq.tags t x } }

/-- A completion on a tag. -/
def tagAdvance (t : Nat) (s : State) : State :=
  let x := tagOf s t
  setTag t { x with count := x.count + 1 } s

end Sys2Proof.Machine
end

