-- ==== Sys2Proof/Machine/Therm.lean ====
section
/-! DEFINITION. Housekeeping converters (R449 to R456), Atlas integration of their samples (R441, R442), the
thermal model, thresholds, throttling and the trip (R461 to R477). -/

namespace Sys2Proof.Machine

open Sys2Proof.Map Sys2Proof.Fp

def hkcOf (s : State) (d : Nat) : Hkc := mget {} s.hkc d

def setHkc (d : Nat) (h : Hkc) (s : State) : State := { s with hkc := mset {} s.hkc d h }

/-- The estimate in force of a die, in 1/16 °C (R462). -/
def est (s : State) (d : Nat) : Int := mget 0 s.therm.est d

/-- The estimate that R67, R69 and the programming window use: below 15 °C until SEEDED (R464). -/
def estUsed (s : State) (d : Nat) : Int := if s.therm.seeded then est s d else 14 * 16

/-! ## Converter results -/

/-- R453: a raw code corrected and clamped. -/
def hkcCorrect (h : Hkc) (ch : Nat) (raw16 : Int) : Int :=
  let r := rne (((raw16 - h.offset) * h.gain : Int) / ((2 ^ 19 : Nat) : Rat))
  if 8 ≤ ch ∧ ch ≤ 14 then max (-2048) (min 2047 r) else max 0 (min 4095 r)

/-- A raw code as a number: signed on differential channels. -/
def rawCode (ch : Nat) (raw : BitVec 12) : Int := if 8 ≤ ch ∧ ch ≤ 14 then raw.toInt else raw.toNat

/-- A result is written: SEQ counts it, VALID shows a passed HKC_CAL (R453, R455). -/
def hkcPublish (d ch : Nat) (raw : BitVec 12) (s : State) : State :=
  let h := hkcOf s d
  let old := mget {} h.results ch
  let new : HkcRes :=
    { value := hkcCorrect h ch (16 * rawCode ch raw), valid := h.calDone && !h.calBusy, seq := old.seq + 1 }
  setHkc d { h with results := mset {} h.results ch new } s

/-- HKC_RESULT[c] as it reads under ALIGN (R456). -/
def hkcResultWord (s : State) (d ch : Nat) : Word :=
  let r := mget {} (hkcOf s d).results ch
  let diff := decide (8 ≤ ch ∧ ch ≤ 14)
  let v := if flag (reg s (ra (pgHkc d) 0x100)) 0 then unsigned 16 (r.value * 16)
    else if diff then unsigned 16 r.value else r.value.toNat
  word (v + one r.valid * 2 ^ 16 + one diff * 2 ^ 17 + r.seq.toNat * 2 ^ 24)

/-- HKC_STATUS. -/
def hkcStatusWord (s : State) (d : Nat) : Word :=
  let h := hkcOf s d
  word (one h.calDone + 2 * one h.calFail + 4 * one h.calBusy + 8 * one (h.conv.isSome || h.diode))

/-! ## Scans and Atlas (R441, R442, R450) -/

/-- Input energy in 1/1024 µJ of package energy in 1/100 pJ: times F (R441). -/
def inputOf (s : State) (cpj : Nat) : Nat :=
  cpj * max 65536 (force s Reg.ATLAS_INPUT_FACTOR).toNat * 1024 / (65536 * 100000000)

/-- Add input energy to an Atlas counter. -/
def atlasAdd (c n : Nat) (s : State) : State :=
  { s with atlas := { s.atlas with energy := mupd 0 s.atlas.energy c (· + n) } }

/-- Divide `e` (1/1024 µJ) of a die's interval among the classes in proportion to their charges in it; what
integer division leaves goes to the last class charged (R442). [DEDUCED: log 62] -/
def apportion (d e : Nat) (chg : SMap Nat) (s : State) : State :=
  let c := (List.range 10).map (fun c => mget 0 chg (d * 16 + c))
  let total := c.sum
  let s := { s with life := mupd {} s.life d (fun l => { l with energy := l.energy + e }) }
  let s := atlasAdd 11 e s
  if total = 0 then atlasAdd 10 e s
  else
    let share := c.map (fun x => e * x / total)
    let last := (List.range 10).foldl (fun k i => if 0 < c.getD i 0 then i else k) 0
    let s := (List.range 10).foldl (fun s i => atlasAdd i (share.getD i 0) s) s
    atlasAdd last (e - share.sum) s

/-- The charges of a die's interval, taken out of a charge map. -/
def dropDie (d : Nat) (m : SMap Nat) : SMap Nat := m.filter (fun e => e.1 / 16 != d)

/-- Integrate a die's interval up to `t` with the rail powers `rails` there: trapezoidal, less what a breath
boundary has counted of it (R441). [DEDUCED: log 62] -/
def integrate (d t : Nat) (rails : List Nat) (s : State) : State :=
  let p := mget {} s.atlas.samples d
  let old := if p.rails.isEmpty then rails else p.rails
  let dt := t - (if p.rails.isEmpty then t else p.tick)
  let rail := fun i => (old.getD i 0 + rails.getD i 0) * dt / 16
  let all := ((List.range 6).map rail).sum
  let hbm := if d < 16 then 0 else rail 2 + rail 3 + rail 4
  let e := all - p.counted
  let s := { s with atlas := { s.atlas with
    samples := mset {} s.atlas.samples d ({ tick := t, rails := rails } : Sample),
    dieMeas := mupd 0 s.atlas.dieMeas d (· + e),
    dieHbm := mupd 0 s.atlas.dieHbm d (· + (hbm - p.countedHbm)),
    meas := s.atlas.meas + inputOf s e,
    lastSample := t } }
  let s := apportion d (inputOf s e) s.atlas.chgInt s
  { s with atlas := { s.atlas with chgInt := dropDie d s.atlas.chgInt } }

/-- R450: the scan of every converter not in HKC_CAL starts at a multiple of 80,000 ticks. [DEDUCED: log 66] -/
def scanStart (s : State) : State :=
  let t := tick s - tick s % 80000
  let dies := (List.range 20).filter (fun d => !(hkcOf s d).calBusy && !(hkcOf s d).scanning)
  let s := dies.foldl (fun s d => setHkc d { hkcOf s d with scanning := true, scanTick := t } s) s
  let moved := s.atlas.chgDie.filter (fun e => dies.contains (e.1 / 16))
  { s with atlas := { s.atlas with
    chgInt := moved.foldl (fun m e => mset 0 m e.1 (mget 0 m e.1 + e.2)) s.atlas.chgInt,
    chgDie := s.atlas.chgDie.filter (fun e => !dies.contains (e.1 / 16)),
    chgMark := s.atlas.chgSince } }

/-- HKC_SCAN_START (R450): due within the ACLK cycle that follows a multiple of 80,000 ticks. -/
def execHkcScanStart (dt : Nat) (s : State) : Result :=
  act dt (fun s => if tick s % 80000 < 4 ∧ s.drone.running = true then scanStart s else s) s

/-- The channels of a scan, in order (R450). -/
def scanChannels : List Nat := [2, 8, 3, 9, 4, 10, 5, 11, 6, 12, 7, 13]

/-- Rail power in µW from the results of channels 2 + r and 8 + r and their scales. -/
def railPower (s : State) (d r : Nat) : Nat :=
  let h := hkcOf s d
  let v := (mget {} h.results (2 + r)).value.toNat * (reg s (ra (pgHkc d) (0x200 + 4 * (2 + r)))).toNat
  let i := (mget {} h.results (8 + r)).value.toNat * (reg s (ra (pgHkc d) (0x200 + 4 * (8 + r)))).toNat
  2 * v * i / 1000000

/-- One die's scan ends: its twelve results are published together and are Atlas's sample (R450). [DEDUCED: log 66] -/
def scanEnd (o : ScanObs) (s : State) : State :=
  let d := o.die.val
  let h := hkcOf s d
  if !h.scanning || decide (tick s < h.scanTick + 4800) then s
  else
    let s := (scanChannels.zip o.raw).foldl (fun s e => hkcPublish d e.1 e.2 s) s
    let s := setHkc d { hkcOf s d with scanning := false } s
    if !h.calDone then s
    else integrate d h.scanTick ((List.range 6).map (railPower s d)) s

/-- HKC_SCAN_END (R450): each die's twelve raw codes. -/
def execHkcScanEnd (dt : Nat) (scans : List ScanObs) (s : State) : Result :=
  if scans.all (fun o => o.raw.length == 12) then
    act dt (fun s =>
      let s := scans.foldl (fun s o => scanEnd o s) s
      { s with atlas := { s.atlas with chgSince := s.atlas.chgSince - s.atlas.chgMark, chgMark := 0 } }) s
  else .fault (.illFormed "HKC_SCAN_END")

/-- R442: a sample 8,000 ticks late is replaced by the previous one. [DEDUCED: log 66] -/
def sampleMissing (d : Nat) (s : State) : State :=
  let h := hkcOf s d
  if !h.scanning || decide (tick s < h.scanTick + 8000) then s
  else
    let s := setHkc d { h with scanning := false } s
    if !h.calDone then s
    else
      let p := mget {} s.atlas.samples d
      let s := integrate d h.scanTick (if p.rails.isEmpty then List.replicate 6 0 else p.rails) s
      collect Evt.ATLAS_SAMPLE_MISSING d 1 (bump Reg.ATLAS_SAMPLE_MISS_COUNT 1 s)

/-- ATLAS_SAMPLE_MISSING (R442). -/
def execAtlasSampleMissing (dt : Nat) (die : Die) (s : State) : Result := act dt (sampleMissing die) s

/-! ## Converter commands (R451 to R455) -/

/-- The commands before READY_LOCAL are ignored (R564). -/
def beforeReadyLocal (s : State) : Bool :=
  !(s.boot.state == .readyLocal || s.boot.state == .ready)

/-- Start HKC_CAL on a converter (R452, R455). -/
def hkcCalStart (d : Nat) (s : State) : State :=
  let h := hkcOf s d
  setHkc d { h with calBusy := true, calAt := s.clk.now, calDone := false, calFail := false, scanning := false,
                    results := (h.results.map (fun e => (e.1, { e.2 with valid := false }))).filter
                      (fun e => e.2 != {}) } s

/-- HKC_CAL takes 480,000 ACLK cycles (R452), in CCLK cycles. -/
def hkcCalCycles : Nat := 3840000

/-- The CCLK edge at which on-demand work of `n` ticks ends: it starts at the first ACLK edge, past what is pending
on the converter and outside every scan, at which it can end no later than the next scan starts (R451).
[DEDUCED: log 66] -/
def placedEnd (s : State) (h : Hkc) (n : Nat) : Nat :=
  let free := max (max s.clk.now (if h.conv.isSome then h.convAt else 0))
    (max (if h.diode then h.diodeAt else 0) (if h.calBusy then h.calAt + hkcCalCycles else 0))
  let t := (tick s + (free - s.clk.now + 1) / 2 + 3) / 4 * 4
  let scan := t / 80000 * 80000
  let start := max t (scan + 4800)
  let start := if start + n ≤ scan + 80000 then start else scan + 84800
  s.clk.now + 2 * (start + n - tick s)

/-- A write of HKC_CMD (R451, R452). -/
def hkcCmd (d : Nat) (v : Word) (s : State) : State :=
  let h := hkcOf s d
  let op := fld v 31 28
  let ch := fld v 4 0
  let bad := cmdInvalidPg Evt.HKC_CMD_INVALID (ra (pgHkc d) 0x104) v s
  if beforeReadyLocal s || h.calBusy || h.conv.isSome || h.diode then bad
  else if op = 1 then hkcCalStart d s
  else if op = 2 then
    if ch = 14 ∨ 24 ≤ ch then bad else setHkc d { h with conv := some ch, convAt := placedEnd s h 400 } s
  else bad

/-- HKC_CAL (R452). -/
def execHkcCal (dt : Nat) (die : Die) (s : State) : Result := actHost dt (pgHkc die) (hkcCmd die 0x10000000) s
/-- HKC_CONVERT (R451). -/
def execHkcConvert (dt : Nat) (die : Die) (ch : BitVec 5) (s : State) : Result :=
  actHost dt (pgHkc die) (hkcCmd die (word (2 ^ 29 + ch.toNat))) s

/-- HKC_CONVERT_END (R451): due once the pending conversion's 400 ticks have run. -/
def execHkcConvertEnd (dt : Nat) (die : Die) (raw : BitVec 12) (s : State) : Result :=
  act dt (fun s =>
    match (hkcOf s die).conv with
    | none => s
    | some ch => if s.clk.now < (hkcOf s die).convAt then s
      else hkcPublish die ch raw (setHkc die { hkcOf s die with conv := none } s)) s

/-- The check of R454 that a calibration fails: 0 none, 1 offset, 2 gain, 3 linearity. -/
def hkcCheck (off : Int) (gain : Nat) (cbg : Rat) (m1 : Int) : Nat :=
  if off < -1024 ∨ 1024 < off then 1
  else if gain < 29491 ∨ 36045 < gain then 2
  else
    let r := (hkcCorrect { offset := off, gain := gain } 1 m1 : Rat)
    if r < cbg / 2 - 4 ∨ cbg / 2 + 4 < r then 3 else 0

/-- HKC_CAL ends on a die (R452, R454). [DEDUCED: log 66] -/
def hkcCalFinish (d : Nat) (m : HkcMeans) (s : State) : State :=
  let cbg : Rat := ((reg s (ra (pgHkc d) 0x114)).toNat : Rat) * 8 / 3125
  let span := m.m0 - m.m15
  let (gain, s) : Nat × State :=
    if span = 0 then let (f, s) := takeFree s; (f % 2 ^ 16, s)
    else ((rne (32768 * 16 * cbg / (span : Rat))).toNat, s)
  let bad := hkcCheck m.m15 gain cbg m.m1
  let s := setHkc d { hkcOf s d with calBusy := false, calDone := bad == 0, calFail := bad != 0,
                                     offset := m.m15, gain := gain } s
  let detail := d + unsigned 16 m.m15 * 2 ^ 8 + (gain % 2 ^ 16) * 2 ^ 24
  if bad = 0 then
    let s := raiseOwn (pgHkc d) Evt.HKC_CAL_DONE detail s
    if 6 ≤ s.boot.step then { s with regs := { s.regs with up := mset false s.regs.up (pgHkc d) true } } else s
  else raiseOwn (pgHkc d) Evt.HKC_CAL_FAIL (detail + bad * 2 ^ 40) s

/-- HKC_CAL_END (R452, R454): due once HKC_CAL has run its 480,000 ACLK cycles. -/
def execHkcCalEnd (dt : Nat) (die : Die) (means : HkcMeans) (s : State) : Result :=
  act dt (fun s => if (hkcOf s die).calBusy && decide ((hkcOf s die).calAt + hkcCalCycles ≤ s.clk.now)
    then hkcCalFinish die means s else s) s

/-! ## Shutdown record and trip (R475, R476) -/

/-- The estimate in whole °C, truncated toward zero. -/
def wholeC (e : Int) : Int := Int.tdiv e 16

/-- The bytes of a shutdown record below COMPLETE (R476). -/
def shutdownRecord (s : State) (cause die : Nat) (e : Int) (diode : Nat) : Bytes :=
  toBytes 8 (tick s) ++ toBytes 6 (stepNumber s) ++ toBytes 1 cause ++ toBytes 1 die ++
  toBytes 2 (unsigned 16 e) ++ toBytes 2 diode ++ toBytes 1 (forceFld s Reg.THERM_LIMITS 23 16) ++
  toBytes 1 s.therm.f ++ toBytes 1 s.therm.d ++ toBytes 1 0 ++
  (List.range 20).map (fun d => BitVec.ofNat 8 (unsigned 8 (wholeC (est s d)))) ++
  toBytes 4 s.breath.number.toNat ++ toBytes 4 s.atlas.last ++ toBytes 2 (reg s Reg.ATLAS_POWER_LIMIT).toNat ++
  toBytes 2 (reg s Reg.THERM_COOLANT).toNat ++ toBytes 7 0

/-- The record with its last byte, COMPLETE, written (R476). -/
def recordComplete (r : Bytes) : Bytes := r.take 63 ++ [0xA5]

/-- The NVREC window changes: its generation passes through an odd value (R574). [DEDUCED: log 25] -/
def nvTouch (s : State) : State := { s with nvm := { s.nvm with generation := s.nvm.generation + 2 } }

/-- What ECC finds on a block of the record area: the bad block is rewritten to a spare block; answers whether
none was left, so that a write to it fails (R571). [DEDUCED: log 25] -/
def nvmFind (o : NvmObs) (s : State) : Bool × State :=
  if !o.uncorrectable then (false, bump Reg.NVREC_ECC_CORR_COUNT 1 s)
  else
    let s := raise 8 Evt.NVM_ECC_UNCORRECTED o.block.toNat (bump Reg.NVREC_ECC_UNCORR_COUNT 1 s)
    if s.nvm.spares = 0 then (true, raise 8 Evt.NVM_WRITE_FAIL o.block.toNat s)
    else
      let n := s.nvm.spares - 1
      let s := { s with nvm := { s.nvm with spares := n } }
      (false, if n = 31 then raise 8 Evt.NVM_SPARE_LOW n s else s)

/-- What ECC finds on several blocks: whether a write to one of them fails. -/
def nvmFinds (l : List NvmObs) (s : State) : Bool × State :=
  l.foldl (fun (x : Bool × State) o =>
    let y := nvmFind o x.2
    (x.1 || y.1, y.2)) (false, s)

/-- Write the shutdown record and count its cause in the life records; a trip's COMPLETE byte follows with
THERMTRIP_N (R475), a clock loss writes it at once. [DESIGN CHOICE: log 26] -/
def writeShutdown (cause die : Nat) (e : Int) (diode : Nat) (s : State) : State :=
  let r := shutdownRecord s cause die e diode
  let r := if cause = 3 then recordComplete r else padTo 64 r
  let one_ := fun (l : Life) => { l with trips := l.trips + 1 }
  let m := fun (l : ModLife) => if cause = 3 then { l with clockLosses := l.clockLosses + 1 }
    else { l with trips := l.trips + 1 }
  let s := { s with nvm := { s.nvm with shutdown := some r, modLife := m s.nvm.modLife }, modLife := m s.modLife }
  nvTouch (if cause = 3 then s
    else { s with life := mupd {} s.life die one_, nvm := { s.nvm with life := mupd {} s.nvm.life die one_ } })

/-- The thermal trip (R475): FATAL, every gate closed, every program channel stopped, the record written. -/
def thermalTrip (die : Nat) (e : Int) (cause diode : Nat) (s : State) : State :=
  if s.therm.tripped then s
  else
    let s := raise 5 Evt.THERM_TRIP
      (die + (if cause = 2 then diode else unsigned 16 e) * 2 ^ 8 + cause * 2 ^ 24) s
    let s := { s with therm := { s.therm with tripped := true, tripTick := tick s },
                      breath := { s.breath with gatedMask := 0x3FF } }
    writeShutdown cause die e diode (stopPrograms s)

/-- R475: THERMTRIP_N falls with the record's COMPLETE byte, written within 2 ms of the trip, or once those have
passed. [DESIGN CHOICE: log 26] -/
def tripAssert (s : State) : State :=
  if s.therm.tripped && !s.clk.thermtrip then
    let s := emit .thermtrip { s with clk := { s.clk with thermtrip := true } }
    if tick s ≤ s.therm.tripTick + 1600000 then
      nvTouch { s with nvm := { s.nvm with shutdown := s.nvm.shutdown.map recordComplete } }
    else s
  else s

/-- THERMTRIP_ASSERT (R475): due while a trip has not asserted it. -/
def execThermtripAssert (dt : Nat) (s : State) : Result := actPowered dt tripAssert s

/-! ## Clock faults (R33, R34) -/

/-- R34: the root clock is lost: nothing issues or commits until the next power-up; the record is written.
[DEDUCED: log 22; DESIGN CHOICE: log 26] -/
def rootLoss (s : State) : State :=
  if s.clk.rootLost then s
  else writeShutdown 3 0xFF 0 0x8000 { s with clk := { s.clk with rootLost := true } }

/-- R33: the fault is raised FATAL and CLK_STATUS shows it. [DEDUCED: log 22] -/
def clockFault (k : ClockFault) (s : State) : State :=
  match k with
  | .refLoss n => rootLoss (updReg Reg.CLK_STATUS (fun w => putFld w 1 0 0) (raise 0 Evt.CLK_REF_LOSS n.toNat s))
  | .pllUnlock d => rootLoss (updReg Reg.CLK_STATUS (fun w => putFlag w 1 false) (raise 0 Evt.CLK_PLL_UNLOCK d.val s))
  | .alignFail d n =>
    updReg Reg.CLK_STATUS (fun w => putFlag w 2 false) (raise 0 Evt.CLK_ALIGN_FAIL (d.val + n.toNat * 2 ^ 8) s)

/-- CLOCK_FAULT (R33, R34). -/
def execClockFault (dt : Nat) (kind : ClockFault) (s : State) : Result := act dt (clockFault kind) s

/-! ## Diodes and seeding (R464 to R468) -/

/-- Seed the model from the twenty readings: Td from each, Tp from their mean (R464). [DEDUCED: log 64] -/
def seedModel (rs : List DiodeObs) (s : State) : State :=
  let ts := (List.range 20).map (fun d => (rs.map (·.temp)).getD d 0)
  let s := (List.range 20).foldl (fun s d => { s with therm := { s.therm with
    td := mset 0 s.therm.td d (round32 (((ts.getD d 0 : Int) : Rat) / 16)),
    est := mset 0 s.therm.est d (ts.getD d 0) } }) s
  let tp := round32 (((ts.sum : Int) : Rat) / 320)
  let since := if s.therm.seeded then s.therm.seededAt else tick s
  { s with
    therm := { s.therm with
      tp := tp, plate := rne (val tp * 16), seeded := true, seededAt := since, seed := none },
    regs := { s.regs with up := if 6 ≤ s.boot.step then mset false s.regs.up 5 true else s.regs.up } }

/-- A write of THERM_DIODE_CMD (R466). -/
def diodeCmd (v : Word) (s : State) : State :=
  if beforeReadyLocal s ∨ (List.range 20).any (fun d => (hkcOf s d).diode) = true then
    cmdInvalid 5 Evt.THERM_CMD_INVALID 0x118 v s
  else ((List.range 20).filter (fun d => flag v d)).foldl
    (fun s d => setHkc d { hkcOf s d with diode := true, diodeAt := placedEnd s (hkcOf s d) 6400 } s) s

/-- THERM_DIODE_READ (R466). -/
def execThermDiodeRead (dt : Nat) (mask : BitVec 20) (s : State) : Result := actHost dt 5 (diodeCmd (word mask.toNat)) s

/-- A diode reading: out of range it fails; in range it is compared with the estimate, once one is in force, and
with the trip limit (R466 to R468). [DEDUCED: log 65] -/
def diodeRead (d : Nat) (o : DiodeObs) (s : State) : State :=
  if o.temp < -640 ∨ 2400 < o.temp then
    raise 5 Evt.THERM_DIODE_FAIL (d + o.code.toNat * 2 ^ 8)
      (updReg (Reg.THERM_DIODE d) (fun w => putFld w 17 16 2) s)
  else
    let s := setReg (Reg.THERM_DIODE d) (word (unsigned 16 o.temp + 2 ^ 16)) s
    let diff := o.temp - est s d
    let s := if s.therm.seeded = true ∧ (diff < -96 ∨ 96 < diff) then
        bump Reg.THERM_DISAGREE_COUNT 1 (raise 5 Evt.THERM_MODEL_DISAGREE
          (d + unsigned 16 (est s d) * 2 ^ 8 + unsigned 16 o.temp * 2 ^ 24) s)
      else s
    if (forceFld s Reg.THERM_LIMITS 23 16 * 16 : Nat) ≤ o.temp then
      thermalTrip d (est s d) 2 (unsigned 16 o.temp) s
    else s

/-- A diode read of the host ends. -/
def diodeEnd (d : Nat) (o : DiodeObs) (s : State) : State :=
  diodeRead d o (setHkc d { hkcOf s d with diode := false } s)

/-- DIODE_READ_END (R466 to R468): due once the die's pending read has run its 1,600 ACLK cycles. -/
def execDiodeReadEnd (dt : Nat) (die : Die) (reading : DiodeObs) (s : State) : Result :=
  act dt (fun s => if (hkcOf s die).diode && decide ((hkcOf s die).diodeAt ≤ s.clk.now)
    then diodeEnd die reading s else s) s

/-- Every die's diode is read once (R464). [DEDUCED: log 65] -/
def readAll (rs : List DiodeObs) (s : State) : State :=
  ((List.range 20).zip rs).foldl (fun s e => diodeRead e.1 e.2 s) s

/-- A write of THERM_CMD with the readings a SEED takes: the state is reset from them at the next boundary (R464).
[DEDUCED: log 65] -/
def thermCmd (v : Word) (rs : List DiodeObs) (s : State) : State :=
  if beforeReadyLocal s ∨ fld v 31 28 ≠ 1 then cmdInvalid 5 Evt.THERM_CMD_INVALID 0x114 v s
  else
    let s := readAll rs s
    { s with therm := { s.therm with seed := some rs } }

/-- THERM_SEED (R464): twenty readings. -/
def execThermSeed (dt : Nat) (readings : List DiodeObs) (s : State) : Result :=
  if readings.length = 20 then actHost dt 5 (thermCmd 0x10000000 readings) s else .fault (.illFormed "THERM_SEED")

/-- What THERM_LIMITS may hold: WARN [7:0], THROTTLE [15:8], TRIP [23:16] (R471). -/
def limitsOk (v : Word) : Bool :=
  let warn := fld v 7 0
  let throttle := fld v 15 8
  let trip := fld v 23 16
  decide (70 ≤ warn ∧ warn ≤ throttle ∧ 80 ≤ throttle ∧ throttle + 5 ≤ trip ∧ 100 ≤ trip ∧ trip ≤ 115)

/-- A write of THERM_LIMITS: in force from the next boundary, or ignored whole (R471). -/
def limitsWrite (v : Word) (s : State) : State :=
  if limitsOk v then setReg Reg.THERM_LIMITS (v &&& 0xFFFFFF) s else cmdInvalid 5 Evt.THERM_CMD_INVALID 0x104 v s

/-! ## The model at a boundary (R461 to R473) -/

/-- A die's package energy over the breath ended (1/100 pJ): measured, or charged × K while its converter is
not calibrated (R455); `noHbm` leaves out a hub's rails 2–4. -/
def dieEnergy (s : State) (d : Nat) (noHbm : Bool) : Rat :=
  if (hkcOf s d).calDone then
    ((mget 0 s.atlas.dieMeas d - (if noHbm then mget 0 s.atlas.dieHbm d else 0) : Nat) : Rat)
  else ((mget 0 s.atlas.dieChg d * s.atlas.k : Nat) : Rat) / 65536

/-- Power in W of an energy in 1/100 pJ over `n` ticks, as FP32. -/
def powerF (e : Rat) (n : Nat) : Word := if n = 0 then 0 else round32 (e * 8 / (1000000 * (n : Rat)))

/-- min(1, dt / TAU), 1 where TAU is 0 (R461 and the TAU field). -/
def coefA (dt : Word) (tau : Nat) : Word :=
  if tau = 0 then one32
  else
    let a := Fp.div dt (round32 ((tau : Rat) / 10000))
    if val a < 1 then a else one32

/-- One model node: T + a (T0 + R P − T), one rounding per operation (R461). -/
def nodeStep (t a t0 r p : Word) : Word :=
  Fp.add t (Fp.mul a (Fp.sub (Fp.add t0 (Fp.mul r p)) t))

/-- R461, R462: the model over a breath of `n` ticks, and the new estimates in force. [DEDUCED: log 64] -/
def modelUpdate (n : Nat) (s : State) : State :=
  let dt := round32 ((n : Rat) / 800000000)
  let coef := fun a => (forceFld s a 31 16, round32 ((forceFld s a 15 0 : Rat) / 65536))
  let cool := round32 (((max 80 (min 1120 (BitVec.ofNat 16 (forceFld s Reg.THERM_COOLANT 15 0)).toInt) : Int) : Rat) / 16)
  let pTotal := powerF (((List.range 20).map (fun d => dieEnergy s d false)).foldl (· + ·) 0) n
  let pc := coef Reg.THERM_PLATE_COEF
  let tp := nodeStep s.therm.tp (coefA dt pc.1) cool pc.2 pTotal
  let s := { s with therm := { s.therm with tp := tp, plate := rne (val tp * 16) } }
  (List.range 20).foldl (fun s d =>
    let c := coef (Reg.THERM_DIE_COEF d)
    let t := nodeStep (mget 0 s.therm.td d) (coefA dt c.1) tp c.2 (powerF (dieEnergy s d true) n)
    { s with therm := { s.therm with
      td := mset 0 s.therm.td d t, est := mset 0 s.therm.est d (rne (val t * 16)) } }) s

/-- The twenty estimates. -/
def ests (s : State) : List Int := (List.range 20).map (est s)

def hottest (es : List Int) : Int := es.foldl max (es.headD 0)

/-- The hottest die, lowest number on a tie. -/
def hottestDie (s : State) : Nat := ((List.range 20).find? (fun d => est s d == hottest (ests s))).getD 0

/-- The rate of a die in 1/10 °C/s as an exact number, once 50 ms of history have passed (R470). [DEDUCED: log 64] -/
def rateOf (s : State) (d : Nat) : Option Rat :=
  if !s.therm.seeded || decide (tick s < s.therm.seededAt + 40000000) then none
  else ((s.therm.history.find? (fun h => decide (h.1 + 40000000 ≤ tick s)))).map (fun h =>
    ((est s d - h.2.getD d 0 : Int) : Rat) * 500000000 / ((tick s - h.1 : Nat) : Rat))

def rateAbove (s : State) (d : Nat) : Bool :=
  match rateOf s d with
  | none => false
  | some r => decide ((clamp 10 600 (forceFld s Reg.THERM_RATE 15 0) : Rat) < r)

/-- Publish the rates (R470). -/
def publishRates (s : State) : State :=
  (List.range 20).foldl (fun s d => { s with therm := { s.therm with
    rate := mset 0 s.therm.rate d (match rateOf s d with | none => 0 | some r => rne r) } }) s

/-- A warning-like threshold with its once-per-die latch: raised when met and not latched, re-armed when
`clear` (R469, R477). -/
def latchEvent (met clear : Bool) (latched : Bool) (ev : State → State) (setL : Bool → State → State) (s : State) :
    State :=
  if met && !latched then setL true (ev s) else if clear then setL false s else s

def addDie (l : List Nat) (d : Nat) (b : Bool) : List Nat := if b then (if l.contains d then l else l ++ [d]) else l.filter (· != d)

/-- R469: each die's estimate against the thresholds. -/
def thresholds (s : State) : State :=
  if !s.therm.seeded then s
  else
    (List.range 20).foldl (fun s d =>
      let e := est s d
      let warn : Int := (forceFld s Reg.THERM_LIMITS 7 0 : Nat)
      let trip : Int := (forceFld s Reg.THERM_LIMITS 23 16 : Nat)
      let det := d + unsigned 16 e * 2 ^ 8
      let s := latchEvent (decide (warn * 16 ≤ e)) (decide (e ≤ (warn - 3) * 16)) (s.therm.warned.contains d)
        (raise 5 Evt.THERM_WARN det)
        (fun b s => { s with therm := { s.therm with warned := addDie s.therm.warned d b } }) s
      let r := unsigned 16 (mget 0 s.therm.rate d)
      let s := latchEvent (rateAbove s d) (!rateAbove s d) (s.therm.rated.contains d)
        (raise 5 Evt.THERM_RATE (d + r * 2 ^ 8))
        (fun b s => { s with therm := { s.therm with rated := addDie s.therm.rated d b } }) s
      let s := if 16 ≤ d then s else
        latchEvent (decide (e < 240)) (decide (240 ≤ e)) (s.therm.lowed.contains d)
          (raise 5 Evt.THERM_LOW det)
          (fun b s => { s with therm := { s.therm with lowed := addDie s.therm.lowed d b } }) s
      let lowEn := flag (force s Reg.THERM_CONFIG) 2
      let s := if 16 ≤ d then s else
        latchEvent (lowEn && decide (e < 80)) (decide (80 ≤ e)) (s.therm.blocked.contains d)
          (raise 5 Evt.THERM_LOW_BLOCK det)
          (fun b s => { s with therm := { s.therm with blocked := addDie s.therm.blocked d b } }) s
      if trip * 16 ≤ e then thermalTrip d e 1 0x8000 s else s) s

/-- R472, R473: throttle factor, floor count, idle divisor; answers with the coming breath's IDLE.
[DEDUCED: log 64] -/
def throttleUpdate (s : State) : State :=
  let es := ests s
  let cfg := force s Reg.THERM_CONFIG
  let thr : Int := (forceFld s Reg.THERM_LIMITS 15 8 : Nat)
  let anyHot := s.therm.seeded && es.any (fun e => decide (thr * 16 ≤ e))
  let anyRate := s.therm.seeded && (List.range 20).any (rateAbove s)
  let cond := flag cfg 0 && (anyHot || anyRate)
  let rec_ := es.all (fun e => decide (e ≤ (thr - 3) * 16)) && !anyRate
  let hot20 := (s.therm.history[19]?).map (fun h => hottest h.2)
  let t := s.therm
  let t' : Therm :=
    if cond then
      let f := max 30 (t.f - 4)
      let nf := if f = 30 then t.nf + 1 else 0
      let up := match hot20 with | none => false | some h => decide (h < hottest es)
      let d := if flag cfg 1 && decide (0 < nf) && nf % 20 == 0 && up then (if t.d = 0 then 8 else max 2 (t.d / 2)) else t.d
      { t with f := f, nf := nf, d := d }
    else if rec_ then { t with nf := 0, d := 0, f := min 100 (t.f + 1) } else { t with nf := 0 }
  let t' := if flag cfg 0 then t' else { t' with f := 100, d := 0 }
  let h := hottestDie s
  let det := h + unsigned 16 (est s h) * 2 ^ 8
  let s := { s with therm := t' }
  let s := if t.f = 100 ∧ t'.f < 100 then
      raise 5 Evt.THERM_THROTTLE (det + (one anyHot + 2 * one anyRate) * 2 ^ 24) s else s
  let s := if t.f < 100 ∧ t'.f = 100 then
      { raise 5 Evt.THERM_THROTTLE_END t.throttled s with therm := { s.therm with throttled := 0 } } else s
  let s := if t.d ≠ t'.d then
      raise 5 Evt.THERM_IDLE_FALLBACK (t'.d + h * 2 ^ 4 + unsigned 16 (est s h) * 2 ^ 12) s else s
  let idle := decide (t'.d ≠ 0) && s.breath.number.toNat % t'.d == t'.d - 1
  let s := if t'.f < 100 then
      bump Reg.THERM_THROTTLE_COUNT 1 { s with therm := { s.therm with throttled := s.therm.throttled + 1 } } else s
  let s := if idle then bump Reg.THERM_IDLE_COUNT 1 s else s
  { s with breath := { s.breath with idle := idle } }

/-- Accrue the life records of the dies over a breath of `n` ticks at the estimates that were in force. -/
def accrueLife (n : Nat) (s : State) : State :=
  (List.range 20).foldl (fun s d =>
    let e := est s d
    let b := if e < 240 then 0 else if e < 400 then 1 else if e ≤ 1120 then 2 else if e ≤ 1440 then 3
      else if e ≤ 1520 then 4 else 5
    let f := fun (l : Life) =>
      { l with
        estSum := l.estSum + e * (n : Int),
        estTicks := l.estTicks + n,
        bands := l.bands.modify b (fun x => x + n),
        peak := max l.peak e,
        throttleTicks := l.throttleTicks + (if s.therm.f < 100 then n else 0) }
    { s with life := mupd {} s.life d f }) s

/-- Step 3's thermal part of a boundary (R432, R461 to R473) after a breath of `n` ticks. [DEDUCED: log 64] -/
def thermBoundary (n : Nat) (s : State) : State :=
  let s := if s.therm.seeded then accrueLife n s else s
  let s := match s.therm.seed with
    | some rs => seedModel rs s
    | none => if s.therm.seeded then modelUpdate n s else s
  let s := throttleUpdate (thresholds (publishRates s))
  let h := (tick s, ests s) :: s.therm.history
  { s with therm := { s.therm with history := if s.therm.seeded then h.take 260 else [] } }

/-- THERM_STATE as it reads. -/
def thermStateWord (s : State) : Word :=
  word (s.therm.f + s.therm.d * 2 ^ 8 + one (decide (s.therm.f < 100)) * 2 ^ 12 + one s.therm.seeded * 2 ^ 13 +
    hottestDie s * 2 ^ 16)

end Sys2Proof.Machine
end

