-- ==== Sys2Proof/Machine/Breath.lean ====
section
/-! DEFINITION. Class gates, spends and borrowing (R433 to R440), the allowance and its projection (R443 to
R445), the correction factor (R442): what a compare point asks and a breath boundary computes. -/

namespace Sys2Proof.Machine

open Sys2Proof.Map Sys2Proof.Fp

/-! ## Budgets -/

def budgetReg (c r : Nat) : Nat := Reg.BREATH_BUDGET c r

/-- Budget in force, none when unlimited (R434). -/
def budgetOf (s : State) (c r : Nat) : Option Nat :=
  let b := (force s (budgetReg c r)).toNat
  if b = 0xFFFFFFFF then none else some b

/-- F × 65,536 (values below 65,536 act as 65,536). -/
def inputFactor (s : State) : Nat := max 65536 (force s Reg.ATLAS_INPUT_FACTOR).toNat

/-- Scale of one counted unit of a resource, and of one budget unit, so that both compare as numbers: energy
is charged × K × F against µJ (R433's resources). -/
def spendMul (s : State) (r : Nat) : Nat := if r = 3 then s.atlas.k * inputFactor s else 1
def budgetMul (r : Nat) : Nat :=
  if r = 0 then 1024 else if r = 1 then 1024 else if r = 2 then 4096 else 100000000 * 2 ^ 32

def spendOf (s : State) (c r : Nat) : Nat := mget 0 s.breath.spend (c * 4 + r)

/-- Spend below budget; a budget of 0 is not met until something is charged (R434, R437). -/
def belowBudget (s : State) (c r : Nat) : Bool :=
  match budgetOf s c r with
  | none => true
  | some b =>
    let sp := spendOf s c r * spendMul s r
    decide (sp < b * budgetMul r) || decide (b = 0 ∧ sp = 0)

/-- What a class may still be charged in a resource, in counted units, a part of a unit as a whole one; none when
unlimited. [DEDUCED: log 60] -/
def remainder (s : State) (c r : Nat) : Option Nat :=
  (budgetOf s c r).map (fun b => ceilDiv (b * budgetMul r - spendOf s c r * spendMul s r) (max 1 (spendMul s r)))

/-- BREATH_LEND, bits 0 and 1 always zero (R438). -/
def lends (s : State) (c : Nat) : Bool := flag (force s Reg.BREATH_LEND) c && decide (2 ≤ c)

def borrowEn (s : State) : Bool := flag (force s Reg.BREATH_CONFIG) 1

def addSpend (c r n : Nat) (s : State) : State :=
  { s with breath := { s.breath with spend := mupd 0 s.breath.spend (c * 4 + r) (· + n) } }

/-- Charge the lenders in ascending class number; what none takes stays with PREFILL (R438). [DEDUCED: log 60] -/
def borrowFrom : List Nat → Nat → Nat → State → State
  | [], r, n, s => addSpend 1 r n s
  | c :: cs, r, n, s =>
    if n = 0 then s
    else if !lends s c then borrowFrom cs r n s
    else
      let take := match remainder s c r with | none => n | some m => min m n
      if take = 0 then borrowFrom cs r n s
      else
        let s := addSpend c r take s
        let b := s.breath
        let s := { s with breath := { b with
          lenders := b.lenders ||| 2 ^ c, borrowed := b.borrowed + (if r = 3 then take else 0) } }
        borrowFrom cs r (n - take) s

/-- A charge enters the spend (R437, R438). [DEDUCED: log 60] -/
def applyCharge (c r n : Nat) (s : State) : State :=
  if c = 1 ∧ borrowEn s = true then
    match remainder s 1 r with
    | none => addSpend 1 r n s
    | some m => borrowFrom (List.range 10) r (n - min m n) (addSpend 1 r (min m n) s)
  else addSpend c r n s

/-- Charges made 16 issue cycles ago or longer, or all of them, enter the spend. -/
def settle (all : Bool) (s : State) : State :=
  let due := s.breath.fresh.filter (fun e => all || decide (e.1 ≤ issueCount s))
  let s := { s with breath := { s.breath with
    fresh := s.breath.fresh.filter (fun e => !(all || decide (e.1 ≤ issueCount s))) } }
  due.foldl (fun s e => applyCharge e.2.1 e.2.2.1 e.2.2.2 s) s

/-- A resource leaves the class open (R437, R438). -/
def resourceOpen (s : State) (c r : Nat) : Bool :=
  belowBudget s c r ||
    (decide (c = 1) && borrowEn s && (List.range 10).any (fun l => lends s l && belowBudget s l r))

/-- The gate of a class is open (R437, R439, R440, R475). -/
def classOpen (s : State) (c : Nat) : Bool :=
  !s.breath.idle && !s.therm.tripped &&
  (s.breath.gate == 0 || (s.breath.gate == 2 && c == 0)) &&
  (!flag (force s Reg.BREATH_CONFIG) 0 || (List.range 4).all (resourceOpen s c))

/-- Resources that close a class, as bits. -/
def closedBits (s : State) (c : Nat) : Nat :=
  ((List.range 4).map (fun r => if resourceOpen s c r then 0 else 2 ^ r)).sum

/-! ## The projection (R443) -/

def basePower (s : State) : Nat := forceFld s Reg.ATLAS_BASE_POWER 11 0

/-- Next boundary after the last one. -/
def breathEnd (s : State) : Nat := s.breath.start - s.breath.start % s.breath.ticks + s.breath.ticks

/-- Units of the projection in one µJ: K, F and the charges of 1/100 pJ are whole numbers in it. -/
abbrev fineUj : Nat := 100000000 * 2 ^ 32

/-- The projection in 1/`fineUj` µJ. -/
def projection (s : State) : Nat :=
  let ts := max s.breath.start s.atlas.lastSample
  let tau := breathEnd s - ts
  s.atlas.meas * (fineUj / 1024) + s.atlas.chgSince * s.atlas.k * inputFactor s
    + basePower s * tau * (fineUj / 800)

/-- DECODE's unspent reservation in 1/`fineUj` µJ (R443). -/
def decodeReserve (s : State) : Nat :=
  match budgetOf s 0 3 with
  | none => 0
  | some b => b * budgetMul 3 - spendOf s 0 3 * spendMul s 3

/-- The module gate the projection asks for: 0 none, 1 all, 2 all but DECODE, 3 allowance below base; none before a boundary
has set an allowance. [DESIGN CHOICE: log 63] -/
def gateWanted (s : State) : Nat :=
  let a := s.atlas.allowance * fineUj
  if !s.atlas.allowed then 0
  else if s.atlas.allowance < basePower s * s.breath.ticks / 800 then 3
  else if a ≤ projection s then 1
  else if a ≤ projection s + decodeReserve s then 2
  else 0

/-- The gates as an evaluation at a start of autonomous work finds them (R437): charges made 16 issue cycles ago are in the spend;
while no program runs no issue cycle comes, and all are. [DESIGN CHOICE: log 60] -/
def gatesNow (s : State) : State :=
  let s := settle (s.seq.state != .running) s
  let g := gateWanted s
  { s with breath := { s.breath with gate := if g = 3 then 1 else g } }

/-- Autonomous work of a class may start. -/
def startOpen (s : State) (c : Nat) : Bool := classOpen (gatesNow s) c

/-- Evaluate the module gate and every class gate (R36, R437, R443): the last compare point's GATED, the classes
exhausted in this breath, the ticks a module gate has been closed. [DEDUCED: log 60] -/
def evalGates (s : State) : State :=
  let s := settle false s
  let g := gateWanted s
  let b := s.breath
  let ticks := if b.gate = 0 then b.gatedTicks else b.gatedTicks + (tick s - b.gateFrom)
  let s := { s with breath := { b with
    gate := if g = 3 then 1 else g, gateFrom := tick s, gatedTicks := ticks,
    gateCause := if g = 0 then b.gateCause else if b.gateCause = 0 then g else b.gateCause } }
  let mask := ((List.range 10).map (fun c => if classOpen s c then 0 else 2 ^ c)).sum
  let ex := if flag (force s Reg.BREATH_CONFIG) 0 then
      (List.range 10).foldl (fun m c => mupd 0 m c (· ||| closedBits s c)) s.breath.exhausted
    else s.breath.exhausted
  { s with breath := { s.breath with gatedMask := mask, exhausted := ex } }

/-- BREATH_GATE_STATUS as it reads. -/
def gateStatusWord (s : State) : Word :=
  word (s.breath.gatedMask + one (decide (s.breath.gate ≠ 0)) * 2 ^ 16 + one s.breath.idle * 2 ^ 17)

/-! ## BREATH_TICKS (R430) -/

/-- The period a value acts as. -/
def actTicks (v : Nat) : Nat := let c := clamp 200000 3200000 v; c - c % 800

/-- A write of BREATH_TICKS (R430). [DEDUCED: log 61] -/
def breathTicksWrite (v : Word) (s : State) : State :=
  if !isStopped s then cmdInvalidPg Evt.BREATH_CMD_INVALID Reg.BREATH_TICKS v s
  else
    let s := setReg Reg.BREATH_TICKS (word (fld v 21 0)) s
    { s with breath := { s.breath with ticksAt := tick s } }

/-- BREATH_TICKS (R430). -/
def execBreathTicks (dt : Nat) (ticks : Word) (s : State) : Result := actHost dt 4 (breathTicksWrite ticks) s

/-- The period at tick `b`: BREATH_TICKS as written from the first tick after its write that is a multiple of
it, and the period before that until then (R430). [DEDUCED: log 61] -/
def periodAt (s : State) (b : Nat) : Nat :=
  let p := actTicks (reg s Reg.BREATH_TICKS).toNat
  let w := s.breath.ticksAt
  if p = s.breath.ticks ∨ w - w % p + p ≤ b then p else s.breath.ticks

/-- The boundary tick that is due: a multiple of the period after the last boundary (R429, R430). [DEDUCED: log 61] -/
def boundaryDue (s : State) : Option Nat :=
  let b := tick s - tick s % periodAt s (tick s)
  if s.breath.start < b then some b else none

/-! ## Steps of a boundary (R432) -/

/-- Spend of a class beyond its budget, in spend units (R437). -/
def excess (s : State) (c r : Nat) : Nat :=
  match budgetOf s c r with
  | none => 0
  | some b => (spendOf s c r * spendMul s r) - b * budgetMul r

/-- Step 1: last-breath registers take the spends in budget units rounded up, overshoots and borrowing are
counted, spends clear (R432, R437). `s` is settled. -/
def closeSpends (s0 : State) : State :=
  let s := (List.range 40).foldl (fun s i =>
    let c := i / 4; let r := i % 4
    let u := ceilDiv (spendOf s0 c r * spendMul s0 r) (budgetMul r)
    setReg (Reg.BREATH_LAST c r) (word (min u 0xFFFFFFFE)) s) s0
  let anyOver := (List.range 40).any (fun i => decide (0 < excess s0 (i / 4) (i % 4)))
  let s := if anyOver then bump Reg.BREATH_OVERSHOOT_COUNT 1 s else s
  let s := if s0.breath.lenders ≠ 0 then bump Reg.BREATH_BORROW_COUNT 1 s else s
  let s := if s0.breath.gateCause = 0 then s else bump Reg.ATLAS_GATE_COUNT 1 s
  { s with breath := { s.breath with
    spend := [], fresh := [], borrowed := 0, lenders := 0, gatedTicks := 0, gateFrom := tick s0, gateCause := 0,
    exhausted := [] } }

/-- Step 5: what the breath that `s0` ended with shows of budgets and gates (R448). [DEDUCED: log 60] -/
def spendEvents (s0 s : State) : State :=
  let s := (List.range 10).foldl (fun s c =>
    let ex := mget 0 s0.breath.exhausted c
    let s := if ex = 0 then s else
      raise 4 Evt.BREATH_EXHAUSTED (c + ex * 2 ^ 4 + s0.breath.number.toNat * 2 ^ 8) s
    match (List.range 4).find? (fun r => decide (0 < excess s0 c r)) with
    | none => s
    | some r => raise 4 Evt.BREATH_OVERSHOOT
        (c + 2 ^ r * 2 ^ 4 + min (ceilDiv (excess s0 c r) (budgetMul r)) 0xFFFFFFFF * 2 ^ 8) s) s
  let s := if s0.breath.lenders = 0 then s else
    raise 4 Evt.BREATH_BORROW (s0.breath.lenders +
      min (ceilDiv (s0.breath.borrowed * spendMul s0 3) (budgetMul 3)) 0xFFFFFFFF * 2 ^ 10) s
  let ticks := if s0.breath.gate = 0 then s0.breath.gatedTicks else s0.breath.gatedTicks + (tick s0 - s0.breath.gateFrom)
  if s0.breath.gateCause = 0 then s else
    raise 3 Evt.POWER_LIMIT_GATE (min ticks 0xFFFFFFFF + s0.breath.gateCause * 2 ^ 32) s

/-- The measured energy of each die up to the boundary: calibrated dies as far as the last sample's power
carries to the boundary, the others their charged energy × K (R441, R442). [DEDUCED: log 62] -/
def closeMeasure (b : Nat) (s : State) : State :=
  (List.range 20).foldl (fun s d =>
    if (hkcOf s d).calDone then
      let p := mget {} s.atlas.samples d
      if p.rails.isEmpty then s
      else
        let rail := fun i => p.rails.getD i 0 * (b - p.tick) / 8
        let all := ((List.range 6).map rail).sum
        let hbm := if d < 16 then 0 else rail 2 + rail 3 + rail 4
        let e := all - p.counted
        { s with atlas := { s.atlas with
          samples := mset {} s.atlas.samples d { p with counted := all, countedHbm := hbm },
          dieMeas := mupd 0 s.atlas.dieMeas d (· + e),
          dieHbm := mupd 0 s.atlas.dieHbm d (· + (hbm - p.countedHbm)),
          meas := s.atlas.meas + inputOf s e } }
    else
      let cpj := ((List.range 10).map (fun c => mget 0 s.atlas.chgDie (d * 16 + c))).sum
      let e := inputOf s (cpj * s.atlas.k / 65536)
      let s := apportion d e s.atlas.chgDie s
      { s with atlas := { s.atlas with meas := s.atlas.meas + e, chgDie := dropDie d s.atlas.chgDie } }) s

/-- K of the next breath from the breath ended, of `n` ticks (R442). [DEDUCED: log 63] -/
def updateK (n : Nat) (s : State) : State :=
  if !flag (force s Reg.ATLAS_CONFIG) 0 then { s with atlas := { s.atlas with k := 65536 } }
  else if s.atlas.chgBreath < 1000 * 100000000 then s
  else
    let num : Rat := (s.atlas.meas : Rat) / 1024 - (basePower s * n : Nat) / 800
    let den : Rat := (s.atlas.chgBreath * inputFactor s : Nat) / (100000000 * 65536)
    let q := num / den
    let k := rne (max (4 / 5) (min (5 / 4) q) * 65536)
    let s := { s with atlas := { s.atlas with k := k.toNat } }
    if q < 4 / 5 ∨ 5 / 4 < q then raise 3 Evt.ATLAS_CORRECTION_CLAMP (unsigned 32 (rne (q * 65536))) s else s

/-- The power limit that acts: 600 to 2,150 W (R444). -/
def powerLimit (s : State) : Nat := clamp 600 2150 (forceFld s Reg.ATLAS_POWER_LIMIT 11 0)

/-- A write of ATLAS_POWER_LIMIT: a clamped one raises BREATH_CMD_INVALID (R444). -/
def powerLimitWrite (v : Word) (s : State) : State :=
  let w := fld v 11 0
  let s := setReg Reg.ATLAS_POWER_LIMIT (word w) s
  if w < 600 ∨ 2150 < w then cmdInvalidPg Evt.BREATH_CMD_INVALID Reg.ATLAS_POWER_LIMIT v s else s

/-- The energy window takes the ended breath and starts anew where the breath number asks (R445). [DEDUCED: log 63] -/
def windowUpdate (s : State) : State :=
  let a := s.atlas
  let a := if a.winCount = 0 then a else { a with winSpent := a.winSpent + a.last, winIndex := a.winIndex + 1 }
  let n := s.breath.number.toNat
  let cnt := regFld s Reg.ATLAS_WINDOW_BREATHS 15 0
  let restart := a.winCount = 0 || n % a.winCount == 0
  let a := if !restart then a
    else if cnt = 0 then { a with winCount := 0, winSpent := 0, winIndex := 0 }
    else if n % cnt = 0 then
      { a with winCount := cnt, winBudget := reg64 s Reg.ATLAS_WINDOW_BUDGET, winSpent := 0, winIndex := 0, winLow := false }
    else { a with winCount := 0, winSpent := 0, winIndex := 0 }
  { s with atlas := a }

/-- The allowance of the breath that starts (R443). [DEDUCED: log 63] -/
def setAllowance (s : State) : State :=
  let p := if s.therm.f = 100 then powerLimit s else min (powerLimit s) (powerLimit s * s.therm.f / 100)
  let a := p * s.breath.ticks / 800
  let w := s.atlas
  if w.winCount = 0 then { s with atlas := { w with allowance := a, allowed := true } }
  else
    let left := if w.winBudget ≤ w.winSpent then 0 else (w.winBudget - w.winSpent) / (w.winCount - w.winIndex)
    let s := { s with atlas := { w with allowance := min a left, allowed := true } }
    if left < a ∧ w.winLow = false then
      raise 3 Evt.ENERGY_WINDOW_LOW (w.winIndex + min left 0xFFFFFFFF * 2 ^ 16)
        { s with atlas := { s.atlas with winLow := true } }
    else s

/-- Measured energy of the ended breath against its allowance (R443). [DEDUCED: log 63] -/
def checkAllowance (s : State) : State :=
  let m := s.atlas.meas / 1024
  let s := { s with atlas := { s.atlas with last := m } }
  if s.atlas.allowance * 1024 < s.atlas.meas then
    bump Reg.ATLAS_EXCEED_COUNT 1
      (raise 3 Evt.POWER_LIMIT_EXCEEDED (min s.atlas.allowance 0xFFFFFFFF + min m 0xFFFFFFFF * 2 ^ 32) s)
  else s

/-- Steps 1 to 4 of R432 at boundary tick `b`, and the events of step 5 on budgets. -/
def boundaryCore (b : Nat) (s : State) : State :=
  let n := b - s.breath.start
  let s0 := settle true s
  let s := closeSpends s0
  let s := commitRegs .breath s
  let s := { s with breath := { s.breath with
    number := s.breath.number + 1, start := b, ticks := periodAt s b } }
  let s := closeMeasure b s
  let s := checkAllowance s
  let s := thermBoundary n s
  let s := updateK n s
  let s := windowUpdate s
  let s := setAllowance s
  let s := { s with atlas := { s.atlas with
    meas := 0, chgBreath := 0, chgSince := 0, chgMark := 0, dieChg := [], dieMeas := [], dieHbm := [], lastSample := b } }
  spendEvents s0 (evalGates s)

end Sys2Proof.Machine
end

