-- ==== Sys2Proof/Machine/Device.lean ====
section
/-! DEFINITION. Die-to-die links and their repair (R24 to R29). -/

namespace Sys2Proof.Machine

open Sys2Proof.Map

/-- D2D_LINK_STATUS of a link. -/
def linkReg (l : Nat) : Nat := 0x200 + 4 * l

/-- UCIe modules of a link (Die-to-die links table). -/
def linkModules (l : Nat) : Nat := if l < 16 then 10 else 16

/-- R24: a replay is counted, and logged at the breath boundary (R29). -/
def d2dReplay (l : Nat) (s : State) : State := collect Evt.D2D_REPLAY l 1 (bump (0x260 + 4 * l) 1 s)

/-- D2D_FLIT_REPLAY (R24, R29). -/
def execD2dFlitReplay (dt : Nat) (link : Fin 20) (s : State) : Result := act dt (d2dReplay link) s

/-- R25: eight failed replays take the link down, FATAL. -/
def d2dDown (l seq : Nat) (s : State) : State :=
  raise 0 Evt.D2D_LINK_DOWN (l + seq * 2 ^ 8) (updReg (linkReg l) (fun w => putFlag w 0 false) s)

/-- D2D_LINK_DOWN (R25): not due on a link that is not up. -/
def execD2dLinkDown (dt : Nat) (link : Fin 20) (seq : BitVec 24) (s : State) : Result :=
  act dt (fun s => if flag (reg s (linkReg link)) 0 then d2dDown link seq.toNat s else s) s

/-- Lanes of one module and direction of a link. -/
def lanesOf (ls : List Lane) (l m : Nat) (d : Bool) : List Nat :=
  (ls.filter (fun x => x.link == l && x.module == m && x.dir == d)).map (·.lane)

/-- The modules and directions of a link, direction 0 first. -/
def linkSides (l : Nat) : List (Nat × Bool) :=
  (List.range (linkModules l)).flatMap (fun m => [(m, false), (m, true)])

/-- The redundant lanes of some module are exhausted: more than four lanes of one direction are replaced
(R27). [DEDUCED: log 28] -/
def lanesExhausted (map : List Lane) (l : Nat) : Bool :=
  (linkSides l).any (fun p => decide (4 < (lanesOf map l p.1 p.2).length))

/-- LANES_REPAIRED shows the stored map, from power-up on (R27's table). -/
def showLanes (l : Nat) (s : State) : State :=
  setFld (linkReg l) 19 12 ((s.nvm.lanes.filter (·.link == l)).length) s

/-- LANES_REPAIRED of every link, from NVM. -/
def showAllLanes (s : State) : State := (List.range 20).foldl (fun s l => showLanes l s) s

/-- Detail of D2D_LANE_FAIL for the first failing module of a link. -/
def laneFailDetail (failed : List Lane) (l : Nat) : Nat :=
  match (linkSides l).find? (fun p => !(lanesOf failed l p.1 p.2).isEmpty) with
  | none => l
  | some (m, d) =>
    let ls := lanesOf failed l m d
    l + one d * 2 ^ 8 + m * 2 ^ 9 + ls.length * 2 ^ 13 + (ls.foldl min 127) * 2 ^ 20 + (ls.foldl max 0) * 2 ^ 27

/-- A link's training ends with the lanes found failed (R26, R27): a failed lane outside the stored map leaves
the link untrained and raises D2D_LANE_FAIL. -/
def linkTrained (l : Nat) (failed : List Lane) (s : State) : State :=
  let failed := failed.filter (·.link == l)
  let s := { s with boot := { s.boot with
    lanesFailed := s.boot.lanesFailed.filter (·.link != l) ++ failed } }
  let bad := failed.filter (fun x => !s.nvm.lanes.contains x)
  let s := showLanes l s
  if bad.isEmpty then updReg (linkReg l) (fun w => putFld w 2 0 1) s
  else raise 0 Evt.D2D_LANE_FAIL (laneFailDetail bad l) (updReg (linkReg l) (fun w => putFld w 2 0 2) s)

/-- D2D_TRAINING_END (R27): due while the link trains. -/
def execD2dTrainingEnd (dt : Nat) (link : Fin 20) (failed : List Lane) (s : State) : Result :=
  act dt (fun s => if flag (reg s (linkReg link)) 2 then linkTrained link failed s else s) s

/-- A write of D2D_REPAIR_CMD (R27, R28): commits the failed lanes of LINK and retrains it, while stopped.
[DEDUCED: log 28] -/
def d2dRepairCmd (v : Word) (s : State) : State :=
  let l := fld v 4 0
  if 20 ≤ l then raise 0 Evt.D2D_CMD_INVALID v.toNat s
  else if !flag v 8 then s
  else if !isStopped s then raise 0 Evt.D2D_CMD_INVALID v.toNat s
  else
    let new := (s.boot.lanesFailed.filter (·.link == l)).filter (fun x => !s.nvm.lanes.contains x)
    let map := s.nvm.lanes ++ new
    if lanesExhausted map l then updReg (linkReg l) (fun w => putFld w 2 0 2) s
    else
      let s := { s with nvm := { s.nvm with lanes := map } }
      updReg (linkReg l) (fun w => putFld w 2 0 4) (showLanes l s)

/-- D2D_REPAIR (R27, R28). -/
def execD2dRepair (dt : Nat) (value : Word) (s : State) : Result := actHost dt 0 (d2dRepairCmd value) s

/-! ## Paths (R21, R22) -/

/-- The hub of a die (R17): 0 N, 1 E, 2 S, 3 W. -/
def hubOf (die : Nat) : Nat := if die < 16 then die / 4 else die - 16

/-- The ring segments from hub `a` to hub `b` (R22): the direct one between neighbours, and the two clockwise ones
between opposite hubs. Link 16 + h joins hub h to the next hub clockwise. -/
def ringLinks (a b : Nat) : List Nat :=
  match (b + 4 - a) % 4 with
  | 0 => []
  | 1 => [16 + a]
  | 2 => [16 + a, 16 + (a + 1) % 4]
  | _ => [16 + b]

/-- The die-to-die links that data from one die to another crosses (R21): a Luna die's own link at either end, and the
hub ring between their hubs. -/
def dieLinks (a b : Nat) : List Nat :=
  if a = b then []
  else (if a < 16 then [a] else []) ++ ringLinks (hubOf a) (hubOf b) ++ (if b < 16 then [b] else [])

/-- A link carries traffic. -/
def linkUp (s : State) (l : Nat) : Bool := flag (reg s (linkReg l)) 0

/-- Every link between two dies carries traffic. -/
def diePath (s : State) (a b : Nat) : Bool := (dieLinks a b).all (linkUp s)

/-- The hub die of an HBM byte address (R18). -/
def hbmDie (a : Nat) : Nat := 16 + hbmStack a / 6

/-- The hub die of a Shawm port: 0 and 1 on hub E, 2 and 3 on hub W. -/
def portDie (p : Nat) : Nat := if p < 2 then 17 else 19

/-- D2D_FAIL_MAP[k] of the selection (R27's table). -/
def failMap (s : State) (k : Nat) : Word :=
  let v := reg s Reg.D2D_FAIL_SEL
  let l := fld v 4 0
  let m := fld v 9 6
  if 20 ≤ l ∨ linkModules l ≤ m then 0
  else (lanesOf s.boot.lanesFailed l m (flag v 5)).foldl
    (fun w lane => if lane / 32 = k ∧ lane < 68 then putFlag w (lane % 32) true else w) 0

end Sys2Proof.Machine
end

