-- ==== Sys2Proof/Machine/Accum.lean ====
section
/-! DEFINITION. The accumulator file of a Luna die (R211 to R235): WA48 values, ordered addition, maximum and
minimum pairs, save images, and the checks on them. -/

namespace Sys2Proof.Machine

open Sys2Proof.Map Sys2Proof.Fp

/-! ## WA48 (R211 to R213) -/

def accPoison : BitVec 48 := 0x7FE000000001

/-- The poison value of a maximum or minimum whose elements so far are all excluded: a later element still counts (R230).
[DESIGN CHOICE: log 43] -/
def accExcluded : BitVec 48 := 0x7FE000000002

/-- The value of a WA48 word, none for poison and invalid words. -/
def waVal (w : BitVec 48) : Elem :=
  let n := w.toNat
  let e := bits n 46 37
  let m := bits n 36 0
  let neg := bit n 47
  if e = 0 then (if m = 0 then some ⟨0, neg⟩ else none)
  else if e = 1023 then none
  else
    let v := ((2 ^ 37 + m : Nat) : Rat) * pow2 ((e : Int) - 511 - 37)
    some ⟨if neg then -v else v, neg⟩

/-- A value rounded once to WA48; beyond the normal range it is poison (R212). -/
def waOf (x : Rat) (neg0 : Bool) : BitVec 48 :=
  if x = 0 then (if neg0 then 0x800000000000 else 0)
  else
    let r := roundTo 38 (-100000) x
    let e := expo r + 511
    if e < 1 ∨ 1022 < e then accPoison
    else
      let m := (mag r / pow2 (expo r - 37)).floor.toNat - 2 ^ 37
      BitVec.ofNat 48 ((if r < 0 then 2 ^ 47 else 0) + e.toNat * 2 ^ 37 + m)

def waElem (e : Elem) : BitVec 48 := match e with | none => accPoison | some n => waOf n.x n.neg

/-- RES of a value: the significand mod 3, or 0 for zero (R221). -/
def waRes (w : BitVec 48) : Nat :=
  let n := w.toNat
  if bits n 46 37 = 0 ∧ bits n 36 0 = 0 then 0 else (2 ^ 37 + bits n 36 0) % 3

/-! ## Status bits -/

def accCount (a : Acc) : Nat := fld a.status 23 0
def isIndex (a : Acc) : Bool := fld a.status 31 30 == 3

/-- A sum accumulator holding a value with a count and the flags [28:24] given. -/
def accMake (w : BitVec 48) (count flags : Nat) : Acc :=
  { value := w, status := word (waRes w * 2 ^ 30 + flags % 32 * 2 ^ 24 + count % 2 ^ 24) }

def accFlags (a : Acc) : Nat := fld a.status 28 24

/-- Flags as bits of [28:24]: POISON 1, EXCLUDED 2, OUT_OF_RANGE 4, BOUND_LAPSED 8, SAT 16. -/
def accPoisoned (a : Acc) : Acc := accMake accPoison (accCount a) (accFlags a ||| 1)

/-- Flag-word bits [1] OUT_OF_RANGE, [2] BOUND_LAPSED as accumulator flags. -/
def chunkFlags (fl : Nat) : Nat := (if bit fl 1 then 4 else 0) + (if bit fl 2 then 8 else 0)

/-! ## The file -/

/-- Accumulators of a die (R221). -/
abbrev accLimit : Nat := 131072

def accKey (d i : Nat) : Nat := d * 131072 + i

def acc (s : State) (d i : Nat) : Acc := if i < accLimit then mget {} s.tensor.accs (accKey d i) else {}

/-- An accumulator beyond the file holds nothing. -/
def setAcc (d i : Nat) (a : Acc) (s : State) : State :=
  if i < accLimit then { s with tensor := { s.tensor with accs := mset {} s.tensor.accs (accKey d i) a } } else s

def poisonAcc (d i : Nat) (s : State) : State := setAcc d i (accPoisoned (acc s d i)) s

/-- An accumulator takes flags besides those it has. -/
def addAccFlags (d i f : Nat) (s : State) : State :=
  let a := acc s d i
  setAcc d i (accMake a.value (accCount a) (accFlags a ||| f)) s

/-- The mode of the pair an accumulator belongs to: 0 for a sum accumulator, else 1 MAX or 2 MIN (R228). -/
def pairMode (s : State) (d i : Nat) : Nat :=
  let o := acc s d (i / 2 * 2 + 1)
  if isIndex o then bits o.value.toNat 33 32 else 0

/-- The value word and flags a READ sees: [0] POISON, [1] OUT_OF_RANGE, [2] BOUND_LAPSED, [3] EXCLUDED (R227);
a poison value shows as POISON. [DEDUCED: log 43] -/
def accRead (s : State) (d i : Nat) : Elem × Nat :=
  let a := acc s d i
  let f := if isIndex a then 0 else accFlags a
  let v := waVal a.value
  (v, one (v.isNone || bit f 0) + 2 * one (bit f 2) + 4 * one (bit f 3) + 8 * one (bit f 1))

/-! ## Completion cycles (R219, R220) -/

/-- A die's TENSOR register. -/
def tensorReg (d off : Nat) : Nat := Reg.luna d 5 off
def tensorPage (d : Nat) : Nat := pgLuna d 5

/-- The cycle gathered is complete: the accumulators that took two or more chunks in it are reported (R219). -/
def closeCycle (s : State) : State :=
  let hits := s.tensor.chunks.filter (fun e => decide (2 ≤ e.2))
  let s := { s with tensor := { s.tensor with chunks := [], adds := [] } }
  hits.foldl (fun s e =>
    let d := e.1 / 131072
    let i := e.1 % 131072
    raise (tensorPage d) Evt.ACC_SCHEDULE (d + i * 2 ^ 8 + min e.2 127 * 2 ^ 25) s) s

/-- Move on to a completion cycle. -/
def enterCycle (c : Nat) (s : State) : State :=
  if s.tensor.cycle = c then s
  else
    let s := closeCycle s
    { s with tensor := { s.tensor with cycle := c } }

/-- A chunk (or CLEAR, PRELOAD, EXT_INIT, which are chunk 0) completes into an accumulator: the second one of its cycle
poisons it, and the cycle counts once on its die (R219, R224). [DEDUCED: log 42] -/
def noteChunk (d i : Nat) (s : State) : State :=
  if accLimit ≤ i then s else
  let others := s.tensor.chunks.any (fun e => e.1 / 131072 == d && decide (2 ≤ e.2))
  let n := mget 0 s.tensor.chunks (accKey d i) + 1
  let s := { s with tensor := { s.tensor with chunks := mset 0 s.tensor.chunks (accKey d i) n } }
  if n < 2 then s else poisonAcc d i (if others then s else bump (tensorReg d 0x114) 1 s)

/-- An addition takes one of the die's 16,384 of the cycle; false beyond them (R220). -/
def takeAdd (d : Nat) (s : State) : Bool × State :=
  let n := mget 0 s.tensor.adds d
  (decide (n < 16384), { s with tensor := { s.tensor with adds := mset 0 s.tensor.adds d (n + 1) } })

/-! ## Order (R215, R216, R218) -/

/-- The order check of one addition on an accumulator's count and flags, before the value is formed. -/
def accOrder (d i kseq : Nat) (s : State) : State :=
  let a := acc s d i
  let n := accCount a
  let en := flag (force s (tensorReg d 0x104)) 0
  if bit (accFlags a) 4 then
    (if en then s else setAcc d i (accMake a.value n (accFlags a ||| 8)) s)
  else
    let wrong := en && kseq != n
    let s := if wrong then
        raise (tensorPage d) Evt.ACC_ORDER (d + i * 2 ^ 8 + kseq * 2 ^ 25 + (n % 2 ^ 15) * 2 ^ 49)
          (bump (tensorReg d 0x110) 1 s)
      else s
    let new := if wrong then kseq + 1 else n + 1
    let f := accFlags a ||| (if en then 0 else 8) ||| (if wrong then 1 else 0)
    let v := if wrong then accPoison else a.value
    if new < 2 ^ 24 then setAcc d i (accMake v new f) s
    else
      raise (tensorPage d) Evt.ACC_BOUND_SAT (d + i * 2 ^ 8)
        (bump (tensorReg d 0x11C) 1 (setAcc d i (accMake v 0xFFFFFF (f ||| 16 ||| 8)) s))

/-! ## Operations on one accumulator -/

/-- CLEAR (R222). -/
def accClear (d i : Nat) (s : State) : State := noteChunk d i (setAcc d i (accMake 0 1 0) s)

/-- PRELOAD (R222). -/
def accPreload (d i : Nat) (e : Elem) (fl : Nat) (s : State) : State :=
  let w := waElem e
  noteChunk d i (setAcc d i (accMake w 1 (chunkFlags fl + one (waVal w).isNone)) s)

/-- The addition of a chunk to a sum accumulator's value (R212, R213, R223, R224). -/
def accSum (a : Acc) (e : Elem) (fl : Nat) : Acc :=
  let f := accFlags a ||| chunkFlags fl
  match waVal a.value, e with
  | some x, some y =>
    let w := waOf (x.x + y.x) (x.neg && y.neg && decide (x.x = 0) && decide (y.x = 0))
    accMake w (accCount a) (f ||| one (waVal w).isNone)
  | _, _ => accMake accPoison (accCount a) (f ||| 1)

/-- One chunk into accumulator `i` with chunk index KSEQ (R214 to R224, R231). -/
def accAdd (d i : Nat) (e : Elem) (kseq fl : Nat) (s : State) : State :=
  if accLimit ≤ i then s
  else
    let held := pairMode s d i
    let j := if held = 0 then i else i / 2 * 2
    let (ok, s) := takeAdd d s
    if !ok then
      collect Evt.ACC_OVERRUN d 1 (bump (tensorReg d 0x124) 1 (poisonAcc d j s))
    else
      let s := noteChunk d j s
      if held ≠ 0 then
        accOrder d j kseq (addAccFlags d j (chunkFlags fl) (poisonAcc d j
          (raise (tensorPage d) Evt.ACC_MODE_MISMATCH (d + i * 2 ^ 8 + held * 2 ^ 25) s)))
      else
        let s := accOrder d i kseq s
        setAcc d i (accSum (acc s d i) e fl) s

/-! ## Maximum and minimum (R228 to R231) -/

/-- EXT_INIT of a pair with its mode (R229). [DEDUCED: log 43] -/
def accExtInit (d i mode : Nat) (s : State) : State :=
  let a := i / 2 * 2
  let s := setAcc d a (accMake accPoison 1 0) s
  noteChunk d a (setAcc d (a + 1) { value := BitVec.ofNat 48 (mode * 2 ^ 32 + 0xFFFFFFFF), status := 0xC0000000 } s)

/-- The running winner: value and index, none while nothing has been compared. -/
def extStep (mode base : Nat) (w : Option (Num × Nat)) (e : Nat × Elem) : Option (Num × Nat) :=
  match e.2 with
  | none => w
  | some y =>
    match w with
    | none => some (y, base + e.1)
    | some (x, k) =>
      if (mode = 1 ∧ x.x < y.x) ∨ (mode = 2 ∧ y.x < x.x) then some (y, base + e.1) else some (x, k)

/-- EXT_CHUNK of one block of 32 elements on a pair; `invalid` when its descriptor is (R178). -/
def accExtChunk (d i : Nat) (es : List Elem) (kseq fl : Nat) (invalid : Bool) (s : State) : State :=
  let a := i / 2 * 2
  if accLimit ≤ a then s
  else
    let mode := pairMode s d a
    let (ok, s) := takeAdd d s
    if !ok then collect Evt.ACC_OVERRUN d 1 (bump (tensorReg d 0x124) 1 (poisonAcc d a s))
    else
      let s := noteChunk d a s
      if mode = 0 then
        accOrder d a kseq (addAccFlags d a (chunkFlags fl) (poisonAcc d a
          (raise (tensorPage d) Evt.ACC_MODE_MISMATCH (d + a * 2 ^ 8 + 3 * 2 ^ 27) s)))
      else
        let s := accOrder d a kseq s
        let x := acc s d a
        let none_ := x.value == accExcluded
        let f := (if none_ then accFlags x / 2 * 2 else accFlags x) ||| chunkFlags fl ||| (if es.any (·.isNone) then 2 else 0)
        if (bit (accFlags x) 0 && !none_) || invalid then setAcc d a (accMake accPoison (accCount x) (f ||| 1)) s
        else
          let old := (waVal x.value).map (fun v => (v, bits (acc s d (a + 1)).value.toNat 31 0))
          match ((List.range 32).zip es).foldl (extStep mode (32 * (kseq - 1))) old with
          | none => setAcc d a (accMake accExcluded (accCount x) (f ||| 1)) s
          | some (v, k) =>
            setAcc d (a + 1) { value := BitVec.ofNat 48 (mode * 2 ^ 32 + k % 2 ^ 32), status := 0xC0000000 }
              (setAcc d a (accMake (waOf v.x v.neg) (accCount x) f) s)

/-! ## Save and restore (R234, R235) -/

/-- The 16-byte image of an accumulator. -/
def accImage (s : State) (d i : Nat) : Bytes :=
  let a := acc s d i
  toBytes 6 a.value.toNat ++ toBytes 2 0 ++ toBytes 4 a.status.toNat ++ toBytes 4 0

/-- What an image restores as, and the cause it is invalid: 0 none, 1 residue, 2 reserved bytes, 3 encoding. -/
def imageAcc (b : Bytes) : Acc × Nat :=
  let v : BitVec 48 := BitVec.ofNat 48 (byteField b 0 5)
  let st := byteField b 8 11
  let n := v.toNat
  let reserved := decide (byteField b 6 7 ≠ 0 ∨ byteField b 12 15 ≠ 0)
  let index := bits st 31 30 == 3 && !reserved && (bits n 33 32 == 1 || bits n 33 32 == 2) &&
    bits n 47 34 == 0 && bits st 29 0 == 0
  if index then ({ value := v, status := word st }, 0)
  else
    let cause := if reserved then 2 else if bits n 46 37 = 0 ∧ bits n 36 0 ≠ 0 then 3
      else if bits st 31 30 ≠ waRes v then 1 else 0
    if cause = 0 then ({ value := v, status := word st }, 0)
    else (accMake accPoison (bits st 23 0) (bits st 28 24 ||| 1), cause)

/-- RESTORE of one image; an image that reads as poison restores as an invalid one. -/
def accRestore (d i : Nat) (img : Option Bytes) (s : State) : State :=
  let (a, cause) := match img with
    | some b => imageAcc b
    | none => (accMake accPoison 0 1, 3)
  let s := setAcc d i a s
  if cause = 0 then s
  else raise (tensorPage d) Evt.ACC_RESTORE_INVALID (d + i * 2 ^ 8 + cause * 2 ^ 25) (bump (tensorReg d 0x120) 1 s)

/-! ## What the engine's checks report (R221, R232, R233) -/

/-- File words found corrected or uncorrectable before an operation uses them. -/
def accFile (d : Nat) (o : AccObs) (s : State) : State :=
  let s := if o.corrected = 0 then s else
    collect Evt.ACC_ECC_CORRECTED d o.corrected (bump (tensorReg d 0x128) o.corrected s)
  o.uncorrected.foldl (fun s e =>
    let a := acc s d e.1
    let a := if e.2 then accPoisoned a else accMake accPoison 0 (1 + 8)
    raise (tensorPage d) Evt.ACC_ECC_UNCORRECTED (d + e.1 * 2 ^ 8) (setAcc d e.1 a s)) s

/-- Residue mismatches: accumulator and stage. -/
def accResidue (d : Nat) (o : AccObs) (s : State) : State :=
  o.residue.foldl (fun s e =>
    raise (tensorPage d) Evt.ACC_RESIDUE (d + e.1 * 2 ^ 8 + e.2 * 2 ^ 25)
      (bump (tensorReg d 0x118) 1 (poisonAcc d e.1 s))) s

/-- MACs counted in units of 65,536, the remainder kept (TENSOR_MAC_COUNT). -/
def countMacs (d n : Nat) (s : State) : State :=
  let r := mget 0 s.tensor.macs d + n
  bump64 (tensorReg d 0x108) (r / 65536)
    { s with tensor := { s.tensor with macs := mset 0 s.tensor.macs d (r % 65536) } }

end Sys2Proof.Machine
end

