-- ==== Sys2Proof/Machine/Ring.lean ====
section
/-! DEFINITION. Slot rings (R288 to R293) and remote windows (R304 to R312). -/

namespace Sys2Proof.Machine

open Sys2Proof.Map

/-! ## Words by address -/

/-- A scratchpad word; beyond the die's space nothing was ever written, so it reads as the poison marker.
[DEDUCED: log 44] -/
def spadAt (s : State) (d w : Nat) : SWord := if w < spadWords d then spadWord s d w else {}

/-- A write of one word; beyond the die's space nothing holds it. [DEDUCED: log 44] -/
def spadPut (d w : Nat) (x : SWord) (s : State) : State := if w < spadWords d then setSpad d w x s else s

/-- A data word. -/
def dataWord (n : Nat) : SWord := { data := BitVec.ofNat 64 n, poison := false }

def spadPage (d : Nat) : Nat := pgSpad d
def spadReg (d off : Nat) : Nat := ra (pgSpad d) off

/-! ## Rings -/

/-- A word of a table in scratchpad; one that the issued bundle finds uncorrectable reads as poison (R246, R282).
[DESIGN CHOICE: log 47] -/
def tableWord (s : State) (d w : Nat) : SWord :=
  match s.seq.issued with
  | some i => if i.tableBad.contains (d, w) then {} else spadAt s d w
  | none => spadAt s d w

/-- A ring table entry. -/
structure RingInfo where
  base : Nat
  slotWords : Nat
  slots : Nat
  hold : Bool
  linked : Bool
deriving DecidableEq, Repr

/-- The valid ring `r` of a die (R288), none when the entry, or the index, is not valid. -/
def ringInfo (s : State) (d r : Nat) : Option RingInfo :=
  let cnt := regFld s (spadReg d 0x114) 10 0
  if cnt ≤ r then none
  else
    let t := (reg s (spadReg d 0x110)).toNat + 2 * r
    let w0 := tableWord s d t
    let w1 := tableWord s d (t + 1)
    if w0.poison || w1.poison then none
    else
      let base := bits w0.data.toNat 31 0
      let sw := bits w0.data.toNat 63 32
      let k := bits w1.data.toNat 7 0
      let mode := bits w1.data.toNat 15 8
      if base < 2 ^ 26 ∧ 1 ≤ sw ∧ sw ≤ 16777215 ∧ 1 ≤ k ∧ k ≤ 16 ∧ mode < 4 ∧
          bits w1.data.toNat 63 16 = 0 ∧ residentRun s d base (2 ^ k * sw) = true then
        some ⟨base, sw, 2 ^ k, bit mode 0, bit mode 1⟩
      else none

def ringKey (d r : Nat) : Nat := d * 1024 + r

def ringOf (s : State) (d r : Nat) : Ring := mget {} s.mem.rings (ringKey d r)

def setRing (d r : Nat) (x : Ring) (s : State) : State :=
  { s with mem := { s.mem with rings := mset {} s.mem.rings (ringKey d r) x } }

/-- P − C, the full slots (R289). -/
def ringFull (x : Ring) : Nat := (x.p - x.c).toNat

/-- Slot `i` of a ring of `n` slots is full (R289). -/
def slotFull (x : Ring) (n i : Nat) : Bool := decide ((i + n - x.c.toNat % n) % n < ringFull x)

/-- Count an underrun or overrun of a ring (R292). -/
def ringError (d r n : Nat) (overrun : Bool) (s : State) : State :=
  if n = 0 then s
  else if overrun then collect Evt.SLOT_OVERRUN (ringKey d r) n (bump (spadReg d 0x134) n s)
  else collect Evt.SLOT_UNDERRUN (ringKey d r) n (bump (spadReg d 0x130) n s)

/-- RING_PUBLISH and a linked landing (R290, R292, R310). -/
def ringPublish (d r : Nat) (s : State) : State :=
  match ringInfo s d r with
  | none => s
  | some i =>
    let x := ringOf s d r
    if ringFull x = i.slots then ringError d r 1 true (setRing d r { p := x.p + 1, c := x.c + 1 } s)
    else setRing d r { x with p := x.p + 1 } s

/-- RING_RELEASE (R290, R292). -/
def ringRelease (d r : Nat) (s : State) : State :=
  let x := ringOf s d r
  if ringFull x = 0 then ringError d r 1 false s else setRing d r { x with c := x.c + 1 } s

/-- The valid rings of a die with their indices. -/
def ringsOf (s : State) (d : Nat) : List (Nat × RingInfo) :=
  (List.range (regFld s (spadReg d 0x114) 10 0)).filterMap (fun r => (ringInfo s d r).map (fun i => (r, i)))

/-- The slots of a ring that a run of words touches. -/
def slotsHit (i : RingInfo) (w n : Nat) : List Nat :=
  if n = 0 ∨ w + n ≤ i.base ∨ i.base + i.slots * i.slotWords ≤ w then []
  else
    let lo := (max w i.base - i.base) / i.slotWords
    let hi := (min (w + n) (i.base + i.slots * i.slotWords) - 1 - i.base) / i.slotWords
    (List.range (hi - lo + 1)).map (· + lo)

/-- Slots that a read or write of a run of words breaks R291 in: ring and slot. -/
def ringBreaks (s : State) (d w n : Nat) (write : Bool) : List (Nat × Nat) :=
  (ringsOf s d).flatMap (fun e =>
    ((slotsHit e.2 w n).filter (fun k => slotFull (ringOf s d e.1) e.2.slots k == write)).map (fun k => (e.1, k)))

/-- Report-mode counting of one operation's breaks (R292). -/
def reportBreaks (d : Nat) (bs : List (Nat × Nat)) (write : Bool) (s : State) : State :=
  bs.foldl (fun s b => ringError d b.1 1 write s) s

/-- A word lies in a slot of a list of broken ones. -/
def inBroken (s : State) (d : Nat) (bs : List (Nat × Nat)) (w : Nat) : Bool :=
  bs.any (fun b => match ringInfo s d b.1 with
    | none => false
    | some i => (slotsHit i w 1).contains b.2)

/-- A hold-mode ring is among the breaks (R293). -/
def anyHold (s : State) (d : Nat) (bs : List (Nat × Nat)) : Bool :=
  bs.any (fun b => match ringInfo s d b.1 with | none => false | some i => i.hold)

/-! ## Scheduled accesses (R277 to R279) -/

def accessKey (c d w : Nat) : Nat := (c * 20 + d) * 128 + w % 128

/-- Note a scheduled access of issue cycle `c`. -/
def noteAccess (c d w : Nat) (s : State) : State :=
  { s with mem := { s.mem with access := mupd 0 s.mem.access (accessKey c d w) (· + 1) } }

/-- One bank of a finished cycle had three or more accesses (R279). -/
def bankClash (k n : Nat) (s : State) : State :=
  let d := k / 128 % 20
  let s := { s with mem := { s.mem with clash := s.mem.clash ++ [k] } }
  raise (spadPage d) Evt.SPAD_BANK_CONFLICT (d + (k % 128) * 2 ^ 8 + min n 7 * 2 ^ 15 + (k / 2560) % 2 ^ 32 * 2 ^ 18) s

/-- The cycles before `c` are complete: their conflicts are known (R279). [DEDUCED: log 44] -/
def closeAccess (c : Nat) (s : State) : State :=
  let old := s.mem.access.filter (fun e => decide (e.1 / 2560 < c))
  let s := { s with mem := { s.mem with access := s.mem.access.filter (fun e => decide (c ≤ e.1 / 2560)),
                                        clash := s.mem.clash.filter (fun k => decide (c < k / 2560 + 4096)) } }
  let bad := old.filter (fun e => decide (3 ≤ e.2))
  let cycles := (bad.map (fun e => e.1 / 128)).eraseDups
  let s := cycles.foldl (fun s k => bump (spadReg (k % 20) 0x124) 1 s) s
  bad.foldl (fun s e => bankClash e.1 e.2 s) s

/-- An access to a word in a cycle fell on a bank in conflict. -/
def clashed (s : State) (c d w : Nat) : Bool := s.mem.clash.contains (accessKey c d w)

/-- A scheduled read of one word in issue cycle `c`, with its ring test (R291, R292). -/
def schedRead (c d w : Nat) (s : State) : SWord × State :=
  let s := noteAccess c d w s
  let bs := ringBreaks s d w 1 false
  let x := spadAt s d w
  (if bs.isEmpty then x else { x with poison := true }, reportBreaks d bs false s)

/-- Scheduled reads of a list of words. -/
def schedReads (c d : Nat) : List Nat → State → List (Nat × SWord) × State
  | [], s => ([], s)
  | w :: ws, s =>
    let (x, s) := schedRead c d w s
    let (xs, s) := schedReads c d ws s
    ((w, x) :: xs, s)

/-- A scheduled write of one word in issue cycle `c`; a conflict stores the marker (R279). -/
def schedWrite (c d w : Nat) (x : SWord) (s : State) : State :=
  let bs := ringBreaks s d w 1 true
  let s := reportBreaks d bs true s
  spadPut d w (if clashed s c d w then {} else x) s

/-- Scheduled reads of `n` consecutive words, each in the issue cycle `cyc` gives it, each an access of its own (R277,
R291, R292); those found uncorrectable, `bad`, read as poison (R282). Their keys are noted. [DEDUCED: log 30] -/
def runRead (cyc : Nat → Nat) (d : Nat) (bad : List Nat) : Nat → Nat → State → List SWord × State
  | _, 0, s => ([], s)
  | a, n + 1, s =>
    let (x, s) := schedRead (cyc a) d a { s with mem := { s.mem with noted := accessKey (cyc a) d a :: s.mem.noted } }
    let (xs, s) := runRead cyc d bad (a + 1) n s
    ((if bad.contains a then { x with poison := true } else x) :: xs, s)

/-- Begin noting reads afresh. -/
def noteFresh (s : State) : State := { s with mem := { s.mem with noted := [] } }

/-- Some of a list of noted reads fell on a bank in conflict (R279). -/
def clashedAny (s : State) (ks : List Nat) : Bool := ks.any (fun k => s.mem.clash.contains k)

/-! ## Flag words (R227) -/

/-- Flags read from a flag word, with the ring test of the read (R291, R292): poison, a word found uncorrectable among
them, stands for all four. The banks are not charged with it. [DEDUCED: log 30] -/
def flagWord (d w : Nat) (bad : List Nat) (s : State) : Nat × State :=
  let bs := ringBreaks s d w 1 false
  let x := spadAt s d w
  (if x.poison || bad.contains w || !bs.isEmpty then 15 else x.data.toNat % 16, reportBreaks d bs false s)

/-- OR flags into a flag word, with the ring test of a write: into one that reads as poison, all four go with them. -/
def orFlags (d w fl : Nat) (bad : Bool) (s : State) : State :=
  let x := spadAt s d w
  let s := reportBreaks d (ringBreaks s d w 1 true) true s
  spadPut d w (dataWord (if x.poison || bad then 15 else (x.data.toNat ||| fl % 16))) s

/-! ## Windows -/

/-- The die that owns a window, and the window's place in its table (R304). -/
def winOwner (w : Nat) : Option (Nat × Nat) :=
  if w < 3072 then some (w / 192, w % 192)
  else if w < 4096 then some (16 + (w - 3072) / 256, (w - 3072) % 256)
  else none

def winOf (s : State) (w : Nat) : Win := mget {} s.mem.wins w

def setWin (w : Nat) (x : Win) (s : State) : State :=
  { s with mem := { s.mem with wins := mset {} s.mem.wins w x } }

/-- The window table entry as an open latches it, none when it is not valid (R305, R306); words `bad` of it read as
poison (R282). -/
def winEntry (s : State) (d k : Nat) (bad : List Nat) : Option Win :=
  let t := (reg s (winReg d 0x100)).toNat + 4 * k
  let ws := (List.range 4).map (fun i => if bad.contains i then ({} : SWord) else spadAt s d (t + i))
  if anyPoison ws then none
  else
    let b := wordsBytes ws
    let base := byteField b 0 3
    let len := byteField b 4 7
    let arr := byteField b 16 17
    let ring := byteField b 18 19
    let linked := match ringInfo s d (ring % 1024) with | none => false | some i => i.linked
    if base < 2 ^ 26 ∧ 9 ≤ len ∧ len ≤ 67108864 ∧ residentRun s d base len = true ∧ bits arr 14 9 = 0 ∧
        bits ring 14 10 = 0 ∧ allZero (b.drop 20) = true ∧ (bit ring 15 = true → linked = true) then
      some { state := .opened, base := base, len := len, mask := BitVec.ofNat 64 (byteField b 8 15),
             arrive := if bit arr 15 then some (arr % 512) else none,
             ring := if bit ring 15 then some (ring % 1024) else none }
    else none

def winConflict (d w cause : Nat) (s : State) : State :=
  raise (pgWin d) Evt.WINDOW_CMD_CONFLICT (d + w * 2 ^ 8 + cause * 2 ^ 20) s

/-- Words of an operation's read found corrected or uncorrectable (R282). -/
def spadEcc (die corr : Nat) (bad : List Nat) (s : State) : State :=
  let s := if corr = 0 then s else
    collect Evt.SPAD_ECC_CORRECTED die corr (bump (spadReg die 0x128) corr s)
  bad.foldl (fun s w => raise (spadPage die) Evt.SPAD_ECC_UNCORRECTED (die + w * 2 ^ 8)
    (bump (spadReg die 0x12C) 1 s)) s

/-- WINDOW_OPEN takes effect (R306): the entry is read where the window may open. -/
def winOpen (d w : Nat) (bad : List Nat) (s : State) : State :=
  let x := winOf s w
  if x.state = .opened then winConflict d w 1 s
  else
    let k := (winOwner w).elim 0 (·.2)
    let s := spadEcc d 0 (bad.map (fun i => (reg s (winReg d 0x100)).toNat + 4 * k + i)) s
    match (winOwner w).bind (fun o => winEntry s d o.2 bad) with
    | none => winConflict d w 3 s
    | some e => setWin w { e with flight := x.flight } s

/-- WINDOW_CLOSE places the close fence (R306, R308, R309). -/
def winClose (d w : Nat) (s : State) : State :=
  let x := winOf s w
  if x.state = .opened then setWin w { x with state := if x.flight.isEmpty then .closed else .closing } s
  else winConflict d w 2 s

/-- HALT_CLEAR closes every window (R312). -/
def closeAll (s : State) : State :=
  { s with mem := { s.mem with wins := (s.mem.wins.map (fun e =>
      (e.1, { e.2 with state := if e.2.flight.isEmpty then .closed else .closing }))).filter (fun e => e.2 != {}) } }

/-- The owner's check of a first frame (R307): the status it gives, 0 when admitted. `hub` is the hub that
checked the frame, for an index with no owner. -/
def winAdmit (w src die thread off packets hub : Nat) (s : State) : Nat × State :=
  match winOwner w with
  | none =>
    (4, raise (pgHubspad hub) Evt.WINDOW_REJECT (w + 2 * 2 ^ 16 + src * 2 ^ 18 + off * 2 ^ 24)
      (bump (ra (pgHubspad hub) 0x318) 1 s))
  | some (d, _) =>
    let x := winOf s w
    let closed := fun cause => (3, raise (pgWin d) Evt.WINDOW_CLOSED_WRITE
      (w + src * 2 ^ 12 + cause * 2 ^ 19 + die * 2 ^ 21) (bump (winReg d 0x114) 1 s))
    if x.state ≠ .opened then closed 1
    else if !x.mask.getLsbD src then closed 2
    else if x.len < off + 9 * packets then
      (2, raise (pgWin d) Evt.WINDOW_REJECT (w + 2 ^ 16 + src * 2 ^ 18 + off * 2 ^ 24) (bump (winReg d 0x118) 1 s))
    else
      let f : Flight := { src := src, die := die, thread := thread, base := x.base,
                          arrive := x.arrive, ring := x.ring, packets := packets }
      (0, setWin w { x with flight := x.flight ++ [f] } s)

def isFlight (src die thread : Nat) (f : Flight) : Bool := f.src == src && f.die == die && f.thread == thread

/-- The words of a packet as they land: no bytes mean a poisoned packet, stored as the marker (R281). -/
def packetWords (p : Bytes) : List SWord :=
  if p.isEmpty then List.replicate 9 {} else bytesWords (padTo 72 p) false

/-- Put consecutive words. -/
def spadPuts (d w : Nat) : List SWord → State → State
  | [], s => s
  | x :: xs, s => spadPuts d (w + 1) xs (spadPut d w x s)

/-- Packets of an admitted write land at a word offset of the window (R291, R292, R309); always report mode. -/
def winLand (w src die thread off : Nat) (data : List Bytes) (s : State) : State :=
  match winOwner w with
  | none => s
  | some (d, _) =>
    let x := winOf s w
    match x.flight.find? (isFlight src die thread) with
    | none => s
    | some f =>
      let bs := (ringBreaks s d (f.base + off) (9 * data.length) true)
      let new := bs.filter (fun b => !f.slots.contains (b.1 * 65536 + b.2))
      let s := reportBreaks d new true s
      let s := spadPuts d (f.base + off) (data.flatMap packetWords) s
      let f' := { f with got := f.got + data.length, poison := f.poison || data.any (·.isEmpty),
                         slots := f.slots ++ new.map (fun b => b.1 * 65536 + b.2) }
      setWin w { winOf s w with flight := x.flight.map (fun g => if g = f then f' else g) } s

/-- An admitted write has landed in full (R310): tag, ring, count; the last one closes a CLOSING window. -/
def winLanded (w : Nat) (f : Flight) (s : State) : State :=
  match winOwner w with
  | none => s
  | some (d, _) =>
    let x := winOf s w
    let fl := x.flight.erase f
    let s := setWin w { x with
      flight := fl, state := if x.state = .closing ∧ fl.isEmpty = true then .closed else x.state } s
    let s := bump (winReg d 0x110) 1 s
    let s := match f.arrive with | none => s | some t => tagAdvance t s
    match f.ring with | none => s | some r => ringPublish d r s

/-- An admitted write whose path failed: its landed words stay, nothing advances (R311). -/
def winDropped (w : Nat) (f : Flight) (s : State) : State :=
  let x := winOf s w
  let fl := x.flight.erase f
  setWin w { x with flight := fl, state := if x.state = .closing ∧ fl.isEmpty = true then .closed else x.state } s

/-- WIN_STATE of a die's selected window. -/
def winStateWord (s : State) (d : Nat) : Word :=
  let w := regFld s (winReg d 0x104) 11 0
  if (winOwner w).map (·.1) ≠ some d then 0
  else
    let x := winOf s w
    word ((match x.state with | .closed => 0 | .opened => 1 | .closing => 2) + min x.flight.length 65535 * 2 ^ 16)

/-- WIN_OPEN_SUMMARY of a die. -/
def winSummary (s : State) (d : Nat) : Word :=
  word ((s.mem.wins.filter (fun e => e.2.state != .closed && (winOwner e.1).map (·.1) == some d)).length)

end Sys2Proof.Machine
end

