-- ==== Sys2Proof/Machine/Bundle.lean ====
section
/-! DEFINITION. Bundles (R242 to R246, R268): the store's records, the fields of slots, descriptor tables and
their faults. -/

namespace Sys2Proof.Machine

open Sys2Proof.Map

/-! ## The bundle store -/

/-- First word of the bundle store in hub N's scratchpad (R275). -/
abbrev storeBase : Nat := 58720256

/-- A 32-bit word of the store at a byte offset; a word that holds the poison marker is none. -/
def storeWord (s : State) (o : Nat) : Option Nat :=
  let x := spadWord s 16 (storeBase + o % 67108864 / 8)
  if x.poison then none else some (bits x.data.toNat (if o / 4 % 2 = 0 then 31 else 63) (if o / 4 % 2 = 0 then 0 else 32))

/-- `n` 32-bit words of the store as one number, least significant word first. -/
def storeBits (s : State) (o : Nat) : Nat → Option Nat
  | 0 => some 0
  | n + 1 => (storeWord s o).bind (fun w => (storeBits s (o + 4) n).map (fun r => w + r * 2 ^ 32))

/-- A program directory entry (chapter 7's table). -/
structure Program where
  offset : Nat
  length : Nat
  cycles : Nat
  bucket : Nat
  advCount : Nat
  advOffset : Nat
deriving DecidableEq, Repr

def programOf (s : State) (i : Nat) : Option Program :=
  (storeBits s (64 * i) 5).map (fun n =>
    ⟨bits n 31 0, bits n 63 32, bits n 95 64, bits n 111 96, bits n 127 112, bits n 159 128⟩)

/-- The tag-advance list of a program: tags and counts. -/
def advances (s : State) (p : Program) : List (Nat × Nat) :=
  (List.range p.advCount).filterMap (fun i =>
    (storeBits s (p.advOffset + 8 * i) 2).map (fun n => (bits n 8 0, bits n 63 32)))

/-! ## Records (R268) -/

/-- Widths of the Luna sub-slots. -/
def subWidth (k : Nat) : Nat := ([40, 32, 24, 16] : List Nat).getD k 0

/-- The bundle of the full 2,048 bits (R242). -/
def bundleOf (n : Nat) : Bundle :=
  { header := bits n 63 0
    hub := (List.range 4).map (fun h => bits n (64 + 48 * h + 47) (64 + 48 * h))
    luna := (List.range 16).map (fun l =>
      let b := n >>> (256 + 112 * l)
      { agroup := bits b 39 0, tensor := bits b 71 40, move := bits b 95 72, sync := bits b 111 96 }) }

/-- Take the fields that a presence mask marks, in ascending mask order, from packed bits (R268). -/
def unpackFields (mask : Nat) : List (Nat × Nat) → Nat → List Nat
  | [], _ => []
  | (i, w) :: fs, n =>
    if bit mask i then n % 2 ^ w :: unpackFields mask fs (n / 2 ^ w) else 0 :: unpackFields mask fs n

/-- Mask positions and widths: hub slots 0–3, then the four sub-slots of each LUNA. -/
def maskFields : List (Nat × Nat) :=
  (List.range 4).map (fun h => (h, 48)) ++ (List.range 64).map (fun i => (4 + i, subWidth (i % 4)))

def bundleFrom (header : Nat) (fs : List Nat) : Bundle :=
  { header := header
    hub := fs.take 4
    luna := (List.range 16).map (fun l =>
      let g := (fs.drop (4 + 4 * l)).take 4
      { agroup := g.getD 0 0, tensor := g.getD 1 0, move := g.getD 2 0, sync := g.getD 3 0 }) }

/-- The record at a store offset: its bundle and its length in bytes; none for FORM 3, for a prefix whose
[31:12] are not zero and for words that read as poison. [DESIGN CHOICE: log 47] -/
def record (s : State) (o : Nat) : Option (Bundle × Nat) :=
  match storeWord s o with
  | none => none
  | some p =>
    let len := bits p 11 2
    if bits p 31 12 ≠ 0 ∨ p % 4 = 3 then none
    else if p % 4 = 0 then (storeBits s (o + 4) 64).map (fun n => (bundleOf n, 4 * len))
    else if p % 4 = 2 then (storeBits s (o + 4) 2).map (fun n => (bundleFrom n [], 4 * len))
    else
      match storeBits s (o + 4) 5 with
      | none => none
      | some hm =>
        let mask := bits hm 131 64
        let total := (maskFields.map (fun f => if bit mask f.1 then f.2 else 0)).sum
        (storeBits s (o + 24) (ceilDiv total 32)).map (fun n =>
          (bundleFrom (bits hm 63 0) (unpackFields mask maskFields n), 4 * len))

/-! ## Fields of a bundle -/

def bRepeat (b : Bundle) : Nat := bits b.header 15 0
def bClass (b : Bundle) : Nat := bits b.header 19 16
def bWait (b : Bundle) : Nat := bits b.header 22 20
def bTag (b : Bundle) : Nat := bits b.header 31 23
def bValue (b : Bundle) : Nat := bits b.header 63 32

def lunaSlot (b : Bundle) (n : Nat) : LunaSlot := b.luna.getD n {}
def hubSlot (b : Bundle) (h : Nat) : Nat := b.hub.getD h 0

/-- Sub-slot `k` of a LUNA: 0 array-group, 1 tensor, 2 move, 3 sync. -/
def subSlot (b : Bundle) (n k : Nat) : Nat :=
  let l := lunaSlot b n
  if k = 0 then l.agroup else if k = 1 then l.tensor else if k = 2 then l.move else l.sync

/-- Slot numbers of the event details: hubs 1–4, LUNA 5–20. -/
def slotOf (die : Nat) : Nat := if die < 16 then 5 + die else die - 15

/-- Bundle bit position of a sub-slot. -/
def slotBit (die sub : Nat) : Nat :=
  if die < 16 then 256 + 112 * die + ([0, 40, 72, 96] : List Nat).getD sub 0 else 64 + 48 * (die - 16)

/-- The opcode of a sub-slot's value. -/
def opOf (die sub v : Nat) : Nat := if die < 16 ∧ sub = 1 then v % 32 else v % 16

/-- The index a sub-slot names at repetition `r`, STEP applied (R245). -/
def moveIndex (v r : Nat) : Nat := bits v 19 4 + (if bit v 20 then r else 0)
def hubIndex (v r : Nat) : Nat := bits v 23 4 + (if bit v 24 then r else 0)
def agGroup (v : Nat) : Nat := bits v 20 5
def agMode (v : Nat) : Nat := bits v 4 4
def agRow (v r : Nat) : Nat := (bits v 29 21 + (if bit v 30 then r else 0)) % 512
def tDesc (v : Nat) : Nat := bits v 20 5
def tRow (v : Nat) : Nat := bits v 30 22
/-- Repetition seen by a tensor descriptor's steps. -/
def tRep (v r : Nat) : Nat := if bit v 21 then r else 0

/-! ## Invalid fields (R246) -/

/-- SEQ_BUNDLE_INVALID for a field of a slot. -/
def bundleInvalid (die slot sub pos : Nat) (s : State) : State :=
  raise 1 Evt.SEQ_BUNDLE_INVALID (die + slot * 2 ^ 8 + sub * 2 ^ 13 + pos * 2 ^ 15) s

/-- SEQ_BUNDLE_INVALID for a fault in a table: byte offset of the field in the entry, 0x3F for the directory or
an index at or beyond COUNT. -/
def tableFault (die sub off : Nat) (s : State) : State :=
  let base := slotBit die sub
  let pos := if die < 16 then base + (if sub = 0 ∨ sub = 1 then 5 else 4) else base + 4
  raise 1 Evt.SEQ_BUNDLE_INVALID
    (die + slotOf die * 2 ^ 8 + (if die < 16 then sub else 0) * 2 ^ 13 + pos * 2 ^ 15 + 2 ^ 26 + off * 2 ^ 27) s

/-- First invalid opcode or reserved field of a sub-slot, as its bit position in the slot; none when valid. -/
def subInvalid (die sub v : Nat) : Option Nat :=
  let op := opOf die sub v
  if 16 ≤ die then
    (if 7 ≤ op ∨ (op = 6 ∧ die ≠ 16) then some 0 else if bits v 47 25 ≠ 0 then some 25 else none)
  else if sub = 0 then (if 3 ≤ op then some 0 else if bits v 39 31 ≠ 0 then some 31 else none)
  else if sub = 1 then (if 15 ≤ op then some 0 else if bit v 31 then some 31 else none)
  else if sub = 2 then (if 5 ≤ op then some 0 else if bits v 23 21 ≠ 0 then some 21 else none)
  else (if 4 ≤ op then some 0 else none)

/-- First invalid field of a header, as its bit position. -/
def headerInvalid (b : Bundle) : Option Nat :=
  if 10 ≤ bClass b then some 16
  else if 4 ≤ bWait b then some 20
  else if bWait b ≠ 1 ∧ bTag b ≠ 0 then some 23
  else if bWait b ≠ 1 ∧ bValue b ≠ 0 then some 32
  else none

/-- A SHADOW_CHECK in a bundle of a class other than AUDIT is an invalid field (R244). -/
def shadowMisplaced (b : Bundle) (die sub v : Nat) : Bool :=
  decide (die < 16) && decide (sub = 1) && decide (opOf die sub v = 14) && bClass b != 7

/-! ## Descriptor tables (R248) -/

/-- Address and count of a die's table `k`: 0 array-group, 1 tensor, 2 transfer; none when the directory reads
as poison, or a hub's first two counts are not zero. -/
def dirEntry (s : State) (d k : Nat) : Option (Nat × Nat) :=
  let base := regFld s (Reg.SEQ_DESC_BASE d) 25 0
  let ws := (List.range 3).map (fun i => tableWord s d (base + i))
  if anyPoison ws || (decide (16 ≤ d) && (ws.take 2).any (fun w => bits w.data.toNat 63 32 != 0)) then none
  else
    let n := ((ws.map (·.data.toNat)).getD k 0)
    some (bits n 31 0, bits n 63 32)

/-- The words of a descriptor of `size` words, or the byte offset of the fault. -/
def descWords (s : State) (d k i size : Nat) : Nat ⊕ Bytes :=
  match dirEntry s d k with
  | none => .inl 0x3F
  | some (a, cnt) =>
    if cnt ≤ i then .inl 0x3F
    else
      let ws := (List.range size).map (fun j => tableWord s d (a + size * i + j))
      match (List.range size).find? (fun j => (ws.map (·.poison)).getD j false) with
      | some j => .inl (8 * j)
      | none => .inr (wordsBytes ws)

/-- An array-group descriptor (chapter 7's table). -/
structure AGroup where
  count : Nat
  list : Nat
  inAddr : Nat
  inSeg : Nat
  inRow : Nat
  staged : Bool
  kseq : Nat
  outAddr : Nat
  outBlk : Nat
  outRow : Nat
  flagAddr : Nat
  adtAddr : Nat
  adtRow : Nat
deriving DecidableEq, Repr

/-- An array-group descriptor with its ranges checked, or the fault's byte offset. -/
def agroupOf (b : Bytes) : Nat ⊕ AGroup :=
  let cnt := byteField b 0 1
  if cnt = 0 ∨ 4096 < cnt then .inl 0
  else if byteField b 2 3 ≠ 0 then .inl 2
  else if 2 ≤ byteAt b 20 then .inl 20
  else if allZero (b.drop 48) = false then .inl 48
  else .inr ⟨cnt, byteField b 4 7, byteField b 8 11, byteField b 12 15, byteField b 16 19, byteAt b 20 == 1,
    byteField b 21 23, byteField b 24 27, byteField b 28 31, byteField b 32 35, byteField b 36 39,
    byteField b 40 43, byteField b 44 47⟩

/-- A list entry (R249). -/
structure ListEntry where
  logical : Nat
  seg : Nat
  ob : Nat
  carrier : Bool
deriving DecidableEq, Repr

/-- The array list: 4-byte entries; the fault is a poisoned word or a reserved bit (byte offset in the entry). -/
def arrayList (s : State) (d a n : Nat) : Nat ⊕ List ListEntry :=
  let ws := (List.range (ceilDiv n 2)).map (fun j => tableWord s d (a + j))
  if anyPoison ws then .inl 0
  else
    let es := (List.range n).map (fun i =>
      let w := ((ws.map (·.data.toNat)).getD (i / 2) 0)
      if i % 2 = 0 then bits w 31 0 else bits w 63 32)
    if es.any (fun e => bits e 30 28 != 0) then .inl 3
    else .inr (es.map (fun e => ⟨bits e 11 0, bits e 19 12, bits e 27 20, bit e 31⟩))

/-- A tensor operation descriptor. -/
structure TDesc where
  fmtA : Nat
  fmtB : Nat
  a : Nat
  b : Nat
  d : Nat
  kseq : Nat
  func : Nat
  aFlags : Nat
  bFlags : Nat
  dFlags : Nat
  aStep : Nat
  bStep : Nat
  dStep : Nat
  rowStride : Nat
  blocks : Nat
deriving DecidableEq, Repr

def tdescOf (b : Bytes) : TDesc :=
  ⟨byteField b 0 7, byteField b 8 15, byteField b 16 19, byteField b 20 23, byteField b 24 27, byteField b 28 30,
   byteAt b 31, byteField b 32 35, byteField b 36 39, byteField b 40 43, byteField b 44 47, byteField b 48 51,
   byteField b 52 55, byteField b 56 59, byteField b 60 63⟩

/-- The FUNC values R618 allows an operation. -/
def funcAllowed (op func : Nat) : Bool :=
  if op = 9 then func == 1 || func == 2
  else if op = 11 then true
  else if op = 12 then func == 0 || func == 0x83
  else func == 0

/-- BLOCKS is in its range (R246). -/
def blocksOk (t : TDesc) : Bool := decide (1 ≤ t.blocks) && decide (t.blocks ≤ 65536)

/-- The descriptor of a tensor operation with its checks (R246, R618), or the fault's byte offset. -/
def tensorDesc (s : State) (d op i : Nat) : Nat ⊕ TDesc :=
  match descWords s d 1 i 8 with
  | .inl o => .inl o
  | .inr b =>
    let t := tdescOf b
    if !blocksOk t then .inl 60
    else if !funcAllowed op t.func then .inl 31
    else if (op = 9 ∨ op = 10) ∧ t.d % 2 = 1 then .inl 24
    else .inr t

end Sys2Proof.Machine
end

