-- ==== Sys2Proof/Machine/Vector.lean ====
section
/-! DEFINITION. What the vector unit computes (R207): its elementwise functions, the optimiser's update (R377, R378), the
score tile (R374), and the sampler and verifier of stage S − 1 (R410, R411). -/

namespace Sys2Proof.Machine

open Sys2Proof.Map Sys2Proof.Fp

/-! ## The counter generator (R410) -/

/-- u(seed, pos, j). -/
def uniform (seed : DWord) (pos j : Nat) : Word :=
  let z := seed + BitVec.ofNat 64 (pos * 16 + j + 1) * 0x9E3779B97F4A7C15#64
  let z := (z ^^^ (z >>> 30)) * 0xBF58476D1CE4E5B9#64
  let z := (z ^^^ (z >>> 27)) * 0x94D049BB133111EB#64
  let z := z ^^^ (z >>> 31)
  round32 (((z >>> 40).toNat : Rat) * pow2 (-24))

/-! ## Sampling (R410) -/

/-- The index of the largest word, the lowest of equals (R228 to R230); poison and other values that are not numbers take
no part, and none is left where all are such. -/
def argmax (xs : List Word) : Option Nat :=
  (((List.range xs.length).zip xs).foldl (fun (b : Option (Nat × Word)) e =>
    if !isFinite e.2 then b
    else match b with
      | none => some e
      | some m => if lt m.2 e.2 then some e else b) none).map (·.1)

/-- softmax of logits over a temperature in FP32, with the maximum taken off first as R344 does; none where a logit is
poison. [DEDUCED: log 55] -/
def softmax (xs : List Word) (temp : Word) : Option (List Word) :=
  if xs.isEmpty || xs.any (fun x => !isFinite x) then none
  else
    let ys := xs.map (fun x => div x temp)
    let m := (ys.drop 1).foldl maxw (ys.headD 0)
    let es := ys.map (fun y => exp (sub y m))
    let l := es.foldl add 0
    some (es.map (fun e => div e l))

/-- Insert by falling probability, after equals: the lowest index comes first on ties. -/
def insertRank (e : Nat × Word) : List (Nat × Word) → List (Nat × Word)
  | [] => [e]
  | x :: xs => if lt x.2 e.2 then e :: x :: xs else x :: insertRank e xs

def ranked (es : List (Nat × Word)) : List (Nat × Word) := es.foldl (fun l e => insertRank e l) []

/-- The shortest prefix whose sum reaches a limit. -/
def reachPrefix (limit : Word) : Word → List (Nat × Word) → List (Nat × Word)
  | _, [] => []
  | acc, e :: es => let t := add acc e.2; if lt t limit then e :: reachPrefix limit t es else [e]

/-- Probabilities divided by their sum. -/
def renormalised (es : List (Nat × Word)) : List (Nat × Word) :=
  let l := es.foldl (fun a e => add a e.2) 0
  es.map (fun e => (e.1, div e.2 l))

/-- The tokens that can be sampled with their probabilities, most probable first; none where the distribution is poison. -/
def distribution (p : Sampling) (logits : List Word) : Option (List (Nat × Word)) :=
  if val p.temp = 0 then (argmax logits).map (fun i => [(i, one32)])
  else (softmax logits p.temp).map (fun ps =>
    let r := ranked ((List.range ps.length).zip ps)
    renormalised (reachPrefix p.topP 0 (if p.topK = 0 then r else r.take p.topK)))

/-- The first token whose running sum exceeds `u`, the last one where rounding leaves none. [DEDUCED: log 55] -/
def drawFrom (u : Word) : Word → List (Nat × Word) → Nat
  | _, [] => 0
  | acc, e :: es => let t := add acc e.2; if lt u t || es.isEmpty then e.1 else drawFrom u t es

def probOf (es : List (Nat × Word)) (tok : Nat) : Word := ((es.find? (fun e => e.1 == tok)).map (·.2)).getD 0

/-! ## Verification (R411) -/

/-- A draft token passes at a position of distribution `r`. -/
def draftPasses (p : Sampling) (r : List (Nat × Word)) (pos tok : Nat) (q : List Word) : Bool :=
  if val p.temp = 0 then r.any (fun e => e.1 == tok)
  else
    let x := div (probOf r tok) (q.getD tok 0)
    lt (uniform p.seed pos 1) (if lt x one32 then x else one32)

/-- The token delivered at the first rejection: of the renormalised max(0, p − q), or of p where nothing is left of it.
[DEDUCED: log 55] -/
def residualToken (p : Sampling) (r : List (Nat × Word)) (pos : Nat) (q : List Word) : Nat :=
  let d := ranked ((r.map (fun e => (e.1, sub e.2 (q.getD e.1 0)))).filter (fun e => lt 0 e.2))
  drawFrom (uniform p.seed pos 0) 0 (if d.isEmpty then r else renormalised d)

/-- The tokens of a group whose drafts are tested in order from position `pos` on: the accepted drafts and the final sampled
token; none where a distribution that is sampled is poison (R412). -/
def verifyDrafts (p : Sampling) (draw : Nat) : Nat → Nat → Nat → Option (List Nat)
  | 0, i, pos => (distribution p (Config.targetLogits draw i)).map (fun r => [drawFrom (uniform p.seed pos 0) 0 r])
  | k + 1, i, pos =>
    match distribution p (Config.targetLogits draw i) with
    | none => none
    | some r =>
      let tok := Config.draftToken draw i
      let q := Config.draftProbs draw i
      if draftPasses p r pos tok q then (verifyDrafts p draw k (i + 1) (pos + 1)).map (fun ts => tok :: ts)
      else some [residualToken p r pos q]

/-- A stop token, or reaching the output limit, ends the tokens at that one inclusive. -/
def truncated (stop : Nat) : List Nat → List Nat
  | [] => []
  | t :: ts => if t = stop then [t] else t :: truncated stop ts

/-! ## Elementwise functions -/

/-- A function of two elements in FP32; those of one take the first. -/
def vecWord (f : VecFunc) (a b : Word) : Word :=
  match f with
  | .add => add a b
  | .subtract => sub a b
  | .multiply => mul a b
  | .divide => div a b
  | .root => sqrt a
  | .exponent => exp a
  | .logarithm => ln a
  | .tile | .other => a

/-- The value that a vector function reads of an element. -/
def elemWord (e : Elem) : Option Word := e.map (fun n => round32 n.x n.neg)

/-- The element that a word is; what is no number is poison, as a reader takes it (R186). -/
def wordElem (w : Word) : Elem := if isFinite w then some ⟨val w, sgn w⟩ else none

/-- A function on the elements of two tensors: a poisoned element gives one. -/
def vecElems (f : VecFunc) (xs ys : List Elem) : List Elem :=
  (List.range xs.length).map (fun i =>
    match (xs.getD i none).bind (fun n => elemWord (some n)), (ys.getD i (some ⟨0, false⟩)).bind (fun n => elemWord (some n)) with
    | some a, some b => wordElem (vecWord f a b)
    | _, _ => none)

/-! ## The optimiser (R377, R378) -/

/-- Parameters of an update: LR, BETA1, BETA2, EPS, WD, the clip factor c, and t. -/
structure UpdateParams where
  lr : Word
  beta1 : Word
  beta2 : Word
  eps : Word
  wd : Word
  c : Word
  t : Nat
deriving DecidableEq, Repr

/-- The clip factor (R377): CLIP / gnorm where gnorm exceeds CLIP. -/
def clipFactor (gnorm clip : Word) : Word := if lt clip gnorm then div clip gnorm else one32

/-- One parameter's update (R378), rounding once an operation: w, m and v from the gradient g. -/
def adamW (p : UpdateParams) (w m v g : Word) : Word × Word × Word :=
  let g := mul g p.c
  let m := add (mul p.beta1 m) (mul (sub one32 p.beta1) g)
  let v := add (mul p.beta2 v) (mul (mul (sub one32 p.beta2) g) g)
  let mh := div m (sub one32 (pow p.beta1 p.t))
  let vh := div v (sub one32 (pow p.beta2 p.t))
  let w := sub w (mul p.lr (add (div mh (add (sqrt vh) p.eps)) (mul p.wd w)))
  (w, m, v)

end Sys2Proof.Machine
end

