-- ==== Sys2Proof/Machine/Tensor.lean ====
section
/-! DEFINITION. Tensor operations of a bundle (R184 to R195, R206 to R237, R618): what each reads in its issue
cycle, and what lands at its fixed latency.  FLAG_CLEAR, MARK, rings and windows as bundle operations too. -/

namespace Sys2Proof.Machine

open Sys2Proof.Map Sys2Proof.Fp

/-! ## The issued bundle's sub-slots -/

/-- What an operation of the issued bundle knows. -/
structure SubCtx where
  die : Nat
  sub : Nat
  v : Nat
  rep : Nat
  cls : Nat
  cycle : Nat
deriving DecidableEq, Repr

/-- The value of a die's sub-slot in a bundle. -/
def dieSlot (b : Bundle) (die sub : Nat) : Nat := if die < 16 then subSlot b die sub else hubSlot b (die - 16)

/-- A sub-slot executes: its slot's parity holds, it has no invalid field (R246, R247). -/
def subRuns (i : Issued) (die sub : Nat) : Bool :=
  !i.bad.any (fun e => e.1 == die && (e.2 == slotOf die || e.2 == 0)) &&
  (headerInvalid i.bundle).isNone && (subInvalid die sub (dieSlot i.bundle die sub)).isNone &&
  !shadowMisplaced i.bundle die sub (dieSlot i.bundle die sub)

/-- Run operation `op` of a die's sub-slot of the issued bundle, once; nothing where it does not hold that
operation. -/
def withSub (die sub op : Nat) (f : SubCtx → State → State) (s : State) : State :=
  match s.seq.issued with
  | none => s
  | some i =>
    let v := dieSlot i.bundle die sub
    if opOf die sub v ≠ op ∨ i.done.contains (die * 4 + sub) = true ∨ subRuns i die sub = false then s
    else
      let s := { s with seq := { s.seq with issued := some { i with done := i.done ++ [die * 4 + sub] } } }
      inClass (bClass i.bundle) (f ⟨die, sub, v, i.rep, bClass i.bundle, i.cycle⟩) s

/-- Place an effect in the issue cycle from which it is seen. [DESIGN CHOICE: log 78] -/
def later (due : Nat) (e : Effect) (s : State) : State :=
  { s with seq := { s.seq with effects := s.seq.effects ++ [(due, e)] } }

/-! ## Counts of the format converters (R190, R205) -/

/-- Count on all dies, and for the die's event of the breath. -/
def fmtCount (die code counter n first : Nat) (s : State) : State :=
  if n = 0 then s else collectFirst code die n first (bump counter n s)

def fmtNonfinite (die n : Nat) (s : State) : State :=
  fmtCount die Evt.FMT_NONFINITE Reg.FMT_NONFINITE_COUNT n 0 s

/-- What reading a tensor counts (R184, R186). [DEDUCED: log 29] -/
def countReading (die : Nat) (r : Reading) (s : State) : State :=
  let s := r.kinds.foldl (fun s k => fmtCount die Evt.FMT_CODE_INVALID Reg.FMT_CODE_INVALID_COUNT 1 k s) s
  fmtNonfinite die r.nonfinite s

/-- Blocks of a tensor with a widening entry: quantised, underflown, saturated (R190, R198). -/
def widenNote (f id blocks under sat : Nat) (s : State) : State :=
  if id = 0xFFF ∨ (mget {} s.fmt.entries id).valid = false then s
  else
    { s with fmt := { s.fmt with entries := mupd {} s.fmt.entries id (fun e =>
        { e with
          blocks := e.blocks + blocks
          under := e.under + under
          sat := e.sat + sat
          narrow := e.narrow || f == fQ4B || f == fF4B }) } }

/-- A format word names the descriptor of a widening tensor that the tensor's state does not select: its E4M3 one while
it is not WIDE, its narrow one while it is (R198). -/
def unselectedWord (s : State) (w : Nat) : Bool :=
  let e : Widen := mget {} s.fmt.entries (widenOf w)
  widenOf w != 0xFFF && e.valid &&
    (if fmtOf w = fE4M3 then e.state != 2 else (fmtOf w == fQ4B || fmtOf w == fF4B) && e.state == 2)

/-- A tensor operation is one of those compiled for the descriptor that is not selected: both forms stand in the program,
and the operation of this one does nothing (R198). [DESIGN CHOICE: log 45] -/
def unselected (s : State) (op : Nat) (t : TDesc) : Bool :=
  (([1, 3, 4, 5, 6, 10, 12] : List Nat).contains op && unselectedWord s t.fmtA) || (op == 1 && unselectedWord s t.fmtB)

/-- What writing a tensor counts (R190, R191, R316). -/
def countWriting (die fmt : Nat) (w : Writing) (s : State) : State :=
  let s := fmtCount die Evt.FMT_UNDERFLOW Reg.FMT_UNDERFLOW_COUNT w.under 0 s
  let s := fmtCount die Evt.FMT_SATURATE Reg.FMT_SATURATE_COUNT w.sat (widenOf fmt) s
  let s := fmtNonfinite die w.nonfinite s
  let s := if w.clamped = 0 then s else
    collect Evt.KV_ROPE_CLAMP die w.clamped (bump Reg.KV_ROPE_CLAMP_COUNT w.clamped s)
  widenNote (fmtOf fmt) (widenOf fmt) w.blocks w.under w.sat s

/-! ## Reading operands -/

/-- Formats an operation takes for operand A (R618). -/
def takesA (op : Nat) : List Nat :=
  if op = 1 then [fQ4B, fF4B, fT2B, fE4M3, fBF16]
  else if op = 4 then [fSTAGE, fBF16]
  else if op = 5 ∨ op = 6 then [fFP32, fBF16, fSTAGE, fQ4B, fF4B, fE4M3]
  else if op = 12 then [fQ4B, fF4B, fE4M3]
  else if op = 13 then [fSEG4, fSEG8]
  else [fQ4B, fF4B, fT2B, fE4M3, fBF16, fFP32, fSTAGE]

/-- The `n` elements of a tensor from the words read; an element touched by a clash of its cycle is poisoned (R279). -/
def elements (s : State) (die cycle fmt n : Nat) (ws : List (Nat × SWord)) : Reading :=
  let t := val (tscaleOf fmt)
  let ws := ws.map (fun e => if clashed s cycle die e.1 then { e.2 with poison := true } else e.2)
  if fmtOf fmt = fSTAGE then
    let es := ws.map (fun w => readStage w.data w.poison t)
    ⟨(es.map (·.1)).take n, [], (es.filter (·.2)).length⟩
  else
    let k := perPacket (fmtOf fmt)
    let ps := (chunksOf 9 ws).map (fun p => (wordsBytes p, anyPoison p))
    let r := ((List.range ps.length).zip ps).foldl (fun (r : Reading) p =>
      r.append (readPart (fmtOf fmt) p.2.1 p.2.2 t (min k (n - k * p.1)))) ⟨[], [], 0⟩
    { r with elems := r.elems.take n }

/-- Corrected errors of a row (R300). [DEDUCED: log 50] -/
def rowCorrected (b : Nat) (s : State) : State :=
  let st := b / 2 ^ 31
  let row := b % 2 ^ 31 / 16
  let k := st * 2 ^ 27 + row
  let hour := poweredNow s / 3600
  let x := mget {} s.mem.rowCe k
  let x : RowCe := if x.hour = hour then x else { hour := hour }
  let n := s.breath.number.toNat + 1
  let x := if x.last = n then x else { x with breaths := x.breaths + 1, last := n }
  let lim := max 1 (regFld s (ra (pgHbm st) 0x10C) 7 0)
  let put := fun (y : RowCe) (s : State) => { s with mem := { s.mem with rowCe := mset {} s.mem.rowCe k y } }
  if lim ≤ x.breaths ∧ x.raised = false then
    raise (pgHbm st) Evt.HBM_ROW_SUSPECT (st + row * 2 ^ 8) (put { x with raised := true } s)
  else put x s

/-- Bursts corrected and uncorrectable of HBM reads. -/
def hbmEcc (o : XferObs) (s : State) : State :=
  let s := o.hbmCorr.foldl (fun s b =>
    rowCorrected b (collect Evt.HBM_ECC_CORRECTED (b / 2 ^ 31) 1 (bump (ra (pgHbm (b / 2 ^ 31)) 0x104) 1 s))) s
  o.hbmUncorr.foldl (fun s b =>
    raise (pgHbm (b / 2 ^ 31)) Evt.HBM_ECC_UNCORRECTED (b / 2 ^ 31 + b % 2 ^ 31 / 16 * 2 ^ 8)
      (bump (ra (pgHbm (b / 2 ^ 31)) 0x108) 1 s)) s

/-- Carry something out while the uncorrectable bursts read as poisoned; those it only read are as before it,
those it wrote in part keep the marker (R299). -/
def withUncorr (bs : List Nat) (wrote : Nat → Bool) (f : State → State) (s : State) : State :=
  let new := bs.filter (fun b => !burstPoison s b)
  let s := f (new.foldl (fun s b => setBurstPoison b true s) s)
  (new.filter (fun b => !wrote b)).foldl (fun s b => setBurstPoison b false s) s

/-- Read operand words in the issue cycle; words found uncorrectable read as poison. -/
def operand (die cycle addr n : Nat) (bad : List Nat) (s : State) : List (Nat × SWord) × State :=
  let (ws, s) := schedReads cycle die ((List.range n).map (· + addr)) s
  (ws.map (fun e => if bad.contains e.1 then (e.1, { e.2 with poison := true }) else e), s)

/-- Addresses of a tensor operation at its repetition and batch row (R249, R250). -/
def tA (t : TDesc) (c : SubCtx) : Nat := (t.a + tRow c.v * t.rowStride + tRep c.v c.rep * t.aStep) % 2 ^ 32
def tB (t : TDesc) (c : SubCtx) : Nat := (t.b + tRep c.v c.rep * t.bStep) % 2 ^ 32
def tD (t : TDesc) (c : SubCtx) : Nat := (t.d + tRow c.v * t.rowStride + tRep c.v c.rep * t.dStep) % 2 ^ 32
def tK (t : TDesc) (c : SubCtx) : Nat := (t.kseq + tRep c.v c.rep) % 2 ^ 24

/-- FMT_DESC_INVALID (R178). -/
def descInvalid (die fmt : Nat) (s : State) : State :=
  raise 0 Evt.FMT_DESC_INVALID (die + fmt % 2 ^ 32 * 2 ^ 8) s

/-- The accumulators' elements and flags for a READ-like operation. -/
def accsRead (s : State) (die a n : Nat) : List Elem × Nat :=
  let rs := (List.range n).map (fun i => accRead s die (a + i))
  (rs.map (·.1), rs.foldl (fun f r => f ||| r.2) 0)

/-- Note the scheduled writes of an operation whose words are readable in cycle `due`. -/
def noteWrites (die due addr n : Nat) (s : State) : State :=
  (List.range n).foldl (fun s i => noteAccess (due - 1) die (addr + i) s) s

/-- Schedule the words of a READ, QUANT, SAVE or SEGQ of bundle b, readable in b + 12 (R224). -/
def writeLater (die cycle addr : Nat) (flagAddr : Option Nat) (flagBad : Bool) (reads : List Nat) (ws : List (Option DWord))
    (fl : Nat) (s : State) : State :=
  later (cycle + 12) (.write ⟨die, addr, ws, flagAddr, fl, flagBad, reads⟩) (noteWrites die (cycle + 12) addr ws.length s)

/-- MAC energy of a mode in 1/100 pJ (R206, R436). -/
def macCost (fa fb : Nat) : Nat :=
  if fa = fBF16 ∨ fb = fBF16 then 72 else if fa = fE4M3 ∨ fb = fE4M3 then 18 else 9

/-! ## Issue -/

/-- Run a tensor operation with its descriptor, or raise the descriptor's fault (R246, R618). -/
def tensorIssue (op : Nat) (f : SubCtx → TDesc → State → State) (c : SubCtx) (s : State) : State :=
  match tensorDesc s c.die op (tDesc c.v) with
  | .inl o => tableFault c.die 1 o s
  | .inr t => if unselected s op t then s else f c t s

/-- The operation record shared by all forms. -/
def tensorRec (op : Nat) (c : SubCtx) (t : TDesc) (o : AccObs) : TensorOp :=
  { die := c.die, op := op, cycle := c.cycle, cls := c.cls, func := t.func, blocks := t.blocks, dst := tD t c,
    kseq := tK t c, fmtA := t.fmtA, fmtB := t.fmtB, obs := o }

/-- MATMUL issues (R206 to R209, R435). [DEDUCED: log 42] -/
def matmulIssue (o : AccObs) (c : SubCtx) (t : TDesc) (s : State) : State :=
  let okA := fmtValid t.fmtA (takesA 1)
  let okB := fmtValid t.fmtB (takesA 1)
  let n := 32 * t.blocks
  let s := spadEcc c.die o.spadCorr o.spadUncorr s
  let s := if okA then s else descInvalid c.die t.fmtA s
  let s := if okA && !okB then descInvalid c.die t.fmtB s else s
  let (wa, s) := if okA then operand c.die c.cycle (tA t c) (wordsFor (fmtOf t.fmtA) n) o.spadUncorr s else ([], s)
  let (wb, s) := if okB then operand c.die c.cycle (tB t c) (wordsFor (fmtOf t.fmtB) n) o.spadUncorr s else ([], s)
  let (fa, s) := flagWord c.die t.aFlags o.spadUncorr s
  let (fb, s) := flagWord c.die t.bFlags o.spadUncorr s
  let fl := fa ||| fb
  let s := if okA && okB then
      countMacs c.die n (charge c.die c.cls 0 0 (n * macCost (fmtOf t.fmtA) (fmtOf t.fmtB)) s)
    else s
  later (c.cycle + 17) (.tensor { tensorRec 1 c t o with a := wa, b := wb, fl := fl }) s

/-- CLEAR and EXT_INIT issue (R222, R229). -/
def initIssue (op : Nat) (c : SubCtx) (t : TDesc) (s : State) : State :=
  later (c.cycle + 11) (.tensor (tensorRec op c t {})) s

/-- PRELOAD, ADD and EXT_CHUNK issue: their operand is read (R222, R229). -/
def loadIssue (op : Nat) (o : AccObs) (c : SubCtx) (t : TDesc) (s : State) : State :=
  let ok := fmtValid t.fmtA (takesA op)
  let s := spadEcc c.die o.spadCorr o.spadUncorr s
  let s := if ok then s else descInvalid c.die t.fmtA s
  let (wa, s) := if ok then
      operand c.die c.cycle (tA t c) (wordsFor (fmtOf t.fmtA) (32 * t.blocks)) o.spadUncorr s
    else ([], s)
  let (fl, s) := flagWord c.die t.aFlags o.spadUncorr s
  later (c.cycle + 11) (.tensor { tensorRec op c t o with a := wa, fl := fl }) s

/-- The formats READ, READ_CLEAR and QUANT write in: E4M3 alone under FUNC 0x83 (R316, R618). -/
def writesIn (op : Nat) (t : TDesc) : List Nat := if t.func = 0x83 then [fE4M3] else takesA op

/-- What READ, READ_CLEAR and QUANT write of elements: the words, all poison where the format is none of theirs, and the
POISON flag (R187, R226, R618). -/
def readWords (op : Nat) (t : TDesc) (xs : List Elem) : List (Option DWord) × Nat :=
  if fmtValid t.fmtA (writesIn op t) then
    let w := writeTensor (fmtOf t.fmtA) xs (val (tscaleOf t.fmtA)) (t.func == 0x83)
    (w.words.map some, one w.poison)
  else (List.replicate (wordsFor (fmtOf t.fmtA) (32 * t.blocks)) none, 1)

/-- READ, READ_CLEAR and QUANT (R187, R222, R226, R316): accumulators out to a tensor. -/
def readIssue (op : Nat) (o : AccObs) (c : SubCtx) (t : TDesc) (s : State) : State :=
  let n := 32 * t.blocks
  let s := accResidue c.die o (accFile c.die o s)
  let s := spadEcc c.die o.spadCorr o.spadUncorr s
  let flagBad := o.spadUncorr.contains t.dFlags
  let (xs, fl) := accsRead s c.die (tA t c) n
  let s := if op = 6 then
      (List.range n).foldl (fun s i => accClear c.die (tA t c + i) s) (enterCycle c.cycle s)
    else s
  let s := if fmtValid t.fmtA (writesIn op t) then
      countWriting c.die t.fmtA (writeTensor (fmtOf t.fmtA) xs (val (tscaleOf t.fmtA)) (t.func == 0x83)) s
    else descInvalid c.die t.fmtA s
  let w := readWords op t xs
  writeLater c.die c.cycle (tD t c) (some t.dFlags) flagBad [] w.1 (fl ||| w.2) s

/-- The words of the images of `n` accumulators, four to a packet (R234). -/
def saveWords (s : State) (die a n : Nat) : List (Option DWord) :=
  (chunksOf 4 ((List.range n).map (fun i => accImage s die (a + i)))).flatMap (fun p =>
    (bytesToWords (padTo 72 p.flatten)).map some)

/-- SAVE (R234). -/
def saveIssue (o : AccObs) (c : SubCtx) (t : TDesc) (s : State) : State :=
  let s := accResidue c.die o (accFile c.die o s)
  writeLater c.die c.cycle (tD t c) none false [] (saveWords s c.die (tA t c) (32 * t.blocks)) 0 s

/-- RESTORE (R235). -/
def restoreIssue (o : AccObs) (c : SubCtx) (t : TDesc) (s : State) : State :=
  let s := spadEcc c.die o.spadCorr o.spadUncorr s
  let (ws, s) := operand c.die c.cycle (tA t c) (72 * t.blocks) o.spadUncorr s
  later (c.cycle + 11) (.tensor { tensorRec 8 c t o with a := ws }) s

/-- What a vector function takes and gives (R618: as its function gives): the formats of its operands, the words it reads at
A_ADDR and B_ADDR, and the words it writes. -/
structure VecShape where
  fmtA : List Nat
  fmtB : List Nat := []
  a : Nat
  b : Nat
  d : Nat
deriving DecidableEq, Repr

/-- KV_MASK reads scores in FP32 and one result word a page at B_ADDR; an elementwise function reads a tensor at A_ADDR, one
of two operands another at B_ADDR in FMT_B, and writes one in FMT_A; the score tile reads FP32 scores and a word with the
key count, and writes BF16. [DESIGN CHOICE: log 41] -/
def vecShape (func fa fb blocks : Nat) : VecShape :=
  let n := wordsFor fa (32 * blocks)
  if func = 0x40 then { fmtA := [fFP32], a := n, b := 2 * blocks, d := n }
  else match Config.vectorFunc func with
    | .tile => { fmtA := [fFP32], a := n, b := 1, d := wordsFor fBF16 (32 * blocks) }
    | .add | .subtract | .multiply | .divide =>
      { fmtA := takesA 11, fmtB := takesA 11, a := n, b := wordsFor fb (32 * blocks), d := n }
    | .root | .exponent | .logarithm | .other => { fmtA := takesA 11, a := n, b := 0, d := n }

/-- The formats of a VECTOR's operands are those its function takes. -/
def vecFormats (func fmtA fmtB blocks : Nat) : Bool :=
  let x := vecShape func (fmtOf fmtA) (fmtOf fmtB) blocks
  fmtValid fmtA x.fmtA && (x.fmtB.isEmpty || fmtValid fmtB x.fmtB)

/-- VECTOR issues (R207): KV_MASK's query position is KSEQ. [DESIGN CHOICE: log 41] -/
def vectorIssue (o : AccObs) (c : SubCtx) (t : TDesc) (s : State) : State :=
  let x := vecShape t.func (fmtOf t.fmtA) (fmtOf t.fmtB) t.blocks
  let ok := vecFormats t.func t.fmtA t.fmtB t.blocks
  let s := spadEcc c.die o.spadCorr o.spadUncorr s
  let s := if ok then s else descInvalid c.die (if fmtValid t.fmtA x.fmtA then t.fmtB else t.fmtA) s
  let (wa, s) := if ok then operand c.die c.cycle (tA t c) x.a o.spadUncorr s else ([], s)
  let (wb, s) := if ok then operand c.die c.cycle (tB t c) x.b o.spadUncorr s else ([], s)
  let (fa, s) := flagWord c.die t.aFlags o.spadUncorr s
  let (fb, s) := if t.func = 0x40 then (0, s) else flagWord c.die t.bFlags o.spadUncorr s
  let fl := fa ||| fb
  later (c.cycle + 12) (.tensor { tensorRec 11 c t o with a := wa, b := wb, fl := fl, flagAddr := t.dFlags })
    (noteWrites c.die (c.cycle + 12) (tD t c) x.d s)

/-! ## Completion -/

/-- Block sums of a MATMUL: the exact dot product of block `k` of both operands, none with a poisoned element
(R208, R209). -/
def blockDot (xs ys : List Elem) : Elem :=
  (xs.zip ys).foldl (fun a e => match a, e.1, e.2 with
    | some a, some x, some y => some ⟨a.x + x.x * y.x, false⟩
    | _, _, _ => none) (some ⟨0, false⟩)

/-- The chunk as the engine delivers it: rounded once to WA48. -/
def promote (e : Elem) : Elem := waVal (waElem e)

/-- The 18 words of two FP32 values a word, one page's sixteen scores (R183, R345). -/
def maskPacket (ws : List SWord) (res : SWord) (pos : Nat) : List DWord × Bool :=
  let vis := bits res.data.toNat 15 0
  let base := bits res.data.toNat 63 32
  let masked := fun t => !res.poison && (!bit vis t || decide (pos < base + t))
  let bad := fun t => anyPoison ws || res.poison ||
    (let x := byteField (wordsBytes ws) (4 * t) (4 * t + 3); decide (bits x 30 23 = 255))
  let code := fun t => if masked t then 0xFF7FFFFF else if bad t then 0xFFC00001
    else byteField (wordsBytes ws) (4 * t) (4 * t + 3)
  ((List.range 8).map (fun i => BitVec.ofNat 64 (code (2 * i) + code (2 * i + 1) * 2 ^ 32)) ++ [0],
    (List.range 16).any (fun t => !masked t && bad t))

/-- KV_MASK (R345): its words and whether an unmasked score is poisoned. [DESIGN CHOICE: log 41; DEDUCED: log 51] -/
def kvMask (ws res : List SWord) (pos : Nat) : List DWord × Bool :=
  let ps := ((chunksOf 9 ws).zip res).map (fun e => maskPacket e.1 e.2 pos)
  (ps.flatMap (·.1), ps.any (·.2))

/-- A score tile (R374): scores rounded once to BF16; masked entries, and those from the key count on, hold 0xFF7F. A
poisoned count poisons every entry. -/
def tileCodes (count : Option Nat) (xs : List Elem) : List Nat :=
  (List.range xs.length).map (fun i =>
    match count, elemWord (xs.getD i none) with
    | none, _ => 0xFFC1
    | some n, w => if n ≤ i then 0xFF7F else match w with
      | none => 0xFFC1
      | some w => if w = 0xFF7FFFFF then 0xFF7F else toBf16 w)

/-- What a vector function other than KV_MASK writes, from the tensors read: words, and whether one is poison. -/
def vecWords (f : VecFunc) (fmtA : Nat) (a : List (List Elem)) (b : List Elem) (raw : List SWord) : List DWord × Bool :=
  let x := a.getD 0 []
  match f with
  | .tile =>
    let cs := tileCodes (if anyPoison raw then none else (raw.map (·.data.toNat)).head?) x
    (((chunksOf 32 cs).flatMap (fun p => bytesToWords (padTo 72 (p.flatMap (toBytes 2))))), cs.any (· == 0xFFC1))
  | _ =>
    let w := writeTensor (fmtOf fmtA) (vecElems f x b) (val (tscaleOf fmtA)) false
    (w.words, w.poison)

/-- Tensors of `n` elements that follow one another in the words read. -/
def tensorsOf (s : State) (die cycle fmt n : Nat) (ws : List (Nat × SWord)) : List Reading :=
  (chunksOf (max 1 (wordsFor (fmtOf fmt) n)) ws).map (elements s die cycle fmt n)

/-- A VECTOR operation lands (R207, R345, R378, R618): KV_MASK as R345 says, the functions that Config names as their rules
say, the values of others free. [DESIGN CHOICE: log 41] -/
def vectorDone (t : TensorOp) (s : State) : State :=
  let clean := fun (e : Nat × SWord) => if clashed s t.cycle t.die e.1 then { e.2 with poison := true } else e.2
  let n := (vecShape t.func (fmtOf t.fmtA) (fmtOf t.fmtB) t.blocks).d
  let put := fun (ws : List SWord) (fl : Nat) (s : State) =>
    let s := ((List.range ws.length).zip ws).foldl (fun s e => schedWrite (t.cycle + 11) t.die (t.dst + e.1) e.2 s) s
    orFlags t.die t.flagAddr fl (t.obs.spadUncorr.contains t.flagAddr) s
  if fmtOf t.fmtA = fSEG4 ∨ fmtOf t.fmtA = fSEG8 ∨ vecFormats t.func t.fmtA t.fmtB t.blocks = false then
    put (List.replicate n {}) (t.fl ||| 1) s
  else if t.func = 0x40 then
    let (ws, bad) := kvMask (t.a.map clean) (t.b.map clean) t.kseq
    let odd := ((chunksOf 9 (t.a.map clean)).map (fun p => if anyPoison p then 0 else
      ((List.range 16).filter (fun i =>
        let x := byteField (wordsBytes p) (4 * i) (4 * i + 3)
        bits x 30 23 == 255 && x != 0xFFC00001)).length)).sum
    put (ws.map (fun w => { data := w, poison := false })) (t.fl ||| one bad) (fmtNonfinite t.die odd s)
  else if Config.vectorFunc t.func ≠ .other then
    let f := Config.vectorFunc t.func
    let a := tensorsOf s t.die t.cycle t.fmtA (32 * t.blocks) t.a
    let b := if f != .tile then (tensorsOf s t.die t.cycle t.fmtB (32 * t.blocks) t.b).headD ⟨[], [], 0⟩ else ⟨[], [], 0⟩
    let (ws, bad) := vecWords f t.fmtA (a.map (·.elems)) b.elems (t.b.map clean)
    put (ws.map (fun w => { data := w, poison := false })) (t.fl ||| one bad)
      (countReading t.die b (a.foldl (fun s r => countReading t.die r s) s))
  else
    let i := s.freeIdx
    let ws : List SWord := (List.range n).map (fun k =>
      { data := BitVec.ofNat 64 (Config.free (i + k) / 2), poison := Config.free (i + k) % 2 == 1 })
    put ws (t.fl ||| one (anyPoison ws)) { s with freeIdx := i + n }

/-- A tensor operation's effect on the accumulators, at the end of its completion cycle. -/
def tensorDone (t : TensorOp) (s : State) : State :=
  if t.op = 11 then vectorDone t s
  else
  let n := 32 * t.blocks
  let idx := List.range n
  let s := accFile t.die t.obs s
  let s := if t.op = 1 then
      let s := enterCycle (t.cycle + 16) s
      let ok := fmtValid t.fmtA (takesA 1) && fmtValid t.fmtB (takesA 1)
      let ra := if ok then elements s t.die t.cycle t.fmtA n t.a else ⟨[], [], 0⟩
      let rb := if ok then elements s t.die t.cycle t.fmtB n t.b else ⟨[], [], 0⟩
      let s := countReading t.die rb (countReading t.die ra s)
      ((chunksOf 32 ra.elems).zip (chunksOf 32 rb.elems) |> fun ps =>
        (List.range t.blocks).foldl (fun s k =>
          let e : Elem := match ps[k]? with | none => none | some p => promote (blockDot p.1 p.2)
          accAdd t.die (t.dst + k) e t.kseq t.fl s) s)
    else
      let s := enterCycle (t.cycle + 10) s
      if t.op = 2 then idx.foldl (fun s i => accClear t.die (t.dst + i) s) s
      else if t.op = 9 then
        (List.range t.blocks).foldl (fun s k => accExtInit t.die (t.dst + 2 * k) t.func s) s
      else if t.op = 8 then
        let ps := chunksOf 9 (t.a.map (fun e => if clashed s t.cycle t.die e.1 then { e.2 with poison := true } else e.2))
        idx.foldl (fun s i =>
          let p := ps.getD (i / 4) []
          accRestore t.die (t.dst + i)
            (if anyPoison p then none else some (((wordsBytes p).drop (16 * (i % 4))).take 16)) s) s
      else
        let ok := fmtValid t.fmtA (takesA t.op)
        let r := if ok then elements s t.die t.cycle t.fmtA n t.a else ⟨List.replicate n none, [], 0⟩
        let s := countReading t.die r s
        if t.op = 3 then
          idx.foldl (fun s i => accPreload t.die (t.dst + i) (r.elems.getD i none) t.fl s) s
        else if t.op = 4 then
          idx.foldl (fun s i => accAdd t.die (t.dst + i) (r.elems.getD i none) t.kseq t.fl s) s
        else
          (List.range t.blocks).foldl (fun s k =>
            accExtChunk t.die (t.dst + 2 * k) ((r.elems.drop (32 * k)).take 32) t.kseq t.fl (!ok) s) s
  accResidue t.die t.obs s

/-- A scheduled write lands (R226, R227, R279). -/
def writeDone (due : Nat) (w : WriteOp) (s : State) : State :=
  let dead := clashedAny s w.reads
  let s := ((List.range w.words.length).zip w.words).foldl (fun s e =>
    schedWrite (due - 1) w.die (w.addr + e.1)
      (match e.2 with | none => {} | some x => if dead then {} else { data := x, poison := false }) s) s
  match w.flagAddr with
  | none => s
  | some a => orFlags w.die a (w.flags ||| one dead) w.flagBad s

/-- Piccolo chunks enter accumulators (R210, R221, R232). -/
def accChunksDone (die : Nat) (cycle : Nat) (cs : List PicChunk) (o : AccObs) (s : State) : State :=
  accResidue die o (cs.foldl (fun s c => accAdd die c.dest (readFp32 c.value 1).1 c.kseq c.flags s)
    (enterCycle cycle (accFile die o s)))

/-- Piccolo chunks are staged, and their flags reach the destination's flag word (R210, R227). -/
def stageChunksDone (die due : Nat) (cs : List PicChunk) (flagAddr : Nat) (flagBad : Bool) (s : State) : State :=
  let s := cs.foldl (fun s c => schedWrite (due - 1) die c.dest (dataWord c.value.toNat) s) s
  orFlags die flagAddr (cs.foldl (fun f c => f ||| c.flags ||| one (c.value == 0xFFC00001)) 0) flagBad s

/-- One effect, seen from issue cycle `due` on. -/
def applyEffect (due : Nat) (e : Effect) (s : State) : State :=
  match e with
  | .window d w opening bad => if opening then winOpen d w bad s else winClose d w s
  | .ring d r publish => if publish then ringPublish d r s else ringRelease d r s
  | .flagClear d a => schedWrite (due - 1) d a (dataWord 0) s
  | .tensor t => inClass t.cls (tensorDone t) s
  | .write w => writeDone due w s
  | .accChunks d cs o => accChunksDone d (due - 1) cs o s
  | .stageChunks d cs fl bad => stageChunksDone d due cs fl bad s

/-- Insert by due cycle, after those of the same cycle. -/
def insertDue (e : Nat × Effect) : List (Nat × Effect) → List (Nat × Effect)
  | [] => [e]
  | x :: xs => if e.1 < x.1 then e :: x :: xs else x :: insertDue e xs

def sortDue (es : List (Nat × Effect)) : List (Nat × Effect) := es.foldl (fun l e => insertDue e l) []

/-- Apply effects in the order of their cycles, closing each cycle's bank conflicts first. [DESIGN CHOICE: log 78] -/
def applyDue : List (Nat × Effect) → State → State
  | [], s => s
  | (c, e) :: es, s => applyDue es (applyEffect c e (closeAccess c s))

/-- Issue cycle `c` begins: everything seen from it on has happened. -/
def reachCycle (c : Nat) (s : State) : State :=
  let due := sortDue (s.seq.effects.filter (fun e => decide (e.1 ≤ c)))
  let s := { s with seq := { s.seq with effects := s.seq.effects.filter (fun e => decide (c < e.1)) } }
  let s := closeAccess c (applyDue due s)
  if s.tensor.cycle < c then closeCycle s else s

/-- Fixed-latency work of issued bundles drains (R272). -/
def drain (s : State) : State :=
  let es := sortDue s.seq.effects
  let s := applyDue es { s with seq := { s.seq with effects := [] } }
  closeCycle (closeAccess (s.seq.cycle + 1000000) s)

/-! ## The operations as commands -/

/-- MATMUL (R208). -/
def execMatmul (dt : Nat) (die : Luna) (obs : AccObs) (s : State) : Result :=
  act dt (withSub die 1 1 (tensorIssue 1 (matmulIssue obs))) s
/-- CLEAR (R222). -/
def execClear (dt : Nat) (die : Luna) (s : State) : Result :=
  act dt (withSub die 1 2 (tensorIssue 2 (initIssue 2))) s
/-- PRELOAD (R222). -/
def execPreload (dt : Nat) (die : Luna) (obs : AccObs) (s : State) : Result :=
  act dt (withSub die 1 3 (tensorIssue 3 (loadIssue 3 obs))) s
/-- ADD (R214). -/
def execAdd (dt : Nat) (die : Luna) (obs : AccObs) (s : State) : Result :=
  act dt (withSub die 1 4 (tensorIssue 4 (loadIssue 4 obs))) s
/-- READ (R226). -/
def execRead (dt : Nat) (die : Luna) (obs : AccObs) (s : State) : Result :=
  act dt (withSub die 1 5 (tensorIssue 5 (readIssue 5 obs))) s
/-- READ_CLEAR (R222). -/
def execReadClear (dt : Nat) (die : Luna) (obs : AccObs) (s : State) : Result :=
  act dt (withSub die 1 6 (tensorIssue 6 (readIssue 6 obs))) s
/-- SAVE (R234). -/
def execSave (dt : Nat) (die : Luna) (obs : AccObs) (s : State) : Result :=
  act dt (withSub die 1 7 (tensorIssue 7 (saveIssue obs))) s
/-- RESTORE (R235). -/
def execRestore (dt : Nat) (die : Luna) (obs : AccObs) (s : State) : Result :=
  act dt (withSub die 1 8 (tensorIssue 8 (restoreIssue obs))) s
/-- EXT_INIT (R229). -/
def execExtInit (dt : Nat) (die : Luna) (s : State) : Result :=
  act dt (withSub die 1 9 (tensorIssue 9 (initIssue 9))) s
/-- EXT_CHUNK (R229). -/
def execExtChunk (dt : Nat) (die : Luna) (obs : AccObs) (s : State) : Result :=
  act dt (withSub die 1 10 (tensorIssue 10 (loadIssue 10 obs))) s
/-- QUANT (R187). -/
def execQuant (dt : Nat) (die : Luna) (obs : AccObs) (s : State) : Result :=
  act dt (withSub die 1 12 (tensorIssue 12 (readIssue 12 obs))) s

/-- VECTOR (R207): KV_MASK is the one function with a number (R345); Config says which numbers the others have. -/
def execVector (dt : Nat) (die : Luna) (obs : AccObs) (s : State) : Result :=
  act dt (withSub die 1 11 (tensorIssue 11 (vectorIssue obs))) s

/-- FLAG_CLEAR names a tensor descriptor's D_FLAGS word; it reads zero from b + 8 (R262). -/
def flagClearIssue (c : SubCtx) (s : State) : State :=
  match descWords s c.die 1 (moveIndex c.v c.rep) 8 with
  | .inl o => tableFault c.die 2 o s
  | .inr b =>
    if blocksOk (tdescOf b) then later (c.cycle + 8) (.flagClear c.die (tdescOf b).dFlags) s
    else tableFault c.die 2 60 s

/-- FLAG_CLEAR (R227). -/
def execFlagClear (dt : Nat) (die : Luna) (s : State) : Result :=
  act dt (withSub die 2 2 flagClearIssue) s

/-- MARK (R262): the trace record carries the issue cycle. -/
def execMark (dt : Nat) (die : Luna) (s : State) : Result :=
  act dt (withSub die 3 1 (fun c s =>
    { s with seq := { s.seq with trace := s.seq.trace ++ [(c.cycle, c.die, bits c.v 15 4)] } })) s

/-! ## Rings and windows as operations -/

/-- A ring operation of a bundle: an invalid ring is an invalid field (R288); seen from b + 8 (R290). -/
def ringIssue (publish : Bool) (c : SubCtx) (s : State) : State :=
  let r := if c.die < 16 then moveIndex c.v c.rep else hubIndex c.v c.rep
  match ringInfo s c.die r with
  | none => bundleInvalid c.die (slotOf c.die) (if c.die < 16 then c.sub else 0) (slotBit c.die c.sub + 4) s
  | some _ => later (c.cycle + 8) (.ring c.die r publish) s

/-- A window operation of a bundle: a window the die does not own is an invalid field (R304). -/
def windowIssue (opening : Bool) (entryBad : List Nat) (c : SubCtx) (s : State) : State :=
  let w := if c.die < 16 then bits c.v 15 4 else hubIndex c.v c.rep
  if (winOwner w).map (·.1) = some c.die then later (c.cycle + 8) (.window c.die w opening entryBad) s
  else bundleInvalid c.die (slotOf c.die) (if c.die < 16 then c.sub else 0) (slotBit c.die c.sub + 4) s

/-- RING_PUBLISH (R290). -/
def execRingPublish (dt : Nat) (die : Die) (s : State) : Result :=
  act dt (if die.val < 16 then withSub die 2 3 (ringIssue true) else withSub die 0 4 (ringIssue true)) s
/-- RING_RELEASE (R290). -/
def execRingRelease (dt : Nat) (die : Die) (s : State) : Result :=
  act dt (if die.val < 16 then withSub die 2 4 (ringIssue false) else withSub die 0 5 (ringIssue false)) s
/-- WINDOW_OPEN (R306). -/
def execWindowOpen (dt : Nat) (die : Die) (entryBad : List (Fin 4)) (s : State) : Result :=
  let bad := entryBad.map (·.val)
  act dt (if die.val < 16 then withSub die 3 2 (windowIssue true bad) else withSub die 0 2 (windowIssue true bad)) s
/-- WINDOW_CLOSE (R306, R308). -/
def execWindowClose (dt : Nat) (die : Die) (s : State) : Result :=
  act dt (if die.val < 16 then withSub die 3 3 (windowIssue false []) else withSub die 0 3 (windowIssue false [])) s

end Sys2Proof.Machine
end

