-- ==== Sys2Proof/Machine/Kv.lean ====
section
/-! DEFINITION. The latent key-value cache (R314 to R357): page table, pools, reservation and resolution,
append and read gathers, page CRCs, the prefix table. -/

namespace Sys2Proof.Machine

open Sys2Proof.Map

/-! ## Page table entries (R325) -/

/-- A page table entry. -/
structure Pte where
  phys : Nat := 0
  gen : Nat := 0
  committed : Nat := 0
  tentative : Nat := 0
  refs : Nat := 0
  owner : Nat := 0
  valid : Bool := false
  shared : Bool := false
  parked : Bool := false
  crcValid : Bool := false
  ioRefs : Nat := 0
deriving DecidableEq, Repr

def ptBase (s : State) : Nat := reg64 s Reg.KV_PT_BASE
def pteAddr (s : State) (i : Nat) : Nat := ptBase s + 16 * i

def decodePte (n : Nat) : Pte :=
  { phys := bits n 31 0, gen := bits n 47 32, committed := bits n 52 48, tentative := bits n 57 53,
    refs := bits n 79 64, owner := bits n 95 80, valid := bit n 96, shared := bit n 97, parked := bit n 98,
    crcValid := bit n 99, ioRefs := bits n 111 104 }

def encodePte (e : Pte) : Nat :=
  e.phys + e.gen * 2 ^ 32 + e.committed * 2 ^ 48 + e.tentative * 2 ^ 53 + e.refs * 2 ^ 64 + e.owner * 2 ^ 80 +
  one e.valid * 2 ^ 96 + one e.shared * 2 ^ 97 + one e.parked * 2 ^ 98 + one e.crcValid * 2 ^ 99 + e.ioRefs * 2 ^ 104

def pte (s : State) (i : Nat) : Pte := decodePte (ofBytes (hbmRead s (pteAddr s i) 16))
def setPte (i : Nat) (e : Pte) (s : State) : State := hbmWrite (pteAddr s i) (toBytes 16 (encodePte e)) s

/-! ## Pools (R327) -/

def kvLayers (s : State) : Nat := regFld s Reg.KV_CONFIG 11 8
def pageSize (s : State) : Nat := 512 * regFld s Reg.KV_CONFIG 7 0
/-- Bytes of a page that the module writes and reads: its header and its sections (R319). -/
def pageBytes (s : State) : Nat := 512 * (1 + 11 * kvLayers s)

/-- The KIND 2 regions of quadrant `q`, by stack and region index: address and pages. -/
def poolRegions (s : State) (q : Nat) : List (Nat × Nat) :=
  (List.range 6).flatMap (fun i =>
    let st := 6 * q + i
    (List.range 32).filterMap (fun k =>
      let r := region s st k
      if r.1 ∧ r.2.2.2 = 2 ∧ pageSize s ≠ 0 then some (st * 2 ^ 37 + r.2.1, r.2.2.1 / pageSize s) else none))

def poolPages (s : State) (q : Nat) : Nat := ((poolRegions s q).map (·.2)).sum

/-- Address of a page in a list of regions. -/
def pageIn (size : Nat) : List (Nat × Nat) → Nat → Nat
  | [], _ => 0
  | (a, n) :: rs, p => if p < n then a + p * size else pageIn size rs (p - n)

/-- HBM address of the page a PHYS names. -/
def pageAddr (s : State) (phys : Nat) : Nat := pageIn (pageSize s) (poolRegions s (bits phys 31 30)) (bits phys 29 0)

def fifoCount (f : Fifo) : Nat := (f.limit - f.fresh) + f.back.length

def fifoTake (f : Fifo) : Option (Nat × Fifo) :=
  if f.fresh < f.limit then some (f.fresh, { f with fresh := f.fresh + 1 })
  else match f.back with
    | [] => none
    | x :: xs => some (x, { f with back := xs })

def fifoPut (f : Fifo) (x : Nat) : Fifo := { f with back := f.back ++ [x] }

def freePages (s : State) (q : Nat) : Nat := fifoCount (mget {} s.kv.pages q)

/-- Fill the free lists: every page and every entry is free. -/
def poolInit (s : State) : State :=
  { s with kv := { s.kv with
      pages := (List.range 4).foldl (fun m q => mset {} m q ({ limit := poolPages s q } : Fifo)) [],
      entries := { limit := 16777216 }, crcDue := [], prefixValid := 0 } }

/-- KV_POOL_LOW when the count, `before` until now, falls from the mark to one below it (R356); the next such fall needs the
count back at the mark. -/
def poolMark (q before : Nat) (s : State) : State :=
  let n := freePages s q
  if before = regFld s Reg.KV_POOL_LOW_MARK 29 0 ∧ n + 1 = before then raise 0 Evt.KV_POOL_LOW (q + n * 2 ^ 2) s else s

/-! ## Headers (R323) -/

/-- Fields of a page's header. -/
def headerByte (s : State) (a i : Nat) : Nat := (hbmByte s (a + i)).toNat
def written (s : State) (a l : Nat) : Nat := ofBytes (hbmRead s (a + 16 + 2 * l) 2)
def setWritten (a l v : Nat) (s : State) : State := hbmWrite (a + 16 + 2 * l) (toBytes 2 v) s

/-- The header of a newly allocated page. -/
def newHeader (req pos tent gen layers : Nat) : Bytes :=
  padTo 512 (toBytes 4 req ++ toBytes 4 pos ++ toBytes 1 0 ++ toBytes 1 tent ++ toBytes 2 gen ++ toBytes 1 layers)

/-- COMMITTED and TENTATIVE in the header. -/
def setCounts (a c t : Nat) (s : State) : State := hbmWrite (a + 8) (toBytes 1 c ++ toBytes 1 t) s

/-! ## Allocation and references (R328, R329) -/

/-- Allocate a page for a request: its entry's index, none when a list is empty. [DEDUCED: log 51] -/
def allocPage (q req owner pos tent : Nat) (s : State) : Option (Nat × State) :=
  match fifoTake (mget {} s.kv.pages q), fifoTake s.kv.entries with
  | some (pg, fp), some (i, fe) =>
    let free := freePages s q
    let gen := ((pte s i).gen + 1) % 2 ^ 16
    let phys := q * 2 ^ 30 + pg
    let s := { s with kv := { s.kv with pages := mset {} s.kv.pages q fp, entries := fe } }
    let s := setPte i { phys := phys, gen := gen, tentative := tent, refs := 1, owner := owner, valid := true } s
    some (i, poolMark q free (hbmWrite (pageAddr s phys) (newHeader req pos tent gen (kvLayers s)) s))
  | _, _ => none

/-- Free an entry that nothing refers to (R329). -/
def freeIfUnused (i : Nat) (s : State) : State :=
  let e := pte s i
  if e.valid && e.refs == 0 && e.ioRefs == 0 && e.tentative == 0 then
    let q := bits e.phys 31 30
    let s := setPte i { gen := e.gen } s
    let kv := s.kv
    { s with kv := { kv with
      pages := if e.parked then kv.pages else mupd {} kv.pages q (fun f => fifoPut f (bits e.phys 29 0)),
      entries := fifoPut kv.entries i, crcDue := kv.crcDue.filter (· != i) } }
  else s

/-- Drop one reference. -/
def dropRef (i : Nat) (s : State) : State :=
  let e := pte s i
  freeIfUnused i (setPte i { e with refs := e.refs - 1 } s)

/-- Add one reference; refused beyond 65,535 (R329). -/
def addRef (i : Nat) (s : State) : Bool × State :=
  let e := pte s i
  if 65535 ≤ e.refs then (false, raise 0 Evt.KV_REFCOUNT_FULL i s) else (true, setPte i { e with refs := e.refs + 1 } s)

/-! ## Reservation (R331) -/

/-- Allocate pages for the slots left, from page index `j` on. -/
def reservePages (q req owner : Nat) : Nat → Nat → Nat → State → List Nat × State
  | 0, _, _, s => ([], s)
  | fuel + 1, j, n, s =>
    if n = 0 then ([], s)
    else
      match allocPage q req owner (16 * j) (min n 16) s with
      | none => ([], s)
      | some (i, s) =>
        let (is, s) := reservePages q req owner fuel (j + 1) (n - min n 16) s
        (i :: is, s)

/-- Reserve positions p₀ to p₀ + n − 1 of a request with the pages given; its new pages, none when it fails. -/
def reserve (pages : List Nat) (q req owner p0 n : Nat) (s : State) : Option (List Nat) × State :=
  if pages.any (fun i => decide (0 < (pte s i).tentative)) then (none, s)
  else if 1048576 < p0 + n then (none, raiseFor 0 Evt.KV_CONTEXT_LIMIT s.log.cls req (p0 + n - 1) s)
  else
    let room := if p0 % 16 = 0 then 0 else 16 - p0 % 16
    let k := min n room
    let need := ceilDiv (n - k) 16
    if freePages s q < need ∨ fifoCount s.kv.entries < need then
      (none, collectFirst Evt.KV_POOL_EMPTY q 1 need (bump Reg.KV_ALLOC_FAIL_COUNT 1 s))
    else
      let s := if k = 0 then s else
        match pages[p0 / 16]? with
        | none => s
        | some i =>
          let e := pte s i
          setCounts (pageAddr s e.phys) e.committed (e.tentative + k) (setPte i { e with tentative := e.tentative + k } s)
      let (new, s) := reservePages q req owner need (p0 / 16 + (if room = 0 then 0 else 1)) (n - k) s
      (some (pages ++ new), s)

/-! ## Resolution (R335) -/

/-- Clear the WRITTEN bits of slots from `c` on in every section. -/
def clearWritten (a c : Nat) (s : State) : State :=
  (List.range (kvLayers s)).foldl (fun s l => setWritten a l (written s a l % 2 ^ c) s) s

/-- CRC_EN at a step commit's resolutions: the value that takes effect at that commit (R355). -/
def crcEn (s : State) : Bool := flag (reg s Reg.KV_CONFIG) 16
/-- CRC_CHECK as in force. -/
def crcCheck (s : State) : Bool := flag (force s Reg.KV_CONFIG) 17

/-- Resolve the pages of a request with accepted count A: the pages that stay, those that filled, the state. -/
def resolvePages : List Nat → Nat → State → List Nat × List Nat × State
  | [], _, s => ([], [], s)
  | i :: is, a, s =>
    let e := pte s i
    if e.tentative = 0 then
      let (k, f, s) := resolvePages is a s
      (i :: k, f, s)
    else
      let c := min e.tentative a
      let at_ := pageAddr s e.phys
      let com := e.committed + c
      let s := clearWritten at_ com s
      let s := setCounts at_ com 0 (setPte i { e with committed := com, tentative := 0 } s)
      if com = 0 then
        let (k, f, s) := resolvePages is (a - c) (dropRef i s)
        (k, f, s)
      else
        let full := com == 16
        let s := if full && crcEn s then { s with kv := { s.kv with crcDue := s.kv.crcDue ++ [i] } } else s
        let (k, f, s) := resolvePages is (a - c) s
        (i :: k, if full then i :: f else f, s)

/-! ## Page CRC (R342) -/

/-- The section of a layer. -/
def sectionAt (a l : Nat) : Nat := a + 512 + 5632 * l

/-- Compute a page's CRCs: every section, then CRC_VALID in header and entry. -/
def pageCrc (i : Nat) (s : State) : State :=
  let s := { s with kv := { s.kv with crcDue := s.kv.crcDue.filter (· != i) } }
  let e := pte s i
  if !e.valid || e.parked then s
  else
    let a := pageAddr s e.phys
    let n := kvLayers s
    let s := chargeHbm (16 + bits e.phys 31 30) 7 (88 * n + 2) s
    let s := (List.range n).foldl (fun s l =>
      hbmWrite (a + 64 + 4 * l) (toBytes 4 (crc32c (hbmRead s (sectionAt a l) 5632))) s) s
    let s := hbmWrite (a + 13) [BitVec.ofNat 8 (headerByte s a 13 ||| 1)] s
    setPte i { e with crcValid := true } s

/-! ## Page lists (R332) -/

/-- One entry of a page list. -/
structure ListPage where
  index : Nat
  gen : Nat
  slot : Nat
  count : Nat
deriving DecidableEq, Repr

/-- A page list: LAYER, OWNER and its entries; none where a value is not allowed or a word reads as poison. -/
def pageList (s : State) (d a : Nat) (bad : List (Nat × Nat)) : Option (Nat × Nat × List ListPage) :=
  let get := fun w => if bad.contains (d, w) then ({} : SWord) else spadAt s d w
  let w0 := get a
  let n := w0.data.toNat
  let cnt := bits n 16 0
  let layer := bits n 20 17
  if w0.poison ∨ cnt = 0 ∨ 65536 < cnt ∨ kvLayers s ≤ layer ∨ bits n 31 21 ≠ 0 ∨ bits n 63 48 ≠ 0 then none
  else
    let ws := (List.range cnt).map (fun i => get (a + 1 + i))
    if anyPoison ws ∨ ws.any (fun w => bits w.data.toNat 63 48 != 0) then none
    else some (layer, bits n 47 32, ws.map (fun w =>
      let x := w.data.toNat
      ⟨bits x 23 0, bits x 39 24, bits x 43 40, bits x 47 44 + 1⟩))

/-- The cause that rejects an append's entry, 0 for none (R333). -/
def appendCause (s : State) (owner : Nat) (p : ListPage) : Nat :=
  let e := pte s p.index
  if !e.valid || e.gen != p.gen then 1
  else if e.shared || e.refs != 1 then 2
  else if e.owner ≠ owner then 3
  else if p.slot < e.committed ∨ e.committed + e.tentative < p.slot + p.count then 4
  else if e.parked then 5
  else 0

/-- The bytes a rotary packet stores in its line, and how many of its blocks have a scale that is none of those allowed
(R317). -/
def rotaryLine (b : Bytes) : Bytes × Nat :=
  let blk := fun i =>
    let sc := byteAt b (64 + i)
    if sc = 0x78 then ((b.drop (32 * i)).take 32, false)
    else if sc = 0 then (List.replicate 32 0, false)
    else (List.replicate 32 (0xFF : Byte), sc != 0xFF)
  let (x, e) := blk 0
  let (y, f) := blk 1
  (x ++ y, one e + one f)

/-- A packet of five as read from the source: no bytes where it is poisoned. -/
def packetOf (ws : List SWord) : Bytes := if anyPoison ws then [] else wordsBytes ws

/-- Land the slots of one entry of an append (R334): five packets a slot; answers whether one was poisoned or a
burst stays so. -/
def appendSlots (die i a layer slot : Nat) (ps : List (List Bytes)) (s : State) : Bool × State :=
  let sec := sectionAt a layer
  let (bad, s) := hbmStoreParts (sec + 288 * slot) 72 (ps.flatMap (·.take 4)) s
  let lines := ps.map (fun q => let r := q.getD 4 []; if r.isEmpty then ([], 0) else rotaryLine r)
  let s := ((List.range lines.length).zip lines).foldl (fun s e =>
    (List.range e.2.2).foldl (fun s _ =>
      raise 0 Evt.KV_ROPE_FORMAT (die + i * 2 ^ 8 + (slot + e.1) * 2 ^ 32) s) s) s
  let (bad', s) := hbmStoreParts (sec + 4608 + 64 * slot) 64 (lines.map (·.1)) s
  (bad || bad', s)

/-- Carry out an append gather whose list passed (R334): source packets token-major. -/
def appendPages (die layer : Nat) : List ListPage → List Bytes → State → Bool × State
  | [], _, s => (false, s)
  | p :: ps, src, s =>
    let e := pte s p.index
    let a := pageAddr s e.phys
    let (bad, s) := appendSlots die p.index a layer p.slot (chunksOf 5 (src.take (5 * p.count))) s
    let s := setWritten a layer (written s a layer ||| (2 ^ p.count - 1) * 2 ^ p.slot) s
    let (bad', s) := appendPages die layer ps (src.drop (5 * p.count)) s
    (bad || bad', s)

/-- HBM bursts of an append's entry: the table entry, the latents, the rotary lines, the header. -/
def appendBursts (p : ListPage) : Nat :=
  2 + p.count + ((288 * (p.slot + p.count) + 63) / 64 - 288 * p.slot / 64)

/-! ## Read gathers (R338 to R341) -/

/-- A latent packet and a rotary packet of a poisoned slot, and of an absent one (R340). [DEDUCED: log 51] -/
def poisonSlot : List Bytes :=
  List.replicate 4 (padTo 72 (List.replicate 64 0 ++ List.replicate 4 0xFF)) ++
  [padTo 72 (List.replicate 64 0xFF ++ [0x78, 0x78])]
def absentSlot : List Bytes :=
  List.replicate 4 (padTo 72 (List.replicate 68 0 ++ [0x0F])) ++ [padTo 72 (List.replicate 66 0 ++ [0x03])]

/-- A stored slot as delivered: each packet with its poison (R299, R318). [DEDUCED: log 51] -/
def storedSlot (s : State) (sec t : Nat) : List (Bytes × Bool) :=
  (List.range 4).map (fun q =>
    let a := sec + 288 * t + 72 * q
    (hbmRead s a 72, hbmPoisoned s a 72)) ++
  [let a := sec + 4608 + 64 * t
   (padTo 72 (hbmRead s a 64 ++ [0x78, 0x78]), hbmPoisoned s a 64)]

/-- What a read gather delivers for one page (R339): its slots and result word, the causes met: STALE, CRC_FAIL,
UNWRITTEN slots, and whether any slot is poisoned. -/
structure PageRead where
  slots : List (List (Bytes × Bool))
  result : Nat
  stale : Bool := false
  crcFail : Bool := false
  unwritten : List Nat := []
  poisoned : Bool := false
deriving DecidableEq, Repr

def readPage (s : State) (layer k : Nat) (p : ListPage) : PageRead :=
  let e := pte s p.index
  let whole := List.replicate 16 (poisonSlot.map (fun b => (b, false)))
  if !e.valid || e.parked || e.gen != p.gen then
    { slots := whole, result := 0xFFFF + 2 ^ 16 + 16 * k * 2 ^ 32, stale := true, poisoned := true }
  else
    let a := pageAddr s e.phys
    let sec := sectionAt a layer
    let pos := ofBytes (hbmRead s (a + 4) 4)
    let v := e.committed + e.tentative
    let hbad := hbmPoisoned s a 128
    let ubad := hbad || hbmPoisoned s sec 5632
    let check := e.crcValid && crcCheck s
    let ok := crc32c (hbmRead s sec 5632) == ofBytes (hbmRead s (a + 64 + 4 * layer) 4)
    let base := one ubad * 2 ^ 20 + pos * 2 ^ 32
    if check && !ok then
      { slots := whole, result := 0xFFFF + 2 ^ 18 + base, crcFail := true, poisoned := true }
    else
      let w := written s a layer
      let slots := (List.range 16).map (fun t =>
        if v ≤ t then absentSlot.map (fun b => (b, false))
        else if hbad || !bit w t then poisonSlot.map (fun b => (b, false))
        else storedSlot s sec t)
      let unw := if hbad then [] else (List.range (min v 16)).filter (fun t => !bit w t)
      { slots := slots
        result := (2 ^ min v 16 - 1) + one check * 2 ^ 17 + one (!unw.isEmpty) * 2 ^ 19 + base
        unwritten := unw
        poisoned := !unw.isEmpty || (hbad && decide (0 < v)) || slots.any (fun ps => ps.any (·.2)) }

/-- Count and raise what one page of a gather met (R341). -/
def countPage (die layer : Nat) (p : ListPage) (r : PageRead) (s : State) : State :=
  let s := if r.stale then
      raise 0 Evt.KV_PAGE_STALE (die + p.index * 2 ^ 8 + p.gen * 2 ^ 32 + (pte s p.index).gen * 2 ^ 48)
        (bump Reg.KV_STALE_COUNT 1 s) else s
  let s := if r.crcFail then
      raise 0 Evt.KV_CRC_FAIL (die + p.index * 2 ^ 8 + layer * 2 ^ 32) (bump Reg.KV_CRC_FAIL_COUNT 1 s) else s
  r.unwritten.foldl (fun s t =>
    raise 0 Evt.KV_UNWRITTEN_READ (die + p.index * 2 ^ 8 + layer * 2 ^ 32 + t * 2 ^ 36)
      (bump Reg.KV_UNWRITTEN_COUNT 1 s)) s

/-- The words of a delivered slot. -/
def slotWords (ps : List (Bytes × Bool)) : List SWord :=
  ps.flatMap (fun p => if p.2 then List.replicate 9 {} else bytesWords p.1 false)

/-- Deliver the pages of a read gather (R338). -/
def gatherPages (die layer list dst total : Nat) : Nat → List ListPage → State → Bool × State
  | _, [], s => (false, s)
  | k, p :: ps, s =>
    let r := readPage s layer k p
    let s := countPage die layer p r s
    let s := spadPuts die (dst + 720 * k) (r.slots.flatMap slotWords) s
    let s := spadPut die (list + total + 1 + k) (dataWord r.result) s
    let (bad, s) := gatherPages die layer list dst total (k + 1) ps s
    (r.poisoned || bad, s)

/-! ## The prefix table (R349 to R354) -/

def prefixAddr (s : State) (slot : Nat) : Nat := reg64 s Reg.KV_PREFIX_BASE + 32 * slot
def prefixEntry (s : State) (slot : Nat) : Bytes := hbmRead s (prefixAddr s slot) 32
def setPrefix (slot : Nat) (b : Bytes) (s : State) : State := hbmWrite (prefixAddr s slot) b s
def prefixIsValid (b : Bytes) : Bool := bit (byteAt b 19) 0
def prefixQuad (b : Bytes) : Nat := bits (byteAt b 19) 2 1
def keySet (k : Bytes) : Nat := byteField k 0 2 % 2 ^ 20

/-- The way of a key's set that holds it in a quadrant. -/
def prefixFind (s : State) (key : Bytes) (q : Nat) : Option Nat :=
  ((List.range 8).map (fun w => 8 * keySet key + w)).find? (fun sl =>
    let b := prefixEntry s sl
    prefixIsValid b && decide (b.take 16 = key) && prefixQuad b == q)

/-- Change bytes of a prefix entry. -/
def editPrefix (slot a : Nat) (bs : Bytes) (s : State) : State := hbmWrite (prefixAddr s slot + a) bs s

/-- Look up the chain keys in order (R351): the pages reused. -/
def prefixLookup (q : Nat) : List Bytes → State → List Nat × State
  | [], s => ([], s)
  | k :: ks, s =>
    match prefixFind s k q with
    | none => ([], s)
    | some sl =>
      let b := prefixEntry s sl
      let i := byteField b 16 18
      if byteField b 20 21 ≠ (pte s i).gen then ([], bump Reg.KV_STALE_COUNT 1 s)
      else
        let (ok, s) := addRef i s
        if !ok then ([], s)
        else
          let s := bump Reg.KV_PREFIX_HIT_COUNT 1 (editPrefix sl 22 [0, 0] s)
          let (is, s) := prefixLookup q ks s
          (i :: is, s)

/-- Add to the CHILDREN of a slot, saturating. -/
def addChild (sl : Nat) (up : Bool) (s : State) : State :=
  if sl = 0xFFFFFF then s
  else
    let n := byteField (prefixEntry s sl) 28 29
    editPrefix sl 28 (toBytes 2 (if up then min (n + 1) 65535 else n - 1)) s

/-- The way an insertion into a full set evicts: CHILDREN 0 and the greatest AGE, lowest way on a tie (R353). -/
def evictWay (s : State) (set : Nat) : Option Nat :=
  ((List.range 8).map (fun w => 8 * set + w)).foldl (fun r sl =>
    let b := prefixEntry s sl
    if byteField b 28 29 ≠ 0 then r
    else match r with
      | none => some sl
      | some o => if byteField (prefixEntry s o) 22 23 < byteField b 22 23 then some sl else r) none

/-- Evict a slot (R353). -/
def evict (sl : Nat) (s : State) : State :=
  let b := prefixEntry s sl
  let s := setPrefix sl (List.replicate 32 0) s
  let s := addChild (byteField b 24 26) false s
  dropRef (byteField b 16 18) { s with kv := { s.kv with prefixValid := s.kv.prefixValid - 1 } }

/-- Insert a full prompt page under its chain key (R348, R352, R353). -/
def prefixInsert (q i depth : Nat) (key : Bytes) (parent : Option Bytes) (s : State) : State :=
  let ps := match parent with | none => some 0xFFFFFF | some k => prefixFind s k q
  match ps with
  | none => s
  | some par =>
    if (prefixFind s key q).isSome then s
    else
      let set := keySet key
      let free := ((List.range 8).map (fun w => 8 * set + w)).find? (fun sl => !prefixIsValid (prefixEntry s sl))
      match (match free with | some sl => some sl | none => evictWay s set) with
      | none => collect Evt.KV_PREFIX_FULL 0 1 (bump Reg.KV_PREFIX_FULL_COUNT 1 s)
      | some sl =>
        let (ok, s) := addRef i s
        if !ok then s
        else
          let s := if prefixIsValid (prefixEntry s sl) then evict sl s else s
          let e := pte s i
          let a := pageAddr s e.phys
          let s := setPte i { e with shared := true, owner := 0xFFFF } s
          let s := hbmWrite (a + 13) [BitVec.ofNat 8 (headerByte s a 13 ||| 2)] (hbmWrite (a + 112) key s)
          let s := setPrefix sl (padTo 32 (key ++ toBytes 3 i ++ toBytes 1 (1 + 2 * q) ++ toBytes 2 e.gen ++
            toBytes 2 0 ++ toBytes 3 par ++ toBytes 1 0 ++ toBytes 2 0 ++ toBytes 2 depth)) s
          let s := { s with kv := { s.kv with prefixValid := s.kv.prefixValid + 1 } }
          addChild par true s

/-- The slots of the prefix table that any byte of HBM is listed in. -/
def prefixSlots (s : State) : List Nat :=
  let b := reg64 s Reg.KV_PREFIX_BASE
  ((s.mem.hbm.filter (fun e => decide (b ≤ e.1 ∧ e.1 < b + 268435456))).map (fun e => (e.1 - b) / 32)).eraseDups

/-- R354: one powered second ages every valid entry below 65,535. -/
def prefixAge (s : State) : State :=
  (prefixSlots s).foldl (fun s sl =>
    let b := prefixEntry s sl
    let n := byteField b 22 23
    if prefixIsValid b && decide (n < 65535) then editPrefix sl 22 (toBytes 2 (n + 1)) s else s) s

/-- PREFIX_AGE_TICK (R354): due once per powered second. -/
def execPrefixAgeTick (dt : Nat) (s : State) : Result :=
  act dt (fun s => if poweredNow s ≤ s.kv.aged then s
    else prefixAge { s with kv := { s.kv with aged := s.kv.aged + 1 } }) s

end Sys2Proof.Machine
end

