-- ==== Sys2Proof/Machine/Qp.lean ====
section
/-! DEFINITION. RoCE context tables and queue pairs (R527 to R532): what a queue pair's context says, posting a
message, and its retransmission. -/

namespace Sys2Proof.Machine

open Sys2Proof.Map

/-- Entries and entry size of the context tables. -/
def ctxEntries (t : Nat) : Nat := ([4096, 256, 16, 4096] : List Nat).getD t 0
def ctxSize (t : Nat) : Nat := if t = 0 then 64 else 32

/-- An entry of a context table (R528). -/
def ctxEntry (s : State) (t i : Nat) : Bytes := padTo (ctxSize t) (mget [] s.host.ctx (t * 4096 + i))

def setCtxEntry (t i : Nat) (b : Bytes) (s : State) : State :=
  { s with host := { s.host with ctx := mset [] s.host.ctx (t * 4096 + i) (if allZero b then [] else padTo (ctxSize t) b) } }

/-- STATE of a queue pair: 0 RESET, 1 INIT, 2 RTR, 3 RTS, 4 ERROR. -/
def qpStateOf (s : State) (q : Nat) : Nat := byteAt (ctxEntry s 0 q) 0
def setQpState (q st : Nat) (s : State) : State :=
  setCtxEntry 0 q (BitVec.ofNat 8 st :: (ctxEntry s 0 q).drop 1) s

/-- Port and KIND of a queue pair. -/
def qpPort (s : State) (q : Nat) : Nat := byteAt (ctxEntry s 0 q) 1 % 2
def qpKind (s : State) (q : Nat) : Nat := bits (byteAt (ctxEntry s 0 q) 1) 4 3
/-- ACK timeout in CCLK: 4.096 µs × 2^TIMEOUT at 1.6 GHz, in tenths rounded up. -/
def qpTimeout (s : State) (q : Nat) : Nat := ceilDiv (65536 * 2 ^ clamp 8 20 (byteAt (ctxEntry s 0 q) 6)) 10
def qpRetry (s : State) (q : Nat) : Nat := bits (byteAt (ctxEntry s 0 q) 7) 2 0
def qpRnrRetry (s : State) (q : Nat) : Nat := bits (byteAt (ctxEntry s 0 q) 7) 6 4

def qpOf (s : State) (q : Nat) : QpState := mget {} s.host.qps q
def setQp (q : Nat) (x : QpState) (s : State) : State :=
  { s with host := { s.host with qps := mset {} s.host.qps q x } }

/-- The RoCE engine sends on a queue pair in RTS while it is enabled. -/
def qpSends (s : State) (q : Nat) : Bool := qpStateOf s q == 3 && flag (reg s Reg.ROCE_CONFIG) 0

/-- Payload bytes of a message. -/
def messageBytes : RoceMsg → Nat
  | .send d => d.length
  | .write _ _ d => d.length
  | .read _ _ _ => 0

/-- The queue pair's port is up. -/
def qpPortUp (s : State) (q : Nat) : Bool := (mget {} s.host.eth (qpPort s q)).up

/-- Path MTU in bytes. -/
def qpMtu (s : State) (q : Nat) : Nat := 2 ^ (7 + clamp 3 5 (byteAt (ctxEntry s 0 q) 5))

/-- Packet sequence numbers that a message of `n` bytes takes. -/
def psnCount (s : State) (q n : Nat) : Nat := max 1 (ceilDiv n (qpMtu s q))

/-- Those of a message this module sends: a READ takes those of its response. [PRESUMED: log 73] -/
def msgPsns (s : State) (q : Nat) : RoceMsg → Nat
  | .send d => psnCount s q d.length
  | .write _ _ d => psnCount s q d.length
  | .read _ _ n => psnCount s q n

/-- SQ_PSN (byte 20) or RQ_PSN (byte 24) of a context counts on, modulo 2^24. [PRESUMED: log 73] -/
def psnAdvance (a q n : Nat) (s : State) : State :=
  let b := ctxEntry s 0 q
  if n = 0 then s
  else setCtxEntry 0 q (b.take a ++ toBytes 3 (byteField b a (a + 2) + n) ++ b.drop (a + 3)) s

/-- Every message of the queue has been sent: those sent for the first time took their numbers. -/
def markSent (q : Nat) (s : State) : State :=
  let x := qpOf s q
  psnAdvance 20 q ((x.queue.drop x.sent).map (fun w => msgPsns s q w.msg)).sum
    (setQp q { x with sent := x.queue.length } s)

/-- Send one message on a queue pair's port, where that is up. [PRESUMED: log 73] -/
def qpSend (q : Nat) (m : RoceMsg) (s : State) : State :=
  if !qpPortUp s q then s
  else bump64 (ra (pgEth (qpPort s q)) 0x128) (messageBytes m) (emit (.roce q m) s)

/-- Post a message: it is sent at once on a queue pair in RTS, and otherwise waits in the queue. [PRESUMED: log 73] -/
def qpPost (q : Nat) (w : Work) (s : State) : State :=
  let x := qpOf s q
  let s := setQp q { x with queue := x.queue ++ [w], sentAt := if x.queue.isEmpty then s.clk.now else x.sentAt } s
  if qpSends s q && !x.rnrWait then markSent q (qpSend q w.msg s) else s

/-- Send the whole queue again from its oldest message (go-back-N, R527). -/
def qpResend (q : Nat) (s : State) : State :=
  let x := qpOf s q
  let s := bump Reg.ROCE_RETRANS_COUNT 1 (setQp q { x with sentAt := s.clk.now, rnrWait := false } s)
  markSent q (x.queue.foldl (fun s w => qpSend q w.msg s) s)

end Sys2Proof.Machine
end

