-- ==== Sys2Proof/Machine/Xfer.lean ====
section
/-! DEFINITION. Transfers (R251 to R261): issue, the check and the charge of a thread's start, the movement of
data, completion on a tag. -/

namespace Sys2Proof.Machine

open Sys2Proof.Map

/-! ## Descriptors -/

/-- A transfer address (R251). -/
inductive Place where
  | spad (die word : Nat)
  | hbm (addr : Nat)
  | window (module win off : Nat)
deriving DecidableEq, Repr

/-- A transfer address read from the issuing die, none for a value that completes INVALID. -/
def placeOf (die a : Nat) : Option Place :=
  let sp := bits a 63 60
  if sp = 0 then (if bits a 59 26 = 0 then some (.spad die (bits a 25 0)) else none)
  else if sp = 1 then
    (if bits a 59 53 = 0 ∧ bits a 47 26 = 0 ∧ bits a 52 48 < 20 then some (.spad (bits a 52 48) (bits a 25 0)) else none)
  else if sp = 2 then (if bits a 59 44 = 0 then some (.hbm (bits a 43 0)) else none)
  else if sp = 3 then
    (if bits a 59 54 = 0 ∧ bits a 31 26 = 0 then some (.window (bits a 53 48) (bits a 47 32) (bits a 25 0)) else none)
  else none

def dKind (b : Bytes) : Nat := bits (byteAt b 0) 3 0
def dClass (b : Bytes) : Nat := bits (byteAt b 0) 7 4
def dIndirect (b : Bytes) : Bool := bit (byteAt b 1) 0
def dTag (b : Bytes) : Nat := bits (byteField b 2 3) 8 0
def dLength (b : Bytes) : Nat := byteField b 4 6
def dSrc (b : Bytes) : Nat := byteField b 8 15
def dDst (b : Bytes) : Nat := byteField b 16 23
def dAux (b : Bytes) : Nat := byteField b 24 27

/-- Every reserved field is zero, and KIND and CLASS exist. -/
def descOk (b : Bytes) : Bool :=
  decide (1 ≤ dKind b ∧ dKind b ≤ 4) && decide (dClass b < 10) && decide (bits (byteAt b 1) 7 1 = 0) &&
  decide (bits (byteField b 2 3) 15 9 = 0) && byteAt b 7 == 0 && decide (byteField b 28 31 = 0)

/-- The transfer's length in packets: LENGTH, or the length word; none where that word reads as poison, as one of
`bad` does (R282). -/
def xferLength (s : State) (die : Nat) (b : Bytes) (bad : List (Nat × Nat)) : Option Nat :=
  if dIndirect b then
    let w := spadAt s die (dAux b)
    if w.poison || bad.contains (die, dAux b) then none else some (bits w.data.toNat 31 0)
  else some (dLength b)

/-- The descriptor with the length that its thread read when it started (R254). [DEDUCED: log 49] -/
def withLength (s : State) (die : Nat) (b : Bytes) (bad : List (Nat × Nat)) : Bytes :=
  match xferLength s die b bad with
  | some n => if dIndirect b ∧ n ≤ 16777215 then b.take 1 ++ [0] ++ (b.drop 2).take 2 ++ toBytes 3 n ++ b.drop 7 else b
  | none => b

/-! ## Charges (R435, R436) -/

/-- Bursts that `n` packets from an HBM address cover. -/
def packetBursts (a n : Nat) : Nat := if n = 0 then 0 else (a + 72 * n - 1) / 64 - a / 64 + 1

def placeBursts (p : Option Place) (n : Nat) : Nat :=
  match p with
  | some (.hbm a) => packetBursts a n
  | _ => 0

/-- HBM bursts of a gather: table entries, headers and sections or slots of its page list. -/
def gatherBursts (s : State) (die : Nat) (b : Bytes) (bad : List (Nat × Nat)) : Nat :=
  match pageList s die (dAux b) bad with
  | none => 0
  | some (_, _, ps) =>
    match placeOf die (dSrc b) with
    | some (.hbm _) => 91 * ps.length
    | _ => (ps.map appendBursts).sum

/-- The charge of a descriptor that takes a thread. -/
def chargeXfer (die : Nat) (b : Bytes) (bad : List (Nat × Nat)) (s : State) : State :=
  if !descOk b then s
  else
    let cls := dClass b
    let n := (xferLength s die b bad).getD 0
    let src := placeOf die (dSrc b)
    let dst := placeOf die (dDst b)
    let bursts := if dKind b = 2 then gatherBursts s die b bad
      else placeBursts src n + (if dKind b = 4 then 0 else placeBursts dst n)
    let s := if bursts = 0 then s else chargeHbm die cls bursts s
    match dKind b, dst with
    | 3, some (.window m _ _) => if m = moduleId s then s else chargeShawm die cls (72 * n) s
    | 4, _ => chargeEth cls (72 * n) s
    | _, _ => s

/-! ## The check (R251, R254, R296, R332) -/

/-- A range of a place is within its space. -/
def placeFits (s : State) (p : Place) (n : Nat) : Bool :=
  match p with
  | .spad d w => decide (w + 9 * n ≤ spadWords d)
  | .hbm a => match regionOf s a (72 * n) with
    | none => false
    | some (base, _) => decide ((hbmOffset a - base) % 72 = 0)
  | .window _ _ _ => true

/-- The result of a check: a status at once with its side, or what to carry out. -/
inductive Plan where
  | done (status side : Nat)
  | copy (src dst : Place) (n : Nat)
  | append (word n layer owner : Nat) (pages : List ListPage)
  | readGather (word layer : Nat) (pages : List ListPage)
  | send (src : Place) (module win off n : Nat)
  | eth (src : Place) (qp n : Nat)
deriving DecidableEq, Repr

def isWindow : Place → Bool
  | .window _ _ _ => true
  | _ => false

/-- The check of a COPY, SEND or ETH with its two places. -/
def checkMove (s : State) (kind qp : Nat) (src : Place) (dst : Option Place) (n : Nat) : Plan :=
  if n = 0 then .done 1 0
  else if 16777215 < n then .done 2 0
  else if !placeFits s src n then .done 2 0
  else
    match kind, dst with
    | 4, _ => .eth src qp n
    | _, some (.window m w o) => .send src m w o n
    | _, some d => if placeFits s d n then .copy src d n else .done 2 1
    | _, none => .done 4 0

/-- A page list runs beyond its scratchpad (R254). -/
def listBeyond (s : State) (die list : Nat) : Bool :=
  decide (spadWords die ≤ list) ||
    (let w := spadAt s die list; !w.poison && decide (spadWords die < list + bits w.data.toNat 16 0 + 1))

/-- The check of a GATHER. -/
def checkGather (s : State) (die list n : Nat) (src dst : Place) (bad : List (Nat × Nat)) : Plan :=
  if listBeyond s die list then .done (if n = 0 then 1 else 2) 1
  else
  match pageList s die list bad with
  | none => .done (if n = 0 then 1 else 4) 0
  | some (layer, owner, ps) =>
    let pages := ps.length
    match src, dst with
    | .spad sd w, .hbm a =>
      if sd ≠ die ∨ a ≠ ptBase s then .done 4 0
      else if n = 0 then .done 1 0
      else if 16777215 < n ∨ n ≠ 5 * (ps.map (·.count)).sum ∨ spadWords die < w + 9 * n then .done 2 0
      else if spadWords die < list + pages + 1 then .done 2 1
      else .append w n layer owner ps
    | .hbm a, .spad dd w =>
      if dd ≠ die ∨ a ≠ ptBase s then .done 4 0
      else if n = 0 then .done 1 0
      else if 16777215 < n ∨ n < 80 * pages then .done 2 0
      else if spadWords die < w + 720 * pages ∨ spadWords die < list + 2 * pages + 1 then .done 2 1
      else .readGather w layer ps
    | _, _ => .done 4 0

/-- The check a thread makes before any byte moves (R254). [DEDUCED: log 49] -/
def xferPlan (s : State) (die : Nat) (b : Bytes) (bad : List (Nat × Nat)) : Plan :=
  if !descOk b then .done 4 0
  else
    match xferLength s die b bad, placeOf die (dSrc b) with
    | some n, some src =>
      if isWindow src then .done 4 0
      else if dKind b = 4 then
        (if dDst b ≠ 0 then .done 4 0 else checkMove s 4 (bits (dAux b) 11 0) src none n)
      else
        match placeOf die (dDst b) with
        | none => .done 4 0
        | some dst =>
          if dKind b = 2 then checkGather s die (dAux b) n src dst bad
          else if isWindow dst ≠ (dKind b == 3) then .done 4 0
          else
            match dst with
            | .window m _ _ => if machineSize s ≤ m then .done 4 0 else checkMove s 3 0 src (some dst) n
            | _ => checkMove s 1 0 src (some dst) n
    | _, _ => .done 4 0

/-! ## Reading and writing packets -/

/-- Packets of scratchpad; no bytes stand for a poisoned packet (R281, R291). -/
def spadPackets (s : State) (d w n : Nat) (broken : List (Nat × Nat)) (bad : List (Nat × Nat)) : List Bytes :=
  (List.range n).map (fun k =>
    let ix := (List.range 9).map (fun i => w + 9 * k + i)
    let ws := ix.map (spadAt s d)
    if anyPoison ws || ix.any (fun x => bad.contains (d, x)) ||
        (!broken.isEmpty && ix.any (fun x => inBroken s d broken x)) then []
    else wordsBytes ws)

/-- Packets of HBM. -/
def hbmPackets (s : State) (a n : Nat) : List Bytes :=
  (List.range n).map (fun k => if hbmPoisoned s (a + 72 * k) 72 then [] else hbmRead s (a + 72 * k) 72)

/-- Run of the issuing die's words that a transfer's page list takes, and of its length word (R251, R254, R330). -/
def listRun (s : State) (die : Nat) (b : Bytes) : Nat × Nat :=
  if dKind b ≠ 2 then (0, 0)
  else
    let w := spadAt s die (dAux b)
    (dAux b, if w.poison then 1 else 1 + min (bits w.data.toNat 16 0) 65536)

def lengthRun (b : Bytes) : Nat × Nat := if dIndirect b then (dAux b, 1) else (0, 0)

/-- Slots that reading a run of control words breaks R291 in. -/
def runBreaks (s : State) (die : Nat) (r : Nat × Nat) : List (Nat × Nat) :=
  if r.2 = 0 then [] else ringBreaks s die r.1 r.2 false

/-- Words of a run that a broken slot makes read as poison (R292). -/
def runBroken (s : State) (die : Nat) (r : Nat × Nat) (bs : List (Nat × Nat)) : List (Nat × Nat) :=
  if bs.isEmpty then []
  else ((List.range r.2).map (fun i => (die, r.1 + i))).filter (fun e => inBroken s die bs e.2)

/-- Slots a plan breaks R291 in at its reads and its writes: die, breaks, write. -/
def planBreaks (s : State) (die : Nat) (list : Nat) : Plan → List (Nat × List (Nat × Nat) × Bool)
  | .copy src dst n =>
    (match src with | .spad d w => [(d, ringBreaks s d w (9 * n) false, false)] | _ => []) ++
    (match dst with | .spad d w => [(d, ringBreaks s d w (9 * n) true, true)] | _ => [])
  | .append w n _ _ _ => [(die, ringBreaks s die w (9 * n) false, false)]
  | .readGather w _ ps =>
    [(die, ringBreaks s die w (720 * ps.length) true ++
      ringBreaks s die (list + ps.length + 1) ps.length true, true)]
  | .send src _ _ _ n | .eth src _ n =>
    (match src with | .spad d w => [(d, ringBreaks s d w (9 * n) false, false)] | _ => [])
  | .done _ _ => []

/-- The source packets of a place, with the breaks of its reads counted, but for slots that the transfer has counted
already. -/
def readPlace (p : Place) (n : Nat) (o : XferObs) (counted : List (Nat × Nat × Nat)) (s : State) : List Bytes × State :=
  match p with
  | .spad d w =>
    let bs := ringBreaks s d w (9 * n) false
    (spadPackets s d w n bs o.spadUncorr, reportBreaks d (bs.filter (fun b => !counted.contains (d, b))) false s)
  | .hbm a => (hbmPackets s a n, s)
  | .window _ _ _ => ([], s)

/-- Write packets to a place; answers whether an HBM burst stays poisoned. -/
def writePlace (p : Place) (ps : List Bytes) (s : State) : Bool × State :=
  match p with
  | .spad d w =>
    let s := reportBreaks d (ringBreaks s d w (9 * ps.length) true) true s
    (false, spadPuts d w (ps.flatMap packetWords) s)
  | .hbm a => hbmStoreParts a 72 ps s
  | .window _ _ _ => (false, s)

/-! ## What the memories report (R282, R299, R300) -/

/-- Scratchpad words of a transfer's reads. -/
def xferSpadEcc (o : XferObs) (s : State) : State :=
  let s := o.spadCorr.foldl (fun s e => spadEcc e.1 1 [] s) s
  o.spadUncorr.foldl (fun s e => spadEcc e.1 0 [e.2] s) s

/-! ## Completion (R256 to R260) -/

def threadKey (die th : Nat) : Nat := die * 1024 + th
def threadOf (s : State) (die th : Nat) : Option Xfer := find? s.mem.threads (threadKey die th)
def setThread (die th : Nat) (x : Xfer) (s : State) : State :=
  { s with mem := { s.mem with threads := mput s.mem.threads (threadKey die th) x } }
def freeThread (die th : Nat) (s : State) : State :=
  { s with mem := { s.mem with threads := mdel s.mem.threads (threadKey die th) } }

/-- A status is a step error (R255's table). -/
def stepErrorStatus (st : Nat) : Bool := decide (2 ≤ st) && st != 5

/-- The event of a status (R256); WINDOW_CLOSED and LINK_DOWN have theirs where they arise. -/
def statusEvent (die th index st side : Nat) (s : State) : State :=
  if st = 1 then collect Evt.XFER_ZERO_LEN die 1 (bump Reg.SEQ_ZERO_LEN_COUNT 1 s)
  else if st = 2 then raise 1 Evt.XFER_BOUNDS (die + th * 2 ^ 8 + index * 2 ^ 18 + side * 2 ^ 38) s
  else if st = 4 then raise 1 Evt.XFER_INVALID (die + th * 2 ^ 8 + index * 2 ^ 18) s
  else s

/-- A descriptor completes on its tag (R256). -/
def publish (die th : Nat) (x : Xfer) (s : State) : State :=
  let b := x.desc.bytes
  let cls := if dClass b < 10 then dClass b else 0xFF
  inClass cls (fun s =>
    let s := statusEvent die th x.desc.index x.status x.side s
    let s := tagAdvance (dTag b) (freeThread die th s)
    if stepErrorStatus x.status then
      let t := tagOf s (dTag b)
      let s := setTag (dTag b) { t with err := true, last := x.status } s
      bump Reg.SEQ_XFER_ERR_COUNT 1 { s with seq := { s.seq with stepError := true } }
    else s) s

/-- Slots whose underrun a thread has counted: die, ring and slot. -/
def countedOf (s : State) (die th : Nat) : List (Nat × Nat × Nat) :=
  match threadOf s die th with | none => [] | some x => x.counted.map (fun b => (die, b))

/-- Underruns of a thread's control words: each slot of its die counts once for the transfer (R292). -/
def countUnderruns (die th : Nat) (bs : List (Nat × Nat)) (s : State) : State :=
  match threadOf s die th with
  | none => s
  | some x =>
    let new := (bs.filter (fun b => !x.counted.contains b)).eraseDups
    reportBreaks die new false (setThread die th { x with counted := x.counted ++ new } s)

/-- A thread ends with a status, to complete by XFER_COMPLETE. -/
def endThread (die th st side : Nat) (s : State) : State :=
  match threadOf s die th with
  | none => s
  | some x => setThread die th { x with phase := .finished, status := st, side := side } s

/-- A thread completes with a status at once. -/
def completeNow (die th st side : Nat) (s : State) : State :=
  match threadOf s die th with
  | none => s
  | some x => publish die th { x with status := st, side := side } s

/-! ## Moving -/

/-- The frames of a SEND (R493). -/
def sendFrames (s : State) (die th m win off : Nat) (ps : List Bytes) : List (Bool → Frame) :=
  let gs := chunksOf 8 ps
  (List.range gs.length).map (fun k => fun vc => .tensor
    { port := 0, vc := vc, src := BitVec.ofNat 6 (moduleId s), dst := BitVec.ofNat 6 m
      first := k == 0, last := k + 1 == gs.length, window := BitVec.ofNat 16 win
      offset := BitVec.ofNat 26 (off + 72 * k), length := if k = 0 then BitVec.ofNat 24 ps.length else 0
      die := BitVec.ofNat 5 die, thread := BitVec.ofNat 10 th, data := gs.getD k [] })

/-- A frame to a module has a working first hop (R481, R489). -/
def pathTo (s : State) (m : Nat) : Bool :=
  s.fabric.routeOk && (match routePort s m with | none => false | some (p, _) => (portOf s p).up)

/-- WINDOW_CLOSED_WRITE of the sender (R309). -/
def senderClosed (die m win cause : Nat) (s : State) : State :=
  raise (pgWin die) Evt.WINDOW_CLOSED_WRITE
    (win % 4096 + m * 2 ^ 12 + 2 ^ 18 + cause % 4 * 2 ^ 19 + die * 2 ^ 21) s

/-- A SEND to a window of this module, over the hub ring (R307, R493). -/
def sendOwn (die th win off : Nat) (ps : List Bytes) (s : State) : State :=
  let me := moduleId s
  let cause := if (winOf s win).state = .opened then 2 else 1
  let (st, s) := winAdmit win me die th off ps.length (hubOf die) s
  if st = 0 then
    match threadOf s die th with
    | none => s
    | some x => setThread die th { x with phase := .landing, poison := ps.any (·.isEmpty) } (winLand win me die th off ps s)
  else endThread die th st 1 (if st = 3 then senderClosed die me win cause s else s)

/-- The die at which data of a place comes or goes: a stack's hub (R18), the hub of a window of this module (R304)
or of the port toward another (R21). -/
def placeDie (s : State) : Place → Nat
  | .spad d _ => d
  | .hbm a => hbmDie a
  | .window m w _ => if m = moduleId s then (winOwner w).elim 17 (·.1) else (routePort s m).elim 17 (fun p => portDie p.1)

/-- Every die-to-die link that a plan's data crosses carries traffic (R21, R22, R25). [DEDUCED: log 49] -/
def planPath (s : State) (die : Nat) : Plan → Bool
  | .copy src dst _ => diePath s (placeDie s src) (placeDie s dst)
  | .append _ _ _ _ pages => pages.all (fun q => diePath s die (hbmDie (pageAddr s (pte s q.index).phys)))
  | .readGather _ _ pages => pages.all (fun q => diePath s (hbmDie (pageAddr s (pte s q.index).phys)) die)
  | .send src m w o _ => diePath s (placeDie s src) (placeDie s (.window m w o))
  | .eth src _ _ => diePath s (placeDie s src) 18
  | .done _ _ => true

/-- Carry out a plan whose data may move: a path that a link is missing from fails it (R255, R256). -/
def carryOut (die th : Nat) (b : Bytes) (o : XferObs) (p : Plan) (s : State) : State :=
  if !planPath s die p then endThread die th 6 0 s else
  let cs := countedOf s die th
  match p with
  | .done st side => endThread die th st side s
  | .copy src dst n =>
    let (ps, s) := readPlace src n o cs s
    let (stays, s) := writePlace dst ps s
    endThread die th (if stays || ps.any (·.isEmpty) then 5 else 0) 0 s
  | .append w n layer owner pages =>
    match (List.range pages.length).find? (fun k => (pages[k]?).any (fun q => appendCause s owner q != 0)) with
    | some k =>
      let q := pages.getD k ⟨0, 0, 0, 0⟩
      endThread die th 4 0 (raise 0 Evt.KV_APPEND_REJECT
        (die + q.index * 2 ^ 8 + appendCause s owner q * 2 ^ 32 + k * 2 ^ 36) (bump Reg.KV_APPEND_REJECT_COUNT 1 s))
    | none =>
      let (ps, s) := readPlace (.spad die w) n o cs s
      let (bad, s) := appendPages die layer pages ps s
      endThread die th (if bad then 5 else 0) 0 s
  | .readGather w layer pages =>
    let list := dAux b
    let s := reportBreaks die (ringBreaks s die w (720 * pages.length) true ++
      ringBreaks s die (list + pages.length + 1) pages.length true) true s
    let (bad, s) := gatherPages die layer list w pages.length 0 pages s
    endThread die th (if bad then 5 else 0) 0 s
  | .send src m win off n =>
    let (ps, s) := readPlace src n o cs s
    if m = moduleId s then sendOwn die th win off ps s
    else
      if !pathTo s m then endThread die th 6 0 s
      else
      let s := (sendFrames s die th m win off ps).foldl (fun s f => sendTo m f s) s
      match threadOf s die th with
      | none => s
      | some x => setThread die th { x with phase := .waitReply, sentAt := tick s, dst := m } s
  | .eth src q n =>
    let (ps, s) := readPlace src n o cs s
    let (f, s) := takeFree s
    if qpStateOf s q = 4 then endThread die th 6 0 s
    else
      let data := ps.flatMap (fun p => if p.isEmpty then toBytes 72 f else p)
      let s := match threadOf s die th with
        | none => s
        | some x => setThread die th { x with phase := .queuePair, poison := ps.any (·.isEmpty) } s
      qpPost q { owner := .xfer die th, msg := .send data } s

/-- The bursts of HBM that a plan writes. -/
def planWrites (p : Plan) (b : Nat) : Bool :=
  match p with
  | .copy _ (.hbm a) n => decide (a / 64 ≤ b) && decide (b * 64 < a + 72 * n)
  | .append _ _ _ _ _ => true
  | _ => false

/-- Data moves unless a hold-mode ring slot is not ready (R293). [DEDUCED: log 49] -/
def moveData (die th : Nat) (o : XferObs) (s : State) : State :=
  match threadOf s die th with
  | none => s
  | some x =>
    let b := x.desc.bytes
    let r := listRun s die b
    let lb := runBreaks s die r
    let p := xferPlan s die b (o.spadUncorr ++ runBroken s die r lb)
    if anyHold s die lb || (planBreaks s die (dAux b) p).any (fun e => anyHold s e.1 e.2.1) then
      setThread die th { x with phase := .ringHold } s
    else
      inClass (dClass b) (fun s =>
        withUncorr o.hbmUncorr (planWrites p) (carryOut die th b o p)
          (xferSpadEcc o (hbmEcc o (countUnderruns die th lb s)))) s

/-! ## The commands -/

/-- Descriptors a die's issue queue holds (R252). -/
def queueOf (s : State) (die : Nat) : List Desc := mget [] s.mem.queue die
def setQueue (die : Nat) (q : List Desc) (s : State) : State :=
  { s with mem := { s.mem with queue := mset [] s.mem.queue die q } }

/-- ISSUE (R252): the descriptor enters its die's queue, or its table is at fault (R246). -/
def issueXfer (c : SubCtx) (s : State) : State :=
  let i := if c.die < 16 then moveIndex c.v c.rep else hubIndex c.v c.rep
  match descWords s c.die 2 i 4 with
  | .inl o => tableFault c.die c.sub o s
  | .inr b => setQueue c.die (queueOf s c.die ++ [⟨i, b, s.seq.epoch, s.clk.now⟩]) s

/-- XFER_ISSUE (R252). -/
def execXferIssue (dt : Nat) (die : Die) (s : State) : Result :=
  act dt (if die.val < 16 then withSub die 2 1 issueXfer else withSub die 0 1 issueXfer) s

/-- Threads of a die. -/
def threadCount (die : Nat) : Nat := if die < 16 then 256 else 1024

/-- What the memories report of one run of a die's words. -/
def obsOf (o : XferObs) (die : Nat) (r : Nat × Nat) : XferObs :=
  let within := fun (e : Nat × Nat) => e.1 == die && decide (r.1 ≤ e.2) && decide (e.2 < r.1 + r.2)
  { spadCorr := o.spadCorr.filter within, spadUncorr := o.spadUncorr.filter within }

/-- A thread's class is open: its data may move (R257). -/
def mayMove (s : State) (d : Desc) : Bool := classOpen (settle false s) (dClass d.bytes)

/-- Slots that reading a descriptor's length word and page list breaks R291 in. -/
def startBreaks (s : State) (die : Nat) (b : Bytes) : List (Nat × Nat) :=
  runBreaks s die (lengthRun b) ++ runBreaks s die (listRun s die b)

/-- The control words of a descriptor that read as poison: uncorrectable, or in a broken slot (R282, R292). -/
def startBad (s : State) (die : Nat) (o : XferObs) (b : Bytes) : List (Nat × Nat) :=
  o.spadUncorr ++ runBroken s die (lengthRun b) (runBreaks s die (lengthRun b)) ++
    runBroken s die (listRun s die b) (runBreaks s die (listRun s die b))

/-- A thread has its descriptor with the length found, and is charged (R254, R435). A ZERO_LEN completion is visible two
cycles after an ISSUE that met the thread free, at once otherwise (R262). -/
def takeThread (die th : Nat) (o : XferObs) (d : Desc) (s : State) : State :=
  let bad := startBad s die o d.bytes
  let due := s.clk.now + (if d.time = s.clk.now then 2 else 0)
  chargeXfer die d.bytes bad (setThread die th { desc := { d with bytes := withLength s die d.bytes bad }, due := due } s)

/-- A thread starts its descriptor: its control words are tested against the rings (R291, R293), it is charged and
checked, and moves its data unless its class is gated (R254, R257). [DEDUCED: log 49] -/
def beginThread (die th : Nat) (o : XferObs) (d : Desc) (s : State) : State :=
  let nb := runBreaks s die (lengthRun d.bytes)
  let lb := runBreaks s die (listRun s die d.bytes)
  if anyHold s die (startBreaks s die d.bytes) then setThread die th { desc := d, phase := .startHold } s
  else
    let p := xferPlan s die d.bytes (startBad s die o d.bytes)
    let cls := if dClass d.bytes < 10 then dClass d.bytes else 0xFF
    let s := inClass cls (countUnderruns die th nb) (takeThread die th o d s)
    match p with
    | .done st side =>
      endThread die th st side (inClass cls (fun s => xferSpadEcc o (countUnderruns die th lb s)) s)
    | _ => if mayMove s d then moveData die th o s else inClass cls (xferSpadEcc (obsOf o die (lengthRun d.bytes))) s

/-- A free thread takes the oldest queued descriptor (R252); a thread that holds for a ring slot tests it again (R293),
and one whose class was gated moves its data once the gate is open (R257). -/
def threadStart (die th : Nat) (o : XferObs) (s : State) : State :=
  match threadOf s die th with
  | some x =>
    if x.phase = .startHold then beginThread die th o x.desc s
    else if (x.phase = .ringHold ∨ x.phase = .gated) ∧ mayMove s x.desc = true then moveData die th o s
    else s
  | none =>
    match queueOf s die with
    | [] => s
    | d :: q => if threadCount die ≤ th then s else beginThread die th o d (setQueue die q s)

/-- A finished transfer's completion may be seen (R262). -/
def completes (s : State) (x : Xfer) : Bool :=
  x.phase == .finished && (x.status != 1 || decide (x.due ≤ s.clk.now))

/-- ZERO_LEN completions whose visibility cycle has come (R259, R262). -/
def zeroLens (s : State) : State :=
  (s.mem.threads.filter (fun e => e.2.status == 1 && completes s e.2)).foldl
    (fun s e => publish (e.1 / 1024) (e.1 % 1024) e.2 s) s

/-- XFER_COMPLETE (R256): due once the thread's status is known. -/
def execXferComplete (dt : Nat) (die : Die) (thread : BitVec 10) (s : State) : Result :=
  act dt (fun s => match threadOf s die thread.toNat with
    | none => s
    | some x => if completes s x then publish die thread.toNat x s else s) s

/-- Some descriptor issued by the current program has not completed (R263). -/
def outstanding (s : State) : Bool :=
  s.mem.threads.any (fun e => e.2.desc.epoch == s.seq.epoch) ||
  s.mem.queue.any (fun e => e.2.any (fun d => d.epoch == s.seq.epoch))

end Sys2Proof.Machine
end

