-- ==== Sys2Proof/Machine/Adapter.lean ====
section
/-! DEFINITION. The adapter table, its commands, and training: the optimiser's step and the end of a job (R358 to R363, R367,
R376 to R380). -/

namespace Sys2Proof.Machine

open Sys2Proof.Map Sys2Proof.Fp

/-! ## The table (R358) -/

def adapterAddr (s : State) (a : Nat) : Nat := reg64 s Reg.ADAPTER_BASE + 64 * a
def adapterEntry (s : State) (a : Nat) : Bytes := hbmRead s (adapterAddr s a) 64
def editAdapter (a o : Nat) (bs : Bytes) (s : State) : State := hbmWrite (adapterAddr s a + o) bs s

def adFlags (b : Bytes) : Nat := byteField b 0 3
def adValid (b : Bytes) : Bool := bit (adFlags b) 0
def adTraining (b : Bytes) : Bool := bit (adFlags b) 1
def adRank (b : Bytes) : Nat := byteField b 4 5
def adTargets (b : Bytes) : Nat := byteAt b 6
def adUsers (b : Bytes) : Nat := byteField b 12 15
def adWeights (b : Bytes) : Nat := byteField b 16 23
def adState (b : Bytes) : Nat := byteField b 24 31
def adDigest (b : Bytes) : Bytes := (b.drop 32).take 32

/-- An entry as the module knows it: what a LOAD has taken, with the fields the module keeps; zero where none has made it
known (R358). [DEDUCED: log 54] -/
def knownEntry (s : State) (a : Nat) : Bytes :=
  match find? s.adapt.table a with
  | none => List.replicate 64 0
  | some b => b

/-- The module writes a field of an entry: in the table in HBM, and in what it knows. -/
def editKnown (a o : Nat) (bs : Bytes) (s : State) : State :=
  let s := editAdapter a o bs s
  match find? s.adapt.table a with
  | none => s
  | some b => { s with adapt := { s.adapt with
      table := mput s.adapt.table a (b.take o ++ bs ++ b.drop (o + bs.length)) } }

/-- VALID and TRAINING. -/
def setAdFlags (a : Nat) (valid training : Bool) (s : State) : State :=
  editKnown a 0 (toBytes 4 (one valid + 2 * one training)) s

/-- A request can select the adapter (R363); 0xFFFF names none. -/
def adapterFree (s : State) (a : Nat) : Bool :=
  decide (a < 4096) && adValid (knownEntry s a) && !adTraining (knownEntry s a)

/-- USERS counts the admitted requests that select the adapter (R363). -/
def adapterUsers (a : Nat) (up : Bool) (s : State) : State :=
  if 4096 ≤ a ∨ (find? s.adapt.table a).isNone = true then s
  else
    let n := adUsers (knownEntry s a)
    editKnown a 12 (toBytes 4 (if up then min (n + 1) 0xFFFFFFFF else n - 1)) s

/-- Bytes of an adapter's weights on this module (R359). [DESIGN CHOICE: log 11] -/
def weightBytes (s : State) (b : Bytes) : Nat :=
  let per := ((List.range 5).map (fun t => if bit (adTargets b) t then Config.adapterPackets t else 0)).sum
  72 * (kvLayers s * (adRank b * per))

/-- Bytes of its optimiser state: four FP32 arrays of 16 elements a packet (R376). [DESIGN CHOICE: log 11] -/
def stateBytes (s : State) (b : Bytes) : Nat := 8 * weightBytes s b

/-- The fields that R358 constrains. -/
def adapterFields (b : Bytes) : Bool :=
  let sc := word (byteField b 8 11)
  decide (1 ≤ adRank b ∧ adRank b ≤ 256) && decide (1 ≤ adTargets b ∧ adTargets b < 32) && byteAt b 7 == 0 &&
  decide (adFlags b / 4 = 0) && isFinite sc && !sgn sc && decide (0 < fld sc 30 23)

/-- Weights or state lie within one KIND 6 region, from a packet boundary (R296, R361). -/
def adapterRange (s : State) (a n : Nat) : Bool :=
  match regionOf s a n with
  | none => false
  | some (base, kind) => kind == 6 && decide ((hbmOffset a - base) % 72 = 0)

/-- The RESULT of a LOAD (R361). -/
def loadResult (s : State) (b : Bytes) : Nat :=
  if adValid b || !adapterFields b then 1
  else if !adapterRange s (adWeights b) (weightBytes s b) ||
      (adState b != 0 && !adapterRange s (adState b) (stateBytes s b)) then 4
  else if shake256 32 (hbmRead s (adWeights b) (weightBytes s b)) ≠ adDigest b then 3
  else 0

/-! ## Commands (R360 to R362) -/

/-- A write of ADAPTER_CMD: latched for the next step commit. -/
def adapterCmd (v : Word) (s : State) : State :=
  if s.adapt.cmd.isSome || (fld v 31 28 != 1 && fld v 31 28 != 2) then raise 0 Evt.ADAPTER_CMD_INVALID v.toNat s
  else { s with adapt := { s.adapt with cmd := some v } }

/-- ADAPTER_LOAD (R361). -/
def execAdapterLoad (dt : Nat) (index : BitVec 12) (s : State) : Result :=
  actHost dt 0 (adapterCmd (word (2 ^ 28 + index.toNat))) s
/-- ADAPTER_UNLOAD (R362). -/
def execAdapterUnload (dt : Nat) (index : BitVec 12) (s : State) : Result :=
  actHost dt 0 (adapterCmd (word (2 * 2 ^ 28 + index.toNat))) s

/-- A LOAD at a step commit. [DEDUCED: log 54] -/
def adapterLoadNow (a : Nat) (s : State) : State :=
  let b := adapterEntry s a
  let r := if adValid (knownEntry s a) then 1 else loadResult s b
  let s := setFld Reg.ADAPTER_CMD_STATUS 7 0 r s
  if r = 0 then
    let s : State := { s with adapt := { s.adapt with table := mput s.adapt.table a b } }
    raise 0 Evt.ADAPTER_LOADED (a + adRank b * 2 ^ 12) (editKnown a 12 (toBytes 4 0) (setAdFlags a true false s))
  else raise 0 Evt.ADAPTER_LOAD_FAIL (a + r * 2 ^ 12) s

/-- An UNLOAD at a step commit. -/
def adapterUnloadNow (a : Nat) (s : State) : State :=
  let b := knownEntry s a
  if adUsers b = 0 ∧ adTraining b = false then
    let s := setAdFlags a false false s
    setFld Reg.ADAPTER_CMD_STATUS 7 0 0 { s with adapt := { s.adapt with table := mdel s.adapt.table a } }
  else setFld Reg.ADAPTER_CMD_STATUS 7 0 2 s

/-- The latched command at a step commit (R360, R389). -/
def adapterCommit (s : State) : State :=
  match s.adapt.cmd with
  | none => s
  | some v =>
    let s := { s with adapt := { s.adapt with cmd := none } }
    if fld v 31 28 = 1 then adapterLoadNow (fld v 11 0) s else adapterUnloadNow (fld v 11 0) s

/-- ADAPTER_CMD_STATUS and ADAPTER_STATE. -/
def adapterStatusWord (s : State) : Word := putFlag (reg s Reg.ADAPTER_CMD_STATUS) 31 s.adapt.cmd.isSome
def adapterStateOf (s : State) (a : Nat) : Word :=
  let b := knownEntry s a
  word (one (adValid b) + 2 * one (adTraining b) + adTargets b % 32 * 2 ^ 2 + adRank b % 512 * 2 ^ 7 +
    min (adUsers b) 65535 * 2 ^ 16)
def adapterStateWord (s : State) : Word := adapterStateOf s (regFld s 0x490 11 0)

/-! ## Training (R367, R379, R380) -/

/-- Fields of the active job's parameter block. -/
def jobField (s : State) (a b : Nat) : Nat := byteField s.adapt.params a b
def jobWord (s : State) (a : Nat) : Word := word (jobField s a (a + 3))
def jobFlag (s : State) (i : Nat) : Bool := bit (jobField s 2 2) i
def jobEntry (s : State) : Bytes := knownEntry s s.adapt.adapter

/-- A job becomes active: TRAINING is set beside VALID as it stands (R367). -/
def trainBegin (job a : Nat) (params : Bytes) (s : State) : State :=
  setAdFlags a (adValid (knownEntry s a)) true { s with adapt := { s.adapt with
    job := job, adapter := a, steps := 0, failed := false, params := params, dataAt := byteField params 40 47, batch := [] } }

/-- Packets of one of the four arrays of the optimiser's state, and the address of array `k`: w, m, v, g (R376). -/
def statePackets (s : State) : Nat := 2 * weightBytes s (jobEntry s) / 72
def stateArray (s : State) (k : Nat) : Nat := adState (jobEntry s) + 72 * statePackets s * k

/-- FP32 elements of packets in HBM. -/
def stateElems (s : State) (a n : Nat) : List Elem :=
  (hbmPackets s a n).flatMap (fun p => if p.isEmpty then List.replicate 16 none
    else (List.range 16).map (fun i => wordElem (word (byteField p (4 * i) (4 * i + 3)))))

/-- Store elements in packets from an HBM address on. -/
def storeElems (fmt a : Nat) (es : List Elem) (s : State) : State :=
  (hbmStore a ((writeTensor fmt es 1 false).words.flatMap (fun w => toBytes 8 w.toNat)) false s).2

/-- A sum in WA48, term by term in ascending order from zero (R214, R377). -/
def sumWa48 (es : List Elem) : Elem :=
  es.foldl (fun a e => match a, promote e with
    | some x, some y => promote (some ⟨x.x + y.x, x.neg && y.neg⟩)
    | _, _ => none) (some ⟨0, false⟩)

/-- The BF16 element that leaves a module for a reduction (R202). -/
def toReduce (e : Elem) : Elem :=
  match e with
  | none => none
  | some n => let w := roundBf16 n.x n.neg; if bits w 14 7 = 255 then none else wordElem (bf16val w)

/-- gnorm (R377): module 0 adds every module's Σg², its own first, and takes the root; the other modules' sums, and on those
modules gnorm itself, are free. [DESIGN CHOICE: log 54] -/
def gradNorm (gs : List Elem) (s : State) : Option Word × State :=
  let i := s.freeIdx
  let draw := fun (k : Nat) => word (Config.free (i + k) % 2 ^ 32)
  let s : State := { s with freeIdx := i + machineSize s }
  if moduleId s = 0 then
    let own := sumWa48 (gs.map (fun g => g.map (fun n => ⟨n.x * n.x, false⟩)))
    let others := (List.range (machineSize s - 1)).map (fun k => wordElem (bf16val (fld (draw k) 15 0)))
    ((sumWa48 (toReduce own :: others)).map (fun n => sqrt (round32 n.x)), s)
  else ((wordElem (draw 0)).map (fun _ => draw 0), s)

/-- The AdamW update of every parameter, in ascending order, with clip factor c (R378): w, m, v and g, and the weights in
BF16. A poisoned element poisons its parameter. [DESIGN CHOICE: log 54] -/
def applyUpdate (c : Word) (s : State) : State :=
  let n := statePackets s
  let p : UpdateParams :=
    ⟨jobWord s 4, jobWord s 8, jobWord s 12, jobWord s 16, jobWord s 20, c, jobField s 32 35 + s.adapt.steps + 1⟩
  let get := fun k => stateElems s (stateArray s k) n
  let one := fun (e : Elem × Elem × Elem × Elem) => match elemWord e.1, elemWord e.2.1, elemWord e.2.2.1, elemWord e.2.2.2 with
    | some w, some m, some v, some g => let r := adamW p w m v g; (wordElem r.1, wordElem r.2.1, wordElem r.2.2)
    | _, _, _, _ => (none, none, none)
  let rs := ((get 0).zip ((get 1).zip ((get 2).zip (get 3)))).map one
  let s := storeElems fFP32 (stateArray s 0) (rs.map (·.1)) s
  let s := storeElems fFP32 (stateArray s 1) (rs.map (·.2.1)) s
  let s := storeElems fFP32 (stateArray s 2) (rs.map (·.2.2)) s
  storeElems fBF16 (adWeights (jobEntry s)) (rs.map (·.1)) s

/-- g := 0. -/
def clearGradient (s : State) : State :=
  storeElems fFP32 (stateArray s 3) (List.replicate (16 * statePackets s) (some ⟨0, false⟩)) s

/-- A training step commits (R377 to R379).  The module's own gradient array is read; whether another module's holds poison,
and whether a gradient flag word holds OUT_OF_RANGE or BOUND_LAPSED, are free. [DESIGN CHOICE: log 54] -/
def trainStep (s : State) : State :=
  let d := s.adapt
  let gs := stateElems s (stateArray s 3) (statePackets s)
  let (f, s) := takeFree s
  let (norm, s) := if jobFlag s 0 then gradNorm gs s else (some 0, s)
  let bad := gs.any (·.isNone) || (match norm with | none => true | some w => !isFinite w) || f % 2 == 1
  let s := bump Reg.TRAIN_STEP_COUNT 1 s
  let s := if bad then bump Reg.TRAIN_NONFINITE_COUNT 1 s else s
  let skip := fun (cause : Nat) (s : State) =>
    forRequest d.job (raise 0 Evt.TRAIN_UPDATE_SKIPPED
        (d.adapter + cause * 2 ^ 12 + (jobField s 32 35 + d.steps + 1) % 2 ^ 32 * 2 ^ 16))
      (bump Reg.TRAIN_SKIP_COUNT 1 (clearGradient s))
  if bad then (if jobFlag s 1 then { s with adapt := { s.adapt with failed := true } } else skip 1 s)
  else if f / 2 % 2 = 1 ∧ jobFlag s 2 = true then skip 2 s
  else
    let c := if jobFlag s 0 then clipFactor (norm.getD 0) (jobWord s 24) else one32
    let s := clearGradient (applyUpdate c s)
    { s with adapt := { s.adapt with steps := d.steps + 1 } }

/-- The active job ends: its digest is to be recomputed (R380). `cause` 1 done, 2 cancelled, 3 failed. -/
def jobEnds (cause : Nat) (s : State) : State :=
  let d := s.adapt
  if d.job = 0 then s
  else { s with adapt := { d with job := 0, ending := some (d.job, d.adapter, cause, d.steps) } }

/-- The digest is recomputed under AUDIT, TRAINING clears, TRAIN_JOB_END (R380). [DEDUCED: log 54] -/
def trainDigest (s : State) : State :=
  match s.adapt.ending with
  | none => s
  | some (job, a, cause, steps) =>
    if !startOpen s 7 then s
    else
      let b := knownEntry s a
      let n := weightBytes s b
      let s := chargeHbm (16 + hbmStack (adWeights b) / 6 % 4) 7 (ceilDiv n 64) s
      let s := editKnown a 32 (shake256 32 (hbmRead s (adWeights b) n)) s
      let s := setAdFlags a (adValid b) false { s with adapt := { s.adapt with ending := none } }
      forRequest job (raise 0 Evt.TRAIN_JOB_END (a + cause * 2 ^ 12 + steps % 2 ^ 32 * 2 ^ 16)) s

/-- TRAIN_JOB_END (R380). -/
def execTrainJobEnd (dt : Nat) (s : State) : Result := act dt trainDigest s

end Sys2Proof.Machine
end

