-- ==== Sys2Proof/Machine/Arrays.lean ====
section
/-! DEFINITION. Luna dies' state seen through names: logical maps and physical records (R37 to R40, R80 to R82),
ages and bounds (R67 to R75), trackers (R88 to R102), Piccolo's directory and tables (R103 to R117). -/

namespace Sys2Proof.Machine

open Sys2Proof.Map Sys2Proof.Fp

/-! ## Dies, maps, records -/

def lunaDie (s : State) (d : Nat) : LunaDie := mget {} s.luna.dies d

def setLunaDie (d : Nat) (x : LunaDie) (s : State) : State :=
  { s with luna := { s.luna with dies := mset {} s.luna.dies d x } }

def updLunaDie (d : Nat) (f : LunaDie → LunaDie) (s : State) : State := setLunaDie d (f (lunaDie s d)) s

def corePage (d : Nat) : Nat := pgLuna d 0
def coreReg (d off : Nat) : Nat := Reg.luna d 0 off
def picPage (d : Nat) : Nat := pgLuna d 2
def picReg (d off : Nat) : Nat := Reg.luna d 2 off
def refPage (d : Nat) : Nat := pgLuna d 3
def refReg (d off : Nat) : Nat := Reg.luna d 3 off

/-- Physical arrays of a die (R37). -/
abbrev physCount : Nat := 4416

/-- A logical array's entry before anything is installed: physical array of its own number, not VALID.
[DESIGN CHOICE: log 6] -/
def mapDefault (a : Nat) : MapEntry := { phys := a }

def mapOf (s : State) (d a : Nat) : MapEntry := mget (mapDefault a) s.nvm.map (d * 4096 + a)

def setMap (d a : Nat) (e : MapEntry) (s : State) : State :=
  { s with nvm := { s.nvm with map := mset (mapDefault a) s.nvm.map (d * 4096 + a) e } }

def physKey (d p : Nat) : Nat := d * 8192 + p

/-- Physical arrays 0–4,095 serve the logical arrays of their numbers; the 320 others are FREE_SPARE.
[DESIGN CHOICE: log 6] -/
def physDefault (p : Nat) : Phys := if p < 4096 then { state := 1, logical := p } else {}

def physOf (s : State) (d p : Nat) : Phys := mget (physDefault p) s.nvm.phys (physKey d p)

/-- A physical record is written; it stands in the NVM record area (R167). -/
def setPhys (d p : Nat) (x : Phys) (s : State) : State :=
  { s with nvm := { s.nvm with
    phys := mset (physDefault p) s.nvm.phys (physKey d p) x, stale := mdel s.nvm.stale (physKey d p) } }

def updPhys (d p : Nat) (f : Phys → Phys) (s : State) : State := setPhys d p (f (physOf s d p)) s

/-- Physical arrays of a die in a state. -/
def inState (s : State) (d st : Nat) : List Nat := (List.range physCount).filter (fun p => (physOf s d p).state == st)

/-- The spare pool (R163). -/
def sparePool (s : State) (d : Nat) : Nat := 320 - (inState s d 4).length

/-- MAP_POOL. -/
def mapPoolWord (s : State) (d : Nat) : Word := word ((inState s d 0).length + (inState s d 4).length * 2 ^ 16)

/-- The 32 bits of a logical map entry. -/
def mapWord (e : MapEntry) : Nat := e.phys + e.level * 2 ^ 16 + one e.valid * 2 ^ 31

/-- A list of fields of one width, the first in the lowest bits. -/
def packList (w : Nat) (xs : List Nat) : Nat := xs.foldr (fun x n => x % 2 ^ w + n * 2 ^ w) 0

/-- The 64 bytes of a physical record (R82's table, R167). -/
def physBytes (x : Phys) : Bytes :=
  toBytes 1 x.state ++ toBytes 1 x.rows.length ++ toBytes 1 x.cols.length ++ toBytes 1 x.adc ++
  toBytes 2 x.logical ++ toBytes 2 0 ++ toBytes 20 (packList 10 x.rows) ++ toBytes 18 (packList 9 x.cols) ++
  toBytes 2 0 ++ toBytes 4 (min x.programs 0xFFFFFFFF) ++ toBytes 4 x.programmedAt ++
  toBytes 2 (min x.auditCells 65535) ++ toBytes 2 (min x.auditDrift 65535) ++ toBytes 2 (min x.audits 65535) ++
  toBytes 1 x.iterMax ++ toBytes 1 x.cause

/-- A word of a die's map window (R80). -/
def mapWindowWord (s : State) (d o : Nat) : Word :=
  if o < 0x4000 then word (mapWord (mapOf s d (o / 4)))
  else if 0x8000 ≤ o ∧ o < 0x8000 + 64 * physCount then
    word (byteField (physBytes (physOf s d ((o - 0x8000) / 64))) ((o - 0x8000) % 64 / 4 * 4) ((o - 0x8000) % 64 / 4 * 4 + 3))
  else 0

/-- Converter and multiplexer phase of a physical column (R39): ADC 67 in the place of the one it stands in for. -/
def adcOf (x : Phys) (c : Nat) : Nat := if x.adc = c / 8 then 67 else c / 8
def adcPhase (c : Nat) : Nat := c % 8

/-- Physical column of logical column j, physical row of logical row i (R40). -/
def physCol (x : Phys) (j : Nat) : Nat :=
  match (List.range x.cols.length).find? (fun k => x.cols.getD k 512 == j) with | some k => 512 + k | none => j
def physRow (x : Phys) (i : Nat) : Nat :=
  match (List.range x.rows.length).find? (fun k => x.rows.getD k 1024 == i) with | some k => 1024 + k | none => i

/-! ## Ages and bounds -/

/-- POWERED_S of a die as it runs (R92, R575). -/
def diePowered (s : State) (d : Nat) : Nat := (mget {} s.life d).poweredS + poweredNow s

/-- Whole hours of POWERED_S that pass while `now` seconds are added to `p` (R166, R575). -/
def hoursPast (p now : Nat) : Nat := (p + now) / 3600 - p / 3600

/-- REFRESH_AGE_CLOCK: it advances with each whole hour of the die's powered seconds (R166). -/
def ageClock (s : State) (d : Nat) : Nat :=
  (mget {} s.life d).ageClock + hoursPast (mget {} s.life d).poweredS (poweredNow s)

/-- Refresh age in hours (R71, R166). -/
def refreshAge (s : State) (d p : Nat) : Nat := ageClock s d - (physOf s d p).programmedAt

/-- EST_C: whole °C, truncated toward zero. -/
def estC (s : State) (d : Nat) : Nat := unsigned 8 ((est s d).tdiv 16)

/-- Reads are blocked (R75). -/
def readsBlocked (s : State) (d : Nat) : Bool :=
  s.therm.seeded && flag (force s Reg.THERM_CONFIG) 2 && decide (est s d < 80)

/-- OUT_OF_RANGE: below 15 °C or above 95 °C (R67, R69). -/
def outOfRange (s : State) (d : Nat) : Bool := decide (estUsed s d < 240) || decide (1520 < estUsed s d)

/-- The 25–70 °C column (R69). -/
def midRange (s : State) (d : Nat) : Bool := decide (400 ≤ estUsed s d) && decide (estUsed s d ≤ 1120)

/-- LUNA_TEMP_BAND. -/
def tempBandWord (s : State) (d : Nat) : Word :=
  word (estC s d * 2 ^ 8 +
    (if readsBlocked s d then 3 else if outOfRange s d then 2 else if midRange s d then 0 else 1))

/-- Die life: the powered-hour count (R70, R576). -/
def dieLife (s : State) (d : Nat) : Nat := diePowered s d / 3600

/-- Die life above 87,600 h (R70). -/
def lifeLapsed (s : State) (d : Nat) : Bool := decide (87600 < dieLife s d)

/-- The forward bound of a die's reads in 10⁻⁵ (R67). -/
def boundOf (s : State) (d : Nat) : Nat :=
  if dieLife s d < 1000 then (if midRange s d then 150 else 250) else (if midRange s d then 250 else 400)

/-- The bound of a transpose read is 1.5 times the forward one (R68). -/
def readBound (s : State) (d : Nat) (trn : Bool) : Nat := if trn then boundOf s d * 3 / 2 else boundOf s d

/-- ARRAY_BOUND_LAPSED, once per array and cause until cleared (R74). -/
def raiseLapsed (d a cause : Nat) (s : State) : State :=
  if (lunaDie s d).lapsed.contains (a * 4 + cause) then s
  else raise (corePage d) Evt.ARRAY_BOUND_LAPSED (d + a * 2 ^ 8 + cause * 2 ^ 20)
    (updLunaDie d (fun x => { x with lapsed := x.lapsed ++ [a * 4 + cause] }) s)

def clearLapsed (d a cause : Nat) (s : State) : State :=
  updLunaDie d (fun x => { x with lapsed := x.lapsed.filter (· != a * 4 + cause) }) s

/-! ## Trackers -/

def trkOf (s : State) (d p : Nat) : Tracker := mget {} s.luna.trackers (physKey d p)

def setTrk (d p : Nat) (t : Tracker) (s : State) : State :=
  { s with luna := { s.luna with trackers := mset {} s.luna.trackers (physKey d p) t } }

def marginOf (s : State) (d p : Nat) : Margin := mget {} s.luna.margins (physKey d p)

def setMargin (d p : Nat) (m : Margin) (s : State) : State :=
  { s with luna := { s.luna with margins := mset {} s.luna.margins (physKey d p) m } }

/-- β of a physical array (R101). -/
def betaOf (s : State) (d p : Nat) : Int := mget (-2000) s.nvm.beta (physKey d p)

/-- PICCOLO_TRACK_STALE in force (R96). -/
def staleLimit (s : State) (d : Nat) : Nat := clamp 60 86400 (forceFld s (picReg d 0x108) 16 0)

/-- No accepted update for longer than the limit (R96). -/
def trkOverdue (s : State) (d p : Nat) : Bool :=
  decide (staleLimit s d < diePowered s d - (trkOf s d p).last)

/-- A tracker's state: an ACTIVE tracker past the limit is STALE (R96). -/
def trkState (s : State) (d p : Nat) : Nat :=
  let t := trkOf s d p
  if t.state = 1 ∧ trkOverdue s d p = true then 2 else t.state

/-- g_trk, o_trk and the state that a read starting at `now` uses (R94). [DEDUCED: log 34] -/
def trkForRead (s : State) (d p : Nat) : Word × Int × Nat :=
  let t := trkOf s d p
  match t.recent.find? (fun e => decide (s.clk.now < e.1)) with
  | none => (t.g, t.o, trkState s d p)
  | some (_, g, o, st) => (g, o, if t.state = 1 then st else t.state)

/-- β from which K_T was formed at the last breath boundary (R101). -/
def betaInForce (s : State) (d p : Nat) : Int := (find? s.luna.betaOld (physKey d p)).getD (betaOf s d p)

/-- A program has measured β: the record takes it at once, K_T at the next breath boundary (R101). -/
def setBeta (d p : Nat) (b : Int) (s : State) : State :=
  let old := betaInForce s d p
  { s with
    luna := { s.luna with betaOld := mput s.luna.betaOld (physKey d p) old }
    nvm := { s.nvm with beta := mset (-2000) s.nvm.beta (physKey d p) b } }

/-- K_T of a physical array under PICCOLO_CONFIG `cfg` (R101, R102). [DEDUCED: log 34] -/
def ktOf (s : State) (d p : Nat) (cfg : Word) : Word :=
  if !flag cfg 3 then one32
  else
    let b := betaInForce s d p
    let den : Rat := 1 + (b : Rat) / 1000000 * ((est s d : Rat) / 16 - 50)
    if den = 0 then Config.ktPole b (est s d) else round32 (1 / den)

/-- REF_TRACK_LOST, once per array and seeding; the tracker is LOST (R93, R95, R133). -/
def loseTracker (d p cause : Nat) (s : State) : State :=
  let t := trkOf s d p
  let s' := setTrk d p { t with state := 3, lost := true } s
  if t.lost then s' else raise (picPage d) Evt.REF_TRACK_LOST (d + p * 2 ^ 8 + cause * 2 ^ 21) s'

/-- A gain × 1,000 in the 11 bits of an event's detail: the whole part, modulo 2,048; 2,047 for a gain that is not finite.
[DESIGN CHOICE: log 34] -/
def gainMilli (g : Word) : Nat := if isFinite g then (val g * 1000).floor.toNat % 2048 else 2047

/-- REF_DRIFT_HIGH outside 0.90–1.10, once per array and seeding (R95, R133). -/
def driftCheck (d p : Nat) (s : State) : State :=
  let t := trkOf s d p
  if (val t.g < 9 / 10 ∨ 11 / 10 < val t.g) ∧ t.drifted = false then
    raise (picPage d) Evt.REF_DRIFT_HIGH (d + p * 2 ^ 8 + gainMilli t.g * 2 ^ 21)
      (setTrk d p { t with drifted := true } s)
  else s

/-- Seeding: g_trk, o_trk, the update time, ACTIVE; the margin record clears (R97, R132). -/
def seedTracker (d p : Nat) (g : Word) (o : Int) (s : State) : State :=
  let s := setTrk d p { g := g, o := o, last := diePowered s d, state := 1 } s
  let s := setMargin d p { lowHour := (marginOf s d p).lowHour } s
  let s := if (physOf s d p).logical < 4096 then clearLapsed d (physOf s d p).logical 3 s else s
  driftCheck d p s

/-- A tracker of an array that leaves service, or whose die was calibrated (R96, R457). -/
def unseedTracker (d p : Nat) (s : State) : State := setTrk d p {} s

/-- Expected products E_k of the reference columns for the nibbles driven, by logical row (R89). -/
def expected (nibs : List Int) : List Int :=
  let sr := ((List.range nibs.length).zip nibs).foldl
    (fun (a : List Int) e => a.modify (e.1 % 8) (· + e.2)) (List.replicate 8 (0 : Int))
  let g := fun r => sr.getD r 0
  let all := sr.foldl (· + ·) 0
  [15 * g 0, -15 * g 4, 7 * (g 1 + g 5), -7 * (g 3 + g 7), 3 * all, -3 * all, 0, 15 * (g 2 - g 6)]

/-- Λ in FP32 (R50, R86). -/
def lambda32 : Word := round32 (122880 / 508)

/-- m_k of a reference code (R90). [DEDUCED: log 34] -/
def refM (code : Byte) (o : Int) (kt : Word) : Word :=
  mul (mul (round32 ((code.toInt : Rat) - (o : Rat) / 256)) lambda32) kt

/-- A sum kept in WA48 takes an exact term. -/
def waAcc (a : BitVec 48) (x : Rat) : BitVec 48 :=
  match waVal a with | none => a | some n => waOf (n.x + x) false

def waNum (a : BitVec 48) : Rat := match waVal a with | none => 0 | some n => n.x

/-- A reference code takes part in tracking: not one over range (R51) or with bad parity (R127). [DEDUCED: log 34] -/
def refUsed (c : PassCodes) (k : Nat) : Bool := c.refs.getD k 0 != 0x80 && !c.refBad.contains k

/-- Both regression sums with one pass's reference codes (R90, R91). -/
def regress (c : PassCodes) (es : List Int) (o : Int) (kt : Word) (a : BitVec 48 × BitVec 48) :
    BitVec 48 × BitVec 48 :=
  (([0, 1, 2, 3, 4, 5, 7] : List Nat).filter (refUsed c)).foldl (fun a k =>
    let e : Int := es.getD k 0
    let m := refM (c.refs.getD k 0) o kt
    (if isFinite m then waAcc a.1 (val m * e) else a.1, waAcc a.2 ((e * e : Int) : Rat))) a

/-- The tracker record's 16 bytes and the margin record's 8 (R130's tables). -/
def trackerBytes (s : State) (d p : Nat) : Bytes :=
  let t := trkOf s d p
  toBytes 4 t.g.toNat ++ toBytes 2 (unsigned 16 t.o) ++ toBytes 2 (unsigned 16 (betaOf s d p)) ++ toBytes 4 t.last ++
  toBytes 2 t.run ++ toBytes 1 (trkState s d p) ++ toBytes 1 0

/-- ⌊√n⌋ for n below 2^(2·k). -/
def isqrt : Nat → Nat → Nat
  | 0, _ => 0
  | k + 1, n => let r := 2 * isqrt k (n / 4); if (r + 1) * (r + 1) ≤ n then r + 1 else r

/-- RMS_ETA in 10⁻⁷. -/
def rmsEta (m : Margin) : Nat := min (isqrt 64 m.mean) 65535

def marginBytes (m : Margin) : Bytes :=
  toBytes 2 m.samples ++ toBytes 2 m.exceeds ++ toBytes 2 m.maxEta ++ toBytes 2 (rmsEta m)

/-- A word of a die's tracker window (R130). -/
def trackerWindowWord (s : State) (d o : Nat) : Word :=
  if o < 16 * physCount then word (byteField (trackerBytes s d (o / 16)) (o % 16 / 4 * 4) (o % 16 / 4 * 4 + 3))
  else if 0x12000 ≤ o ∧ o < 0x12000 + 8 * physCount then
    word (byteField (marginBytes (marginOf s d ((o - 0x12000) / 8))) (o % 8 / 4 * 4) (o % 8 / 4 * 4 + 3))
  else 0

/-- PICCOLO_TRACK_SUMMARY. -/
def trackSummaryWord (s : State) (d : Nat) : Word :=
  let a := ((inState s d 1).filter (fun p => trkState s d p == 1)).length
  word (a + ((inState s d 1).length - a) * 2 ^ 16)

/-! ## Piccolo's tables -/

/-- A directory entry (R115). -/
structure PicDir where
  coef : Nat
  outlier : Nat
  slist : Nat
  srows : Nat
  outWords : Nat
  scount : Nat
deriving DecidableEq, Repr

/-- The tables of a logical array: its coefficient block, outliers by column (row, Δw), static rows and their
512 weights each. -/
structure PicTables where
  coef : Bytes
  outs : List (List (Nat × Word))
  srows : List Nat
  weights : List (List Word)
deriving DecidableEq, Repr

/-- The directory entry of a logical array, or the part of PICCOLO_TABLE_INVALID (R104, R107, R115). -/
def picDir (cyc : Nat → Nat) (d a : Nat) (bad : List Nat) (s : State) : (Nat ⊕ PicDir) × State :=
  let base := forceFld s (picReg d 0x104) 25 0
  if base % 4 ≠ 0 then (.inl 4, s)
  else if residentRun s d (base + 4 * a) 4 = false then (.inl 3, s)
  else
    let (ws, s) := runRead cyc d bad (base + 4 * a) 4 s
    let b := wordsBytes ws
    if anyPoison ws then (.inl 5, s)
    else (.inr ⟨byteField b 0 3, byteField b 4 7, byteField b 8 11, byteField b 12 15, byteField b 16 17, byteAt b 18⟩, s)

/-- `n` bytes of a table in a resident region. -/
def tableBytes (cyc : Nat → Nat) (d a n : Nat) (bad : List Nat) (s : State) : (Nat ⊕ Bytes) × State :=
  if residentRun s d a (ceilDiv n 8) = false then (.inl 3, s)
  else
    let (ws, s) := runRead cyc d bad a (ceilDiv n 8) s
    (if anyPoison ws then .inl 5 else .inr ((wordsBytes ws).take n), s)

/-- Cut a list into parts of the lengths given. -/
def takeParts {α : Type} : List Nat → List α → List (List α)
  | [], _ => []
  | n :: ns, xs => xs.take n :: takeParts ns (xs.drop n)

/-- Numbers rise strictly. -/
def ascending : List Nat → Bool
  | [] => true
  | [_] => true
  | a :: b :: xs => decide (a < b) && ascending (b :: xs)

/-- An outlier table's entries by column, none where it is not valid (R104). [DEDUCED: log 33] -/
def outlierCols (b : Bytes) : Option (List (List (Nat × Word))) :=
  let cs := (List.range 512).map (fun j => bits (byteAt b (j / 2)) (4 * (j % 2) + 3) (4 * (j % 2)))
  let n := cs.sum
  let es := (List.range n).map (fun k => byteField b (256 + 4 * k) (256 + 4 * k + 3))
  let cols := takeParts cs (es.map (fun e => (bits e 31 16, bf16val (bits e 15 0))))
  if cs.all (fun c => decide (c ≤ 8)) && decide (b.length = 8 * ceilDiv (256 + 4 * n) 8) &&
      allZero (b.drop (256 + 4 * n)) && cols.all (fun c => ascending (c.map (·.1)) && c.all (fun e => decide (e.1 < 1024)))
  then some cols else none

/-- A static list's rows, none where it is not valid (R107). [DEDUCED: log 33] -/
def staticRows (b : Bytes) (scount : Nat) : Option (List Nat) :=
  let es := (List.range 32).map (fun k => byteField b (2 * k) (2 * k + 1))
  let rows := ((es.take scount).map (fun e => e % 1024))
  if scount ≤ 32 ∧ (es.take scount).all (fun e => bit e 15) = true ∧ (es.drop scount).all (fun e => !bit e 15) = true ∧
      es.all (fun e => bits e 14 10 == 0) = true ∧ ascending rows = true then some rows else none

/-- The outliers of a directory entry. -/
def picOutliers (cyc : Nat → Nat) (d : Nat) (e : PicDir) (bad : List Nat) (s : State) : (Nat ⊕ List (List (Nat × Word))) × State :=
  if e.outlier = 0 then (.inr (List.replicate 512 []), s)
  else
    match tableBytes cyc d e.outlier (8 * e.outWords) bad s with
    | (.inl p, s) => (.inl p, s)
    | (.inr b, s) => (match outlierCols b with | none => .inl 1 | some c => .inr c, s)

/-- The static rows of a directory entry. -/
def picStatic (cyc : Nat → Nat) (d : Nat) (e : PicDir) (bad : List Nat) (s : State) : (Nat ⊕ List Nat) × State :=
  if e.slist = 0 then (if e.scount = 0 then .inr [] else .inl 2, s)
  else
    match tableBytes cyc d e.slist 64 bad s with
    | (.inl p, s) => (.inl p, s)
    | (.inr b, s) => (match staticRows b e.scount with | none => .inl 2 | some r => .inr r, s)

/-- Every table of a logical array (R104, R107, R115, R116): of several faults the first in this order is named:
directory, coefficient block, outliers, static list, static rows. [DEDUCED: log 33] -/
def picTables (cyc : Nat → Nat) (d a : Nat) (bad : List Nat) (s : State) : (Nat ⊕ PicTables) × State :=
  match picDir cyc d a bad s with
  | (.inl p, s) => (.inl p, s)
  | (.inr e, s) =>
    match tableBytes cyc d e.coef 6144 bad s with
    | (.inl p, s) => (.inl p, s)
    | (.inr coef, s) =>
      match picOutliers cyc d e bad s with
      | (.inl p, s) => (.inl p, s)
      | (.inr outs, s) =>
        match picStatic cyc d e bad s with
        | (.inl p, s) => (.inl p, s)
        | (.inr rows, s) =>
          if rows.isEmpty then (.inr ⟨coef, outs, [], []⟩, s)
          else
            match tableBytes cyc d e.srows (1024 * rows.length) bad s with
            | (.inl p, s) => (.inl p, s)
            | (.inr b, s) =>
              let ws := (List.range rows.length).map (fun k =>
                (List.range 512).map (fun j => bf16val (byteField b (1024 * k + 2 * j) (1024 * k + 2 * j + 1))))
              (.inr ⟨coef, outs, rows, ws⟩, s)

/-- PICCOLO_TABLE_INVALID (R87, R104). -/
def tableInvalid (d a part : Nat) (s : State) : State :=
  raise (picPage d) Evt.PICCOLO_TABLE_INVALID (d + a * 2 ^ 8 + part * 2 ^ 20) s

end Sys2Proof.Machine
end

