-- ==== Sys2Proof/Machine/Luna.lean ====
section
/-! DEFINITION. Array-group operations (R41 to R65, R249): when a bundle carries one, and when its first pass
starts: lookups, the range guard, skips, the read-slot cap, charges, and what each array's read will need. -/

namespace Sys2Proof.Machine

open Sys2Proof.Map Sys2Proof.Fp

/-! ## In a bundle (R47, R249) -/

/-- ACLK cycles from first pass start to delivery of an unsplit read (R46, R62, R118). -/
def readAclk (trn a8 : Bool) : Nat := if !a8 then 16 else if trn then 32 else 24

def packEntry (e : ListEntry) : Nat := e.logical + e.seg * 2 ^ 12 + e.ob * 2 ^ 20 + one e.carrier * 2 ^ 31

/-- An array-group operation executes: descriptor and list are read, and its start is fixed in issue cycles, with the
edge it falls on while the stream does not stall (R47, R239). [DEDUCED: log 31] -/
def groupIssue (trn : Bool) (c : SubCtx) (s : State) : State :=
  match descWords s c.die 0 (agGroup c.v) 8 with
  | .inl o => tableFault c.die 0 o s
  | .inr b =>
    match agroupOf b with
    | .inl o => tableFault c.die 0 o s
    | .inr g =>
      match arrayList s c.die g.list g.count with
      | .inl o => tableFault c.die 0 o s
      | .inr es =>
        let t := match s.seq.issued with | none => s.clk.now | some i => i.time
        let edge := ceilDiv (t + 16) 8 * 8
        let op : ArrOp := { cls := c.cls, cycle := c.cycle, startCycle := c.cycle + (edge - t), edge := edge,
                            trn := trn, a8 := agMode c.v == 1, row := agRow c.v c.rep, desc := b,
                            entries := es.map packEntry }
        updLunaDie c.die (fun x => { x with scheduled := x.scheduled ++ [op] }) s

/-- ARRAY_GROUP_FWD (R47). -/
def execArrayGroupFwd (dt : Nat) (die : Luna) (s : State) : Result :=
  act dt (withSub die 0 1 (groupIssue false)) s

/-- ARRAY_GROUP_TRN (R47, R61). -/
def execArrayGroupTrn (dt : Nat) (die : Luna) (s : State) : Result :=
  act dt (withSub die 0 2 (groupIssue true)) s

/-! ## The segment (R192, R195) -/

/-- A segment as a read takes it. -/
structure SegIn where
  elems : List Int
  side : List Nat
  sigma : Word
  poison : Bool
  clipped : List (Nat × Rat) := []
deriving DecidableEq, Repr

/-- Element packets of a segment. [DEDUCED: log 30] -/
def segPackets (trn a8 : Bool) : Nat := (if a8 then 16 else 8) / (if trn then 2 else 1)

def segElems (a8 : Bool) (b : Bytes) : List Int :=
  if a8 then (List.range 64).map (fun i => signed 8 (byteAt b i))
  else (List.range 128).map (fun i => signed 4 (elemCode fQ4B b i))

/-- Read and check a segment (R195). [DEDUCED: log 30] -/
def readSegment (cyc : Nat → Nat) (d a : Nat) (trn a8 : Bool) (bad : List Nat) (s : State) : SegIn × State :=
  let n := segPackets trn a8
  let (ws, s) := runRead cyc d bad a (9 * (n + 1)) s
  let ps := (chunksOf 9 ws).map (fun p => (wordsBytes p, anyPoison p))
  let good := ps.filter (fun p => !p.2)
  let sig := fun (p : Bytes × Bool) => byteField p.1 64 67
  let s0 := match good.head? with | none => 0 | some p => sig p
  let mism := good.any (fun p => sig p != s0)
  let s := if mism then fmtCount d Evt.FMT_CODE_INVALID Reg.FMT_CODE_INVALID_COUNT 1 4 s else s
  let last := (ps.getD n ([], true)).1
  (⟨(ps.take n).flatMap (fun p => segElems a8 p.1), (List.range 32).map (fun k => byteField last (2 * k) (2 * k + 1)),
    word s0, mism || ps.any (·.2) || good.any (fun p => bit (byteAt p.1 68) 0),
    match find? s.mem.clips (spadKey d a) with
    | some e => if e.1 = ws.map (·.data) then e.2 else []
    | none => []⟩, s)

/-- R43: an A8 element above +119 is clamped. -/
def clampA8 (x : Int) : Int := if 119 < x then 119 else x

/-- The nibbles of each pass (R41, R42). -/
def nibblesOf (a8 : Bool) (xs : List Int) : List (List Int) :=
  if a8 then
    let h := xs.map (fun x => (x + 8) / 16)
    [h, (xs.zip h).map (fun e => e.1 - 16 * e.2)]
  else [xs]

/-- A = Σ|x| (R52). -/
def activity (nibs : List Int) : Nat := (nibs.map Int.natAbs).sum

/-- The skip and split decisions of a pass (R52 to R54, R58, R59, FORCE_SPLIT). -/
def planPass (s : State) (d level : Nat) (trn : Bool) (nibs : List Int) : PassPlan :=
  let cfg := force s (coreReg d 0x100)
  let skip := decide (activity nibs = 0) && flag cfg 0
  let above := decide ((if trn then 15360 else 30720) < activity nibs * level)
  { skip := skip, split := !skip && (flag cfg 1 || above), nibs := nibs }

/-- CCLK cycles one nibble pass or quarter occupies its array (R46, R62). -/
def passCclk (trn : Bool) : Nat := if trn then 128 else 64

/-- Start times of the passes of a read, from its first (R45, R55). -/
def passStarts (trn : Bool) : Nat → List PassPlan → List Nat
  | _, [] => []
  | t, p :: ps => t :: passStarts trn (t + passCclk trn * (if p.split then 4 else 1)) ps

/-- Read slots taken by the passes that run: from, to (R63). -/
def passSlots (trn : Bool) (t : Nat) (ps : List PassPlan) : List (Nat × Nat) :=
  ((passStarts trn t ps).zip ps).filterMap (fun e =>
    if e.2.skip then none else some (e.1, e.1 + passCclk trn * (if e.2.split then 4 else 1)))

/-- When a read delivers: an unsplit read's time after its first pass start, and its operation's extension, which holds
every array of it (R56, R57, R118). -/
def deliverAt (r : ArrRead) : Nat := r.start + 8 * (readAclk r.trn r.a8 + r.ext)

/-! ## Rates (R119) -/

/-- Spend a rate of a die's Piccolo on `n` terms in the cycles from `t`, `fuel` of them: what is done. -/
def spendRate (kind rate : Nat) : Nat → Nat → Nat → SMap Nat → Nat × SMap Nat
  | 0, _, _, m => (0, m)
  | fuel + 1, t, n, m =>
    if n = 0 then (0, m)
    else
      let k := t * 4 + kind
      let take := min n (rate - mget 0 m k)
      let (done, m) := spendRate kind rate fuel (t + 1) (n - take) (mset 0 m k (mget 0 m k + take))
      (take + done, m)

/-- Outputs whose terms of one kind are not done, by ascending output. -/
def unfinished (done : Nat) : Nat → Nat → List Nat → List Nat
  | _, _, [] => []
  | j, acc, n :: ns =>
    if 0 < n ∧ done < acc + n then j :: unfinished done (j + 1) (acc + n) ns
    else unfinished done (j + 1) (acc + n) ns

/-- The rates a read meets: outlier products, static products, adapter additions by output. -/
def meetRates (d t0 t1 : Nat) (nOut nStat nAd : List Nat) (s : State) : List Nat × State :=
  let m := (lunaDie s d).rates
  let (d0, m) := spendRate 0 16384 (t1 - t0) t0 nOut.sum m
  let (d1, m) := spendRate 1 32768 (t1 - t0) t0 nStat.sum m
  let (d2, m) := spendRate 2 8192 (t1 - t0) t0 nAd.sum m
  let bad := unfinished d0 0 0 nOut ++ unfinished d1 0 0 nStat ++ unfinished d2 0 0 nAd
  ((List.range nOut.length).filter (bad.contains ·), updLunaDie d (fun x => { x with rates := m }) s)

/-! ## Adapter term rows (R110 to R112, R366) -/

/-- The request slot that the batch table gives a batch row. -/
def batchSlot (s : State) (w : Nat) : Option Nat :=
  (s.seq.batch.find? (fun g => g.kind != 0 && decide (g.row.toNat ≤ w) && decide (w < g.row.toNat + g.count.toNat + 1))).map
    (·.slot.toNat)

/-- T_ad of a carrier's 512 outputs: none when the row poisons every carrier result, or no row is present. -/
structure AdRow where
  poison : Bool
  values : Option (List Word)
deriving DecidableEq, Repr

/-- Read and check the adapter term row of batch row `w` (R111, R112). [DEDUCED: log 33] -/
def adapterRow (cyc : Nat → Nat) (d a w : Nat) (bad : List Nat) (s : State) : AdRow × State :=
  let (hs, s) := runRead cyc d bad a 1 s
  let h := (hs.headD {}).data.toNat
  if anyPoison hs then (⟨true, none⟩, s)
  else
    match (batchSlot s w).filter (· != bits h 15 0) with
    | some slot =>
      (⟨true, none⟩, raise (picPage d) Evt.ADAPTER_TERM_MISMATCH (d + slot * 2 ^ 8 + bits h 15 0 * 2 ^ 24) s)
    | none =>
      if bit h 28 then
        let (ws, s) := runRead cyc d bad (a + 1) 128 s
        (⟨false, some ((List.range 512).map (fun j =>
          let x := ws.getD (j / 4) {}
          if x.poison then nan32 else bf16val (bits x.data.toNat (16 * (j % 4) + 15) (16 * (j % 4)))))⟩, s)
      else (⟨false, none⟩, s)

/-! ## Terms (R103, R106, R113) -/

def fp (n : Int) : Word := round32 (n : Rat)

/-- A sum of products in FP32, in the order given. -/
def fpSum (ps : List (Word × Word)) : Word := ps.foldl (fun a p => Fp.add a (Fp.mul p.1 p.2)) 0

/-- A row's outliers of every column: the entries of a row across ascending columns. [DEDUCED: log 33] -/
def rowOutliers (outs : List (List (Nat × Word))) (i : Nat) : List (Nat × Word) :=
  ((List.range outs.length).zip outs).flatMap (fun c => (c.2.filter (·.1 == i)).map (fun e => (c.1, e.2)))

/-- The terms of a forward read's 512 columns. -/
def fwdTerms (cfg : Word) (t : PicTables) (xs : List Int) (stat : List (Nat × Word)) (ad : Option (List Word)) :
    List OutTerm :=
  (List.range 512).map (fun j =>
    { scale := word (byteField t.coef (8 * j) (8 * j + 3))
      gain := bf16val (byteField t.coef (8 * j + 4) (8 * j + 5))
      out := if flag cfg 0 then fpSum ((t.outs.getD j []).map (fun e => (fp (xs.getD e.1 0), e.2))) else 0
      stat := if flag cfg 1 then fpSum ((stat.zip t.weights).map (fun e => (e.1.2, e.2.getD j 0))) else 0
      ad := match ad with | none => 0 | some vs => vs.getD j 0 })

/-- The terms of a transpose read's 1,024 rows. -/
def trnTerms (cfg : Word) (t : PicTables) (xs : List Int) : List OutTerm :=
  (List.range 1024).map (fun i =>
    { scale := one32
      gain := bf16val (byteField t.coef (4096 + 2 * i) (4096 + 2 * i + 1))
      out := if flag cfg 0 then fpSum ((rowOutliers t.outs i).map (fun e => (fp (xs.getD e.1 0), e.2))) else 0
      stat := match ((List.range t.srows.length).find? (fun k => t.srows.getD k 1024 == i)) with
        | none => 0
        | some k => if flag cfg 1 then
            fpSum ((List.range 512).map (fun j => (fp (xs.getD j 0), (t.weights.getD k []).getD j 0))) else 0
      ad := 0 })

/-! ## First pass start (R49) -/

/-- A list entry made ready: its read, and the counts of its terms by kind. -/
structure Ready where
  read : ArrRead
  nOut : List Nat := []
  nStat : List Nat := []
  nAd : List Nat := []
deriving DecidableEq, Repr

/-- The read of a list entry as far as the operation alone tells. -/
def bareRead (op : ArrOp) (g : AGroup) (e : Nat) : ArrRead :=
  { logical := bits e 11 0, phys := 0, cls := op.cls, trn := op.trn, a8 := op.a8, start := op.edge,
    due := op.startCycle + 8 * readAclk op.trn op.a8,
    dest := (g.outAddr + bits e 27 20 * g.outBlk + op.row * g.outRow) % 2 ^ 32,
    kseq := (g.kseq + bits e 19 12) % 2 ^ 24, staged := g.staged, flagAddr := g.flagAddr, flags := 0, poison := true }

/-- The flags a read of an array carries, and what they count (R67 to R74, R88). -/
def readFlags (d a p : Nat) (cfg : Word) (st : Nat) (s : State) : Nat × State :=
  let oor := outOfRange s d
  let age := decide (2000 < refreshAge s d p)
  let life := lifeLapsed s d
  let trk := decide (st ≠ 1) || decide (fld cfg 4 0 ≠ 31) || !s.boot.baselined.contains d
  let s := if oor then collectFirst Evt.ARRAY_OUT_OF_RANGE d 1 (estC s d) (bump (coreReg d 0x12C) 1 s) else s
  let s := if age then raiseLapsed d a 1 s else s
  let s := if life then raiseLapsed d a 2 s else s
  let s := if trk then raiseLapsed d a 3 s else s
  let lapsed := age || life || trk
  let s := if lapsed then bump (coreReg d 0x130) 1 s else s
  (2 * one oor + 4 * one lapsed, s)

/-- One array of an operation: lookups, segment, tables, passes (R49, R52, R82, R105, R195). [DEDUCED: log 29] -/
def prepareRead (d : Nat) (op : ArrOp) (g : AGroup) (bad : List Nat) (e : Nat) (s : State) : Ready × State :=
  let r := bareRead op g e
  let m := mapOf s d r.logical
  if !m.valid then (⟨r, [], [], []⟩, raise (corePage d) Evt.ARRAY_MAP_INVALID (d + r.logical * 2 ^ 8) s)
  else
    let cfg := force s (picReg d 0x100)
    let addr := (g.inAddr + bits e 19 12 * g.inSeg + op.row * g.inRow) % 2 ^ 32
    let c0 := s.seq.cycle
    let cyc := fun w => c0 + Config.readCycle d w op.startCycle
    let (seg, s) := readSegment cyc d addr op.trn op.a8 bad (noteFresh s)
    let segKeys := s.mem.noted
    let high := if op.a8 then (seg.elems.filter (fun x => decide (119 < x))).length else 0
    let s := if high = 0 then s else collect Evt.A8_INPUT_CLAMP d high (bump (coreReg d 0x128) high s)
    let xs := if op.a8 then seg.elems.map clampA8 else seg.elems
    let whole := seg.elems
    let (tb, s) := picTables cyc d r.logical bad (noteFresh s)
    let tabKeys := s.mem.noted
    let s := match tb with | .inl p => tableInvalid d r.logical p s | .inr _ => s
    let rows := match tb with | .inl _ => [] | .inr t => t.srows
    let xs := if flag cfg 1 && !op.trn then
        ((List.range xs.length).zip xs).map (fun x => if rows.contains x.1 then (0 : Int) else x.2)
      else xs
    let passes := (nibblesOf op.a8 xs).map (planPass s d m.level op.trn)
    let (gt, o, st) := trkForRead s d m.phys
    let (ad, s) : AdRow × State := if bit e 31 && !op.trn && flag cfg 4 then
        adapterRow cyc d ((g.adtAddr + op.row * g.adtRow) % 2 ^ 32) op.row bad (noteFresh s)
      else (⟨false, none⟩, noteFresh s)
    let stat := (rows.zip seg.side).map (fun e => (e.1, Fp.div (bf16val e.2) seg.sigma))
    let r := { r with
      phys := m.phys, poison := seg.poison || ad.poison || tb.isLeft, cfg := cfg, g := gt, o := o,
      kt := ktOf s d m.phys cfg, sigma := seg.sigma, passes := passes,
      terms := match tb with
        | .inl _ => []
        | .inr t => if op.trn then trnTerms cfg t xs else fwdTerms cfg t xs stat ad.values,
      static := (rows.zip (List.range rows.length)).map (fun e => (e.1, (stat.getD e.2 (0, 0)).2)),
      elems := whole, clipped := seg.clipped, temp := est s d, bound := readBound s d op.trn, flags := st,
      spots := segKeys ++ s.mem.noted, tabSpots := tabKeys }
    match tb with
    | .inl _ => (⟨r, [], [], []⟩, s)
    | .inr t =>
      let n := if op.trn then 1024 else 512
      (⟨r,
        (List.range n).map (fun j => if !flag cfg 0 then 0
          else if op.trn then (rowOutliers t.outs j).length else (t.outs.getD j []).length),
        (List.range n).map (fun j => if !flag cfg 1 then 0
          else if op.trn then (if t.srows.contains j then 512 else 0) else t.srows.length),
        List.replicate n (one ad.values.isSome)⟩, s)

def prepareAll (d : Nat) (op : ArrOp) (g : AGroup) (bad : List Nat) : List Nat → State → List Ready × State
  | [], s => ([], s)
  | e :: es, s =>
    let (r, s) := prepareRead d op g bad e s
    let (rs, s) := prepareAll d op g bad es s
    (r :: rs, s)

/-- Arrays in read slots of a die at a time, bundle operations only. -/
def slotsAt (ss : List (Nat × Nat × Nat)) (t : Nat) : Nat :=
  ((ss.filter (fun e => decide (e.1 ≤ t) && decide (t < e.2.1))).map (·.2.2)).sum

/-- Counted time of a channel at CCLK cycle `t`: gated time is left out (R142). -/
def countedAt (t : Nat) (c : Channel) : Nat :=
  let g := match c.gatedAt with | none => 0 | some u => t - u
  t - c.since - c.gated - g

/-- Phase a channel is in: those of the program procedure; an audit reads in phase 1 and erases in phase 2 (R138,
R158). How long each takes is open. [DESIGN CHOICE: log 38] -/
def phaseAt (d t : Nat) (c : Channel) : Nat :=
  let within := fun k => decide (countedAt t c < Config.phaseEnd d c.phys c.order k)
  match c.kind with
  | .erase => 2
  | .audit => if within 1 then 1 else 2
  | _ => (([1, 2, 3, 4, 5] : List Nat).find? within).getD 6

/-- Class of a channel's work (R158, R433). -/
def chanClass (d t : Nat) (c : Channel) : Nat := if c.kind = .audit ∧ phaseAt d t c = 1 then 7 else 6

/-- A channel erases or pulses cells: the work the window of R145 bounds. -/
def pulsing (d t : Nat) (c : Channel) : Bool :=
  phaseAt d t c == 2 || (phaseAt d t c == 3 && c.kind != .audit)

/-- A channel's pass holds a read slot: verify, acceptance, gain, seed and audit passes do, erases and pulses do not
(R143). [DEDUCED: log 32] -/
def holdsSlot (d t : Nat) (c : Channel) : Bool :=
  !c.aborted && (if c.kind = .audit then phaseAt d t c == 1 else decide (3 ≤ phaseAt d t c)) &&
    Config.channelPass d c.phys c.order (countedAt t c)

/-- Program channels whose background pass holds a read slot (R143). [DEDUCED: log 32] -/
def bgSlots (d t : Nat) (x : LunaDie) : Nat := (x.channels.filter (fun c => holdsSlot d t c.2)).length

/-- Abort the newest `n` background passes (R143). [DEDUCED: log 32] -/
def abortBg (d t : Nat) : Nat → List (Nat × Channel) → List (Nat × Channel)
  | 0, cs => cs
  | n + 1, cs =>
    let live := cs.filter (fun c => holdsSlot d t c.2)
    let top := live.foldl (fun m c => max m c.2.order) 0
    abortBg d t n (cs.map (fun (c : Nat × Channel) =>
      if holdsSlot d t c.2 = true ∧ c.2.order = top then (c.1, { c.2 with aborted := true }) else c))

/-- Slots of one die that reads may hold: sixteen dies make the cap of 18,432 arrays (R35, R37). [DEDUCED: log 32] -/
def readCap : Nat := 1152

/-- Finish a list of reads that run: flags, rates, counts (R74, R119); every array of the operation is delivered `ext`
ACLK cycles late (R56, R57). [DEDUCED: log 32] -/
def launch (d : Nat) (op : ArrOp) (ext : Nat) : List Ready → State → List ArrRead × State
  | [], s => ([], s)
  | x :: xs, s =>
    let r := { x.read with ext := ext }
    let (r, s) : ArrRead × State :=
      if r.passes.isEmpty then (r, s)
      else
        let (fl, s) := readFlags d r.logical r.phys r.cfg r.flags s
        let (late, s) := meetRates d r.start (deliverAt r) x.nOut x.nStat x.nAd s
        ({ r with flags := fl, late := late }, s)
    let (rs, s) := launch d op ext xs s
    (r :: rs, s)

/-- Extension of an operation in ACLK cycles: each nibble pass in which an array splits (R56). -/
def extension (trn : Bool) (rs : List ArrRead) : Nat :=
  let n := rs.foldl (fun m r => max m r.passes.length) 0
  ((List.range n).filter (fun k => rs.any (fun r => match r.passes[k]? with | none => false | some p => p.split))).length *
    (if trn then 48 else 24)

/-- The sequencer takes an operation's extension: bundles add, operations of one bundle combine (R57, R264); the
repetitions of a bundle count as different bundles. [DEDUCED: log 32] -/
def addSplit (cycle ext : Nat) (s : State) : State :=
  let old := mget 0 s.luna.splits cycle
  let q := s.seq
  { s with
    luna := { s.luna with splits := mset 0 s.luna.splits cycle (max old ext) }
    seq := { q with
      split := q.split + (max old ext - old) } }

/-- Passes of a die that the module runs of itself, with quarter passes of those that split: counts (R55, R79), the
event of the splits, and their charge to a class (R435, R436, R63). -/
def ownPasses (d cls full splits : Nat) (s : State) : State :=
  let n := full + 4 * splits
  if n = 0 then s
  else
    let s := highWater (coreReg d 0x108) 26 16 1 (bump64 (coreReg d 0x110) n s)
    let s := if splits = 0 then s else collect Evt.ARRAY_SPLIT d splits (bump (coreReg d 0x11C) splits s)
    charge d cls 0 n (full * 83900 + 4 * splits * 21000) s

/-- The reads of an operation wait for their codes. -/
def pushReads (d : Nat) (rs : List ArrRead) (s : State) : State :=
  updLunaDie d (fun x => { x with reads := x.reads ++ rs }) s

/-- An operation's first pass starts (R49, R63, R64, R75); `o` reports the scratchpad words it read (R282). A blocked
operation counts once for each array in LUNA_BLOCKED_READ_COUNT, and each array's nibble passes, one or two, in
ARRAY_READ_BLOCKED. [DEDUCED: log 32] -/
def groupStart (d : Nat) (o : AccObs) (op : ArrOp) (g : AGroup) (s : State) : State :=
  let bare := op.entries.map (bareRead op g)
  if readsBlocked s d then
    let n := op.entries.length
    pushReads d bare (collectFirst Evt.ARRAY_READ_BLOCKED d (n * (if op.a8 then 2 else 1)) (estC s d)
      (bump (coreReg d 0x134) n s))
  else
    let x := lunaDie s d
    let s := setLunaDie d { x with slots := x.slots.filter (fun e => decide (op.edge < e.2.1)),
                                   rates := x.rates.filter (fun e => decide (op.edge ≤ e.1 / 4)) } s
    let (rs, s) := prepareAll d op g o.spadUncorr op.entries (spadEcc d o.spadCorr o.spadUncorr s)
    let x := lunaDie s d
    let new := rs.flatMap (fun r => (passSlots op.trn op.edge r.read.passes).map (fun e => (e.1, e.2, 1)))
    let points := (op.edge :: (x.slots ++ new).map (·.1)).filter (fun t => decide (op.edge ≤ t))
    let peak := (points.eraseDups).foldl (fun m t => max m (slotsAt (x.slots ++ new) t)) 0
    if readCap < peak then
      pushReads d bare (raise (corePage d) Evt.ARRAY_CAP_REFUSED
        (d + op.entries.length % 2 ^ 16 * 2 ^ 8 + (slotsAt x.slots op.edge + bgSlots d op.edge x) % 2 ^ 16 * 2 ^ 24)
        (bump (coreReg d 0x120) 1 s))
    else
      let drop := peak + bgSlots d op.edge x - readCap
      let s := if drop = 0 then s else collect Evt.REFRESH_BG_ABORT d drop (bump (refReg d 0x138) drop s)
      let s := setLunaDie d { x with channels := abortBg d op.edge drop x.channels, slots := x.slots ++ new } s
      let s := highWater (coreReg d 0x108) 26 16 (peak + bgSlots d op.edge (lunaDie s d)) s
      let ps := rs.flatMap (fun r => r.read.passes)
      let skips := (ps.filter (·.skip)).length
      let splits := (ps.filter (·.split)).length
      let full := (ps.filter (fun p => !p.skip && !p.split)).length
      let s := bump (coreReg d 0x118) skips s
      let s := if splits = 0 then s else collect Evt.ARRAY_SPLIT d splits (bump (coreReg d 0x11C) splits s)
      let s := bump64 (coreReg d 0x110) (full + 4 * splits) s
      let s := charge d op.cls 0 (full + 4 * splits) (full * 83900 + 4 * splits * 21000) s
      let ext := extension op.trn (rs.map (·.read))
      let (reads, s) := launch d op ext rs s
      addSplit op.cycle ext (pushReads d reads s)

/-- The stream has passed the issue cycle of an operation's start, or has stopped and drains (R239, R270, R272).
[DEDUCED: log 31] -/
def streamPast (s : State) (op : ArrOp) : Bool :=
  decide (op.startCycle < s.seq.cycle) || s.seq.state != .running || s.seq.ending || s.seq.fatal.isSome

/-- The die's oldest scheduled operation starts at its edge, in the issue cycle that is 16 or more past its bundle's
(R47, R239). [DEDUCED: log 31] -/
def passStart (d : Nat) (o : AccObs) (s : State) : State :=
  let x := lunaDie s d
  match x.scheduled with
  | [] => s
  | op :: rest =>
    if s.clk.now < op.edge ∨ streamPast s op = false then s
    else
      let s := setLunaDie d { x with scheduled := rest } s
      match agroupOf op.desc with
      | .inl _ => s
      | .inr g => inClass op.cls (groupStart d o op g) s

/-- ARRAY_PASS_START (R49). -/
def execArrayPassStart (dt : Nat) (die : Luna) (obs : AccObs) (s : State) : Result := act dt (passStart die obs) s

/-- LUNA_READS_ACTIVE: HIGH_WATER is never below ACTIVE (R79). -/
def readsActiveWord (s : State) (d : Nat) : Word :=
  let x := lunaDie s d
  let n := min (slotsAt x.slots s.clk.now + bgSlots d s.clk.now x) 2047
  let w := reg s (coreReg d 0x108)
  putFld (putFld w 26 16 (max n (fld w 26 16))) 10 0 n

end Sys2Proof.Machine
end

