-- ==== Sys2Proof/Machine/Piccolo.lean ====
section
/-! DEFINITION. Piccolo (R84 to R133): delivery of a read's results, reference tracking, shadow samples and their
check, the segment quantiser's operation, the snapshot registers. -/

namespace Sys2Proof.Machine

open Sys2Proof.Map Sys2Proof.Fp

/-! ## Codes of a read (R50, R54, R85) -/

/-- Passes that deliver codes, with the number of code sets each delivers. -/
def codeSets (p : PassPlan) : Nat := if p.skip then 0 else if p.split then 4 else 1

/-- The code sets of a read's passes, in order: those of an A8 read's high pass, then those of the last. -/
def passSets (r : ArrRead) (o : ReadObs) : List (PassPlan × List PassCodes) :=
  match r.passes with
  | [p] => [(p, o.low)]
  | [h, l] => [(h, o.high), (l, o.low)]
  | _ => []

/-- What the operand reports has the shape of the passes that ran. -/
def obsFits (r : ArrRead) (o : ReadObs) : Bool :=
  match r.passes with
  | [p] => o.high.isEmpty && o.low.length == codeSets p
  | [h, l] => o.high.length == codeSets h && o.low.length == codeSets l
  | _ => o.high.isEmpty && o.low.isEmpty

/-- A pass's codes of one output added (R54). -/
def sumCodes (cs : List PassCodes) (j : Nat) : Int := (cs.map (fun c => (c.main.getD j 0).toInt)).sum

/-- C and Q of an output (R85). -/
def combine : List (PassPlan × List PassCodes) → Nat → Int × Nat
  | [(_, l)], j => (sumCodes l j, l.length)
  | [(_, h), (_, l)], j => (16 * sumCodes h j + sumCodes l j, 16 * h.length + l.length)
  | _, _ => (0, 0)

def overCode : Byte := 0x80

/-- An output has an over-range code among those it uses (R51, R87). -/
def overRange (ps : List (PassPlan × List PassCodes)) (j : Nat) : Bool :=
  ps.any (fun p => p.2.any (fun c => c.main.getD j 0 == overCode))

/-- A column of an array, or a row of a transpose read, converted over range in a pass or quarter (R51). -/
def overEvent (d p : Nat) (trn : Bool) (phys quarter : Nat) (s : State) : State :=
  raise (corePage d) Evt.ADC_OVERRANGE
    (d + p * 2 ^ 8 + phys * 2 ^ 21 + one trn * 2 ^ 32 + quarter * 2 ^ 33) (bump (coreReg d 0x124) 1 s)

/-- PICCOLO_INTEGRITY with its count (R86, R127, R128). -/
def integrity (d kind a : Nat) (s : State) : State :=
  raise (picPage d) Evt.PICCOLO_INTEGRITY (d + kind * 2 ^ 8 + a * 2 ^ 12) (bump (picReg d 0x134) 1 s)

/-- What the codes of one set show: those over range (R51), and one PICCOLO_INTEGRITY for each that fails its parity,
naming array `a` (R127). -/
def codeSet (d p a : Nat) (trn : Bool) (quarter : Nat) (c : PassCodes) (s : State) : State :=
  let x := physOf s d p
  let s := ((List.range c.main.length).filter (fun j => c.main.getD j 0 == overCode)).foldl (fun s j =>
    overEvent d p trn (if trn then physRow x j else physCol x j) quarter s) s
  let s := ((List.range c.refs.length).filter (fun k => c.refs.getD k 0 == overCode)).foldl (fun s k =>
    overEvent d p trn (528 + k) quarter s) s
  (c.bad ++ c.refBad).foldl (fun s _ => integrity d 1 a s) s

/-- The sets of one pass, in order. -/
def codeSetsOf (d p a : Nat) (trn split : Bool) (cs : List PassCodes) (s : State) : State :=
  ((List.range cs.length).zip cs).foldl (fun s e => codeSet d p a trn (if split then e.1 else 7) e.2 s) s

def codesIn (d : Nat) (r : ArrRead) (ps : List (PassPlan × List PassCodes)) (s : State) : State :=
  ps.foldl (fun s p => codeSetsOf d r.phys r.logical r.trn p.1.split p.2 s) s

/-- An output has a code with bad parity among those it uses (R87, R127). -/
def badParity (ps : List (PassPlan × List PassCodes)) (j : Nat) : Bool :=
  ps.any (fun p => p.2.any (fun c => c.bad.contains j))

/-! ## Results (R84, R86, R113) -/

/-- A forward result before T_ad, with C and Q. -/
def fwdResult (r : ArrRead) (t : OutTerm) (c : Int) (q : Nat) : Word :=
  let base := round32 (((c * 256 - q * r.o : Int) : Rat) / 256)
  let pa := Fp.mul (Fp.mul (Fp.mul (Fp.mul base lambda32) t.gain) r.g) r.kt
  Fp.mul (Fp.mul (Fp.add (Fp.add pa t.out) t.stat) r.sigma) t.scale

/-- A transpose result; a static-channel row's code is not used. -/
def trnResult (r : ArrRead) (t : OutTerm) (c : Int) : Word :=
  let pt := Fp.mul (Fp.mul (Fp.mul (Fp.mul (fp c) lambda32) t.gain) r.g) r.kt
  Fp.mul (Fp.add (Fp.add pt t.out) t.stat) r.sigma

/-- The code of an output is not used (R113): that of a static-channel row of a transpose read. -/
def codeUnused (r : ArrRead) (j : Nat) : Bool := r.trn && r.static.any (·.1 == j)

def poisonChunk : Word := 0xFFC00001

/-- An output is poisoned before it is computed: its read, a late term, a residue, a code over range or with bad parity
that it uses (R87). -/
def outDead (r : ArrRead) (o : ReadObs) (ps : List (PassPlan × List PassCodes)) (j : Nat) : Bool :=
  r.poison || r.late.contains j || o.residueBad.contains j || ((overRange ps j || badParity ps j) && !codeUnused r j)

/-- The result of an output before and after T_ad (R84, R113). -/
def outResult (r : ArrRead) (ps : List (PassPlan × List PassCodes)) (j : Nat) : Word × Word :=
  let t := r.terms.getD j ⟨0, 0, 0, 0, 0⟩
  let cq := combine ps j
  let pre := if r.trn then trnResult r t (if codeUnused r j then 0 else cq.1) else fwdResult r t cq.1 cq.2
  (pre, if r.trn then pre else Fp.add pre t.ad)

/-- An output as it is delivered, before and after T_ad: none where it is poisoned (R86, R87). -/
def outValue (r : ArrRead) (o : ReadObs) (ps : List (PassPlan × List PassCodes)) (j : Nat) : Option (Word × Word) :=
  if outDead r o ps j then none
  else if isFinite (outResult r ps j).2 then some (outResult r ps j) else none

/-- What an output reports: a residue that fails, a result that is not finite (R86). -/
def outEvents (d : Nat) (r : ArrRead) (o : ReadObs) (ps : List (PassPlan × List PassCodes)) (j : Nat) (s : State) : State :=
  let s := if o.residueBad.contains j then integrity d 2 r.logical s else s
  if outDead r o ps j || isFinite (outResult r ps j).2 then s else integrity d 4 r.logical s

/-- The chunks of a read's outputs (R118). -/
def outChunks (r : ArrRead) (ys : List (Option (Word × Word))) : List PicChunk :=
  ((List.range ys.length).zip ys).map (fun e =>
    { dest := (r.dest + e.1) % 2 ^ 32, kseq := r.kseq, value := (e.2.map (·.2)).getD poisonChunk, flags := r.flags })

/-- The results enter accumulators, 3 cycles after delivery, or staging words (R118, R210). -/
def sendChunks (d : Nat) (r : ArrRead) (o : AccObs) (cs : List PicChunk) (s : State) : State :=
  if r.staged then
    let bad := o.spadUncorr.filter (· == r.flagAddr)
    later (r.due + 1) (.stageChunks d cs r.flagAddr (!bad.isEmpty))
      (cs.foldl (fun s c => noteAccess r.due d c.dest s) (spadEcc d o.spadCorr bad s))
  else later (r.due + 4) (.accChunks d cs o) s

/-! ## Tracking (R90 to R95) -/

/-- An accepted observation (R92, R94, R95): reads that start before `from_` use the values as they were; a STALE
tracker is ACTIVE again, which clears its cause of BOUND_LAPSED (R74, R96).
[DEDUCED: log 34] -/
def acceptObs (d p : Nat) (g : Word) (o : Int) (from_ : Nat) (s : State) : State :=
  let s' := s
  let t := trkOf s d p
  let t' : Tracker := { t with
    g := g, o := o, last := diePowered s d, run := 0, state := 1,
    recent := t.recent.filter (fun e => decide (s.clk.now < e.1)) ++ [(from_, t.g, t.o, trkState s d p)] }
  let s := setTrk d p t' s
  let s := if t.state = 1 ∧ trkOverdue s' d p = false then s else clearLapsed d (physOf s d p).logical 3 s
  if val g < 4 / 5 ∨ 5 / 4 < val g then loseTracker d p 2 s else driftCheck d p s

/-- A rejected observation (R93). -/
def rejectObs (d p : Nat) (s : State) : State :=
  let t := trkOf s d p
  let s := collect Evt.REF_TRACK_REJECT d 1 (bump (picReg d 0x124) 1 s)
  let s := setTrk d p { t with run := min 256 (t.run + 1) } s
  if 256 ≤ t.run + 1 then loseTracker d p 1 s else s

/-- Filter one rounding (R92). -/
def trackShift (cfg : Word) : Nat := clamp 4 14 (fld cfg 11 8)

/-- Form ĝ and ô and accept or reject them (R91 to R93). [DEDUCED: log 34] -/
def observation (d p : Nat) (cfg : Word) (end_ : Nat) (s : State) : State :=
  let t := trkOf s d p
  let gh := round32 (waNum t.me / waNum t.ee)
  let oh := rne ((256 * t.sum6 : Int) / ((t.count : Nat) : Rat))
  let s := setTrk d p { t with me := 0, ee := 0, sum6 := 0, count := 0 } s
  if isFinite gh ∧ mag (val gh - val t.g) ≤ mag (val t.g) / 20 ∧ val t.g ≠ 0 then
    let k : Rat := pow2 (-(trackShift cfg : Int))
    let g := round32 (val t.g + (val gh - val t.g) * k)
    let o := max (-32768) (min 32767 (rne ((t.o : Rat) + ((oh - t.o : Int) : Rat) * k)))
    acceptObs d p g o (end_ + 512) s
  else rejectObs d p s

/-- One pass or quarter observed (R90): `nibs` as driven, `end_` when it ended. -/
def observe (d : Nat) (r : ArrRead) (nibs : List Int) (c : PassCodes) (end_ : Nat) (s : State) : State :=
  let st := trkState s d r.phys
  if !flag r.cfg 2 || st == 0 || st == 3 then s
  else
    let t := trkOf s d r.phys
    let (me, ee) := regress c (expected nibs) r.o r.kt (t.me, t.ee)
    let s := setTrk d r.phys { t with
      me := me, ee := ee
      sum6 := if refUsed c 6 then t.sum6 + (c.refs.getD 6 0).toInt else t.sum6
      count := t.count + one (refUsed c 6) } s
    if 2 ^ 28 ≤ waNum ee then observation d r.phys r.cfg end_ s else s

/-- Nibbles of a quarter: the others are not driven (R54). -/
def quarterNibs (nibs : List Int) (q : Nat) : List Int :=
  ((List.range nibs.length).zip nibs).map (fun e => if e.1 / 256 = q then e.2 else 0)

/-- Observations of a forward read's passes. -/
def observeAll (d : Nat) (r : ArrRead) (ps : List (PassPlan × List PassCodes)) (s : State) : State :=
  ((passStarts false r.start r.passes).zip ps).foldl (fun s e =>
    ((List.range e.2.2.length).zip e.2.2).foldl (fun s c =>
      observe d r (if e.2.1.split then quarterNibs e.2.1.nibs c.1 else e.2.1.nibs) c.2 (e.1 + 64 * (c.1 + 1)) s) s) s

/-! ## Sampling (R120, R121) -/

/-- The LFSR advances: taps 31, 21, 1, 0, shifting toward bit 31. [DEDUCED: log 35] -/
def lfsrNext (w : Word) : Word :=
  let b := ((flag w 31).xor (flag w 21)).xor ((flag w 1).xor (flag w 0))
  (w <<< 1) ||| (if b then 1 else 0)

/-- SHADOW_RATE_LOG2: 0 no sampling, 1–5 act as 6. -/
def shadowRate (cfg : Word) : Nat := let k := fld cfg 19 16; if k = 0 then 0 else max 6 k

/-- A read that ran a pass advances the LFSR, and is captured when sampled: its segment before clipping, with static
channels as x̃. [DEDUCED: log 34] -/
def sampleRead (d : Nat) (r : ArrRead) (pre : List Word) (s : State) : State :=
  let x := lunaDie s d
  let l := lfsrNext x.lfsr
  let s := setLunaDie d { x with lfsr := l } s
  let k := shadowRate r.cfg
  if k = 0 ∨ l.toNat % 2 ^ k ≠ 0 then s
  else if 16 ≤ x.shadow.length then collect Evt.SHADOW_SKIP d 1 (bump (picReg d 0x12C) 1 s)
  else
    let g := fld l 21 16
    let e : ShadowSample :=
      { logical := r.logical
        phys := r.phys
        step := recordStep s
        temp := r.temp
        sigma := r.sigma
        elems := r.elems
        clipped := r.clipped
        static := r.static
        group := g
        results := (pre.drop (8 * g)).take 8
        flags := r.flags
        bound := r.bound }
    highWater (picReg d 0x110) 12 8 (x.shadow.length + 1)
      (updLunaDie d (fun x => { x with shadow := x.shadow ++ [e] }) (bump (picReg d 0x128) 1 s))

/-! ## Delivery (R118) -/

/-- PICCOLO_OVERRUN for the outputs that came late (R119). -/
def overrun (d : Nat) (r : ArrRead) (s : State) : State :=
  if r.late.isEmpty then s
  else raise (picPage d) Evt.PICCOLO_OVERRUN (d + r.logical * 2 ^ 8 + r.late.length * 2 ^ 20)
    (bump (picReg d 0x138) r.late.length s)

/-- An uncorrectable word of a tracker or margin record (R128): the tracker is LOST; the values of both records stay as
they were. [DESIGN CHOICE: log 34] -/
def trackerSram (d p : Nat) (s : State) : State :=
  raise (picPage d) Evt.PICCOLO_INTEGRITY (d + 3 * 2 ^ 8 + p * 2 ^ 12) (loseTracker d p 3 s)

/-- Words of its segment or tables that fell on a bank in conflict poison a read (R87, R279). -/
def readClash (d : Nat) (r : ArrRead) (s : State) : ArrRead × State :=
  let s := closeAccess s.seq.cycle s
  let tab := clashedAny s r.tabSpots
  ({ r with poison := r.poison || tab || clashedAny s r.spots }, if tab then tableInvalid d r.logical 5 s else s)

/-- The outputs of a read as they are delivered. -/
def outValues (r : ArrRead) (o : ReadObs) : List (Option (Word × Word)) :=
  (List.range (if r.trn then 1024 else 512)).map (outValue r o (passSets r o))

/-- A read delivers (R118): its codes are seen, its outputs formed, its references and its sample taken. -/
def deliverRead (d : Nat) (r : ArrRead) (o : ReadObs) (s : State) : State :=
  let (r, s) := readClash d r s
  let ps := passSets r o
  let ys := outValues r o
  let s := (List.range ys.length).foldl (fun s j => outEvents d r o ps j s) (overrun d r (codesIn d r ps s))
  let s := if o.trackerBad then trackerSram d r.phys s else s
  let s := if r.trn then s else observeAll d r ps s
  let s := if r.trn || r.passes.all (·.skip) then s
    else sampleRead d r (ys.map (fun y => (y.map (·.1)).getD poisonChunk)) s
  sendChunks d r o.acc (outChunks r ys) s

/-- The die's oldest read delivers, once its codes have come through Piccolo. -/
def deliver (d : Nat) (o : ReadObs) (s : State) : State :=
  let x := lunaDie s d
  match x.reads with
  | [] => s
  | r :: rest =>
    if s.clk.now < deliverAt r ∨ obsFits r o = false then s
    else inClass r.cls (deliverRead d r o) (setLunaDie d { x with reads := rest } s)

/-- PICCOLO_DELIVER (R118). -/
def execPiccoloDeliver (dt : Nat) (die : Luna) (obs : ReadObs) (s : State) : Result :=
  act dt (deliver die obs) s

/-- TRACKER_STALE (R96): due once the limit is past. -/
def execTrackerStale (dt : Nat) (die : Luna) (phys : BitVec 13) (s : State) : Result :=
  act dt (fun s =>
    let t := trkOf s die phys.toNat
    if t.state = 1 ∧ trkOverdue s die phys.toNat = true then setTrk die phys.toNat { t with state := 2 } s else s) s

/-! ## The shadow and its check (R122 to R126, R134 to R137) -/

/-- Address of a die's shadow directory (R134). -/
def shadowBase (s : State) (d : Nat) : Nat := reg64 s (refReg d 0x120) / 4096 * 4096

/-- A shadow directory entry. -/
structure ShadowDir where
  codes : Nat
  coef : Nat
  tables : Nat
  outWords : Nat
  scount : Nat
  level : Nat
  valid : Bool
deriving DecidableEq, Repr

def shadowDir (s : State) (d a : Nat) : ShadowDir :=
  let b := hbmRead s (shadowBase s d + 32 * a) 32
  ⟨byteField b 0 7, byteField b 8 15, byteField b 16 23, byteField b 24 25, byteAt b 26, byteAt b 27 % 16,
    bit (byteAt b 28) 0⟩

/-- Products e × m of a column of the shadow (R135, R136). -/
def shadowColumn (s : State) (e : ShadowDir) (j : Nat) : List Rat :=
  (List.range 8).flatMap (fun r =>
    ((readPacket fQ4B (hbmRead s (e.codes + 72 * (8 * j + r)) 72) false 1).elems).map
      (fun x => match x with | none => 0 | some n => n.x))

/-- s_j of the shadow. -/
def shadowScale (s : State) (e : ShadowDir) (j : Nat) : Word := word (ofBytes (hbmRead s (e.coef + 8 * j) 4))

/-- Outliers by column and static rows of the shadow, none where the tables break R104 or R107. -/
def shadowTables (s : State) (e : ShadowDir) : Option (List (List (Nat × Word)) × List Nat) :=
  let outs := if e.outWords = 0 then some (List.replicate 512 []) else outlierCols (hbmRead s e.tables (8 * e.outWords))
  match outs, staticRows (hbmRead s (e.tables + 8 * e.outWords) 64) e.scount with
  | some o, some r => some (o, r)
  | _, _ => none

/-- Static weight of static row `k`, column `j`. -/
def shadowStatic (s : State) (e : ShadowDir) (k j : Nat) : Word :=
  bf16val (ofBytes (hbmRead s (e.tables + 8 * e.outWords + 64 + 1024 * k + 2 * j) 2))

/-- Full target weights of a column in units of s_j: analogue targets, outlier residuals, static rows (R66,
R136). -/
def shadowWeights (s : State) (e : ShadowDir) (outs : List (List (Nat × Word))) (rows : List Nat) (j : Nat) : List Rat :=
  let em := shadowColumn s e j
  (List.range 1024).map (fun i =>
    match (List.range rows.length).find? (fun k => rows.getD k 1024 == i) with
    | some k => val (shadowStatic s e k j)
    | none =>
      let dw := match (outs.getD j []).find? (·.1 == i) with | none => (0 : Rat) | some o => val o.2
      em.getD i 0 + dw)

/-- η² of one result against the exact product (R66): none where none is stated, for a poisoned result or a product of
norms that is zero; the margin record then takes a free value. [DESIGN CHOICE: log 35] -/
def etaSquared (sigma scale y : Word) (w x : List Rat) : Option Rat :=
  let dot := ((w.zip x).map (fun e => e.1 * e.2)).sum
  let ww := (w.map (fun a => a * a)).sum
  let xx := (x.map (fun a => a * a)).sum
  let k := val scale * val sigma
  if !isFinite y || k * k * ww * xx == 0 then none
  else
    let e := val y - k * dot
    some (e * e / (k * k * ww * xx))

/-- The segment of a sample in units of σ before clipping, static rows with x̃. -/
def sampleInput (e : ShadowSample) : List Rat :=
  ((List.range 1024).zip e.elems).map (fun x =>
    match e.static.find? (·.1 == x.1), e.clipped.find? (·.1 == x.1) with
    | some v, _ => val v.2
    | none, some v => v.2
    | none, none => (x.2 : Rat))

/-- One column's η enters the margin record (R123). [DEDUCED: log 35] -/
def marginUpdate (d : Nat) (e : ShadowSample) (col : Nat) (eta2 : Rat) (s : State) : State :=
  let m := marginOf s d e.phys
  let micro := isqrt 64 ((eta2 * 1000000000000).floor.toNat)
  let now_ := (eta2 * 100000000000000)
  let b : Rat := (e.bound : Rat) / 100000
  let tested := decide (e.flags = 0)
  let above := tested && decide (b * b < eta2)
  let m' := { m with
    samples := min 65535 (m.samples + 1)
    exceeds := if above then min 65535 (m.exceeds + 1) else m.exceeds
    maxEta := max m.maxEta (min 65535 micro)
    mean := (rne ((m.mean : Rat) + (now_ - (m.mean : Rat)) / 1024)).toNat }
  let s := setMargin d e.phys m' s
  let s := if above then bump (picReg d 0x130) 1 s else s
  if tested && decide (16 * (b * b) < eta2) then
    raiseOnce (picPage d) Evt.SHADOW_EXCEED (physKey d e.phys)
      (d + e.phys * 2 ^ 8 + col * 2 ^ 21 + min micro 0xFFFFFFFF * 2 ^ 30) s
  else s

/-- A bound is in force for an array's forward reads: its die's life and temperature, its age, its tracker and the
enables of its corrections give one (R67, R70 to R72, R88). -/
def boundInForce (s : State) (d p : Nat) : Bool :=
  !outOfRange s d && !lifeLapsed s d && decide (refreshAge s d p ≤ 2000) && trkState s d p == 1 &&
  decide (forceFld s (picReg d 0x100) 4 0 = 31) && s.boot.baselined.contains d

/-- SHADOW_MARGIN_LOW (R124), tested once a check has entered all its columns, where a bound is in force.
[DEDUCED: log 35] -/
def marginLow (d p : Nat) (s : State) : State :=
  let m := marginOf s d p
  let hour := diePowered s d / 3600
  if boundInForce s d p = true ∧ 1024 ≤ m.samples ∧ 80 * boundOf s d < 3 * rmsEta m ∧ m.lowHour ≠ some hour then
    raise (picPage d) Evt.SHADOW_MARGIN_LOW (d + p * 2 ^ 8 + rmsEta m * 2 ^ 32)
      (setMargin d p { m with lowHour := some hour } s)
  else s

/-- The check of one sample: eight columns against the shadow (R122, R123). [DEDUCED: log 35] -/
def shadowCheck (sram : Bool) (c : SubCtx) (e : ShadowSample) (s : State) : State :=
  let d := c.die
  let sd := shadowDir s d e.logical
  let j0 := 8 * e.group
  let bursts := (burstsOf (sd.codes + 576 * j0) 4608).length + (burstsOf (sd.coef + 8 * j0) 64).length
  let s := chargeHbm d c.cls bursts (charge d c.cls 0 0 (8192 * 18) s)
  let bad := !sd.valid || hbmPoisoned s (sd.codes + 576 * j0) 4608 || hbmPoisoned s (sd.coef + 8 * j0) 64 ||
    (sd.outWords + sd.scount ≠ 0 && hbmPoisoned s sd.tables (8 * sd.outWords + 64 + 1024 * sd.scount))
  let s := if sram then trackerSram d e.phys s else s
  let x := sampleInput e
  let s := (List.range 8).foldl (fun s k =>
    let y := e.results.getD k poisonChunk
    let eta := if bad then none
      else match shadowTables s sd with
        | none => none
        | some (outs, rows) =>
          etaSquared e.sigma (shadowScale s sd (j0 + k)) y (shadowWeights s sd outs rows (j0 + k)) x
    match eta with
    | some v => marginUpdate d e (j0 + k) v s
    | none =>
      let (n, s) := takeFree s
      marginUpdate d e (j0 + k) ((n : Rat) * n / 1000000000000) s) s
  marginLow d e.phys (countMacs d 8192 s)

/-- SHADOW_CHECK takes one queue entry; an empty queue does nothing (R122).  `o` reports the shadow's bursts
(R299), `sram` an uncorrectable word of the margin record (R128). -/
def shadowIssue (o : XferObs) (sram : Bool) (c : SubCtx) (_t : TDesc) (s : State) : State :=
  match (lunaDie s c.die).shadow with
  | [] => s
  | e :: es =>
    withUncorr o.hbmUncorr (fun _ => false) (shadowCheck sram c e)
      (hbmEcc o (updLunaDie c.die (fun x => { x with shadow := es }) s))

/-- SHADOW_CHECK (R122). -/
def execShadowCheck (dt : Nat) (die : Luna) (obs : XferObs) (sram : Bool) (s : State) : Result :=
  act dt (withSub die 1 14 (tensorIssue 14 (shadowIssue obs sram))) s

/-! ## SEGQ (R192 to R194) -/

/-- The static list of the directory entry an operation names. [DEDUCED: log 36] -/
def segStatic (cyc : Nat → Nat) (d a : Nat) (bad : List Nat) (s : State) : (Nat ⊕ List Nat) × State :=
  match picDir cyc d a bad s with
  | (.inl p, s) => (.inl p, s)
  | (.inr e, s) => picStatic cyc d e bad s

/-- Words of the segments of `n` values. -/
def segWords (f n : Nat) : Nat :=
  ((chunksOf 1024 (List.range n)).map (fun p => 9 * (ceilDiv p.length (if f = fSEG4 then 128 else 64) + 1))).sum

/-- What the elements that clipping cut were is kept with the segments' words (R66, R121). [DEDUCED: log 36] -/
def noteClips (d : Nat) : Nat → List SegOut → State → State
  | _, [], s => s
  | a, g :: gs, s =>
    let ws := bytesToWords g.bytes
    let clips := if g.clipped.isEmpty then mdel s.mem.clips (spadKey d a) else mput s.mem.clips (spadKey d a) (ws, g.clipped)
    noteClips d (a + ws.length) gs { s with mem := { s.mem with clips := clips } }

/-- The segments SEGQ makes of the elements it reads (R193). -/
def segOuts (t : TDesc) (rows : List Nat) (xs : List Elem) : List SegOut :=
  (chunksOf 1024 xs).map (fun x => quantSegment (fmtOf t.fmtA) x rows (tscaleOf t.fmtA))

/-- What SEGQ writes of elements with the static list it read: the words, all poison where its format or the list is
invalid, and the POISON flag (R104, R193, R618). -/
def segqWords (t : TDesc) (list : Nat ⊕ List Nat) (xs : List Elem) : List (Option DWord) × Nat :=
  match fmtValid t.fmtA (takesA 13), list with
  | true, .inr rows =>
    let segs := segOuts t rows xs
    ((segs.flatMap (fun g => bytesToWords g.bytes)).map some, one (segs.any (·.poison)))
  | _, _ => (List.replicate (segWords (fmtOf t.fmtA) (32 * t.blocks)) none, 1)

/-- SEGQ issues: accumulators are quantised into segments. [DEDUCED: log 36] -/
def segqIssue (o : AccObs) (c : SubCtx) (t : TDesc) (s : State) : State :=
  let n := 32 * t.blocks
  let s := accResidue c.die o (accFile c.die o s)
  let s := spadEcc c.die o.spadCorr o.spadUncorr s
  let (xs, fl) := accsRead s c.die (tA t c) n
  let write := fun (keys : List Nat) (list : Nat ⊕ List Nat) (s : State) =>
    let w := segqWords t list xs
    writeLater c.die c.cycle (tD t c) (some t.dFlags) (o.spadUncorr.contains t.dFlags) keys w.1 (fl ||| w.2) s
  if !fmtValid t.fmtA (takesA 13) then write [] (.inl 0) (descInvalid c.die t.fmtA s)
  else
    match segStatic (fun _ => c.cycle) c.die (t.b % 4096) o.spadUncorr (noteFresh s) with
    | (.inl p, s) => write [] (.inl p) (tableInvalid c.die (t.b % 4096) p s)
    | (.inr rows, s) =>
      let segs := segOuts t rows xs
      let keys := s.mem.noted
      let clip := (segs.map (·.clipped.length)).sum
      let s := noteClips c.die (tD t c) segs s
      let s := if clip = 0 then s else collect Evt.ACT_CLIP_HIGH c.die clip (bump (picReg c.die 0x120) clip s)
      write keys (.inr rows) (fmtNonfinite c.die ((segs.map (·.nonfinite)).sum) s)

/-- SEGQ (R193). -/
def execSegq (dt : Nat) (die : Luna) (obs : AccObs) (s : State) : Result :=
  act dt (withSub die 1 13 (tensorIssue 13 (segqIssue obs))) s

/-! ## Snapshot registers (R131) -/

/-- A write of PICCOLO_SNAP_SEL. -/
def snapSel (d : Nat) (v : Word) (s : State) : State :=
  let p := fld v 12 0
  let ok := decide (p < physCount)
  let b := if ok then trackerBytes s d p ++ marginBytes (marginOf s d p) else []
  let s := setReg (picReg d 0x13C) (word (p + one ok * 2 ^ 31)) s
  (List.range 6).foldl (fun s k => setReg (picReg d (0x140 + 4 * k)) (word (byteField b (4 * k) (4 * k + 3))) s) s

/-- PICCOLO_SNAP_SEL (R131). -/
def execPiccoloSnapSel (dt : Nat) (die : Luna) (value : Word) (s : State) : Result := actHost dt (pgLuna die 2) (snapSel die value) s

/-- PICCOLO_SHADOW_QUEUE. -/
def shadowQueueWord (s : State) (d : Nat) : Word :=
  putFld (reg s (picReg d 0x110)) 4 0 (lunaDie s d).shadow.length

end Sys2Proof.Machine
end

