-- ==== Sys2Proof/Machine/Refresh.lean ====
section
/-! DEFINITION. Programming, rotation, replacement and the spare pool (R134 to R171). -/

namespace Sys2Proof.Machine

open Sys2Proof.Map Sys2Proof.Fp

/-! ## The shadow record's form (R137) -/

/-- Block scale codes a shadow may hold (R136). -/
def shadowScales : List Nat :=
  [0x00, 0x78, 0x80, 0x84, 0x88, 0x8A, 0x8C, 0x8E, 0x90, 0x91, 0x92, 0x93, 0x94, 0x95, 0x96, 0x97]

/-- A code packet of the shadow obeys R137: permitted scales, no saturated block. -/
def packetFormed (b : Bytes) : Bool :=
  (List.range 4).all (fun k => shadowScales.contains (byteAt b (64 + k))) && bits (byteAt b 68) 7 4 == 0

/-- R137. -/
def shadowFormed (s : State) (d a : Nat) : Bool :=
  let e := shadowDir s d a
  match shadowTables s e with
  | none => false
  | some (_, rows) =>
    let cols := (List.range 512).map (shadowColumn s e)
    let top := cols.foldl (fun m c => c.foldl (fun m x => max m (mag x)) m) 0
    (List.range 4096).all (fun k => packetFormed (hbmRead s (e.codes + 72 * k) 72)) &&
      decide (top ≤ 15) && decide (top = (e.level : Rat)) &&
      rows.all (fun r => cols.all (fun c => c.getD r 0 == 0))

/-! ## Registers and events -/

def refreshInvalid (d : Nat) (off : Nat) (v : Word) (s : State) : State :=
  raiseFor (refPage d) Evt.REFRESH_CMD_INVALID s.log.cls s.log.req (d + off * 2 ^ 8 + v.toNat * 2 ^ 20) s

/-- PROG_VERIFY_FAIL: `what` is the number of failing cells, 0 in the stages that find none, or the worst η in 10⁻⁶ of
the acceptance stage. [DEDUCED: log 39] -/
def verifyFail (d p a stage what : Nat) (s : State) : State :=
  raise (refPage d) Evt.PROG_VERIFY_FAIL (d + p * 2 ^ 8 + a * 2 ^ 21 + stage * 2 ^ 33 + what % 2 ^ 28 * 2 ^ 36)
    (bump (refReg d 0x134) 1 s)

/-- A COLCAL of the die, or the baseline check after it, runs (R457). -/
def calibrating (s : State) (d : Nat) : Bool := (lunaDie s d).colSince.isSome || (lunaDie s d).checking

/-- Channels may work: the estimate in force lies in the window of R145, and no COLCAL holds them (R457). -/
def progWindow (s : State) (d : Nat) : Bool :=
  s.therm.seeded && decide (320 ≤ est s d) && decide (est s d ≤ 1200) && !calibrating s d

def updCmd (d : Nat) (f : RefreshCmd → RefreshCmd) (s : State) : State := updLunaDie d (fun x => { x with cmd := f x.cmd }) s

/-- A REFRESH command ends with a result (R170's table). -/
def endCmd (d result : Nat) (s : State) : State :=
  updCmd d (fun c => { done := c.done, failed := c.failed, result := result }) s

/-- VALID logical arrays of a die. -/
def validLogicals (s : State) (d : Nat) : List Nat :=
  (s.nvm.map.filter (fun e => e.1 / 4096 == d && e.2.valid)).map (fun e => e.1 % 4096)

/-! ## The pool (R162 to R165) -/

/-- A physical array goes to RETIRED (R162, R164, R165). -/
def retireArray (d p cause : Nat) (s : State) : State :=
  let s := updPhys d p (fun x => { x with state := 4, logical := 0xFFFF, cause := cause }) s
  let s := unseedTracker d p s
  let pool := sparePool s d
  let s := raise (refPage d) Evt.ARRAY_RETIRED (d + p * 2 ^ 8 + cause * 2 ^ 21 + pool * 2 ^ 24) s
  let s := if pool < 64 then raise (refPage d) Evt.SPARE_POOL_LOW (d + pool * 2 ^ 8) s else s
  if pool = 15 then raise (refPage d) Evt.REFRESH_STOPPED (d + pool * 2 ^ 8) s else s

def freeArray (d p : Nat) (s : State) : State :=
  unseedTracker d p (updPhys d p (fun x => { x with state := 0, logical := 0xFFFF }) s)

/-- The spare that the module chooses: lowest PROGRAM_COUNT, then lowest index (R152). -/
def chooseSpare (s : State) (d : Nat) : Option Nat :=
  (inState s d 0).foldl (fun b p => match b with
    | none => some p
    | some q => if (physOf s d p).programs < (physOf s d q).programs then some p else some q) none

/-! ## Channels (R138 to R147) -/

/-- Lowest free program channel. -/
def freeChannel (s : State) (d : Nat) : Option Nat :=
  (List.range 16).find? (fun k => (find? (lunaDie s d).channels k).isNone)

/-- Passes of an audit's read: one for each of the 1,040 rows, whose 41.6 µs they are at 40 ns a pass (R37, R46, R158).
[DEDUCED: log 38] -/
abbrev auditPasses : Nat := 1040

/-- Start work on a channel with a staging block; answers whether it could. [DEDUCED: log 38] -/
def startChannel (d : Nat) (kind : ChanKind) (p a : Nat) (repair : Bool) (s : State) : Bool × State :=
  let x := lunaDie s d
  match freeChannel s d with
  | none => (false, s)
  | some k =>
    let needs := decide (kind ≠ .audit ∧ kind ≠ .erase)
    if needs && x.stages.isEmpty then (false, s)
    else
      let c : Channel :=
        { kind := kind
          phys := p
          logical := a
          repair := repair
          since := s.clk.now
          order := x.chanCount + 1
          gatedAt := if startOpen s (if kind = .audit then 7 else 6) then none else some s.clk.now
          stage := if needs then x.stages.headD 0 else 0 }
      let s := setLunaDie d { x with
        channels := mput x.channels k c, chanCount := x.chanCount + 1,
        stages := if needs then x.stages.drop 1 else x.stages } s
      (true, if kind = .audit then inClass 7 (ownPasses d 7 auditPasses 0) s else s)

/-- A channel is free again; its staging block joins the pool unless a swap keeps it. -/
def dropChannel (d k : Nat) (keepStage : Bool) (s : State) : State :=
  let x := lunaDie s d
  match find? x.channels k with
  | none => s
  | some c =>
    let back := decide (c.kind ≠ .audit ∧ c.kind ≠ .erase) && !keepStage
    setLunaDie d { x with channels := mdel x.channels k,
                          stages := if back then x.stages ++ [c.stage] else x.stages } s

/-- Gated time of every channel, as the gates stand now (R142). -/
def noteGates (s : State) : State :=
  let now_ := s.clk.now
  let op := classOpen s
  { s with luna := { s.luna with dies := s.luna.dies.map (fun e => (e.1, { e.2 with
      channels := e.2.channels.map (fun c =>
        let g := !op (chanClass (e.1) now_ c.2)
        (c.1, match c.2.gatedAt with
          | none => if g then { c.2 with gatedAt := some now_ } else c.2
          | some t => if g then c.2 else { c.2 with gatedAt := none, gated := c.2.gated + (now_ - t) })) })) } }

/-- A channel's work is broken off: what its cells then hold is open where it was erasing or pulsing.
[DESIGN CHOICE: log 38] -/
def breakOff (d k : Nat) (s : State) : State :=
  match find? (lunaDie s d).channels k with
  | none => s
  | some c =>
    if (c.kind = .audit) ∧ phaseAt d s.clk.now c = 1 then s
    else
      let (n, s) := takeFree s
      { s with nvm := { s.nvm with cells := mput s.nvm.cells (physKey d c.phys) (Config.partialCells n) } }

/-! ## Host commands and their channels -/

/-- Begin the program of one logical array of an installation: its record is checked first (R137, R149). -/
def installOne (d a : Nat) (s : State) : Bool × State :=
  let p := (mapOf s d a).phys
  if !shadowFormed s d a then
    (true, updCmd d (fun c => { c with todo := c.todo.filter (· != a), failed := c.failed + 1 })
      (unseedTracker d p (verifyFail d p a 0 0 s)))
  else
    let (ok, s) := startChannel d .install p a (lunaDie s d).cmd.repair s
    (ok, if ok then updCmd d (fun c => { c with todo := c.todo.filter (· != a) }) (unseedTracker d p s) else s)

/-- INSTALL goes on with free channels, in ascending logical order, then erases. -/
def installMore (d : Nat) : Nat → State → State
  | 0, s => s
  | fuel + 1, s =>
    let c := (lunaDie s d).cmd
    match c.todo with
    | a :: _ =>
      let (ok, s) := installOne d a s
      if ok then installMore d fuel s else s
    | [] =>
      match c.erase with
      | [] => s
      | a :: es =>
        let (ok, s) := startChannel d .erase (mapOf s d a).phys a false s
        if ok then installMore d fuel (updCmd d (fun c => { c with erase := es }) (unseedTracker d (mapOf s d a).phys s))
        else s

/-- REPLACE takes a spare and a channel, or waits for them (R159, R161). -/
def replaceStart (d : Nat) (s : State) : State :=
  let c := (lunaDie s d).cmd
  let spare := if c.phys = 0x1FFF then chooseSpare s d else some c.phys
  match spare with
  | none => s
  | some p =>
    if !shadowFormed s d c.logical then
      endCmd d 3 (updCmd d (fun c => { c with failed := min 15 (c.failed + 1) })
        (retireArray d p 1 (verifyFail d p c.logical 0 0 s)))
    else
      let (ok, s) := startChannel d .replace p c.logical c.repair s
      if ok then updCmd d (fun c => { c with waiting := false }) (updPhys d p (fun x => { x with state := 2 }) s) else s

/-- A REPLACE that has no spare and no pool: it fails at once (R161). -/
def noSpare (s : State) (d : Nat) : Bool :=
  let c := (lunaDie s d).cmd
  c.op == 2 && c.waiting && c.phys == 0x1FFF && sparePool s d == 0 && (chooseSpare s d).isNone

/-- Host commands that wait go on: channels, spares and the window allowing (R146, R147, R159, R161). -/
def cmdGoOn (d : Nat) (s : State) : State :=
  let c := (lunaDie s d).cmd
  if !c.busy || c.cancelAt.isSome then s
  else if noSpare s d then raise (refPage d) Evt.NO_SPARE (d + c.logical * 2 ^ 8) (endCmd d 2 s)
  else if !progWindow s d then updCmd d (fun c => { c with deferred := true }) s
  else
    let s := updCmd d (fun c => { c with deferred := false }) s
    if c.op = 1 then installMore d 4200 s
    else if c.op = 2 ∧ c.waiting = true then replaceStart d s
    else s

/-- INSTALL (R148, R149). [DEDUCED: log 37] -/
def installCmd (d : Nat) (repair : Bool) (s : State) : State :=
  let valid := (List.range 4096).filter (fun a => (shadowDir s d a).valid)
  let s := (validLogicals s d).foldl (fun s a => setMap d a { mapOf s d a with valid := false } s) s
  let s := updCmd d (fun _ => { busy := true, op := 1, repair := repair, todo := valid,
                                erase := (List.range 4096).filter (fun a => !(shadowDir s d a).valid) }) s
  cmdGoOn d s

/-- Channels of a die that serve its host command. -/
def cmdChannels (s : State) (d : Nat) : List (Nat × Channel) :=
  (lunaDie s d).channels.filter (fun c => c.2.kind == .install || c.2.kind == .erase || c.2.kind == .replace)

/-- Abandon a rotation that is programming (R146, R160). -/
def abandon (d k : Nat) (s : State) : State :=
  match find? (lunaDie s d).channels k with
  | none => s
  | some c => freeArray d c.phys (dropChannel d k false s)

/-- REPLACE (R159 to R161). [DEDUCED: log 38] -/
def replaceCmd (d a p : Nat) (retireOld repair : Bool) (v : Word) (s : State) : State :=
  let c : RefreshCmd := { busy := true, op := 2, logical := a, phys := p, repair := repair, retireOld := retireOld,
                          waiting := true }
  if p ≠ 0x1FFF ∧ (physCount ≤ p ∨ (physOf s d p).state ≠ 0) then
    refreshInvalid d 0x104 v (updCmd d (fun _ => { result := 1 }) s)
  else if (lunaDie s d).pending.any (·.logical == a) then updCmd d (fun _ => { c with waiting := false }) s
  else
    let s := ((lunaDie s d).channels.filter (fun e => e.2.kind == .rotate && e.2.logical == a)).foldl
      (fun s e => abandon d e.1 s) s
    cmdGoOn d (updCmd d (fun _ => c) s)

/-- RETIRE (R162). -/
def retireCmd (d p : Nat) (v : Word) (s : State) : State :=
  if physCount ≤ p ∨ (physOf s d p).state ≠ 0 then
    refreshInvalid d 0x104 v (updCmd d (fun _ => { result := 1 }) s)
  else updCmd d (fun _ => {}) (retireArray d p 4 s)

/-! ## Swaps (R154 to R157) -/

/-- The Piccolo directory entry's COEF changes; answers the old block's address. Where the entry's word is poison it
stays, and the new block goes to the staging pool. [DESIGN CHOICE: log 37] -/
def exchangeCoef (d a new : Nat) (s : State) : Nat × State :=
  let w := forceFld s (picReg d 0x104) 25 0 + 4 * a
  let x := spadAt s d w
  let old := bits x.data.toNat 31 0
  if x.poison then (new, s)
  else (old, spadPut d w (dataWord (bits x.data.toNat 63 32 * 2 ^ 32 + new)) s)

/-- A swap counts in the die's life record, one of a REPLACE as that command too. -/
def countSwap (d : Nat) (mine : Bool) (s : State) : State :=
  { s with life := mupd {} s.life d (fun l => { l with rotations := l.rotations + 1, replacements := l.replacements + one mine }) }

/-- An array has been programmed again: its age may be warned of anew (R168). -/
def ageReset (d a : Nat) (s : State) : State :=
  { s with nvm := { s.nvm with ageWarned := s.nvm.ageWarned.filter (· != d * 4096 + a) } }

/-- One swap (R154, R155); it completes a REPLACE that CANCEL ended in this SCLK cycle (R170). [DEDUCED: log 37] -/
def performSwap (d : Nat) (w : Swap) (s : State) : State :=
  let c := (lunaDie s d).cmd
  let won := c.cancelled.filter (fun x => x.1 == sclk s && x.2.1 == w.logical)
  let mine := (c.busy && c.op == 2 && c.logical == w.logical) || won.isSome
  let retire := match won with | none => c.retireOld | some x => x.2.2
  let bumpGen := updLunaDie d (fun x => { x with mapGen := x.mapGen + 1 })
  let s := bumpGen s
  let old := (mapOf s d w.logical).phys
  let s := setMap d w.logical { valid := true, level := w.level, phys := w.spare } s
  let (blk, s) := exchangeCoef d w.logical w.stage s
  let s := updPhys d w.spare (fun x => { x with state := 1, logical := w.logical }) s
  let s := unseedTracker d old (updPhys d old (fun x => { x with state := 3, logical := 0xFFFF }) s)
  let s := bumpGen s
  let s := updLunaDie d (fun x => { x with
    pending := x.pending.filter (· != w), stages := x.stages ++ [blk],
    auditDue := x.auditDue ++ [old] }) s
  let s := ageReset d w.logical { s with nvm := { s.nvm with
    swaps := s.nvm.swaps.filter (· != (d, w.logical, w.spare))
    retireOld := if mine && retire then s.nvm.retireOld ++ [physKey d old] else s.nvm.retireOld } }
  let s := clearLapsed d w.logical 1 (clearLapsed d w.logical 3 s)
  let s := raise (refPage d) Evt.ROTATION_SWAP (d + w.logical * 2 ^ 8 + old * 2 ^ 20 + w.spare * 2 ^ 33) (countSwap d mine s)
  if mine then bump (refReg d 0x12C) 1 (endCmd d 0 (updCmd d (fun c => { c with done := c.done + 1 }) s))
  else bump (refReg d 0x128) 1 s

/-- The swap of the lowest logical array. -/
def nextSwap (s : State) (d : Nat) : Option Swap :=
  (lunaDie s d).pending.foldl (fun b w => match b with
    | none => some w
    | some v => if w.logical < v.logical then some w else some v) none

/-- Up to `n` pending swaps in ascending logical order (R154). -/
def swapMany (d : Nat) : Nat → State → State
  | 0, s => s
  | n + 1, s => match nextSwap s d with | none => s | some w => swapMany d n (performSwap d w s)

/-- The swaps of a step commit on every die. -/
def swapAll (s : State) : State := (List.range 16).foldl (fun s d => swapMany d 16 s) s

/-- A pending swap is discarded (R156, R157). -/
def discardSwap (d : Nat) (w : Swap) (cause : Nat) (s : State) : State :=
  let s := freeArray d w.spare s
  let s := updLunaDie d (fun x => { x with pending := x.pending.filter (· != w), stages := x.stages ++ [w.stage] }) s
  let s := { s with nvm := { s.nvm with swaps := s.nvm.swaps.filter (· != (d, w.logical, w.spare)) } }
  let s := raise (refPage d) Evt.SWAP_DISCARDED (d + w.logical * 2 ^ 8 + w.spare * 2 ^ 20 + cause * 2 ^ 33) s
  let c := (lunaDie s d).cmd
  if c.busy && c.op == 2 && c.logical == w.logical then cmdGoOn d (updCmd d (fun c => { c with waiting := true }) s) else s

/-- PENDING_SWAP_EXPIRE (R156). -/
def execPendingSwapExpire (dt : Nat) (die : Luna) (logical : BitVec 12) (s : State) : Result :=
  act dt (fun s =>
    match (lunaDie s die).pending.find? (·.logical == logical.toNat) with
    | none => s
    | some w => if staleLimit s die < diePowered s die - w.seededAt then discardSwap die w 1 s else s) s

/-! ## A program ends (R138 to R144, R153) -/

/-- Codes of a baseline pass, of which `n` are due: one pass, or four quarter passes (R98). -/
def baselineSets (n : Nat) (refs : List PassCodes) : List PassCodes := (List.range n).map (fun k => refs.getD k ⟨[], [], [], []⟩)

/-- ĝ and ô of a baseline pass, or of four quarter passes: every nibble +4 (R98). None where no code serves (R51, R127);
the check then fails. [DEDUCED: log 40] -/
def baselineValues (s : State) (d p : Nat) (refs : List PassCodes) : Option (Word × Int) :=
  let four : List Int := List.replicate 1024 4
  let kt := ktOf s d p (force s (picReg d 0x100))
  let six := refs.filter (fun c => refUsed c 6)
  if six.isEmpty then none
  else
    let oh := rne (((256 * (six.map (fun c => (c.refs.getD 6 0).toInt)).sum : Int) : Rat) / ((six.length : Nat) : Rat))
    let a := ((List.range refs.length).zip refs).foldl (fun a e =>
      regress e.2 (expected (if refs.length = 1 then four else quarterNibs four e.1)) oh kt a) ((0 : BitVec 48), (0 : BitVec 48))
    if waNum a.2 = 0 then none
    else some (round32 (waNum a.1 / waNum a.2), max (-32768) (min 32767 oh))

/-- ĝ lies within 0.80–1.25. -/
def gainOk (g : Word) : Bool := isFinite g && decide (4 / 5 ≤ val g) && decide (val g ≤ 5 / 4)

/-- ĝ and ô where ĝ is in range (R98). -/
def baselineSeed (v : Option (Word × Int)) : Option (Word × Int) := v.filter (fun v => gainOk v.1)

/-! ### The cell stage (R38, R40, R89, R138, R139) -/

/-- Weight code of a reference column on a logical row (R89). -/
def refPattern (k i : Nat) : Int :=
  match k with
  | 0 => if i % 8 = 0 then 15 else 0
  | 1 => if i % 8 = 4 then -15 else 0
  | 2 => if i % 4 = 1 then 7 else 0
  | 3 => if i % 4 = 3 then -7 else 0
  | 4 => 3
  | 5 => -3
  | 6 => 0
  | _ => if i % 8 = 2 then 15 else if i % 8 = 6 then -15 else 0

/-- Logical row that a physical row serves (R40). -/
def logicalRow (x : Phys) (r : Nat) : Option Nat :=
  if r < 1024 then (if x.rows.contains r then none else some r) else x.rows[r - 1024]?

/-- Logical column that a physical main or spare column serves (R40). -/
def logicalCol (x : Phys) (c : Nat) : Option Nat :=
  if c < 512 then (if x.cols.contains c then none else some c) else x.cols[c - 512]?

/-- Weight codes of a column of the shadow by logical row (R136). -/
def shadowCodes (s : State) (e : ShadowDir) (j : Nat) : List Int := (shadowColumn s e j).map Rat.floor

/-- Target code of a physical cell pair, none where the array does not use it (R40, R89, R138). -/
def cellTarget (s : State) (e : ShadowDir) (x : Phys) (r c : Nat) : Option Int :=
  match logicalRow x r with
  | none => none
  | some i =>
    if 528 ≤ c then (if c < 536 then some (refPattern (c - 528) i) else none)
    else (logicalCol x c).map (fun j => (shadowCodes s e j).getD i 0)

/-- A read-back level passes (R138, R158): within `tol` / 256 level of the target, the limit itself passing. -/
def levelOk (tol : Nat) (target level : Int) : Bool := decide ((level - 256 * target).natAbs ≤ tol)

/-- Iterations after which a cell pair passes, none where 64 do not do (R138). -/
def iterations (target : Int) (o : CellObs) : Option Nat :=
  ((List.range 64).find? (fun k => match o.reads[k]? with | none => false | some l => levelOk 64 target l)).map (· + 1)

/-- The failing cells of an array under a record's assignments. -/
def failing (s : State) (e : ShadowDir) (x : Phys) (cells : List CellObs) : List CellObs :=
  cells.filter (fun o => match cellTarget s e x o.row o.col with | none => false | some t => (iterations t o).isNone)

/-- R139, step 1: rows with two or more failing cells take spare rows. -/
def repairRows (fs : List CellObs) (x : Phys) : Phys :=
  let rs := (List.range 1024).filter (fun i => decide (2 ≤ (fs.filter (fun o => logicalRow x o.row == some i)).length))
  { x with rows := x.rows ++ rs.take (16 - x.rows.length) }

/-- R139, step 2: columns of the failing cells that remain take spare columns. -/
def repairCols (fs : List CellObs) (x : Phys) : Phys :=
  let cs := (List.range 512).filter (fun j => fs.any (fun o => logicalCol x o.col == some j))
  { x with cols := x.cols ++ cs.take (16 - x.cols.length) }

/-- R139, step 3: a converter whose eight columns fail is replaced by ADC 67, the lowest first. -/
def repairAdc (fs : List CellObs) (x : Phys) : Phys :=
  let bad := (List.range 67).find? (fun a => (List.range 8).all (fun k => fs.any (fun o => o.col == 8 * a + k)))
  match bad with
  | some a => if x.adc = 0xFF then { x with adc := a } else x
  | none => x

/-- The cell stage's end: the record with the new assignments, and the failing cells that nothing covers (R139). -/
def cellStage (s : State) (e : ShadowDir) (repair : Bool) (x : Phys) (cells : List CellObs) : Phys × List CellObs :=
  let f0 := failing s e x cells
  if !repair || f0.isEmpty then (x, f0)
  else
    let x1 := repairRows f0 x
    let x2 := repairCols (failing s e x1 cells) x1
    let f2 := failing s e x2 cells
    let x3 := repairAdc f2 x2
    (x3, f2.filter (fun o => x3.adc == x2.adc || o.col / 8 != x3.adc))

/-- Most iterations of any cell pair (R167). -/
def iterMost (s : State) (e : ShadowDir) (x : Phys) (cells : List CellObs) : Nat :=
  cells.foldl (fun m o => match cellTarget s e x o.row o.col with
    | none => m
    | some t => max m ((iterations t o).getD 64)) 1

/-- Rows of a list of columns. -/
def transposed : Nat → List (List Int) → List (List Int)
  | 0, _ => []
  | n + 1, cs => cs.map (fun c => c.headD 0) :: transposed n (cs.map (fun c => c.drop 1))

/-- The weight codes that a program leaves in the cell pairs of an array, by row × 536 + column (R38, R40, R89, R136). -/
def programmedCells (s : State) (e : ShadowDir) (x : Phys) : SMap Int :=
  let zero : List Int := List.replicate 1024 0
  let main := (List.range 528).map (fun c => match logicalCol x c with | none => zero | some j => shadowCodes s e j)
  let refs := (List.range 8).map (fun k => (List.range 1024).map (refPattern k))
  let rows := transposed 1024 (main ++ refs)
  (List.range 1040).flatMap (fun r => match logicalRow x r with
    | none => []
    | some i => (((List.range 536).zip (rows.getD i [])).filter (fun c => c.2 != 0)).map (fun c => (r * 536 + c.1, c.2)))

/-- The level pair (L⁺, L⁻) that a cell pair was programmed to (R38). -/
def levelPair (s : State) (d p r c : Nat) : Nat × Nat :=
  let code := mget 0 (mget [] s.nvm.cells (physKey d p)) (r * 536 + c)
  (code.toNat, (-code).toNat)

/-! ### Acceptance and gains (R140, R141) -/

/-- Nibbles of a test segment. -/
def testNibs (lfsr : Word) (trn : Bool) (pass : Nat) : List Int :=
  (List.range (if trn then 512 else 1024)).map (fun i => (Config.testNibble lfsr trn pass i).toInt)

/-- A result of an acceptance pass against the exact product: the square of its error, and of the norms' product. -/
def acceptErr (s : State) (e : ShadowDir) (lfsr : Word) (r : AcceptObs) : Rat × Rat :=
  let x := (testNibs lfsr false r.pass).map (fun n => (n : Rat))
  let w := match shadowTables s e with | none => [] | some (outs, rows) => shadowWeights s e outs rows r.col
  let k := val (shadowScale s e r.col)
  let dot := ((w.zip x).map (fun a => a.1 * a.2)).sum
  let err := val r.y - k * dot
  (err * err, k * k * (w.map (fun a => a * a)).sum * (x.map (fun a => a * a)).sum)

/-- A result meets η ≤ 1.0×10⁻³, written without the quotient: a result equal to its exact product meets it where the
norms are zero too. [DEDUCED: log 39] -/
def acceptOk (s : State) (e : ShadowDir) (lfsr : Word) (r : AcceptObs) : Bool :=
  isFinite r.y && (let v := acceptErr s e lfsr r; decide (v.1 * 1000000 ≤ v.2))

/-- The worst η of the results that miss the limit, in 10⁻⁶; one that has no η does not count. -/
def worstEta (s : State) (e : ShadowDir) (lfsr : Word) (rs : List AcceptObs) : Nat :=
  rs.foldl (fun m r =>
    let v := acceptErr s e lfsr r
    if isFinite r.y = false ∨ v.2 = 0 then m else max m (isqrt 64 ((v.1 / v.2 * 1000000000000).floor.toNat))) 0

/-- The sum of a pass's codes of one output, where every one of them serves. -/
def gainCode (cs : List PassCodes) (j : Nat) : Option Int :=
  if cs.isEmpty || cs.any (fun c => c.main.getD j 0 == overCode || c.bad.contains j) then none else some (sumCodes cs j)

/-- The factor that brings an output's codes nearest to the exact products, in squares (R141); none where no code is
other than zero. [DEDUCED: log 39] -/
def fitGain (obs : List (List PassCodes)) (exact : Nat → Int) (j : Nat) : Option Rat :=
  let ms := (List.range 16).filterMap (fun t => (gainCode (obs.getD t []) j).map (fun m => (m, exact t)))
  let mm := (ms.map (fun m => m.1 * m.1)).sum
  if mm = 0 then none else some (((ms.map (fun m => m.1 * m.2)).sum : Int) / (mm : Rat))

/-- Gains normalised to a mean of 1.0 over the outputs that have one, in BF16; the others are free, from `base` on: the
spec states no fit for them (R141). [DESIGN CHOICE: log 39] -/
def normalised (base : Nat) (gs : List (Option Rat)) : List Nat :=
  let fit := gs.filterMap id
  let mean : Rat := fit.sum / (fit.length : Rat)
  ((List.range gs.length).zip gs).map (fun g => match g.2 with
    | some v => if mean = 0 then Config.free (base + g.1) % 65536 else roundBf16 (v / mean)
    | none => Config.free (base + g.1) % 65536)

/-- The exact product of a gain pass for a column or, in a transpose pass, a row: weight codes with nibbles. -/
def gainExact (codes : List (List Int)) (lfsr : Word) (trn : Bool) (j t : Nat) : Int :=
  (((codes.getD j []).zip (testNibs lfsr trn (if trn then t else 64 + t))).map (fun a => a.1 * a.2)).sum

/-- g_col and g_row in BF16, measured by 16 forward and 16 transpose passes (R141). -/
def measuredGains (s : State) (e : ShadowDir) (lfsr : Word) (o : ProgObs) : List Nat × List Nat :=
  let cols := (List.range 512).map (shadowCodes s e)
  let rows := transposed 1024 cols
  (normalised s.freeIdx ((List.range 512).map (fun j => fitGain o.gainFwd (gainExact cols lfsr false j) j)),
   normalised (s.freeIdx + 512) ((List.range 1024).map (fun i => fitGain o.gainTrn (gainExact rows lfsr true i) i)))

/-- The staging coefficient block of a program: s_j from the shadow and the measured gains (R116, R141). -/
def stageBlock (s : State) (d a : Nat) (g : List Nat × List Nat) : Bytes :=
  let e := shadowDir s d a
  (List.range 512).flatMap (fun j => toBytes 4 (shadowScale s e j).toNat ++ toBytes 2 (g.1.getD j 0) ++ toBytes 2 0) ++
  (List.range 1024).flatMap (fun i => toBytes 2 (g.2.getD i 0))

/-- The module's own passes run: skips, splits, counts and charges (R55, R58, R79, R435). -/
def runPlans (d cls : Nat) (ps : List PassPlan) (s : State) : State :=
  let s := bump (coreReg d 0x118) (ps.filter (·.skip)).length s
  ownPasses d cls (ps.filter (fun p => !p.skip && !p.split)).length (ps.filter (·.split)).length s

/-- The cell stage of a program ends: record, cells; the stage that fails and what PROG_VERIFY_FAIL says of it. -/
def runCells (d : Nat) (c : Channel) (o : ProgObs) (s : State) : Option (Nat × Nat) × State :=
  let e := shadowDir s d c.logical
  let (x, bad) := cellStage s e c.repair (physOf s d c.phys) o.cells
  let s := updPhys d c.phys (fun _ => { x with iterMax := iterMost s e x o.cells }) s
  let s := { s with nvm := { s.nvm with cells := mput s.nvm.cells (physKey d c.phys) (programmedCells s e x) } }
  (if bad.isEmpty then none else some (3, bad.length), s)

/-- The acceptance stage: 64 passes. -/
def runAccept (d : Nat) (c : Channel) (o : ProgObs) (s : State) : Option (Nat × Nat) × State :=
  let e := shadowDir s d c.logical
  let lfsr := (lunaDie s d).lfsr
  let s := runPlans d 6 ((List.range 64).map (fun t => planPass s d e.level false (testNibs lfsr false t))) s
  let bad := o.accept.filter (fun r => decide (r.pass < 64) && decide (r.col < 512) && !acceptOk s e lfsr r)
  (if bad.isEmpty then none else some (4, worstEta s e lfsr bad), s)

/-- The gain measure: 32 passes, and the staging block; a staging area out of place fails it. -/
def runGains (d : Nat) (c : Channel) (o : ProgObs) (s : State) : Option (Nat × Nat) × State :=
  let e := shadowDir s d c.logical
  let lfsr := (lunaDie s d).lfsr
  let plan := fun (trn : Bool) t => planPass s d e.level trn (testNibs lfsr trn (if trn then t else 64 + t))
  let fwd := (List.range 16).map (plan false)
  let trn := (List.range 16).map (plan true)
  let s := runPlans d 6 (fwd ++ trn) s
  let s := (fwd.zip o.gainFwd).foldl (fun s g => codeSetsOf d c.phys c.logical false g.1.split g.2 s) s
  let s := (trn.zip o.gainTrn).foldl (fun s g => codeSetsOf d c.phys c.logical true g.1.split g.2 s) s
  if regFld s (refReg d 0x11C) 25 0 % 4 != 0 then (some (5, 0), s)
  else
    let g := measuredGains s e lfsr o
    let b := stageBlock s d c.logical g
    (none, spadPuts d c.stage (bytesWords b false) { s with freeIdx := s.freeIdx + 1536 })

/-- The seeding pass: ĝ and ô, none where ĝ is out of range. -/
def runSeed (d : Nat) (c : Channel) (o : ProgObs) (s : State) : Option (Word × Int) × State :=
  let plan := planPass s d (shadowDir s d c.logical).level false (List.replicate 1024 4)
  let refs := baselineSets (codeSets plan) o.refs
  let s := codeSetsOf d c.phys c.logical false plan.split refs (runPlans d 6 [plan] s)
  (baselineSeed (baselineValues s d c.phys refs), s)

/-- A program's phases 2 to 6 as they went: the seed, or the stage that failed (R138 to R141). A stage's passes count and
are charged when the program ends. [DEDUCED: log 37] -/
def runProgram (d : Nat) (c : Channel) (o : ProgObs) (s : State) : ((Word × Int) ⊕ (Nat × Nat)) × State :=
  match runCells d c o s with
  | (some f, s) => (.inr f, s)
  | (none, s) =>
    match runAccept d c o s with
    | (some f, s) => (.inr f, s)
    | (none, s) =>
      match runGains d c o s with
      | (some f, s) => (.inr f, s)
      | (none, s) =>
        match runSeed d c o s with
        | (none, s) => (.inr (6, 0), s)
        | (some v, s) => (.inl v, s)

/-- A program has succeeded: wear record, β, tracker (R97, R144). -/
def programmed (d : Nat) (c : Channel) (o : ProgObs) (v : Word × Int) (s : State) : State :=
  let s := updPhys d c.phys (fun x => { x with
    programs := min 0xFFFFFFFF (x.programs + 1)
    programmedAt := ageClock s d }) s
  seedTracker d c.phys v.1 v.2 (setBeta d c.phys o.beta.toInt s)

/-- A command's program failed. -/
def cmdFailed (d result : Nat) (c : Channel) (s : State) : State :=
  let s := updCmd d (fun x => { x with failed := x.failed + 1 }) s
  if c.kind = .replace then endCmd d result s else s

/-- A program fails: events, the array's state (R142, R144, R149, R153). -/
def programFailed (d k : Nat) (c : Channel) (result : Nat) (s : State) : State :=
  let s := unseedTracker d c.phys (dropChannel d k false s)
  let s := if c.kind = .rotate ∨ c.kind = .replace then retireArray d c.phys 1 s else s
  if c.kind = .rotate ∨ c.kind = .erase then s else cmdFailed d result c s

/-- A cancelled command ends with the present phases of its channels (R170). -/
def cancelEnd (d : Nat) (s : State) : State :=
  let c := (lunaDie s d).cmd
  if (cmdChannels s d).isEmpty then
    updCmd d (fun x => { x with cancelled := if c.op = 2 then some (sclk s, c.logical, c.retireOld) else none }) (endCmd d 5 s)
  else s

/-- A channel of a cancelled command ends. -/
def cancelChannel (d k : Nat) (c : Channel) (s : State) : State :=
  let s := unseedTracker d c.phys (dropChannel d k false (breakOff d k s))
  let s := if c.kind = .replace then freeArray d c.phys s else s
  cancelEnd d s

/-- The command of a channel was cancelled in an earlier SCLK cycle (R170). -/
def wasCancelled (s : State) (d : Nat) (c : Channel) : Bool :=
  c.kind != .rotate && (match (lunaDie s d).cmd.cancelAt with | none => false | some t => decide (t < sclk s))

/-- A successful program's outcome by kind (R149, R153, R159). -/
def programOk (d k : Nat) (c : Channel) (o : ProgObs) (v : Word × Int) (s : State) : State :=
    let s := programmed d c o v s
    let level := (shadowDir s d c.logical).level
    if c.kind = .install then
      let s := setMap d c.logical { mapOf s d c.logical with valid := true, level := level } s
      let s := ageReset d c.logical s
      updCmd d (fun x => { x with done := x.done + 1 }) (clearLapsed d c.logical 1 (dropChannel d k false s))
    else
      let w : Swap :=
        { logical := c.logical, spare := c.phys, stage := c.stage, seededAt := diePowered s d, level := level
          rotation := c.kind == .rotate }
      let s := updLunaDie d (fun x => { x with pending := x.pending ++ [w] }) (dropChannel d k true s)
      { s with nvm := { s.nvm with swaps := s.nvm.swaps ++ [(d, c.logical, c.phys)] } }

/-- Counted CCLK cycles of a program that are past the compare cycle of R142: 200,000,000 ACLK cycles, and the one in
which a completion still counts. -/
abbrev timeoutPast : Nat := 1600000008

/-- A program has run out of time (R142): the event names the phase it is in. -/
def timeoutEnds (d k : Nat) (c : Channel) (s : State) : State :=
  let s := programFailed d k c 4
    (raise (refPage d) Evt.PROG_TIMEOUT (d + c.phys * 2 ^ 8 + phaseAt d s.clk.now c * 2 ^ 21) (breakOff d k s))
  cmdGoOn d (if (lunaDie s d).cmd.cancelAt.isSome then cancelEnd d s else s)

/-- A channel's procedure ends (R138 to R144). [DEDUCED: log 37] -/
def programEnds (d k : Nat) (o : ProgObs) (s : State) : State :=
  match find? (lunaDie s d).channels k with
  | none => s
  | some c =>
    if c.kind = .audit then s
    else if wasCancelled s d c then cancelChannel d k c s
    else if c.kind ≠ .erase ∧ timeoutPast ≤ countedAt s.clk.now c then timeoutEnds d k c s
    else
      let s := if c.kind = .erase then
          dropChannel d k false { s with nvm := { s.nvm with cells := mdel s.nvm.cells (physKey d c.phys) } }
        else
          match runProgram d c o s with
          | (.inl v, s) => programOk d k c o v s
          | (.inr f, s) => programFailed d k c 3 (verifyFail d c.phys (c.logical % 4096) f.1 f.2 s)
      let s := if (lunaDie s d).cmd.cancelAt.isSome then cancelEnd d s else s
      cmdGoOn d s

/-- A channel's procedure ends and its physical record is written; where that write fails the record area keeps the
older copy (R571). [DEDUCED: log 25] -/
def programWrites (d k : Nat) (o : ProgObs) (s : State) : State :=
  match find? (lunaDie s d).channels k with
  | none => s
  | some c =>
    if c.kind = .audit then s
    else
      let old := physOf s d c.phys
      let (failed, s) := nvmFinds o.nvm (programEnds d k o s)
      if failed then { s with nvm := { s.nvm with stale := mput s.nvm.stale (physKey d c.phys) old } } else s

/-- PROGRAM_COMPLETE (R144). -/
def execProgramComplete (dt : Nat) (die : Luna) (channel : Fin 16) (obs : ProgObs) (s : State) : Result :=
  act dt (inClass 6 (programWrites die channel obs)) s

/-- PROG_TIMEOUT (R142): due once the compare cycle at 200,000,000 ungated ACLK cycles is over. -/
def progTimeout (d k : Nat) (s : State) : State :=
  match find? (lunaDie s d).channels k with
  | none => s
  | some c =>
    if c.kind = .audit ∨ c.kind = .erase ∨ countedAt s.clk.now c < timeoutPast then s
    else inClass 6 (timeoutEnds d k c) s

/-- PROG_TIMEOUT (R142). -/
def execProgTimeout (dt : Nat) (die : Luna) (channel : Fin 16) (s : State) : Result := act dt (progTimeout die channel) s

/-- An aborted background pass runs again when a slot is free (R143). -/
def bgRerun (d k : Nat) (s : State) : State :=
  let x := lunaDie s d
  match find? x.channels k with
  | none => s
  | some c =>
    if c.aborted = true ∧ slotsAt x.slots s.clk.now + bgSlots d s.clk.now x < readCap then
      setLunaDie d { x with channels := mput x.channels k { c with aborted := false } } s
    else s

/-- BG_PASS_RERUN (R143). -/
def execBgPassRerun (dt : Nat) (die : Luna) (channel : Fin 16) (s : State) : Result := act dt (bgRerun die channel) s

/-! ## Audits (R155, R158, R160) -/

/-- The channel that audits a physical array. -/
def auditChannel (s : State) (d p : Nat) : Option Nat :=
  ((lunaDie s d).channels.find? (fun c => c.2.kind == .audit && c.2.phys == p)).map (·.1)

/-- Weight code that a cell pair was programmed to. -/
def cellCode (s : State) (d p r c : Nat) : Int := mget 0 (mget [] s.nvm.cells (physKey d p)) (r * 536 + c)

/-- Cell pairs of an array that a report names, each once. -/
def inArray (ls : List CellLevel) : List CellLevel :=
  (ls.filter (fun l => decide (l.row < 1040) && decide (l.col < 536))).pwFilter (fun a b => (a.row, a.col) ≠ (b.row, b.col))

/-- An audit ends (R158): the cells beyond 1.0 level of their old targets and the largest drift are recorded; the array
is free where every cell pair erased to within 0.25 level of 0. After RETIRE_OLD it is not erased (R160). -/
def auditEnds (d p : Nat) (o : AuditObs) (s : State) : State :=
  match auditChannel s d p with
  | none => s
  | some k =>
    let host := s.nvm.retireOld.contains (physKey d p)
    let drifts := (inArray o.found).map (fun l => (l.level - 256 * cellCode s d p l.row l.col).natAbs)
    let s := { s with nvm := { s.nvm with retireOld := s.nvm.retireOld.filter (· != physKey d p) } }
    let s := updPhys d p (fun x => { x with
      auditCells := min 65535 (drifts.filter (fun n => decide (256 < n))).length
      auditDrift := min 65535 (drifts.foldl max 0)
      audits := min 65535 (x.audits + 1) }) (dropChannel d k false s)
    let s := if host then retireArray d p 4 s
      else if (inArray o.erased).all (fun l => levelOk 64 0 l.level) = false then
        (let (n, s) := takeFree s
         retireArray d p 2 { s with nvm := { s.nvm with cells := mput s.nvm.cells (physKey d p) (Config.partialCells n) } })
      else
        let s := { s with nvm := { s.nvm with cells := mdel s.nvm.cells (physKey d p) } }
        if 10000 ≤ (physOf s d p).programs then retireArray d p 3 s else freeArray d p s
    cmdGoOn d s

/-- AUDIT_COMPLETE (R158). -/
def execAuditComplete (dt : Nat) (die : Luna) (phys : BitVec 13) (obs : AuditObs) (s : State) : Result :=
  act dt (inClass 7 (auditEnds die phys.toNat obs)) s

/-- Audits begin at a boundary, channels allowing: the window holds back their erase only (R145, R155). -/
def startAudits (d : Nat) : List Nat → State → State
  | [], s => s
  | p :: es, s =>
    let (ok, s) := startChannel d .audit p 0xFFFF false s
    if ok then
      startAudits d es (updLunaDie d (fun x => { x with
        auditDue := x.auditDue.filter (· != p), auditHeld := x.auditHeld.filter (· != p) }) s)
    else s

/-! ## INSTALL_COMPLETE, APPLY, CANCEL and the command register -/

/-- INSTALL has completed on a die; on all sixteen it writes a new install record, one of 64 in a ring (R568, R574). -/
def noteInstall (d : Nat) (s : State) : State :=
  let c := (lunaDie s d).cmd
  let all := s.boot.installDone.filter (·.1 != d) ++ [(d, c.done, c.failed)]
  if all.length < 16 then { s with boot := { s.boot with installDone := all } }
  else
    let n := match s.nvm.installs.getLast? with | none => 0 | some r => r.seq + 1
    let rec_ : InstallRec := { seq := n, wingset := s.secure.wingset, poweredS := s.modLife.poweredS + poweredNow s, hostTime := s.modLife.hostTime, programmed := (all.map (·.2.1)).sum, failed := (all.map (·.2.2)).sum, equiv := (reg s 0x108).toNat }
    let keep := s.nvm.installs.drop (s.nvm.installs.length - 63)
    nvTouch { s with
      boot := { s.boot with installDone := [] }
      modLife := { s.modLife with installs := s.modLife.installs + 1 }
      nvm := { s.nvm with installs := keep ++ [rec_] } }

/-- INSTALL has no array left: RESULT (R150). -/
def installEnds (d : Nat) (s : State) : State :=
  let c := (lunaDie s d).cmd
  if c.busy = false ∨ c.op ≠ 1 ∨ c.cancelAt.isSome = true ∨ c.todo ≠ [] ∨ c.erase ≠ [] ∨
      (cmdChannels s d).isEmpty = false then s
  else if c.failed = 0 then noteInstall d (endCmd d 0 s)
  else raise (refPage d) Evt.INSTALL_INCOMPLETE (d + c.failed * 2 ^ 8) (noteInstall d (endCmd d 3 s))

/-- INSTALL_COMPLETE (R150). -/
def execInstallComplete (dt : Nat) (die : Luna) (s : State) : Result := act dt (installEnds die) s

/-- CANCEL (R170): at once where no channel works for the command; an INSTALL whose last channel is done has completed.
With no command in progress it does nothing, and no event tells of it. [DESIGN CHOICE: log 38] -/
def cancelCmd (d : Nat) (s : State) : State :=
  let c := (lunaDie s d).cmd
  if !c.busy then s
  else if c.op = 1 ∧ c.todo = [] ∧ c.erase = [] ∧ (cmdChannels s d).isEmpty = true then installEnds d s
  else cancelEnd d (updCmd d (fun c => { c with cancelAt := some (sclk s), todo := [], erase := [], waiting := false }) s)

/-- A write of REFRESH_CMD (R148, R156, R159, R162, R170). -/
def refreshCmdWrite (d : Nat) (v : Word) (s : State) : State :=
  let op := fld v 31 28
  if op = 4 then cancelCmd d s
  else if (lunaDie s d).cmd.busy then refreshInvalid d 0x104 v s
  else if op = 1 then (if isStopped s && s.secure.shadowOk then installCmd d (flag v 26) s else refreshInvalid d 0x104 v s)
  else if op = 2 then replaceCmd d (fld v 11 0) (fld v 25 13) (flag v 27) (flag v 26) v s
  else if op = 3 then
    (if isStopped s then swapMany d 16 (updCmd d (fun _ => {}) s) else refreshInvalid d 0x104 v s)
  else if op = 5 then retireCmd d (fld v 25 13) v s
  else refreshInvalid d 0x104 v s

/-- INSTALL (R149). -/
def execInstall (dt : Nat) (die : Luna) (repair : Bool) (s : State) : Result :=
  actHost dt (pgLuna die 3) (refreshCmdWrite die (word (2 ^ 28 + one repair * 2 ^ 26))) s
/-- REPLACE (R159). -/
def execReplace (dt : Nat) (die : Luna) (logical : BitVec 12) (phys : BitVec 13) (retireOld repair : Bool) (s : State) :
    Result :=
  actHost dt (pgLuna die 3) (refreshCmdWrite die (word (2 * 2 ^ 28 + one retireOld * 2 ^ 27 + one repair * 2 ^ 26 + phys.toNat * 2 ^ 13 +
    logical.toNat))) s
/-- APPLY (R156). -/
def execApply (dt : Nat) (die : Luna) (s : State) : Result := actHost dt (pgLuna die 3) (refreshCmdWrite die (word (3 * 2 ^ 28))) s
/-- CANCEL (R170). -/
def execRefreshCancel (dt : Nat) (die : Luna) (s : State) : Result := actHost dt (pgLuna die 3) (refreshCmdWrite die (word (4 * 2 ^ 28))) s
/-- RETIRE (R162). -/
def execRetire (dt : Nat) (die : Luna) (phys : BitVec 13) (s : State) : Result :=
  actHost dt (pgLuna die 3) (refreshCmdWrite die (word (5 * 2 ^ 28 + phys.toNat * 2 ^ 13))) s

/-- REFRESH_AGE_WARN (R168). -/
def ageWarn (d : Nat) (s : State) : State :=
  (validLogicals s d).foldl (fun s a =>
    let age := refreshAge s d (mapOf s d a).phys
    if age < 1800 ∨ s.nvm.ageWarned.contains (d * 4096 + a) = true then s
    else raise (refPage d) Evt.REFRESH_AGE_WARN (d + a * 2 ^ 8 + min age 65535 * 2 ^ 20)
      { s with nvm := { s.nvm with ageWarned := s.nvm.ageWarned ++ [d * 4096 + a] } }) s

/-- A write of REFRESH_OFF_HOURS (R166). -/
def offHoursWrite (d : Nat) (v : Word) (s : State) : State :=
  if s.boot.committed || s.boot.offHours.contains d then refreshInvalid d 0x118 v s
  else
    ageWarn d (setReg (refReg d 0x118) v { s with
      boot := { s.boot with offHours := s.boot.offHours ++ [d] }
      life := mupd {} s.life d (fun l => { l with ageClock := l.ageClock + v.toNat }) })

/-- REFRESH_OFF_HOURS (R166). -/
def execRefreshOffHours (dt : Nat) (die : Luna) (hours : Word) (s : State) : Result := actHost dt (pgLuna die 3) (offHoursWrite die hours) s

/-- A write of REFRESH_STAGE_BASE lays out the staging pool anew (R141, R169). -/
def stageBaseWrite (d : Nat) (v : Word) (s : State) : State :=
  if !isStopped s then refreshInvalid d 0x11C v s
  else
    let b := fld v 25 0
    updLunaDie d (fun x => { x with stages := (List.range 16).map (fun k => b + 768 * k) })
      (setReg (refReg d 0x11C) (word b) s)

/-! ## At a breath boundary (R146, R151, R155, R168) -/

/-- A number takes its place in an ascending list. -/
def ascInsert (a : Nat) (l : List Nat) : List Nat := l.filter (fun b => decide (b < a)) ++ a :: l.filter (fun b => decide (a < b))

/-- Channels of a die stop: rotations are abandoned, host commands deferred, audits held (R146, R457). -/
def stopChannels (d : Nat) (cs : List (Nat × Channel)) (s : State) : State :=
  let s := cs.foldl (fun s e =>
    let c := e.2
    let s := dropChannel d e.1 false (breakOff d e.1 s)
    match c.kind with
    | .rotate => freeArray d c.phys s
    | .replace => updCmd d (fun x => { x with deferred := true, waiting := true }) (freeArray d c.phys s)
    | .install => updCmd d (fun x => { x with deferred := true, todo := ascInsert c.logical x.todo }) s
    | .erase => updCmd d (fun x => { x with deferred := true, erase := ascInsert c.logical x.erase }) s
    | .audit => updLunaDie d (fun x => { x with auditHeld := x.auditHeld ++ [c.phys] }) s) s
  if (lunaDie s d).cmd.cancelAt.isSome then cancelEnd d s else s

/-- Every channel of a die stops. -/
def holdChannels (d : Nat) (s : State) : State := stopChannels d (lunaDie s d).channels s

/-- Channels stop where the estimate has left the window (R146): all of them when it leaves, and an audit that began
outside before it erases (R145). [DEDUCED: log 38] -/
def windowStop (d : Nat) (s : State) : State :=
  let x := lunaDie s d
  let s := updLunaDie d (fun x => { x with inWindow := progWindow s d }) s
  let cs := x.channels.filter (fun c => x.inWindow || pulsing d s.clk.now c.2)
  if progWindow s d || cs.isEmpty then s
  else raise (refPage d) Evt.PROG_DEFERRED (d + estC s d * 2 ^ 8 + cs.length * 2 ^ 16)
    (bump (refReg d 0x130) cs.length (stopChannels d cs s))

/-- The logical array with the greatest refresh age, lowest index on a tie, among some. -/
def oldest (s : State) (d : Nat) (as : List Nat) : Option Nat :=
  as.foldl (fun b a => match b with
    | none => some a
    | some c => if refreshAge s d (mapOf s d c).phys < refreshAge s d (mapOf s d a).phys then some a else some c) none

/-- At most one rotation starts on a die (R151, R152). A malformed shadow record fails the program of the spare chosen,
which goes to RETIRED like any spare that fails (R137, R153). [DEDUCED: log 38] -/
def rotationStart (d : Nat) (s : State) : State :=
  let pol := force s (refReg d 0x100)
  let x := lunaDie s d
  let active := (x.channels.filter (fun c => c.2.kind == .rotate)).length + (x.pending.filter (·.rotation)).length
  let maxA := max 1 (fld pol 27 24)
  if flag pol 31 = false ∨ maxA ≤ active ∨ sparePool s d < 16 ∨ (inState s d 0).length ≤ fld pol 23 16 ∨
      progWindow s d = false then s
  else
    let busy := x.channels.map (·.2.logical) ++ x.pending.map (·.logical) ++
      (if x.cmd.busy && x.cmd.op == 2 then [x.cmd.logical] else [])
    match oldest s d ((validLogicals s d).filter (fun a => !busy.contains a)) with
    | none => s
    | some a =>
      if refreshAge s d (mapOf s d a).phys < clamp 100 1900 (fld pol 15 0) then s
      else
        match chooseSpare s d with
        | none => s
        | some p =>
          if !shadowFormed s d a then retireArray d p 1 (verifyFail d p a 0 0 s)
          else
            let (ok, s) := startChannel d .rotate p a (flag pol 28) s
            if ok then updPhys d p (fun y => { y with state := 2 }) s else s

/-- Pulsing channels are charged for the coming breath (R435, R436): 375 pJ an ACLK cycle. [DEDUCED: log 38] -/
def chargeChannels (d : Nat) (s : State) : State :=
  let n := ((lunaDie s d).channels.filter (fun c => c.2.gatedAt.isNone && pulsing d s.clk.now c.2)).length
  if n = 0 then s else charge d 6 0 0 (n * (s.breath.ticks / 4) * 37500) s

/-- What programming does at a breath boundary, die by die. -/
def refreshBoundary (s : State) : State :=
  let s := noteGates s
  let s := { s with luna := { s.luna with betaOld := [] } }
  (List.range 16).foldl (fun s d =>
    let s := windowStop d s
    let x := lunaDie s d
    let audits := if calibrating s d then [] else x.auditDue ++ (if progWindow s d then x.auditHeld else [])
    let s := startAudits d audits (cmdGoOn d s)
    chargeChannels d (ageWarn d (rotationStart d s))) s

/-- A die's arrays at power-up: swaps without a confirm are discarded, PROGRAMMING returns to FREE_SPARE, audits
start again (R157). -/
def refreshPowerUp (d : Nat) (s : State) : State :=
  let sw := s.nvm.swaps.filter (·.1 == d)
  let s := sw.foldl (fun s w =>
    raise (refPage d) Evt.SWAP_DISCARDED (d + w.2.1 * 2 ^ 8 + w.2.2 * 2 ^ 20 + 2 * 2 ^ 33) (freeArray d w.2.2 s)) s
  let s := { s with nvm := { s.nvm with swaps := s.nvm.swaps.filter (·.1 != d) } }
  let s := (inState s d 2).foldl (fun s p => freeArray d p s) s
  updLunaDie d (fun x => { x with auditDue := inState s d 3 }) s

/-! ## Registers -/

/-- REFRESH_CMD_STATUS. -/
def refreshStatusWord (s : State) (d : Nat) : Word :=
  let c := (lunaDie s d).cmd
  word (c.result + min 15 c.failed * 2 ^ 8 + c.done % 8192 * 2 ^ 12 + one c.deferred * 2 ^ 30 + one c.busy * 2 ^ 31)

/-- REFRESH_ACTIVITY. -/
def refreshActivityWord (s : State) (d : Nat) : Word :=
  let x := lunaDie s d
  word (x.channels.length + min 31 (inState s d 3).length * 2 ^ 8 + min 31 x.pending.length * 2 ^ 16 +
    sparePool s d * 2 ^ 23)

/-- REFRESH_OLDEST. -/
def refreshOldestWord (s : State) (d : Nat) : Word :=
  match oldest s d (validLogicals s d) with
  | none => 0
  | some a => word (min 65535 (refreshAge s d (mapOf s d a).phys) + a * 2 ^ 20)

end Sys2Proof.Machine
end

