-- ==== Sys2Proof/Machine/Colcal.lean ====
section
/-! DEFINITION. Column converter calibration and the baseline check (R97 to R99, R457 to R460). -/

namespace Sys2Proof.Machine

open Sys2Proof.Map Sys2Proof.Fp

def colPage (d : Nat) : Nat := pgLuna d 4
def colReg (d off : Nat) : Nat := Reg.luna d 4 off

def colRec (s : State) (d p : Nat) : ColRec := mget {} s.luna.colRecs (physKey d p)

def setColRec (d p : Nat) (x : ColRec) (s : State) : State :=
  { s with luna := { s.luna with colRecs := mset {} s.luna.colRecs (physKey d p) x } }

/-- CCLK cycles of a COLCAL: 76,000,000 ACLK cycles (R457). -/
abbrev colcalCclk : Nat := 608000000

/-- A COLCAL of a die begins (R457, and R563 at start-up). -/
def colcalBegin (d : Nat) (s : State) : State :=
  updLunaDie d (fun x => { x with colSince := some s.clk.now, colDone := false, checking := false, checkFrom := 0 })
    (setFld (colReg d 0x104) 23 16 (estC s d) s)

/-- Trackers of a die back to UNSEEDED (R96, R457). -/
def unseedDie (d : Nat) (s : State) : State :=
  { s with luna := { s.luna with trackers := s.luna.trackers.filter (fun e => e.1 / 8192 != d) } }

/-- A host COLCAL of a die (R457). -/
def colcalHost (d : Nat) (s : State) : State :=
  let s := holdChannels d (unseedDie d s)
  colcalBegin d { s with boot := { s.boot with baselined := s.boot.baselined.filter (· != d) } }

/-- A write of COLCAL_CMD (R457). [DEDUCED: log 40] -/
def colcalCmd (d : Nat) (v : Word) (s : State) : State :=
  let dies := if flag v 1 then List.range 16 else [d]
  if !flag v 0 then s
  else if beforeReadyLocal s || !isStopped s || dies.any (calibrating s) then
    cmdInvalidPg Evt.HKC_CMD_INVALID (colReg d 0x100) v s
  else dies.foldl (fun s d => colcalHost d s) s

/-- COLCAL_GO (R457). -/
def execColcalGo (dt : Nat) (die : Luna) (all : Bool) (s : State) : Result :=
  actHost dt (pgLuna die 4) (colcalCmd die (word (1 + 2 * one all))) s

/-- Failed column ADCs of an observation, each once. -/
def colFails (o : ColcalObs) : List Nat := (o.colFail.filter (fun a => decide (a < 68))).eraseDups

/-- The record of one array with failed converters or trims (R459, R460). -/
def colcalArray (d : Nat) (o : ColcalObs) (s : State) : State :=
  let cols := colFails o
  let rows := min o.rowFail 128
  let s := setColRec d o.phys
    { cols := (cols.map (2 ^ ·)).sum, rows := rows, offset := min o.maxOffset 255, gain := min o.maxGain 255 } s
  if cols.isEmpty && rows == 0 then s
  else
    let s := bump (colReg d 0x10C) (cols.length + rows) s
    let s := setFld (colReg d 0x104) 12 0 (regFld s (colReg d 0x104) 12 0 + 1) s
    raise (colPage d) Evt.COLCAL_CONVERTER_FAIL (d + o.phys * 2 ^ 8 + cols.length * 2 ^ 21 + rows * 2 ^ 28) s

/-- The observations of a die, one of each array; an array not among them shows nothing. -/
def colcalOf (d : Nat) (found : List ColcalObs) : List ColcalObs :=
  (found.filter (fun o => o.die.val == d && decide (o.phys < physCount))).pwFilter (fun a b => a.phys ≠ b.phys)

/-- A COLCAL of a die ends: its window is written afresh (R459, R460). -/
def colcalRecord (d : Nat) (found : List ColcalObs) (s : State) : State :=
  let s := { s with luna := { s.luna with colRecs := s.luna.colRecs.filter (fun e => e.1 / 8192 != d) } }
  let s := setFld (colReg d 0x104) 12 0 0 s
  (colcalOf d found).foldl (fun s o => colcalArray d o s) s

/-- A COLCAL's time is over. -/
def colcalDue (s : State) (d : Nat) : Bool :=
  match (lunaDie s d).colSince with
  | none => false
  | some t => decide (t + colcalCclk ≤ s.clk.now)

/-- COLCAL_END (R457, R459). -/
def execColcalEnd (dt : Nat) (die : Luna) (found : List ColcalObs) (s : State) : Result :=
  act dt (fun s =>
    if colcalDue s die then
      updLunaDie die (fun x => { x with colSince := none, checking := true, checkFrom := 0 }) (inClass 8 (colcalRecord die found) s)
    else s) s

/-! ## The baseline check -/

/-- Passes an array's check takes: four quarter passes where its pass, of activity 4,096, splits (R52, R54, R98,
R99). -/
def baselinePasses (s : State) (d p : Nat) : Nat :=
  let level := (mapOf s d (physOf s d p).logical).level
  if flag (force s (coreReg d 0x100)) 1 || decide (30720 < 4096 * level) then 4 else 1

/-- The reports have the shape the check gives them: for each listed array its passes, eight codes each. -/
def baselineShape (s : State) (d : Nat) (obs : List BaselineObs) : Bool :=
  obs.all (fun o => o.die.val != d ||
    (o.refs.length == baselinePasses s d o.phys && o.refs.all (fun r => r.refs.length == 8)))

/-- Arrays of a die that the report does not list: they show the codes of an array without drift, and are seeded
with ĝ = 1 and ô = 0 (R97, R98). [DEDUCED: log 40] -/
def baselineQuiet (d : Nat) (ps : List Nat) (s : State) : State :=
  let mine := s.luna.trackers.filter (fun e => e.1 / 8192 == d)
  let t : Tracker := { g := one32, last := diePowered s d, state := 1 }
  let new := ps.foldr (fun p m => mset {} m (physKey d p) t) mine
  let kept := s.luna.margins.filter (fun e => e.1 / 8192 == d)
  let clear := fun (m : SMap Margin) (e : Nat × Margin) =>
    if ps.contains (e.1 % 8192) then mset {} m e.1 { lowHour := e.2.lowHour } else m
  let lapsed := (lunaDie s d).lapsed.filter (fun x => !(x % 4 == 3 && ps.contains (mapOf s d (x / 4)).phys))
  let s := updLunaDie d (fun x => { x with lapsed := lapsed }) s
  { s with luna := { s.luna with
    trackers := s.luna.trackers.filter (fun e => decide (e.1 / 8192 < d)) ++ new ++
      s.luna.trackers.filter (fun e => decide (d < e.1 / 8192))
    margins := kept.foldl clear s.luna.margins } }

/-- The passes of a die's check run array by array, while the CALIB gate is open and reads are not blocked (R75, R98,
R437): they are charged and counted, and a charge of one is in the spend when the next starts. Answers the arrays whose
passes have run and the first that waits. -/
def baselineCharge (d : Nat) : List Nat → State → List Nat × Option Nat × State
  | [], s => ([], none, s)
  | p :: ps, s =>
    if readsBlocked s d || !startOpen s 8 then ([], some p, s)
    else
      let n := baselinePasses s d p
      let r := baselineCharge d ps (settle true (ownPasses d 8 (if n = 1 then 1 else 0) (if n = 1 then 0 else 1) s))
      (p :: r.1, r.2.1, r.2.2)

/-- One listed array's codes are looked at (R51, R127); its tracker is seeded, or it is LOST and its failure is logged
(R98). [DEDUCED: log 40] -/
def baselineArray (d : Nat) (o : BaselineObs) (s : State) : State :=
  let s := codeSetsOf d o.phys (physOf s d o.phys).logical false (decide (o.refs.length ≠ 1)) o.refs s
  let v := baselineValues s d o.phys o.refs
  match baselineSeed v with
  | some v => seedTracker d o.phys v.1 v.2 s
  | none =>
    raise (picPage d) Evt.REF_BASELINE_FAIL (d + o.phys * 2 ^ 8 + (match v with | none => 2047 | some v => gainMilli v.1) * 2 ^ 21)
      (setTrk d o.phys { trkOf s d o.phys with state := 3, lost := true } s)

/-- The report of an array in a check, if it is listed. -/
def baselineFind (d p : Nat) (obs : List BaselineObs) : Option BaselineObs :=
  obs.find? (fun o => o.die.val == d && o.phys == p)

/-- The check of a die goes on over its IN_USE arrays (R98, R99, R457): it is done when none is left. -/
def baselineRun (d : Nat) (obs : List BaselineObs) (s : State) : State :=
  let ps := (inState s d 1).filter (fun p => decide ((lunaDie s d).checkFrom ≤ p))
  let (ran, left_, s) := baselineCharge d ps s
  let s := baselineQuiet d (ran.filter (fun p => (baselineFind d p obs).isNone)) s
  let s := (ran.filterMap (fun p => baselineFind d p obs)).foldl (fun s o => baselineArray d o s) s
  match left_ with
  | some p => updLunaDie d (fun x => { x with checkFrom := p }) s
  | none =>
    let s := updLunaDie d (fun x => { x with checking := false, checkFrom := 0, colDone := true }) s
    { s with boot := { s.boot with baselined := d :: s.boot.baselined.filter (· != d) } }

/-! ## Registers -/

/-- COLCAL_STATUS. -/
def colcalStatusWord (s : State) (d : Nat) : Word :=
  putFlag (putFlag (reg s (colReg d 0x104)) 31 (lunaDie s d).colSince.isSome) 30 (lunaDie s d).colDone

/-- A record's twelve bytes (R460). -/
def colRecBytes (x : ColRec) : Bytes :=
  toBytes 9 x.cols ++ toBytes 1 x.rows ++ toBytes 1 x.offset ++ toBytes 1 x.gain

/-- A word of a die's COLCAL window (R460). -/
def colcalWindowWord (s : State) (d o : Nat) : Word :=
  if o < 12 * physCount then word (byteField (colRecBytes (colRec s d (o / 12))) (o % 12 / 4 * 4) (o % 12 / 4 * 4 + 3))
  else 0

end Sys2Proof.Machine
end

