-- ==== Sys2Proof/Machine/Fabric.lean ====
section
/-! DEFINITION. The Shawm fabric (R478 to R503): geometry and training, link replay, forwarding, remote writes
and replies, fault notices, and the Drone synchroniser (R504 to R512). -/

namespace Sys2Proof.Machine

open Sys2Proof.Map

def shawmReg (p off : Nat) : Nat := ra (pgShawm p) off

/-! ## Geometry and HELLO (R478 to R481) -/

/-- R479: a port that faces the outside of a LINE dimension. -/
def portDisabled (s : State) (p : Nat) : Bool :=
  if p = 0 then !wrapX s && myX s + 1 == dimX s
  else if p = 1 then !wrapX s && myX s == 0
  else if p = 2 then !wrapY s && myY s + 1 == dimY s
  else !wrapY s && myY s == 0

/-- Coordinates of the neighbour on a face. -/
def neighbour (s : State) (p : Nat) : Nat × Nat :=
  let X := dimX s; let Y := dimY s
  if p = 0 then ((myX s + 1) % X, myY s) else if p = 1 then ((myX s + X - 1) % X, myY s)
  else if p = 2 then (myX s, (myY s + 1) % Y) else (myX s, (myY s + Y - 1) % Y)

def helloPasses (s : State) (p : Nat) (h : Hello) : Bool :=
  decide (h.shape.toNat = regFld s Reg.SHAWM_MACHINE 3 0) && decide ((h.x.toNat, h.y.toNat) = neighbour s p)

/-- ROUTE_OK once every trained port has passed (R481). [DEDUCED: log 68] -/
def routeCheck (s : State) : State :=
  { s with fabric := { s.fabric with
      routeOk := (List.range 4).all (fun p => !(portOf s p).up || (portOf s p).helloOk) } }

/-- Send a HELLO on a trained port. -/
def sendHello (p : Nat) (s : State) : State :=
  if (portOf s p).up then emit (.link p 3 [myX s, myY s, regFld s Reg.SHAWM_MACHINE 3 0]) s else s

/-- A HELLO arrives (R481). -/
def helloArrives (p : Nat) (h : Hello) (s : State) : State :=
  if !(portOf s p).up then s
  else
    let ok := helloPasses s p h
    let s := setPort p { portOf s p with
      hello := some h, partner := h.y.toNat * dimX s + h.x.toNat, helloOk := ok } s
    let n := neighbour s p
    let s := if ok then s else raise (pgShawm p) Evt.SHAWM_WIRING
      (p + h.x.toNat * 2 ^ 2 + h.y.toNat * 2 ^ 5 + n.1 * 2 ^ 8 + n.2 * 2 ^ 11) s
    routeCheck s

/-- HELLO (R481). -/
def execHello (dt : Nat) (port : Port) (msg : Hello) (s : State) : Result := act dt (helloArrives port msg) s

/-- A shape that R478 supports, with coordinates inside it. -/
def machineValid (v : Word) : Bool :=
  !(flag v 0 && !flag v 1) && decide (fld v 10 8 < if flag v 0 then 8 else 4) &&
  decide (fld v 14 12 < if flag v 1 then 8 else 4)

/-- A write of SHAWM_MACHINE (R480, R481): the shape is checked anew on every port, and a HELLO leaves on each.
[DEDUCED: log 68] -/
def machineWrite (v : Word) (s : State) : State :=
  if !isStopped s || !machineValid v then cmdInvalidPg Evt.SHAWM_CMD_INVALID Reg.SHAWM_MACHINE v s
  else
    let s := setReg Reg.SHAWM_MACHINE (v &&& 0x770F) s
    let s := (List.range 4).foldl (fun s p =>
      setPort p { portOf s p with helloOk := (match (portOf s p).hello with
        | none => false
        | some h => helloPasses s p h) } s) s
    (List.range 4).foldl (fun s p => sendHello p s) (routeCheck s)

/-- SHAWM_MACHINE_WRITE (R480, R481). -/
def execShawmMachineWrite (dt : Nat) (value : Word) (s : State) : Result := actHost dt 0 (machineWrite value) s

/-- The port is enabled: SHAWM_CONFIG.EN at its training, and R479. -/
def portEnabled (s : State) (p : Nat) : Bool := flag (force s (shawmReg p 0x104)) 0 && !portDisabled s p

/-- SHAWM_ROUTE_STATUS as it reads. -/
def routeStatusWord (s : State) : Word :=
  let h := (List.range 4).map (fun p => if (portOf s p).helloOk || !portEnabled s p then 2 ^ (p + 1) else 0)
  word (one s.fabric.routeOk + h.sum + moduleId s * 2 ^ 8 + one (isLead s) * 2 ^ 15 + machineSize s * 2 ^ 16)

/-! ## Training (R482, R483) -/

/-- The stored spares of a port: TX × 16 + RX. -/
def spareOf (s : State) (p : Nat) : Nat := mget 0xFF s.nvm.shawmSpare p

/-- A training of a port starts: EN takes effect, the link carries nothing until it ends. [DEDUCED: log 68] -/
def trainStart (p : Nat) (s : State) : State :=
  let a := shawmReg p 0x104
  let s := { s with regs := { s.regs with inForce := mset (regReset a) s.regs.inForce a (reg s a) } }
  let on := portEnabled s p
  setPort p { ({} : ShawmPort) with training := on } s

/-- A training ends (R482, R483): no partner, a failing lane or a disagreement on spares fails it.
[DEDUCED: log 68] -/
def trainEnd (p : Nat) (o : PortObs) (s : State) : State :=
  let sp := spareOf s p
  let cause := if !o.partner then 1 else if !o.laneFail.isEmpty then 2
    else if o.partnerTxSpare.toNat ≠ sp % 16 ∨ o.partnerRxSpare.toNat ≠ sp / 16 then 3 else 0
  let s := o.laneFail.foldl (fun s l =>
    raise (pgShawm p) Evt.SHAWM_LANE_FAIL (p + one l.1 * 2 ^ 2 + l.2 % 16 * 2 ^ 3) s) s
  if cause = 0 then
    sendHello p (routeCheck (setPort p { ({} : ShawmPort) with
      up := true, delay := o.delay.toNat, ackAt := s.clk.now } s))
  else raise (pgShawm p) Evt.SHAWM_TRAIN_FAIL (p + cause * 2 ^ 2)
    (setPort p { ({} : ShawmPort) with trainFail := true } s)

/-- SHAWM_TRAINING_END (R483): due while the port trains. -/
def execShawmTrainingEnd (dt : Nat) (port : Port) (obs : PortObs) (s : State) : Result :=
  act dt (fun s => if (portOf s port).training then trainEnd port obs s else s) s

/-- A write of SHAWM_RETRAIN_CMD (R483). -/
def retrainCmd (p : Nat) (v : Word) (s : State) : State :=
  let tx := fld v 7 4
  let rx := fld v 3 0
  let bad := fun n => decide (8 ≤ n ∧ n ≤ 14)
  if !flag v 31 then s
  else if !isStopped s || bad tx || bad rx then cmdInvalidPg Evt.SHAWM_CMD_INVALID (shawmReg p 0x108) v s
  else trainStart p { s with nvm := { s.nvm with shawmSpare := mset 0xFF s.nvm.shawmSpare p (tx * 16 + rx) } }

/-- SHAWM_RETRAIN (R483). -/
def execShawmRetrain (dt : Nat) (port : Port) (tx rx : BitVec 4) (s : State) : Result :=
  actHost dt (pgShawm port) (retrainCmd port (word (2 ^ 31 + tx.toNat * 16 + rx.toNat))) s

/-- SHAWM_STATUS as it reads. -/
def shawmStatusWord (s : State) (p : Nat) : Word :=
  let x := portOf s p
  let sp := spareOf s p
  word (one x.up + one x.training * 2 + one x.trainFail * 4 + one x.helloOk * 8 + x.partner % 64 * 2 ^ 8 +
    sp % 16 * 2 ^ 16 + sp / 16 % 16 * 2 ^ 20)

/-! ## Link layer: receiving (R486 to R488) -/

/-- Send a cumulative ACK. -/
def sendAck (p : Nat) (s : State) : State :=
  let x := portOf s p
  emit (.link p 1 [(x.rxSeq - 1).toNat]) (setPort p { x with sinceAck := 0, ackAt := s.clk.now } s)

/-- A numbered frame is accepted: an ACK leaves at least every 64 frames (R486). -/
def accept (p packets : Nat) (s : State) : State :=
  let x := portOf s p
  let s := bump64 (shawmReg p 0x124) (72 * packets)
    (setPort p { x with rxSeq := x.rxSeq + 1, nakSent := false, sinceAck := x.sinceAck + 1 } s)
  if 64 ≤ x.sinceAck + 1 then sendAck p s else s

/-- A numbered frame arrives on an up port and is accepted; a port that is not up brings none. [DEDUCED: log 67] -/
def receive (p packets : Nat) (f : State → State) (s : State) : State :=
  if (portOf s p).up then f (accept p packets s) else s

/-- SHAWM_FRAME_INVALID (R488): cause 1 field, 2 destination, 3 source. -/
def frameInvalid (p type cause : Nat) (s : State) : State :=
  raise (pgShawm p) Evt.SHAWM_FRAME_INVALID (p + type * 2 ^ 2 + cause * 2 ^ 6) s

/-- The cause that makes a frame invalid, 0 for none (R488, R499). [DEDUCED: log 70] -/
def frameCause (s : State) (f : AnyFrame) : Nat :=
  if 5 ≤ f.type.toNat ∨ 9 ≤ f.packets.toNat ∨ f.zerosOk = false ∨
      (f.type = 2 ∧ (f.op = 0 ∨ 8 < f.op.toNat)) then 1
  else if (f.type = 0 ∨ f.type = 2) ∧ f.op ≠ 6 ∧ machineSize s ≤ f.dst.toNat then 2
  else if (f.type = 1 ∨ f.type = 3) ∧ f.src ≠ 0 then 3
  else 0

/-- SHAWM_FRAME_INVALID (R488): the link acknowledges the frame normally. -/
def execShawmFrameInvalid (dt : Nat) (frame : AnyFrame) (s : State) : Result :=
  act dt (fun s => if frameCause s frame = 0 then s
    else receive frame.port frame.packets.toNat (frameInvalid frame.port frame.type.toNat (frameCause s frame)) s) s

/-- FRAME_CRC_ERROR (R486): the frame is discarded, and one NAK names the frame expected. -/
def crcError (p : Nat) (crcBad : Bool) (seq : BitVec 20) (s : State) : State :=
  let x := portOf s p
  if !x.up || (!crcBad && seq == x.rxSeq) then s
  else
    let s := if crcBad then bump (shawmReg p 0x114) 1 s else s
    if x.nakSent then s else emit (.link p 2 [x.rxSeq.toNat]) (setPort p { x with nakSent := true } s)

def execFrameCrcError (dt : Nat) (port : Port) (crcBad : Bool) (seq : BitVec 20) (s : State) : Result :=
  act dt (crcError port crcBad seq) s

/-- SHAWM_ACK_TIMER (R486). -/
def execShawmAckTimer (dt : Nat) (port : Port) (s : State) : Result :=
  act dt (fun s => if (portOf s port).up then sendAck port s else s) s

/-! ## Link layer: sending again (R487) -/

/-- The waiting frame that a port sends next (R491): SYNC, CONTROL, then TENSOR and BROADCAST by turns; within a class forwarded
frames and the module's own by turns, each in their order. -/
def nextFrame (x : ShawmPort) : Option LinkFrame :=
  let has := fun c => x.waiting.any (fun f => frameType f.frame == c)
  let c := if has 3 then 3 else if has 2 then 2 else if has 0 && (!has 1 || !x.lastTensor) then 0 else 1
  let own := x.waiting.find? (fun f => frameType f.frame == c && f.recv.isNone)
  let fwd := x.waiting.find? (fun f => frameType f.frame == c && f.recv.isSome)
  if x.lastFwd.contains c then own.or fwd else fwd.or own

/-- Frames that wait go out while the window of 512 has room; the number bounds them. -/
def sendWaiting (p : Nat) : Nat → State → State
  | 0, s => s
  | n + 1, s =>
    let x := portOf s p
    if 512 ≤ x.unacked.length then s
    else match nextFrame x with
      | none => s
      | some f => sendWaiting p n (transmit p f (setPort p { x with waiting := x.waiting.erase f } s))

/-- Sequence number of the oldest unacknowledged frame. -/
def oldestSeq (x : ShawmPort) : BitVec 20 := x.txSeq - BitVec.ofNat 20 x.unacked.length

/-- ACK (R486, R487): every frame up to the one named leaves the window. -/
def ackArrives (p : Nat) (seq : BitVec 20) (s : State) : State :=
  let x := portOf s p
  let n := (seq - oldestSeq x).toNat + 1
  if !x.up || decide (x.unacked.length < n) then s
  else sendWaiting p x.waiting.length (setPort p { x with
    unacked := x.unacked.drop n, oldestAt := s.clk.now, replays := 0 } s)

def execAck (dt : Nat) (port : Port) (seq : BitVec 20) (s : State) : Result := act dt (ackArrives port seq) s

/-- Replay from a frame of the window (R487): counted, and after eight replays of one frame no more.
[DEDUCED: log 67] -/
def replay (p : Nat) (seq : BitVec 20) (s : State) : State :=
  let x := portOf s p
  let k := (seq - oldestSeq x).toNat
  if !x.up || decide (x.unacked.length ≤ k) then s
  else
    let n := if x.replaySeq = seq then x.replays + 1 else 1
    let s := setPort p { x with replaySeq := seq, replays := n, oldestAt := s.clk.now } s
    if 8 < n then s
    else
      let s := collect Evt.SHAWM_REPLAY p 1 (bump (shawmReg p 0x110) 1 s)
      ((List.range x.unacked.length).zip x.unacked).foldl (fun s e =>
        let q := (oldestSeq x + BitVec.ofNat 20 e.1).toNat
        if k ≤ e.1 then emit (.frame p q e.2.frame (linkCrc q e.2)) s else s) s

/-- NAK (R487). -/
def execNak (dt : Nat) (port : Port) (seq : BitVec 20) (s : State) : Result := act dt (replay port seq) s

/-- SHAWM_REPLAY_TIMEOUT (R487): due 2 µs after the oldest frame went without an ACK. -/
def execShawmReplayTimeout (dt : Nat) (port : Port) (s : State) : Result :=
  act dt (fun s =>
    let x := portOf s port
    if x.unacked.isEmpty || decide (s.clk.now < x.oldestAt + 3200) then s else replay port (oldestSeq x) s) s

/-! ## Link down and fault notices (R487, R495) -/

/-- A notice floods every trained port but the one it came in on, if any. -/
def flood (n : Nat × Nat × Nat) (code : Nat) (except : Option Nat) (s : State) : State :=
  (List.range 4).foldl (fun s p =>
    let f : Frame := .control false n.1 n.1 6 [code, n.2.1, n.2.2]
    match except with
    | none => sendFrame p f s
    | some q => if p = q then s else sendOn q p f f s) s

/-- The threads waiting for a reply that `q` picks complete LINK_DOWN. -/
def repliesLost (q : Xfer → Bool) (s : State) : State :=
  (s.mem.threads.filter (fun e => e.2.phase == .waitReply && q e.2)).foldl
    (fun s e => completeNow (e.1 / 1024) (e.1 % 1024) 6 0 s) s

/-- Writes whose path over a port failed before they landed (R311). -/
def flightsLost (p : Nat) (s : State) : State :=
  s.mem.wins.foldl (fun s e => e.2.flight.foldl (fun s f =>
    if f.src ≠ moduleId s ∧ arrivalPort s f.src = p ∧ f.got < f.packets then winDropped e.1 f s else s) s) s

/-- A link goes down (R487, R495): FATAL, and a FAULT_NOTICE on every other trained port. [DEDUCED: log 67] -/
def linkDown (p cause : Nat) (dir : Bool) (lane : Nat) (s : State) : State :=
  let x := portOf s p
  let s := if cause = 2 then
      raise (pgShawm p) Evt.SHAWM_LANE_FAIL (p + one dir * 2 ^ 2 + lane * 2 ^ 3) s else s
  let s := raise (pgShawm p) Evt.SHAWM_LINK_DOWN (p + cause * 2 ^ 2 + (oldestSeq x).toNat * 2 ^ 4) s
  let n := (moduleId s, p, tick s % 2 ^ 32)
  let s := { s with fabric := { s.fabric with notices := s.fabric.notices ++ [n] } }
  let s := repliesLost (fun t => (routePort s t.dst).any (fun r => r.1 == p)) s
  let s := setPort p { x with up := false, unacked := [], waiting := [] } (flightsLost p s)
  if s.fabric.routeOk then flood n Evt.SHAWM_LINK_DOWN none s else s

/-- SHAWM_LINK_DOWN (R487, R495): cause 1 is due when eight replays of one frame have failed. -/
def execShawmLinkDown (dt : Nat) (port : Port) (cause : BitVec 2) (dir : Bool) (lane : BitVec 4) (s : State) :
    Result :=
  act dt (fun s =>
    let x := portOf s port
    if !x.up || cause == 0 || (cause == 1 && decide (x.replays ≤ 8)) then s
    else linkDown port cause.toNat dir lane.toNat s) s

/-- A FAULT_NOTICE arrives (R495): a new one is forwarded, stops issue and ends every wait for a reply. -/
def noticeArrives (f : FaultNotice) (s : State) : State :=
  let n := (f.src.toNat, f.linkPort.toNat, f.tick.toNat)
  if s.fabric.notices.contains n then s
  else
    let s := { s with fabric := { s.fabric with notices := s.fabric.notices ++ [n] } }
    let s := flood n f.code.toNat (some f.port.val) s
    let s := raise (pgShawm f.port) Evt.SHAWM_FAULT_NOTICE
      (f.src.toNat + f.linkPort.toNat * 2 ^ 6 + f.code.toNat * 2 ^ 8) s
    let s := repliesLost (fun _ => true) s
    if s.seq.fatal = none then { s with seq := { s.seq with fatal := some Evt.SHAWM_FAULT_NOTICE } } else s

/-- FAULT_NOTICE (R495). -/
def execFaultNotice (dt : Nat) (notice : FaultNotice) (s : State) : Result :=
  act dt (receive notice.port 0 (noticeArrives notice)) s

/-! ## Remote writes and replies (R489 to R494, R307 to R311) -/

/-- Forward a frame toward another module (R489, R490): VC 1 across a wrap link, VC 0 at the turn from X to Y.
[DEDUCED: log 67] -/
def forward (inPort dst : Nat) (vc : Bool) (f : Bool → Frame) (s : State) : State :=
  match routePort s dst with
  | none => s
  | some (p, wrap) =>
    let turn := decide (inPort < 2 ∧ 2 ≤ p)
    sendOn inPort p (f vc) (f (wrap || (vc && !turn))) s

/-- The owner's answer to a SEND (R493). -/
def sendReply (src die th st : Nat) (s : State) : State :=
  sendTo src (fun vc => .control vc (moduleId s) src 1 [die, th, st]) s

/-- A TENSOR frame for this module: the check on a first frame, and the landing of its packets. -/
def tensorLands (f : WriteFrame) (s : State) : State :=
  let w := f.window.toNat
  let land := winLand w f.src.toNat f.die.toNat f.thread.toNat f.offset.toNat f.data
  if f.first then
    let (st, s) := winAdmit w f.src.toNat f.die.toNat f.thread.toNat f.offset.toNat f.length.toNat
      (if f.port.val < 2 then 1 else 3) s
    if st = 0 then land s else sendReply f.src.toNat f.die.toNat f.thread.toNat st s
  else land s

/-- A TENSOR frame arrives. -/
def tensorArrives (f : WriteFrame) (s : State) : State :=
  if machineSize s ≤ f.dst.toNat then frameInvalid f.port 0 2 s
  else if f.dst.toNat = moduleId s then tensorLands f s
  else forward f.port f.dst.toNat f.vc (fun vc => .tensor { f with vc := vc }) s

/-- An admitted write has landed in full (R310, R493). -/
def writeLanded (w src die th : Nat) (s : State) : State :=
  match (winOf s w).flight.find? (isFlight src die th) with
  | none => s
  | some f =>
    if f.got < f.packets then s
    else
      let s := winLanded w f s
      let st := if f.poison then 5 else 0
      if src = moduleId s then endThread die th st 0 s else sendReply src die th st s

/-- WINDOW_WRITE_LANDED (R310). -/
def execWindowWriteLanded (dt : Nat) (window : BitVec 12) (src : BitVec 6) (die : BitVec 5) (thread : BitVec 10)
    (s : State) : Result := act dt (writeLanded window.toNat src.toNat die.toNat thread.toNat) s

/-- A reply for a thread that waits for it; a later one is discarded (R493, R494). [DEDUCED: log 67] -/
def replyArrives (p die th st : Nat) (s : State) : State :=
  if 7 ≤ st then frameInvalid p 2 1 s
  else
    match threadOf s die th with
    | none => s
    | some x =>
      if x.phase ≠ .waitReply then s
      else
        let win := match placeOf die (dDst x.desc.bytes) with | some (.window _ w _) => w | _ => 0
        let s := if st = 3 then
            let (f, s) := takeFree s
            senderClosed die x.dst win (1 + f % 2) s
          else s
        completeNow die th st (if st = 2 then 1 else 0) s

/-- XFER_REPLY (R493). -/
def execXferReply (dt : Nat) (port : Port) (die : BitVec 5) (thread : BitVec 10) (status : BitVec 3) (s : State) :
    Result := act dt (receive port 0 (replyArrives port die.toNat thread.toNat status.toNat)) s

/-- SHAWM_REPLY_TIMEOUT in ticks: at least 8,000. -/
def replyTimeout (s : State) : Nat := max 8000 (reg s Reg.SHAWM_REPLY_TIMEOUT).toNat

/-- A reply has not come in time (R494). -/
def replyLate (die th : Nat) (s : State) : State :=
  match threadOf s die th with
  | none => s
  | some x =>
    if x.phase ≠ .waitReply ∨ tick s < x.sentAt + replyTimeout s then s
    else
      let p := ((routePort s x.dst).map (·.1)).getD 0
      completeNow die th 6 0 (raise (pgShawm p) Evt.SHAWM_REPLY_TIMEOUT (die + th * 2 ^ 8 + x.dst * 2 ^ 18) s)

/-- SHAWM_REPLY_TIMEOUT (R494). -/
def execShawmReplyTimeout (dt : Nat) (die : Die) (thread : BitVec 10) (s : State) : Result :=
  act dt (replyLate die thread.toNat) s

/-! ## Broadcast (R501) -/

/-- The ports on which this module sends a broadcast frame on. -/
def treePorts (s : State) : List Nat :=
  (if myY s = 0 ∧ myX s + 1 < dimX s then [0] else []) ++ (if myY s + 1 < dimY s then [2] else [])

/-- A broadcast frame goes down the tree. -/
def sendTree (f : Frame) (s : State) : State := (treePorts s).foldl (fun s p => sendFrame p f s) s

/-- BROADCAST_FRAME (R501): forwarded; its records are BCAST_RECORD's. -/
def execBroadcastFrame (dt : Nat) (port : Port) (src : BitVec 6) (packets : List Bytes) (s : State) : Result :=
  if packets.length ≤ 8 then
    act dt (receive port packets.length (fun s =>
      if src ≠ 0 then frameInvalid port 1 3 s
      else (treePorts s).foldl (fun s p => sendOn port p (.broadcast packets) (.broadcast packets) s) s)) s
  else .fault (.illFormed "BROADCAST_FRAME")

/-! ## The Drone synchroniser (R504 to R512) -/

/-- The code of STATE. -/
def droneCode (d : DroneState) : Nat :=
  match d with
  | .free => 0 | .acquiring => 1 | .locked => 2 | .holdover => 3 | .unlocked => 4

/-- DRONE_STATUS as it reads. -/
def droneStatusWord (s : State) : Word :=
  word (droneCode s.drone.state + one (isLead s) * 8 + satSigned 16 s.drone.theta * 2 ^ 16)

/-- A loaded counter moves every tick that a duration is measured from: what lasts goes on lasting as long.
[DEDUCED: log 69] -/
def moveTicks (δ : Int) (s : State) : State :=
  let f := fun (t : Nat) => ((t : Int) + δ).toNat
  { s with
    atlas := { s.atlas with
      lastSample := f s.atlas.lastSample
      samples := s.atlas.samples.map (fun e => (e.1, { e.2 with tick := f e.2.tick })) }
    hkc := s.hkc.map (fun e => (e.1, if e.2.scanning then { e.2 with scanTick := f e.2.scanTick } else e.2))
    therm := { s.therm with
      seededAt := if s.therm.seeded then f s.therm.seededAt else s.therm.seededAt
      history := s.therm.history.map (fun e => (f e.1, e.2)) }
    mem := { s.mem with threads := s.mem.threads.map (fun e =>
      (e.1, if e.2.phase == .waitReply then { e.2 with sentAt := f e.2.sentAt } else e.2)) }
    breath := { s.breath with gateFrom := f s.breath.gateFrom } }

/-- The counter and BREATH_NUMBER are loaded from a SYNC on entry to ACQUIRING (R507, R508). [DEDUCED: log 69] -/
def droneLoad (θ : Int) (number : Word) (s : State) : State :=
  let c := ((s.drone.count : Int) - Int.tdiv θ 16).toNat
  let p := s.breath.ticks
  let s := moveTicks ((c : Int) - s.drone.count) s
  { s with
    drone := { s.drone with count := c, state := .acquiring, rho := 0, carry := 0, corr := 0, next := 0, armed := false, good := 0 }
    breath := { s.breath with number := number, start := c - c % p, ticksAt := 0 } }

/-- R505: the whole ticks to apply in the next breath, and the sixteenths carried on. [DEDUCED: log 69] -/
def droneCorrect (rho theta : Int) (s : State) : State :=
  let corr := rho - theta + s.drone.carry
  let n := Int.tdiv corr 16
  { s with drone := { s.drone with rho := rho, next := n, carry := corr - 16 * n } }

/-- R506: a breath begins with what the one before left to apply; its corrections are spread evenly, in UNLOCKED
as close as R506 lets them stand. [DEDUCED: log 69] -/
def droneSpread (s : State) : State :=
  let d := s.drone
  let n := d.corr + d.next
  let every := if d.state = .unlocked ∨ n = 0 then 1024 else max 1024 (s.breath.ticks / n.natAbs)
  { s with drone := { d with corr := n, next := 0, every := every, lastCorr := d.count } }

/-- Consecutive SYNCs within two ticks lock the synchroniser (R507). -/
def droneGood (θ : Int) (s : State) : State :=
  let n := if θ.natAbs ≤ 32 then s.drone.good + 1 else 0
  if 8 ≤ n then raise 6 Evt.DRONE_LOCKED (unsigned 16 θ)
    { s with drone := { s.drone with good := 0, state := .locked } }
  else { s with drone := { s.drone with good := n } }

def droneUnlock (θ : Int) (s : State) : State :=
  raise 6 Evt.DRONE_UNLOCK (unsigned 32 θ) { s with drone := { s.drone with state := .unlocked, good := 0 } }

/-- The state after a SYNC with offset θ (R507, R509). [DEDUCED: log 69] -/
def droneNext (θ : Int) (s : State) : State :=
  match s.drone.state with
  | .free => s
  | .acquiring | .unlocked => droneGood θ s
  | .locked =>
    let s := if 64 < θ.natAbs ∧ s.drone.offsetSeen = false then
        raise 6 Evt.DRONE_OFFSET (unsigned 32 θ) { s with drone := { s.drone with offsetSeen := true } } else s
    if 1024 < θ.natAbs then droneUnlock θ s else s
  | .holdover =>
    if 1024 < θ.natAbs then droneUnlock θ s
    else raise 6 Evt.DRONE_LOCKED (unsigned 16 θ) { s with drone := { s.drone with state := .locked } }

/-- A SYNC is used (R505 to R510). -/
def syncUse (f : SyncFrame) (s : State) : State :=
  let path := f.accum.toNat + (portOf s f.port).delay
  let θ : Int := (f.arrival : Int) - (f.master : Int) - (path : Int)
  let s := { s with drone := { s.drone with theta := θ, path := path, synced := true, missed := 0 } }
  let s := bump Reg.DRONE_SYNC_COUNT 1 s
  let s := highWater Reg.DRONE_OFFSET_MAX 31 0 (min θ.natAbs 0xFFFFFFFF) s
  let own := actTicks (reg s Reg.BREATH_TICKS).toNat
  let lead := f.breathTicks.toNat
  let s := if lead = own then s
    else
      let seen := s.drone.mismatch
      let s := { s with drone := { s.drone with mismatch := lead } }
      if seen = lead then s
      else raise 6 Evt.DRONE_BREATH_MISMATCH (lead % 2 ^ 22 + own * 2 ^ 22) s
  if isStopped s && (s.drone.state == .free || s.drone.armed) then droneLoad θ f.breathNumber s
  else if s.drone.state = .free then s
  else droneCorrect (s.drone.rho - Int.tdiv θ 8) θ (droneNext θ s)

/-- A SYNC arrives: forwarded with this module's delay added, and used unless DRONE_CONFIG turns that off. -/
def syncArrives (f : SyncFrame) (s : State) : State :=
  if f.src ≠ 0 then frameInvalid f.port 3 3 s
  else if isLead s then s
  else
    let delay := (portOf s f.port).delay
    let s := (treePorts s).foldl (fun s p =>
      sendOn f.port p (.sync f.master f.accum.toNat f.breathTicks.toNat f.breathNumber.toNat)
        (.sync f.master (f.accum.toNat + delay + (if p = 0 then f.resX else f.resY))
        f.breathTicks.toNat f.breathNumber.toNat) s) s
    if flag (reg s Reg.DRONE_CONFIG) 0 then syncUse f s else s

/-- SYNC (R505). -/
def execSync (dt : Nat) (frame : SyncFrame) (s : State) : Result :=
  act dt (receive frame.port 1 (syncArrives frame)) s

/-- DRONE_CORRECTION (R506): the next add or hold of the breath is due; an add never skips a multiple of 800.
[DEDUCED: log 69] -/
def droneStep (s : State) : State :=
  let d := s.drone
  if d.corr = 0 ∨ d.count < d.lastCorr + d.every then s
  else if 0 < d.corr then
    (if d.count % 800 = 0 then s
    else { s with drone := { d with count := d.count + 1, corr := d.corr - 1, lastCorr := d.count } })
  else { s with drone := { d with count := d.count - 1, corr := d.corr + 1, lastCorr := d.count } }

def execDroneCorrection (dt : Nat) (s : State) : Result := act dt droneStep s

/-- DRONE_HOLDOVER (R507): a LOCKED synchroniser without a SYNC for four breaths. -/
def droneHold (s : State) : State :=
  if s.drone.state = .locked ∧ 4 ≤ s.drone.missed then
    raise 6 Evt.DRONE_HOLDOVER s.drone.missed { s with drone := { s.drone with state := .holdover } }
  else s

def execDroneHoldover (dt : Nat) (s : State) : Result := act dt droneHold s

/-- The Drone's part of a breath boundary: a module other than the lead counts a breath without a SYNC, and
slews at the learned rate alone in HOLDOVER; the lead sends its SYNC (R504, R507). [DEDUCED: log 69] -/
def droneBoundary (s : State) : State :=
  if isLead s then
    (if flag (reg s Reg.DRONE_CONFIG) 0 && s.fabric.routeOk then
      sendTree (.sync (16 * tick s) 0 s.breath.ticks s.breath.number.toNat) s else s)
  else
    let d := s.drone
    let s := { s with drone := { d with synced := false, offsetSeen := false } }
    if d.state = .free then s
    else
      let s := if d.synced then s
        else bump Reg.DRONE_SYNC_MISS_COUNT 1 { s with drone := { s.drone with missed := d.missed + 1 } }
      droneSpread (if d.state = .holdover ∧ d.synced = false then droneCorrect s.drone.rho 0 s else s)

/-- A write of DRONE_CONFIG: SYNC_EN, and RESYNC while stopped on a module other than the lead (R507). -/
def droneConfig (v : Word) (s : State) : State :=
  let s := setReg Reg.DRONE_CONFIG (v &&& 1) s
  if !flag v 1 then s
  else if !isStopped s || isLead s then cmdInvalidPg Evt.SHAWM_CMD_INVALID Reg.DRONE_CONFIG v s
  else { s with drone := { s.drone with armed := true } }

/-- RESYNC (R507): SYNC_EN keeps its value. -/
def execResync (dt : Nat) (s : State) : Result :=
  actHost dt 6 (fun s => droneConfig (word (2 + regFld s Reg.DRONE_CONFIG 0 0)) s) s

/-! ## Event notices (R520) -/

/-- The lead learns of an event of another module; vector 4 when a bit rises. -/
def remoteNotice (m : Nat) (s : State) : State :=
  let a := Reg.PCIE_REMOTE_PENDING + 4 * (m / 32)
  let was := flag (reg s a) (m % 32)
  let s := hwSetBits a (word (2 ^ (m % 32))) s
  if was then s else msix 4 s

/-- EVENT_NOTICE (R520): on the lead. -/
def execEventNotice (dt : Nat) (src : BitVec 6) (code : BitVec 16) (severity : BitVec 3) (s : State) : Result :=
  act dt (fun s => if isLead s then
    receive (arrivalPort s src.toNat) 0 (fun s =>
      if 5 ≤ severity.toNat ∨ code.toNat / 0x10000 ≠ 0 then frameInvalid (arrivalPort s src.toNat) 2 1 s
      else remoteNotice src.toNat s) s
    else s) s

/-- A clearing write of PCIE_REMOTE_PENDING: bits that a notice set in the same SCLK cycle stay (R13), and vector
4 is signalled again when any bit is left (R519). -/
def remoteClear (high : Bool) (v : Word) (s : State) : State :=
  let a := Reg.PCIE_REMOTE_PENDING + (if high then 4 else 0)
  let r := freshCycle s
  let keep := mget 0 r.hwSet a
  let s := setReg a (reg s a &&& (~~~ v ||| keep)) { s with regs := r }
  if reg s Reg.PCIE_REMOTE_PENDING = 0 ∧ reg s (Reg.PCIE_REMOTE_PENDING + 4) = 0 then s else msix 4 s

/-- PCIE_REMOTE_PENDING_CLEAR (R13, R520). -/
def execPcieRemotePendingClear (dt : Nat) (high : Bool) (value : Word) (s : State) : Result :=
  actHost dt 0xA (remoteClear high value) s

end Sys2Proof.Machine
end

