-- ==== Sys2Proof/Machine/Pcie.lean ====
section
/-! DEFINITION. The PCIe endpoint (R513 to R519): link, resets, configuration, invalid accesses, BAR2's memory. -/

namespace Sys2Proof.Machine

open Sys2Proof.Map

/-- MSI-X table and pending bits as at reset, PCIE_LINK_STATUS clear (R515). [PRESUMED: log 19] -/
def clearConfig (s : State) : State :=
  let s := (List.range 256).foldl (fun s k => setReg (0xA800 + 4 * k) (regReset (0xA800 + 4 * k)) s) s
  let s := setReg 0xAC04 0 (setReg 0xAC00 0 (setReg Reg.PCIE_LINK_STATUS 0 s))
  { s with host := { s.host with busMaster := false, d3hot := false } }

/-- PCIE_RESET (R515): kind 1 PERST#, 2 hot reset, 3 function-level reset; nothing else is reset. -/
def pcieResets (kind : Nat) (s : State) : State := raise 0xA Evt.PCIE_RESET kind (clearConfig s)

def execPcieReset (dt : Nat) (kind : BitVec 2) (s : State) : Result :=
  act dt (fun s => if kind = 0 then s else pcieResets kind.toNat s) s

/-- Pending messages are sent once link, Bus Master Enable and D0 are back (R516). -/
def msixDeliver (s : State) : State :=
  if !(s.host.linkUp && s.host.busMaster && !s.host.d3hot) then s
  else (List.range 64).foldl (fun s v =>
    if flag (reg s (0xAC00 + 4 * (v / 32))) (v % 32) && !flag (reg s (0xA800 + 16 * v + 12)) 0 then
      emit (.msix v) (updReg (0xAC00 + 4 * (v / 32)) (fun w => putFlag w (v % 32) false) s)
    else s) s

/-- PCIE_LINK_DOWN (R516). -/
def pcieDown (s : State) : State :=
  if !s.host.linkUp then s
  else raise 0xA Evt.PCIE_LINK_DOWN 0
    (setFld Reg.PCIE_LINK_STATUS 9 9 0 { s with host := { s.host with linkUp := false } })

def execPcieLinkDown (dt : Nat) (s : State) : Result := act dt pcieDown s

/-- A link trains (R513, R516), not while PWRGD is low (R609): it answers from the end of start-up step 2 (R564).
[DESIGN CHOICE: log 24] -/
def pcieUp (speed width : Nat) (flit : Bool) (s : State) : State :=
  if !s.host.refclk || !s.clk.pwrGood then s
  else
    let s := setReg Reg.PCIE_LINK_STATUS (word (speed + width * 2 ^ 4 + one flit * 2 ^ 8 + 2 ^ 9))
      { s with host := { s.host with linkUp := true } }
    let s := if speed < 6 ∨ width < 4 then raise 0xA Evt.PCIE_LINK_DEGRADED (speed + width * 2 ^ 4) s else s
    msixDeliver s

/-- PCIE_LINK_UP (R513, R516): due at a speed and width the endpoint supports. -/
def execPcieLinkUp (dt : Nat) (speed : BitVec 4) (width : BitVec 3) (flit : Bool) (s : State) : Result :=
  act dt (fun s =>
    if 1 ≤ speed.toNat ∧ speed.toNat ≤ 6 ∧ ([1, 2, 4] : List Nat).contains width.toNat = true ∧ s.host.linkUp = false then
      pcieUp speed.toNat width.toNat flit s
    else s) s

/-- PCIE_CONFIG_WRITE (R513, R516). -/
def execPcieConfigWrite (dt : Nat) (busMaster d3hot : Bool) (s : State) : Result :=
  act dt (fun s => msixDeliver { s with host := { s.host with busMaster := busMaster, d3hot := d3hot } }) s

/-- AER_ERROR (R513). -/
def execAerError (dt : Nat) (uncorrectable : Bool) (status : Word) (s : State) : Result :=
  act dt (fun s =>
    if uncorrectable then raise 0xA Evt.PCIE_UNCORRECTABLE status.toNat (bump Reg.PCIE_UNCORR_COUNT 1 s)
    else bump Reg.PCIE_CORR_COUNT 1 s) s

/-- PCIE_DATA_POISON (R517): a word of BAR2 that cannot be corrected is returned poisoned. -/
def execPcieDataPoison (dt : Nat) (offset : Word) (s : State) : Result :=
  act dt (fun s => raise 0xA Evt.PCIE_DATA_POISON offset.toNat (emit .hostPoison s)) s

/-- Entries of the submission and completion rings, as powers of two. -/
def ringLog2 (s : State) (a : Nat) : Nat := clamp 6 16 (regFld s a 4 0)

/-- A BAR2 access that R514 allows. -/
def bar2Valid (s : State) (offset bytes : Nat) (write : Bool) : Bool :=
  if write then
    decide (4 ≤ bytes ∧ bytes ≤ 64 ∧ bytes % 4 = 0 ∧ offset % 4 = 0) && decide (0x01000000 ≤ offset) &&
      decide (offset + bytes ≤ 0x01000000 + 64 * 2 ^ ringLog2 s Reg.HAWK_SUB_RING)
  else ([4, 8, 16, 32, 64] : List Nat).contains bytes && decide (offset % bytes = 0)

/-- An invalid access: a read returns all ones, a write is discarded (R514). -/
def accessInvalid (bar offset bytes : Nat) (write : Bool) (s : State) : State :=
  let s := if write then s else emit (.hostData 0xFFFFFFFF) s
  raise 0xA Evt.PCIE_ACCESS_INVALID (bar + offset * 2 ^ 2 + bytes * 2 ^ 34 + one write * 2 ^ 41)
    (bump Reg.PCIE_ACCESS_INVALID_COUNT 1 s)

/-- BAR2_ACCESS_INVALID (R514): due for an access that its BAR does not decode. -/
def execBar2AccessInvalid (dt : Nat) (bar : BitVec 2) (offset : Word) (bytes : BitVec 7) (write : Bool) (s : State) :
    Result :=
  act dt (fun s =>
    let ok := if bar = 2 then bar2Valid s offset.toNat bytes.toNat write
      else bytes = 4 && decide (offset.toNat % 4 = 0)
    if ok || s.host.d3hot then s else accessInvalid bar.toNat offset.toNat bytes.toNat write s) s

/-- Bytes of host-interface memory behind BAR2 (R517). [DESIGN CHOICE: log 8] -/
def setBar2 (o : Nat) : Bytes → State → State
  | [], s => s
  | b :: bs, s => setBar2 (o + 1) bs { s with host := { s.host with bar2 := mset 0 s.host.bar2 o b } }

def bar2Read (s : State) (o n : Nat) : Bytes := (List.range n).map (fun i => mget 0 s.host.bar2 (o + i))

end Sys2Proof.Machine
end

