-- ==== Sys2Proof/Machine/Memory.lean ====
section
/-! DEFINITION. The memories' own commands and register writes (R283 to R302): scrubbing, bank repair and
self-test, HBM regions and row retirement, ring and window tables, resident regions. -/

namespace Sys2Proof.Machine

open Sys2Proof.Map

def memInvalid (a : Nat) (v : Word) (s : State) : State := cmdInvalidPg Evt.MEM_CMD_INVALID a v s

/-! ## Banks (R285) -/

/-- SPAD_REPAIR of a die: USED and BANKk. -/
def spareUsed (s : State) (d k : Nat) : Bool := flag (mget 0 s.nvm.banks d) (28 + k)
def spareBank (s : State) (d k : Nat) : Nat := fld (mget 0 s.nvm.banks d) (7 * k + 6) (7 * k)
def spareBad (s : State) (d k : Nat) : Bool := bit (mget 0 s.nvm.spareFail d) k

/-- Spares that serve a logical bank: used, good and naming it. -/
def bankServed (s : State) (d b : Nat) : Bool :=
  (List.range 4).any (fun k => spareUsed s d k && !spareBad s d k && spareBank s d k == b)

/-- Logical banks that need a spare, given the banks found failed: failed ones, and those whose spare failed. -/
def banksNeeding (s : State) (d : Nat) (failed : List Nat) : List Nat :=
  (List.range 128).filter (fun b =>
    (failed.contains b || (List.range 4).any (fun k => spareUsed s d k && spareBank s d k == b)) &&
    !bankServed s d b)

/-- Banks found failed on a die at its last self-test. -/
def failedBanks (s : State) (d : Nat) : List Nat := (s.mem.bankFail.filter (·.1 == d)).map (·.2)

/-- A self-test of a die ends with the banks found failed, spares from 128 on (R285). [DEDUCED: log 50] -/
def selfTestEnd (d : Nat) (failed : List Nat) (s : State) : State :=
  let bad := (List.range 4).foldl (fun m k => if failed.contains (128 + k) && !bit m k then m + 2 ^ k else m)
    (mget 0 s.nvm.spareFail d)
  let s := { s with
    nvm := { s.nvm with spareFail := mset 0 s.nvm.spareFail d bad }
    mem := { s.mem with
      selfTest := mset false s.mem.selfTest d false
      bankFail := s.mem.bankFail.filter (·.1 != d) ++ failed.map (fun b => (d, b)) } }
  (banksNeeding s d failed).foldl (fun s b => raise (spadPage d) Evt.SPAD_BANK_FAIL (d + b * 2 ^ 8) s) s

/-- SPAD_SELF_TEST_END (R285): due while the self-test of SPAD_REPAIR_CMD runs. -/
def execSpadSelfTestEnd (dt : Nat) (die : Die) (failed : List Nat) (s : State) : Result :=
  act dt (fun s => if mget false s.mem.selfTest die then selfTestEnd die failed s else s) s

/-- Each bank that needs a spare takes the lowest available one, in ascending order. -/
def assignSpares (d : Nat) : List Nat → List Nat → State → State
  | b :: bs, k :: ks, s =>
    let w := putFld (putFlag (mget 0 s.nvm.banks d) (28 + k) true) (7 * k + 6) (7 * k) b
    assignSpares d bs ks { s with nvm := { s.nvm with banks := mset 0 s.nvm.banks d w } }
  | _, _, s => s

/-- A write of SPAD_REPAIR_CMD (R285). -/
def spadRepairCmd (d : Nat) (v : Word) (s : State) : State :=
  if !flag v 0 then s
  else if !isStopped s then memInvalid (spadReg d 0x10C) v s
  else
    let need := banksNeeding s d (failedBanks s d)
    let free := (List.range 4).filter (fun k => !spareUsed s d k && !spareBad s d k)
    if free.length < need.length then setFld (spadReg d 0x100) 31 31 1 s
    else
      let s := assignSpares d need free (setFld (spadReg d 0x100) 31 31 0 s)
      { s with mem := { s.mem with selfTest := mset false s.mem.selfTest d true } }

/-- SPAD_REPAIR (R285). -/
def execSpadRepair (dt : Nat) (die : Die) (s : State) : Result := actHost dt (pgSpad die) (spadRepairCmd die 1) s

/-- SPAD_INFO as it reads. -/
def spadInfoWord (s : State) (d : Nat) : Word :=
  putFld (putFld (reg s (spadReg d 0x100)) 30 27 (mget 0 s.nvm.spareFail d)) 26 0 (spadWords d)

/-! ## Scrubbing (R283) -/

/-- The period of SCRUB_HOURS powered hours that is now, from 1. -/
def scrubPeriod (s : State) (d : Nat) : Nat := poweredNow s / 3600 / regFld s (spadReg d 0x104) 7 0 + 1

/-- The next word of a die that its scrub has to read: each once in a period, in rising order, words of which no read is
reported among them, for reading those shows nothing. [DESIGN CHOICE: log 50] -/
def scrubNext (s : State) (d : Nat) : Nat :=
  let x := mget (0, 0) s.mem.scrubAt d
  if x.1 = scrubPeriod s d then x.2 else 0

/-- One word is read through a free port and rewritten when it was corrected, once in the period; class AUDIT.  `bad`
says that the read found it uncorrectable (R282). -/
def scrub (d w : Nat) (corrected bad : Bool) (s : State) : State :=
  if spadWords d ≤ w ∨ regFld s (spadReg d 0x104) 7 0 = 0 ∨ startOpen s 7 = false ∨ w < scrubNext s d then s
  else
    let s := { s with mem := { s.mem with scrubAt := mset (0, 0) s.mem.scrubAt d (scrubPeriod s d, w + 1) } }
    inClass 7 (spadEcc d (if corrected && !bad then 1 else 0) (if bad then [w] else [])) s

/-- SPAD_SCRUB (R283). -/
def execSpadScrub (dt : Nat) (die : Die) (word : BitVec 26) (corrected uncorrectable : Bool) (s : State) : Result :=
  act dt (scrub die word.toNat corrected uncorrectable) s

/-! ## Rows of HBM (R301, R302) -/

def rowsRetired (s : State) (st : Nat) : Nat := (s.nvm.rows.filter (fun r => r / 2 ^ 27 == st)).length

/-- The module is faulted by a stack that retires more than its controller can (R19, R302): it is FAILED as after a
stack that does not train, so no program starts. [DEDUCED: log 50] -/
def retireFault (st row : Nat) (s : State) : State :=
  let s := raise (pgHbm st) Evt.HBM_RETIRE_FULL (st + row * 2 ^ 8) s
  { s with boot := { s.boot with state := .failed, step := 5, failEvent := Evt.HBM_RETIRE_FULL } }

/-- A write of HBM_RETIRE_CMD (R301, R302). -/
def hbmRetireCmd (st : Nat) (v : Word) (s : State) : State :=
  let row := fld v 26 0
  let status := ra (pgHbm st) 0x114
  if !flag v 31 then s
  else if !isStopped s || flag (reg s status) 31 then memInvalid (ra (pgHbm st) 0x110) v s
  else if 75497472 ≤ row then memInvalid (ra (pgHbm st) 0x110) v (setReg status 2 s)
  else if 1024 ≤ rowsRetired s st then retireFault st row (setReg status 1 s)
  else { setReg status 0x80000000 s with
         mem := { s.mem with retiring := mput s.mem.retiring st row } }

/-- HBM_RETIRE (R301). -/
def execHbmRetire (dt : Nat) (stack : Stack) (row : BitVec 27) (s : State) : Result :=
  actHost dt (pgHbm stack) (hbmRetireCmd stack (word (2 ^ 31 + row.toNat))) s

/-- The copy and remap of a row end (R301): the bursts that its reads found corrected and uncorrectable are reported
(R299), and those that could not be corrected hold the poison marker. -/
def rowDone (st : Nat) (corr bad : List Nat) (s : State) : State :=
  match find? s.mem.retiring st with
  | none => s
  | some row =>
    let place := fun b => st * 2 ^ 31 + row * 16 + b
    let s := hbmEcc { hbmCorr := corr.map place, hbmUncorr := bad.map place } s
    let s := bad.foldl (fun s b => setBurstPoison (st * 2 ^ 31 + row * 16 + b) true s) s
    let s := { s with
      mem := { s.mem with retiring := mdel s.mem.retiring st }
      nvm := { s.nvm with rows := s.nvm.rows ++ [st * 2 ^ 27 + row] } }
    raise (pgHbm st) Evt.HBM_ROW_RETIRED (st + row * 2 ^ 8 + rowsRetired s st * 2 ^ 35)
      (setReg (ra (pgHbm st) 0x114) 0 s)

/-- HBM_ROW_RETIRED (R301): due while a retirement is in progress. -/
def execHbmRowRetired (dt : Nat) (stack : Stack) (corrected badBursts : List (Fin 16)) (s : State) : Result :=
  act dt (rowDone stack (corrected.map (·.val)) (badBursts.map (·.val))) s

/-- The stacks' temperature readouts of the breath, from stack 0 on (R297). -/
def stackReadouts (temps : List (BitVec 8)) (s : State) : State :=
  (List.range 24).foldl (fun s st => match temps[st]? with
    | none => s
    | some t => setFld (ra (pgHbm st) 0x100) 15 8 t.toNat s) s

/-- HBM_STATUS as it reads: TEMP_C and TRAINED are held, RETIRED is counted. -/
def hbmStatusWord (s : State) (st : Nat) : Word :=
  putFld (reg s (ra (pgHbm st) 0x100)) 26 16 (rowsRetired s st)

/-! ## Writes with rules of their own (R286, R289, R295, R306) -/

/-- Regions of a stack are allowed: valid ones end within 72 GiB and do not overlap. -/
def regionsOk (s : State) (st : Nat) : Bool :=
  let rs := ((List.range 32).map (region s st)).filter (·.1)
  rs.all (fun r => decide (r.2.1 + r.2.2.1 ≤ 0x1200000000)) &&
  (List.range rs.length).all (fun i => (List.range i).all (fun j =>
    let a := rs.getD i (false, 0, 0, 0)
    let b := rs.getD j (false, 0, 0, 0)
    decide (a.2.2.1 = 0 ∨ b.2.2.1 = 0 ∨ a.2.1 + a.2.2.1 ≤ b.2.1 ∨ b.2.1 + b.2.2.1 ≤ a.2.1)))

/-- A write of an HBM region register (R295). -/
def regionWrite (a : Nat) (v : Word) (s : State) : State :=
  let m : Word := if a % 16 = 0 then 0xFFFFFFFF else if a % 16 = 4 then 0x7FFFFFF else 0x8000000F
  let s' := setReg a (v &&& m) s
  if !isStopped s || !regionsOk s' (a / 0x1000 - 0x0C0) then memInvalid a v s else s'

/-- A write of a SPAD register that is accepted only while stopped (R286, R289). -/
def spadWrite (d a : Nat) (v : Word) (s : State) : State :=
  let off := a % 0x1000
  if !isStopped s then memInvalid a v s
  else if off = 0x110 then
    (if v.toNat % 2 = 1 then memInvalid a v s else setReg a (v &&& 0x3FFFFFF) s)
  else if off = 0x114 then
    (if 1024 < fld v 10 0 then memInvalid a v s
    else
      let s := setReg a (v &&& 0x7FF) s
      { s with mem := { s.mem with rings := s.mem.rings.filter (fun e => e.1 / 1024 != d) } })
  else setReg a (v &&& 0x3FFFFFF) s

/-- A write of WIN_TABLE. -/
def winTableWrite (a : Nat) (v : Word) (s : State) : State :=
  if !isStopped s || v.toNat % 4 != 0 then memInvalid a v s else setReg a (v &&& 0x3FFFFFF) s

/-! ## HALT_CLEAR's part (R287, R289, R312) -/

/-- Words that are not resident take the poison marker, rings start anew, windows close; the bundle store is no
general space and stays. -/
def haltMemory (s : State) : State :=
  let s := { s with mem := { s.mem with
    spad := s.mem.spad.filter (fun e =>
      decide (spadWords (e.1 / 2 ^ 26) ≤ e.1 % 2 ^ 26) || resident s (e.1 / 2 ^ 26) (e.1 % 2 ^ 26)), rings := [] } }
  closeAll s

end Sys2Proof.Machine
end

