-- ==== Sys2Proof/Machine/Sequencer.lean ====
section
/-! DEFINITION. The sequencer (R238 to R274): program start and stop, the compare point, END, timeouts, halting. -/

namespace Sys2Proof.Machine

open Sys2Proof.Map

/-! ## Starting and stopping (R261, R270 to R273) -/

/-- A tag list with every ERR bit clear (R271). -/
def clearErr (ts : SMap Tag) : SMap Tag :=
  (ts.map (fun e => (e.1, { e.2 with err := false }))).filter (fun e => decide (e.2 ≠ {}))

/-- A program starts (R270, R271): registers that wait for it take effect, STEP_ERROR and ERR clear. -/
def programStart (i : Nat) (s : State) : State :=
  match programOf s i with
  | none => bundleInvalid 16 0 0 0 s
  | some p =>
    let s := commitRegs .programStart (closeCycle s)
    let q := s.seq
    { s with
      seq := { q with
        state := .running, program := i, chosen := none, next := p.offset, last := p.offset + p.length, held := none,
        issued := none, cycle := 0, arrival := none, points := 0, split := 0, stall := 0,
        ending := false, commitReady := false, stepError := false, tags := clearErr q.tags, epoch := q.epoch + 1,
        timeoutDue := none, timeout := max 2000 (reg s Reg.SEQ_WAIT_TIMEOUT).toNat }
      tensor := { s.tensor with cycle := 0 }
      mem := { s.mem with access := [], clash := [] }
      luna := { s.luna with splits := [] }
      boot := { s.boot with offSafe := false } }

/-- BASE is set equal to COUNT for every tag (R261). -/
def rebase (ts : SMap Tag) : SMap Tag :=
  (ts.map (fun e => (e.1, { e.2 with base := e.2.count }))).filter (fun e => decide (e.2 ≠ {}))

/-- STOPPED is entered (R273); vector 3. -/
def enterStopped (s : State) : State := msix 3 { s with seq := { s.seq with state := .stopped, stall := 0 } }

/-- STOPPED is left once the firmware may start programs: the module is READY and RUN is 1 (R261, R273).
[DEDUCED: log 48] -/
def leaveStopped (s : State) : State :=
  if s.seq.state = .stopped ∧ s.seq.run = true ∧ s.boot.state = .ready then
    let s := { s with seq := { s.seq with state := .idle, tags := rebase s.seq.tags } }
    match s.seq.chosen with
    | none => s
    | some p => programStart p s
  else s

/-- After a commit issue continues at the chosen program, enters IDLE, or stops with RUN = 0 (R270, R273). -/
def afterCommit (s : State) : State :=
  if s.seq.state = .halted then s
  else if s.seq.run = false then (if s.seq.state = .stopped then s else enterStopped s)
  else if s.seq.state = .stopped then leaveStopped s
  else
    let s := { s with seq := { s.seq with state := .idle, stall := 0 } }
    match s.seq.chosen with
    | none => s
    | some p => programStart p s

/-- The planner's program: started at once from IDLE, kept until issue continues otherwise (R270, R392). -/
def choose (p : Nat) (s : State) : State :=
  if s.seq.state = .idle then programStart p s else { s with seq := { s.seq with chosen := some p } }

/-- SEQ_CONTROL.RUN (R273): without a program running there is no END to wait for. [DEDUCED: log 48] -/
def runWrite (on : Bool) (s : State) : State :=
  let s := { s with seq := { s.seq with run := on } }
  if on then leaveStopped s else if s.seq.state = .idle then enterStopped s else s

/-! ## The compare point (R263 to R267) -/

/-- The sub-slots of a bundle: die and sub-slot. -/
def allSubs : List (Nat × Nat) :=
  (List.range 16).flatMap (fun d => (List.range 4).map (fun k => (d, k))) ++ (List.range 4).map (fun h => (16 + h, 0))

/-- Every sub-slot of a bundle that executes: die and sub-slot. -/
def liveSubs (i : Issued) : List (Nat × Nat) :=
  allSubs.filter (fun e => opOf e.1 e.2 (dieSlot i.bundle e.1 e.2) != 0 && subRuns i e.1 e.2)

/-- Every operation of the issued bundle has executed. -/
def subsDone (s : State) : Bool :=
  match s.seq.issued with
  | none => true
  | some i => (liveSubs i).all (fun e => i.done.contains (e.1 * 4 + e.2))

/-- No array-group operation waits for its start and no read for its codes. -/
def arraysIdle (s : State) : Bool := s.luna.dies.all (fun e => e.2.scheduled.isEmpty && e.2.reads.isEmpty)

/-- Array work that precedes the issue cycle at hand has happened: starts in earlier cycles (R264), chunks due (R240). -/
def arraysReady (s : State) : Bool :=
  s.luna.dies.all (fun e => e.2.scheduled.all (fun op => decide (s.seq.cycle ≤ op.startCycle)) &&
    e.2.reads.all (fun r => decide (s.seq.cycle < r.due)))

/-- The compare point that now is: none between compare points (R263). [DEDUCED: log 46] -/
def pointNow (s : State) : Option Nat :=
  let a := s.seq.arrival.getD s.clk.now
  if a ≤ s.clk.now ∧ (s.clk.now - a) % 8 = 0 ∧ s.seq.points ≤ (s.clk.now - a) / 8 then some ((s.clk.now - a) / 8) else none

/-- Words of Piccolo's tables that a read of a logical array takes, its directory entry first (R115); of the static list
alone where `list` says so. -/
def picTouches (s : State) (d a : Nat) (list : Bool) : List (Nat × Nat × Bool) :=
  let dir := (forceFld s (picReg d 0x104) 25 0 + 4 * a, 4, false)
  match (picDir (fun _ => 0) d a [] s).1 with
  | .inl _ => [dir]
  | .inr e =>
    let slist := if e.slist = 0 then [] else [(e.slist, 8, false)]
    if list then dir :: slist
    else
      dir :: (e.coef, 768, false) :: slist ++ (if e.outlier = 0 then [] else [(e.outlier, e.outWords, false)]) ++
        (if e.slist = 0 then [] else [(e.srows, 128 * e.scount, false)])

/-- Accesses of a tensor operation, its flag words among them: first word, words, write. -/
def tensorTouches (s : State) (op : Nat) (t : TDesc) (c : SubCtx) : List (Nat × Nat × Bool) :=
  let n := 32 * t.blocks
  let w := wordsFor (fmtOf t.fmtA) n
  match op with
  | 1 => [(tA t c, w, false), (tB t c, wordsFor (fmtOf t.fmtB) n, false), (t.aFlags, 1, false), (t.bFlags, 1, false)]
  | 3 | 4 | 10 => [(tA t c, w, false), (t.aFlags, 1, false)]
  | 5 | 6 | 12 => [(tD t c, w, true), (t.dFlags, 1, true)]
  | 7 => [(tD t c, 72 * t.blocks, true)]
  | 8 => [(tA t c, 72 * t.blocks, false)]
  | 11 =>
    let x := vecShape t.func (fmtOf t.fmtA) (fmtOf t.fmtB) t.blocks
    [(tA t c, x.a, false), (tD t c, x.d, true), (t.aFlags, 1, false), (t.dFlags, 1, true)] ++
      [(tB t c, x.b, false)] ++
      (if t.func = 0x40 then [] else [(t.bFlags, 1, false)])
  | 13 => (tD t c, segWords (fmtOf t.fmtA) n, true) :: (t.dFlags, 1, true) :: picTouches s c.die (t.b % 4096) true
  | _ => []

/-- Accesses of an array-group operation: its segments, Piccolo's tables, the adapter terms of carriers, and the outputs
it stages with their flag word. -/
def groupTouches (s : State) (trn : Bool) (c : SubCtx) : List (Nat × Nat × Bool) :=
  match descWords s c.die 0 (agGroup c.v) 8 with
  | .inl _ => []
  | .inr b =>
    match agroupOf b with
    | .inl _ => []
    | .inr g =>
      match arrayList s c.die g.list g.count with
      | .inl _ => []
      | .inr es =>
        let row := agRow c.v c.rep
        (if g.staged then [(g.flagAddr, 1, true)] else []) ++ es.flatMap (fun e =>
          ((g.inAddr + e.seg * g.inSeg + row * g.inRow) % 2 ^ 32, 9 * (segPackets trn (agMode c.v == 1) + 1), false) ::
          (if g.staged then [((g.outAddr + e.ob * g.outBlk + row * g.outRow) % 2 ^ 32, if trn then 1024 else 512, true)]
           else []) ++ picTouches s c.die e.logical false ++
          (if e.carrier && !trn then [((g.adtAddr + row * g.adtRow) % 2 ^ 32, 129, false)] else []))

/-- The hold-mode ring that a sub-slot would break R291 or R292 in (R293). -/
def subHold (s : State) (c : SubCtx) : Option Nat :=
  let op := opOf c.die c.sub c.v
  let ringOp := fun (publish : Bool) (r : Nat) =>
    match ringInfo s c.die r with
    | none => none
    | some i =>
      if i.hold && (if publish then decide (ringFull (ringOf s c.die r) = i.slots) else decide (ringFull (ringOf s c.die r) = 0))
      then some r else none
  let touch := fun (ts : List (Nat × Nat × Bool)) =>
    (ts.flatMap (fun t => ringBreaks s c.die t.1 t.2.1 t.2.2)).findSome? (fun b =>
      match ringInfo s c.die b.1 with | none => none | some i => if i.hold then some b.1 else none)
  if 16 ≤ c.die then (if op = 4 ∨ op = 5 then ringOp (op == 4) (hubIndex c.v c.rep) else none)
  else if c.sub = 0 then touch (groupTouches s (op == 2) c)
  else if c.sub = 1 then
    (match tensorDesc s c.die op (tDesc c.v) with | .inl _ => none | .inr t => touch (tensorTouches s op t c))
  else if c.sub = 2 ∧ (op = 3 ∨ op = 4) then ringOp (op == 3) (moveIndex c.v c.rep)
  else if c.sub = 2 ∧ op = 2 then
    (match descWords s c.die 1 (moveIndex c.v c.rep) 8 with
     | .inl _ => none
     | .inr b => touch [((tdescOf b).dFlags, 1, true)])
  else none

/-- The first ring that holds a bundle. -/
def ringHolds (s : State) (i : Issued) : Option Nat :=
  (liveSubs i).findSome? (fun e => subHold s ⟨e.1, e.2, dieSlot i.bundle e.1 e.2, i.rep, bClass i.bundle, i.cycle⟩)

/-- An ISSUE finds its die's queue full (R253). -/
def queueFull (s : State) (i : Issued) : Bool :=
  (liveSubs i).any (fun e =>
    ((e.1 < 16 && e.2 == 2) || decide (16 ≤ e.1)) && opOf e.1 e.2 (dieSlot i.bundle e.1 e.2) == 1 &&
    decide (64 ≤ (queueOf s e.1).length))

/-- R260. -/
def tagMet (s : State) (t v : Nat) : Bool :=
  decide (((tagOf s t).count - ((tagOf s t).base + word v)).toNat < 2 ^ 31)

/-- END stands in the bundle's hub N slot. [DESIGN CHOICE: log 47] -/
def hasEnd (i : Issued) : Bool := (liveSubs i).contains (16, 0) && opOf 16 0 (dieSlot i.bundle 16 0) == 6

/-- The bundle's own wait holds (R245, R263): its cause, 0 when it does not. -/
def waitCause (s : State) (b : Bundle) (rep : Nat) : Nat :=
  if rep ≠ 0 then 0
  else if bWait b = 1 then (if tagMet s (bTag b) (bValue b) then 0 else 2)
  else if bWait b = 2 then (if tick s < reg64 s Reg.SEQ_STEP_START then 3 else 0)
  else if bWait b = 3 then (if outstanding s then 4 else 0)
  else 0

/-- The bundle at the execution point: as held, or the next record (R263, R268); none when it is not
decompressed, `some none` when the record cannot be decoded. -/
def atPoint (s : State) (o : IssueObs) : Option (Option (Held × Nat)) :=
  match s.seq.held with
  | some h => some (some (h, 0))
  | none =>
    if o.fetched = false ∨ s.seq.last ≤ s.seq.next then none
    else some ((record s s.seq.next).map (fun r => ({ bundle := r.1, offset := s.seq.next }, r.2)))

/-- Operations not yet started wait out an ACLK cycle of stall (R239). [DEDUCED: log 31] -/
def holdStarts (s : State) : State :=
  { s with luna := { s.luna with dies := s.luna.dies.map (fun e =>
      (e.1, { e.2 with scheduled := e.2.scheduled.map (fun op => { op with edge := op.edge + 8 }) })) } }

/-- Count one ACLK cycle of stall under the causes that hold (R239, R263, R274). [DEDUCED: log 46] -/
def countStall (causes : List Nat) (cls : Nat) (s : State) : State :=
  let s := if causes.contains 1 then
      { bump Reg.SEQ_STALL_SPLIT_COUNT 1 s with seq := { s.seq with split := s.seq.split - 1 } } else s
  let s := if causes.any (fun c => c == 2 || c == 3 || c == 4) then bump Reg.SEQ_STALL_WAIT_COUNT 1 s else s
  let s := if causes.contains 5 then
      collect Evt.SEQ_GATE_STALL cls 1 (bump Reg.SEQ_STALL_GATE_COUNT 1 s) else s
  let s := if causes.contains 6 || causes.contains 7 then bump Reg.SEQ_STALL_OTHER_COUNT 1 s else s
  holdStarts { s with seq := { s.seq with stall := causes.foldl min 7 } }

/-- Invalid fields of a bundle that executes (R244, R246). [DESIGN CHOICE: log 47] -/
def invalidFields (i : Issued) (s : State) : State :=
  let ok := fun (die slot : Nat) => !i.bad.any (fun e => e.1 == die && (e.2 == slot || e.2 == 0))
  let s := match headerInvalid i.bundle with
    | some p => bundleInvalid 16 0 0 p s
    | none => s
  allSubs.foldl
    (fun s e =>
      let v := dieSlot i.bundle e.1 e.2
      if ok e.1 (slotOf e.1) then
        match subInvalid e.1 e.2 v with
        | some p => bundleInvalid e.1 (slotOf e.1) e.2 (slotBit e.1 e.2 + p) s
        | none => if shadowMisplaced i.bundle e.1 e.2 v then
            bundleInvalid e.1 (slotOf e.1) e.2 (slotBit e.1 e.2) s else s
      else s) s

/-- A bundle, or one repetition of it, issues (R238, R239, R247). -/
def issueBundle (o : IssueObs) (h : Held) (s : State) : State :=
  let bad := o.parityBad.map (fun e => (e.1.val, e.2))
  let i : Issued := {
    bundle := h.bundle, rep := h.rep, cycle := s.seq.cycle, time := s.clk.now, bad := bad
    tableBad := o.tableBad.map (fun e => (e.1.val, e.2)) }
  let s := o.tableCorr.foldl (fun s d => spadEcc d 1 [] s) s
  let s := o.tableBad.foldl (fun s e => spadEcc e.1 0 [e.2] s) s
  let s := bad.foldl (fun s e => raise 1 Evt.SEQ_BUNDLE_PARITY (e.1 + e.2 * 2 ^ 8) s) s
  let s := invalidFields i s
  let q := s.seq
  bump64 Reg.SEQ_ISSUE_COUNT 1 { s with seq := { q with
    issued := some i, cycle := q.cycle + 1, arrival := some (s.clk.now + 1), points := 0, stall := 0
    held := if h.rep < bRepeat h.bundle then some { h with rep := h.rep + 1, waitHeld := 0, quiesceHeld := 0, ringHeld := 0 }
      else none } }

/-- The limit that a timed cause has reached: its cause and its tag or ring (R265). -/
def timeoutOf (s : State) (h : Held) (w : Nat) (quiesce : Bool) (ring : Option Nat) : Option (Nat × Nat) :=
  if w ≠ 0 ∧ s.seq.timeout ≤ h.waitHeld then some (w, if w = 2 then bTag h.bundle else 0)
  else if quiesce = true ∧ s.seq.timeout ≤ h.quiesceHeld then some (4, 0)
  else match ring with
    | some r => if s.seq.timeout ≤ h.ringHeld then some (6, r) else none
    | none => none

/-- SEQ_LATE_START (R267): a STEP_START wait satisfied at the bundle's first compare point, 4 ticks or more late. -/
def lateStart (h : Held) (point : Nat) (s : State) : State :=
  let late := tick s - reg64 s Reg.SEQ_STEP_START
  if bWait h.bundle = 2 ∧ h.rep = 0 ∧ point = 0 ∧ 4 ≤ late then
    raise 1 Evt.SEQ_LATE_START (s.seq.program + late % 2 ^ 32 * 2 ^ 12) s
  else s

/-- The bundle at hand as its cycle would execute it. -/
def atHand (s : State) (o : IssueObs) (h : Held) : Issued :=
  { bundle := h.bundle, rep := h.rep, cycle := s.seq.cycle, time := s.clk.now,
    bad := o.parityBad.map (fun e => (e.1.val, e.2)) }

/-- What holds a bundle at its compare point (R263): its wait, QUIESCE, the ring that holds it, and all causes. -/
structure Stalls where
  wait : Nat
  quiesce : Bool
  ring : Option Nat
  causes : List Nat
deriving DecidableEq, Repr

/-- The stall causes at a compare point; `seen` is the state as its cycle's operations would find it. -/
def stallsAt (s seen : State) (o : IssueObs) (h : Held) : Stalls :=
  let i := atHand s o h
  let w := waitCause s h.bundle h.rep
  let quiesce := hasEnd i && h.rep == 0 && outstanding s
  let ring := ringHolds { seen with seq := { seen.seq with issued := none } } i
  let cls := bClass h.bundle
  { wait := w, quiesce := quiesce, ring := ring,
    causes := (if s.seq.split = 0 then [] else [1]) ++ (if w = 0 then [] else [w]) ++ (if quiesce then [4] else []) ++
      (if cls < 10 ∧ classOpen s cls = false then [5] else []) ++ (if ring.isSome then [6] else []) ++
      (if queueFull s i then [7] else []) }

/-- A compare point of a bundle that is at hand. [DESIGN CHOICE: log 47] -/
def testBundle (o : IssueObs) (h : Held) (point : Nat) (s : State) : State :=
  let s := lateStart h point s
  let seen := reachCycle s.seq.cycle s
  let x := stallsAt s seen o h
  if x.causes.isEmpty then issueBundle o h seen
  else
    let h := { h with waitHeld := h.waitHeld + one (x.wait != 0), quiesceHeld := h.quiesceHeld + one x.quiesce,
                      ringHeld := h.ringHeld + one x.ring.isSome }
    let s := countStall x.causes (bClass h.bundle) s
    { s with seq := { s.seq with held := some h, timeoutDue := timeoutOf s h x.wait x.quiesce x.ring } }

/-- Compare point `k` comes: the gates are evaluated and the point is counted (R263). -/
def reachPoint (k : Nat) (s : State) : State :=
  let s := noteGates (evalGates (zeroLens s))
  { s with seq := { s.seq with arrival := some (s.seq.arrival.getD s.clk.now), points := k + 1 } }

/-- A bundle stands at the execution point, its record of `len` bytes taken from the store. -/
def bundleAt (h : Held) (len : Nat) (s : State) : State :=
  { s with seq := { s.seq with held := some h, next := s.seq.next + len } }

/-- A compare point (R263, R269). [DEDUCED: log 46] -/
def comparePoint (o : IssueObs) (s : State) : State :=
  match pointNow s with
  | none => s
  | some k =>
    let s := reachPoint k s
    match atPoint s o with
    | none =>
      collect Evt.SEQ_FETCH_STALL 0 1 (countStall ((if s.seq.split = 0 then [] else [1]) ++ [7]) 0 s)
    | some none => bundleInvalid 16 0 0 0 s
    | some (some (h, len)) =>
      let s := if o.decompBad && s.seq.held.isNone then raise 1 Evt.SEQ_BUNDLE_PARITY (16 + 0x1F * 2 ^ 8) s else s
      if s.seq.fatal.isSome then s
      else testBundle o h k (bundleAt h len s)

/-- A program runs, nothing stops its issue, and everything of the bundle before has executed. -/
def mayIssue (s : State) : Bool :=
  s.seq.state == .running && s.seq.fatal.isNone && !s.seq.ending && s.seq.timeoutDue.isNone && subsDone s && arraysReady s

/-- BUNDLE_COMPARE_POINT (R263): due while a program runs, in a compare point's cycle, once everything of the
bundle before has executed. -/
def execBundleComparePoint (dt : Nat) (obs : IssueObs) (s : State) : Result :=
  act dt (fun s => if mayIssue s then comparePoint obs s else s) s

/-! ## The close fence (R308) -/

/-- Nothing is found wrong at a compare point, and the next record is decompressed. -/
def cleanObs : IssueObs := { parityBad := [], decompBad := false, fetched := true }

/-- A bundle issues in this CCLK cycle, as far as the machine knows. -/
def issuesNow (s : State) : Bool :=
  mayIssue s && (pointNow s).isSome &&
  (match atPoint s cleanObs with
    | some (some (h, _)) =>
      let t := evalGates (zeroLens s)
      (stallsAt t (reachCycle t.seq.cycle t) cleanObs h).causes.isEmpty
    | _ => false)

/-- Where the bundle of this CCLK cycle issues, what its issue cycle brings into effect comes before an arrival of the
cycle, its fences first (R308). -/
def fenced (s : State) : State := if issuesNow s then reachCycle s.seq.cycle s else s

/-- A first frame is checked against the fences of its own CCLK cycle (R308). -/
def afterFences (f : State → State) (s : State) : State := f (fenced s)

/-- TENSOR_FRAME (R307, R308, R484): at most eight packets of 72 bytes, or of none where poisoned. -/
def execTensorFrame (dt : Nat) (frame : WriteFrame) (s : State) : Result :=
  if frame.data.length ≤ 8 ∧ frame.data.all (fun p => p.isEmpty || p.length == 72) = true then
    act dt (afterFences (receive frame.port frame.data.length (tensorArrives frame))) s
  else .fault (.illFormed "TENSOR_FRAME")

/-- XFER_THREAD_START (R254): the oldest descriptor onto a free thread, or a thread that holds goes on; a SEND to a window
of this module meets its fences (R308). -/
def execXferThreadStart (dt : Nat) (die : Die) (thread : BitVec 10) (obs : XferObs) (s : State) : Result :=
  act dt (afterFences (threadStart die thread.toNat obs)) s

/-! ## END, timeouts, halting (R265, R270, R272) -/

/-- END (R270): the step is to be committed. -/
def execEndProgram (dt : Nat) (s : State) : Result :=
  act dt (withSub 16 0 6 (fun _ s => { s with seq := { s.seq with ending := true } })) s

/-- The cause of a timeout still holds: the wait is tested first (R265). -/
def stillHeld (s : State) (h : Held) (c : Nat) : Bool :=
  let i : Issued := { bundle := h.bundle, rep := h.rep, cycle := s.seq.cycle }
  if c = 6 then (ringHolds (reachCycle s.seq.cycle s) i).isSome
  else waitCause s h.bundle h.rep == c || (c == 4 && hasEnd i && outstanding s)

/-- SEQ_WAIT_TIMEOUT's detail: cause, tag or ring, target, COUNT. [DEDUCED: log 48] -/
def timeoutDetail (s : State) (h : Held) (c x : Nat) : Nat :=
  let target := if c = 2 then ((tagOf s x).base + word (bValue h.bundle)).toNat
    else if c = 3 then reg64 s Reg.SEQ_STEP_START else 0
  let count := if c = 2 then (tagOf s x).count.toNat else if c = 3 then tick s else 0
  c + x % 4096 * 2 ^ 3 + target % 65536 * 2 ^ 15 + count % 65536 * 2 ^ 31

/-- SEQ_WAIT_TIMEOUT (R265): due when a compare point's count has reached the limit. -/
def execSeqWaitTimeout (dt : Nat) (s : State) : Result :=
  act dt (fun s =>
    match s.seq.timeoutDue, s.seq.held with
    | some (c, x), some h =>
      let s := { s with seq := { s.seq with timeoutDue := none } }
      if stillHeld s h c then raise 1 Evt.SEQ_WAIT_TIMEOUT (timeoutDetail s h c x) s else s
    | _, _ => s) s

/-- ISSUE_HALT (R272): issue has stopped, the work of issued bundles drains, no commit takes place.
[DEDUCED: log 48] -/
def haltIssue (code : Nat) (s : State) : State :=
  let s := drain s
  let q := s.seq
  let s := { s with seq := { q with state := .halted, held := none, issued := none, stall := 0, timeoutDue := none,
                                    ending := false, commitReady := false, arrival := none, points := 0 } }
  msix 3 (raise 1 Evt.SEQ_HALT (s.seq.program + s.seq.cycle % 2 ^ 32 * 2 ^ 12 + code * 2 ^ 44) s)

/-- ISSUE_HALT (R272): due at the first bundle boundary after a FATAL event, once issued work can have drained; a
module without its root clock, or tripped, drains nothing more. Issue is STOPPED throughout start-up (R564). -/
def execIssueHalt (dt : Nat) (s : State) : Result :=
  actPowered dt (fun s =>
    match s.seq.fatal with
    | none => s
    | some code =>
      if s.seq.state = .halted || beforeReadyLocal s then s
      else if s.clk.rootLost || s.therm.tripped || (subsDone s && arraysIdle s) then haltIssue code s
      else s) s

/-- HALT_CLEAR (R272, R287, R312): the uncommitted step is discarded and STOPPED entered; elsewhere invalid.
[DEDUCED: log 48] -/
def haltClear (v : Word) (s : State) : State :=
  if s.seq.state ≠ .halted then raise 1 Evt.SEQ_CMD_INVALID v.toNat s
  else
    let s := haltMemory s
    let q := s.seq
    let s := { s with
      seq := { q with fatal := none, chosen := none, effects := [], split := 0 }
      luna := { s.luna with dies := s.luna.dies.map (fun e => (e.1, { e.2 with scheduled := [], reads := [] })) }
      serve := if s.serve.waiting then s.serve else { s.serve with go := none, commitAt := none } }
    enterStopped s

/-- A write of SEQ_CONTROL. -/
def seqControlWrite (v : Word) (s : State) : State :=
  let s := if flag v 1 then haltClear v s else s
  runWrite (flag v 0) (setReg Reg.SEQ_CONTROL (v &&& 1) s)

/-- HALT_CLEAR (R272, R287, R312). -/
def execHaltClear (dt : Nat) (s : State) : Result :=
  actHost dt 1 (fun s => haltClear 2 s) s

/-- RUN (R273). -/
def execRun (dt : Nat) (on : Bool) (s : State) : Result :=
  actHost dt 1 (fun s => runWrite on (setFld Reg.SEQ_CONTROL 0 0 (one on) s)) s

/-- SEQ_STATUS as it reads. -/
def seqStatusWord (s : State) : Word :=
  word ((match s.seq.state with | .stopped => 0 | .idle => 1 | .running => 2 | .halted => 3) +
    4 * one s.seq.stepError + s.seq.stall * 2 ^ 8 + s.seq.program % 4096 * 2 ^ 16)

/-- SEQ_TAG_COUNT, SEQ_TAG_BASE and SEQ_TAG_STATUS of the selected tag. -/
def tagCountWord (s : State) : Word := (tagOf s (regFld s Reg.SEQ_TAG_SEL 8 0)).count
def tagBaseWord (s : State) : Word := (tagOf s (regFld s Reg.SEQ_TAG_SEL 8 0)).base
def tagStatusWord (s : State) : Word :=
  let t := tagOf s (regFld s Reg.SEQ_TAG_SEL 8 0)
  word (one t.err + t.last * 2 ^ 8)

end Sys2Proof.Machine
end

