-- ==== Sys2Proof/Machine/ShipPark.lean ====
section
/-! DEFINITION. The ship-and-park engine of a module (R416 to R424, R537, R538): manifests, pages, parking and
restoring, and what it reports. -/

namespace Sys2Proof.Machine

open Sys2Proof.Map

/-! ## A module's requests -/

/-- The request a module keeps under an ID; none when the ID is stale there. -/
def modReq (s : State) (id : Nat) : Option ModReq := (find? s.serve.reqs (id % 65536)).filter (fun r => r.id == id)

def setModReq (r : ModReq) (s : State) : State :=
  { s with serve := { s.serve with reqs := mput s.serve.reqs (r.id % 65536) r } }

/-- Change a request's job. -/
def updIo (id : Nat) (f : IoJob → IoJob) (s : State) : State :=
  match modReq s id with
  | none => s
  | some r => setModReq { r with io := r.io.map f } s

/-- The job of a request, while it is in progress. -/
def ioOf (s : State) (id kind : Nat) : Option IoJob :=
  ((modReq s id).bind (·.io)).filter (fun j => j.kind == kind && j.status == 0)

/-! ## Pages as messages -/

/-- The wingset digest of the latest install record, and an adapter's digest, zero for none (R349, R417). -/
def wingsetDigest (s : State) : Bytes := padTo 32 (match s.nvm.installs.getLast? with | none => [] | some r => r.wingset)
def adapterDigest (s : State) (a : Nat) : Bytes := if a < 4096 then padTo 32 (adDigest (knownEntry s a)) else padTo 32 []

/-- A page with its header: nothing of it beyond its sections is read (R319). -/
def pageImage (s : State) (i : Nat) : Bytes := hbmRead s (pageAddr s (pte s i).phys) (pageBytes s)

/-- A page as a request ships it: its header names that request, for a shared page's names another. [DEDUCED: log 57] -/
def shipImage (s : State) (id i : Nat) : Bytes := toBytes 4 id ++ (pageImage s i).drop 4

/-- Every section of a page image matches its CRC, or the image carries none (R418, R424). -/
def imageOk (layers : Nat) (b : Bytes) : Bool :=
  bit (byteAt b 13) 0 == false ||
  (List.range layers).all (fun l => crc32c ((b.drop (512 + 5632 * l)).take 5632) == byteField b (64 + 4 * l) (67 + 4 * l))

/-- A page read and sent, under SHIP (4) or PARK (5): its HBM bursts and Ethernet bytes (R433, R435). -/
def chargePage (cls q : Nat) (s : State) : State :=
  chargeEth cls (pageBytes s) (chargeHbm (16 + q) cls (pageBytes s / 64) s)

/-- A page received and stored: its HBM bursts, and the energy of its Ethernet bytes, which this module does not send. -/
def chargeStore (cls q : Nat) (s : State) : State :=
  charge 18 cls 2 0 (pageBytes s * 15000) (chargeHbm (16 + q) cls (pageBytes s / 64) s)

/-- Page numbers that stand for a manifest and a status. -/
abbrev manifestPage : Nat := 16777216
abbrev statusPage : Nat := 16777217

/-- The ship queue pair (R537). -/
def shipQp (s : State) : Option Nat :=
  if flag (reg s Reg.SP_SHIP_QP) 31 then some (regFld s Reg.SP_SHIP_QP 11 0) else none

/-- A status SEND: request accepted, or failed with a cause. -/
def statusBytes (ticket : Nat) (ok : Bool) (cause : Nat) : Bytes :=
  padTo 64 (toBytes 4 2 ++ toBytes 4 ticket ++ toBytes 1 (if ok then 1 else 2) ++ toBytes 1 cause)

def sendStatus (id ticket : Nat) (ok : Bool) (cause : Nat) (s : State) : State :=
  match shipQp s with
  | none => s
  | some q => if qpStateOf s q = 4 then s
    else qpPost q { owner := .ship id statusPage, msg := .send (statusBytes ticket ok cause) } (chargeEth 4 64 s)

/-- The place of a page in a request. -/
def pageOf (r : ModReq) (i : Nat) : Nat := (r.pages.findIdx? (· == i)).getD 0

/-- A ship fails (R418): the job, the event, and the peer unless it knows. -/
def shipFail (id cause page : Nat) (tell : Bool) (s : State) : State :=
  match modReq s id with
  | none => s
  | some r =>
    match r.io with
    | none => s
    | some j =>
      if j.status ≠ 0 ∨ 2 < j.kind then s
      else
        let s := setModReq { r with io := some { j with status := 2, cause := cause, todo := [] } } s
        let s := forRequest id (raise 2 Evt.SHIP_FAIL
          (cause + one (j.kind == 2) * 2 ^ 4 + page % 2 ^ 20 * 2 ^ 5 + j.ticket % 2 ^ 32 * 2 ^ 25)) s
        if tell then sendStatus id j.ticket false cause s else s

/-- A park or resume fails (R423, R424). -/
def parkFail (id cause page : Nat) (s : State) : State :=
  match modReq s id with
  | none => s
  | some r =>
    match r.io with
    | none => s
    | some j =>
      if j.status ≠ 0 ∨ j.kind < 3 then s
      else
        let s := setModReq { r with io := some { j with status := 2, cause := cause, todo := [] } } s
        forRequest id (raise 2 Evt.PARK_FAIL
          (cause + moduleId s * 2 ^ 4 + page % 2 ^ 20 * 2 ^ 10 + j.ticket % 2 ^ 32 * 2 ^ 30)) s

/-- IO_REFS of an entry. -/
def addIoRef (i : Nat) (s : State) : State := let e := pte s i; setPte i { e with ioRefs := e.ioRefs + 1 } s
def dropIoRef (i : Nat) (s : State) : State :=
  let e := pte s i
  freeIfUnused i (setPte i { e with ioRefs := e.ioRefs - 1 } s)

/-! ## Shipping (R417 to R420) -/

/-- Send the pages not yet sent, as far as IO_REFS and the gate of SHIP allow; each full page with a CRC is checked first. -/
def shipMore (id : Nat) : Nat → State → State
  | 0, s => s
  | fuel + 1, s =>
    match ioOf s id 1, shipQp s with
    | some j, some q =>
      if !j.started then s
      else match j.todo with
        | [] => s
        | i :: rest =>
          let e := pte s i
          let page := match modReq s id with | none => 0 | some r => pageOf r i
          if 255 ≤ e.ioRefs ∨ startOpen s 4 = false then s
          else if imageOk (kvLayers s) (pageImage s i) = false then shipFail id 1 page true s
          else
            let s := updIo id (fun j => { j with todo := rest }) (addIoRef i s)
            let s := chargePage 4 (bits e.phys 31 30) s
            shipMore id fuel (qpPost q { owner := .ship id i, msg := .send (shipImage s id i) } s)
    | _, _ => s

/-- Hold a request's tokens until they are delivered. -/
def holdTokens (e : OutTokens) (s : State) : State :=
  { s with serve := { s.serve with tokens := s.serve.tokens.filter (fun x => x.req != e.req) ++ [e] } }

/-- The first of a request's tokens not yet delivered. -/
def firstToken (s : State) (id : Nat) : Nat :=
  (((s.serve.tokens.find? (fun e => e.req == id)).map (·.toks)).getD []).headD 0

/-- SHIP, side send: the manifest goes first; at stage S − 1 it carries the first token, as R410 sampled it (R417). -/
def shipStart (id ticket len : Nat) (s : State) : State :=
  match modReq s id with
  | none => s
  | some r =>
    let s := setModReq { r with io := some { kind := 1, total := r.pages.length, todo := r.pages, ticket := ticket } } s
    match shipQp s with
    | none => shipFail id 5 0 false s
    | some q =>
      if qpStateOf s q = 4 then shipFail id 5 0 false s
      else
        let tok := if moduleId s + 1 = machineSize s then firstToken s id else 0
        let b := padTo 32 (toBytes 4 1 ++ toBytes 4 ticket ++ toBytes 4 len ++ toBytes 4 r.pages.length ++ toBytes 4 id ++
          toBytes 4 tok) ++ wingsetDigest s ++ adapterDigest s r.adapter
        qpPost q { owner := .ship id manifestPage, msg := .send (padTo 128 b) } (chargeEth 4 128 s)

/-- A request's pages that were posted and not yet sent do not go (R420). -/
def shipStop (id : Nat) (s : State) : State :=
  match shipQp s with
  | none => s
  | some q =>
    let x := qpOf s q
    let pageIn := fun (w : Work) => match w.owner with
      | .ship r i => if r = id ∧ i < manifestPage then some i else none
      | _ => none
    let rest := x.queue.drop x.sent
    let s := setQp q { x with queue := x.queue.take x.sent ++ rest.filter (fun w => (pageIn w).isNone) } s
    (rest.filterMap pageIn).foldl (fun s i => dropIoRef i s) s

/-- SHIP, side receive: the request waits for the manifest with its ticket. -/
def adoptStart (id ticket len : Nat) (s : State) : State :=
  match modReq s id with
  | none => s
  | some r => setModReq { r with io := some { kind := 2, total := ceilDiv len 16, ticket := ticket, capacity := len } } s

/-- The request whose job in progress matches. -/
def jobWhere (s : State) (p : IoJob → Bool) : Option (Nat × IoJob) :=
  s.serve.reqs.findSome? (fun e => match e.2.io with
    | none => none
    | some j => if j.status = 0 ∧ p j = true then some (e.2.id, j) else none)

/-- A manifest arrives (R417, R418). -/
def manifestArrives (b : Bytes) (s : State) : State :=
  let ticket := byteField b 4 7
  match jobWhere s (fun j => j.kind == 2 && j.ticket == ticket && !j.started) with
  | none => raise 2 Evt.SHIP_FAIL (4 + 2 ^ 4 + ticket * 2 ^ 25) (sendStatus 0 ticket false 4 s)
  | some (id, j) =>
    let ad := match modReq s id with | none => padTo 32 [] | some r => adapterDigest s r.adapter
    if (b.drop 32).take 32 ≠ wingsetDigest s ∨ (b.drop 64).take 32 ≠ ad then shipFail id 2 0 true s
    else if byteField b 8 11 ≠ j.capacity ∨ byteField b 12 15 ≠ j.total then shipFail id 3 0 true s
    else
      let s := updIo id (fun j => { j with started := true, peer := byteField b 16 19 }) s
      let s := if moduleId s + 1 = machineSize s then
          holdTokens { req := id, toks := [byteField b 20 23] } s else s
      sendStatus id ticket true 0 s

/-- The header of a private page that holds another page's content (R323): REQUEST, POS_BASE and GEN are the new page's,
COMMITTED, LAYERS, CRC_VALID, WRITTEN and CRC the other's; nothing is tentative, and KEY and the reserved bytes are zero. -/
def copiedHeader (id k gen : Nat) (b : Bytes) : Bytes :=
  padTo 512 (toBytes 4 id ++ toBytes 4 (16 * k) ++ (b.drop 8).take 1 ++ [0] ++ toBytes 2 gen ++ (b.drop 12).take 1 ++
    [BitVec.ofNat 8 (byteAt b 13 % 2), 0, 0] ++ (b.drop 16).take 22 ++ List.replicate 26 0 ++ (b.drop 64).take 44)

/-- Store a page image in a private page of a request, under a class (R419, R424). -/
def storePage (cls id k : Nat) (b : Bytes) (s : State) : Option State :=
  match modReq s id with
  | none => none
  | some r =>
    match allocPage r.home id (id % 65536) (16 * k) 0 s with
    | none => none
    | some (i, s) =>
      let e := pte s i
      let (_, s) := hbmStore (pageAddr s e.phys) (padTo (pageBytes s) (copiedHeader id k e.gen b ++ b.drop 512)) false s
      let s := setPte i { e with committed := min 16 (byteAt b 8), crcValid := bit (byteAt b 13) 0 } s
      some (chargeStore cls r.home (setModReq { r with pages := r.pages ++ [i] } s))

/-- A job has one more page done; the last one completes it. -/
def pageDone (id kind : Nat) (s : State) : State :=
  match ioOf s id kind with
  | none => s
  | some j => updIo id (fun _ => { j with done := j.done + 1, status := (if j.done + 1 = j.total then 1 else 0) }) s

/-- The committed positions of a request that holds `n`. -/
def setCommitted (id n : Nat) (s : State) : State :=
  match modReq s id with | none => s | some r => setModReq { r with committed := n } s

/-- A shipped page arrives (R418, R419). -/
def pageArrives (b : Bytes) (s : State) : State :=
  match jobWhere s (fun j => j.kind == 2 && j.started && j.peer == byteField b 0 3) with
  | none => s
  | some (id, j) =>
    if imageOk (kvLayers s) b = false then shipFail id 1 j.done true s
    else
      match storePage 4 id j.done b s with
      | none => shipFail id 5 j.done true s
      | some s =>
        let s := pageDone id 2 (bump Reg.SP_PAGES_RECEIVED 1 s)
        if j.done + 1 = j.total then
          forRequest id (raise 2 Evt.SHIP_DONE (j.ticket + j.total * 2 ^ 32)) (setCommitted id j.capacity s)
        else s

/-- A status arrives: the sender's pages may go, or the ship has failed at the peer. -/
def statusArrives (b : Bytes) (s : State) : State :=
  match jobWhere s (fun j => decide (j.kind ≤ 2) && j.ticket == byteField b 4 7) with
  | none => s
  | some (id, j) =>
    if byteAt b 8 = 1 then
      (if j.kind = 1 then shipMore id 65536 (updIo id (fun j => { j with
          started := true, status := (if j.total = 0 then 1 else 0) }) s) else s)
    else shipFail id (byteAt b 9) j.done false s

/-- A SEND on the ship queue pair takes a buffer of the receive pool (R537): 0 taken, 1 RNR, 2 invalid request. -/
def shipReceive (b : Bytes) (s : State) : Nat × State :=
  if 65536 < b.length then
    (2, (s.serve.reqs.map (·.2.id)).foldl (fun s id =>
      match ioOf s id 2 with | none => s | some j => shipFail id 5 j.done true s) s)
  else if regFld s Reg.SP_RECV_COUNT 8 0 = 0 then
    (1, collect Evt.SP_RECV_EMPTY 0 1 (bump Reg.SP_RECV_EMPTY_COUNT 1 s))
  else
    let s := spadPuts 18 (regFld s Reg.SP_RECV_BASE 25 0) (bytesWords b false) s
    let s := if b.length = 128 ∧ byteField b 0 3 = 1 then manifestArrives b s
      else if b.length = 64 ∧ byteField b 0 3 = 2 then statusArrives b s
      else if b.length = pageBytes s then pageArrives b s
      else s
    (0, s)

/-! ## Parking and resuming (R421 to R424, R538) -/

def parkAddr (s : State) (i : Nat) : Nat := reg64 s Reg.HAWK_PARK_BASE + 32 * i
def parkEntry (s : State) (i : Nat) : Bytes := hbmRead s (parkAddr s i) 32
def parkValid (b : Bytes) : Bool := bit (byteAt b 29) 0
/-- HAWK_PARK_VALID. -/
abbrev parkCount : Nat := 0x2138

/-- Validate or invalidate an entry. -/
def setParkValid (i : Nat) (v : Bool) (s : State) : State :=
  if parkValid (parkEntry s i) = v then s
  else updReg parkCount (fun w => if v then w + 1 else w - 1) (hbmWrite (parkAddr s i + 29) [BitVec.ofNat 8 (one v)] s)

/-- An EXPIRE or a claimed handle: the entry of that handle is invalid on this module. -/
def parkDrop (handle : Nat) (s : State) : State :=
  let i := handle % 2 ^ 20
  if byteField (parkEntry s i) 0 3 = handle then setParkValid i false s else s

/-- A remote target's fields (R528). -/
structure Target where
  addr : Nat
  len : Nat
  rkey : Nat
  qp : Nat
  kind : Nat
  count : Nat
deriving DecidableEq, Repr

def targetOf (s : State) (i : Nat) : Target :=
  let b := ctxEntry s 3 i
  ⟨byteField b 0 7, byteField b 8 15, byteField b 16 19, byteField b 20 21 % 4096, byteAt b 22, byteField b 24 31⟩

/-- Write the pages not yet written, as far as IO_REFS and the gate of PARK allow; each full page with a CRC is checked first (R342). -/
def parkMore (id : Nat) : Nat → State → State
  | 0, s => s
  | fuel + 1, s =>
    match ioOf s id 3, modReq s id with
    | some j, some r =>
      match j.todo with
      | [] => s
      | i :: rest =>
        let t := targetOf s j.target
        let k := pageOf r i
        if 255 ≤ (pte s i).ioRefs ∨ startOpen s 5 = false then s
        else if imageOk (kvLayers s) (pageImage s i) = false then parkFail id 3 k s
        else
          let s := updIo id (fun j => { j with todo := rest }) (addIoRef i s)
          let s := chargePage 5 r.home s
          let w : Work := ⟨.park id i, .write t.rkey (t.addr + j.offset + k * pageSize s) (pageImage s i)⟩
          parkMore id fuel (qpPost t.qp w s)
    | _, _ => s

/-- PARK: the entry is written, not yet valid; CAPACITY and LENGTH are checked; the pages are written (R401, R422,
R538). EXPIRY is written by the lead alone. [DEDUCED: log 57] -/
def parkStart (id handle region offset capacity : Nat) (s : State) : State :=
  match modReq s id with
  | none => s
  | some r =>
    let i := handle % 2 ^ 20
    let t := targetOf s region
    if t.kind ≠ 2 ∨ capacity < r.pages.length * pageSize s ∨ t.len < offset + capacity then
      { s with serve := { s.serve with capFail := s.serve.capFail ++ [id] } }
    else
      let s := hbmWrite (parkAddr s i) (toBytes 4 handle ++ toBytes 4 r.committed) s
      let s := hbmWrite (parkAddr s i + 16) (toBytes 8 offset ++ toBytes 2 region ++ toBytes 2 r.adapter ++ toBytes 1 r.home ++
        [0, 0, 0]) s
      let s := setModReq { r with io := some {
          kind := 3, status := (if r.pages.isEmpty then 1 else 0), total := r.pages.length, todo := r.pages,
          ticket := handle, target := region, offset := offset } } s
      if qpStateOf s t.qp = 4 then parkFail id 1 0 s else parkMore id 65536 s

/-- Read back the next pages, as many at once as the queue pair allows (R424, R527). [DEDUCED: log 57] -/
def resumeMore (id : Nat) : Nat → State → State
  | 0, s => s
  | fuel + 1, s =>
    match ioOf s id 4 with
    | none => s
    | some j =>
      let t := targetOf s j.target
      let limit := byteAt (ctxEntry s 0 t.qp) 23 % 16 + 1
      match j.todo with
      | [] => s
      | k :: rest =>
        if limit ≤ j.total - j.done - j.todo.length ∨ startOpen s 5 = false then s
        else
          let s := updIo id (fun j => { j with todo := rest }) s
          let w : Work := ⟨.resume id k, .read t.rkey (t.addr + j.offset + k * pageSize s) (pageBytes s)⟩
          resumeMore id fuel (qpPost t.qp w s)

/-- RESUME: the entry is invalid, its pages are read back (R424). [DEDUCED: log 57] -/
def resumeStart (id handle region offset positions : Nat) (s : State) : State :=
  let s := parkDrop handle s
  match modReq s id with
  | none => s
  | some r =>
    let t := targetOf s region
    let n := ceilDiv positions 16
    let s := setModReq { r with io := some {
        kind := 4, status := (if n = 0 then 1 else 0), total := n, todo := List.range n,
        ticket := handle, target := region, offset := offset, capacity := positions } } s
    if t.kind ≠ 2 ∨ t.len < offset + n * pageSize s ∨ qpStateOf s t.qp = 4 then parkFail id 2 0 s
    else resumeMore id 65536 s

/-- A page read back: CRC checked, stored in a private page (R424). -/
def pageRestored (id k : Nat) (b : Bytes) (s : State) : State :=
  match ioOf s id 4 with
  | none => s
  | some j =>
    if b.length ≠ pageBytes s then parkFail id 2 k s
    else if imageOk (kvLayers s) b = false then parkFail id 3 k s
    else
      match storePage 5 id k b s with
      | none => parkFail id 2 k s
      | some s =>
        let s := pageDone id 4 (bump Reg.SP_PAGES_RESTORED 1 s)
        if j.done + 1 = j.total then setCommitted id j.capacity s else resumeMore id 65536 s

/-! ## What the queue pairs report -/

/-- IO_REFS of some entry has fallen, or a gate has opened: every job that waited goes on, in slot order (R329, R437). -/
def ioGoOn (s : State) : State :=
  s.serve.reqs.foldl (fun s e => resumeMore e.2.id 65536 (parkMore e.2.id 65536 (shipMore e.2.id 65536 s))) s

/-- A message of the engine has been acknowledged. -/
def ioAcked (w : WorkOwner) (s : State) : State :=
  match w with
  | .ship id i =>
    if manifestPage ≤ i then s
    else
      let s := dropIoRef i s
      ioGoOn (if (ioOf s id 1).isSome then pageDone id 1 (bump Reg.SP_PAGES_SENT 1 s) else s)
  | .park id i =>
    let s := dropIoRef i s
    ioGoOn (if (ioOf s id 3).isSome then pageDone id 3 (bump Reg.SP_PAGES_PARKED 1 s) else s)
  | _ => s

/-- A message of the engine has completed in error (R532). -/
def ioError (w : WorkOwner) (s : State) : State :=
  match w with
  | .ship id i =>
    let s := if manifestPage ≤ i then s else dropIoRef i s
    ioGoOn (shipFail id 5 (if manifestPage ≤ i then 0 else match modReq s id with | none => 0 | some r => pageOf r i) false s)
  | .park id i =>
    let s := dropIoRef i s
    ioGoOn (parkFail id 1 (match modReq s id with | none => 0 | some r => pageOf r i) s)
  | .resume id k => parkFail id 2 k s
  | _ => s

/-- IO_PROGRESS items of a module (R500). -/
def ioItems (s : State) : List MsgItem :=
  s.serve.reqs.filterMap (fun e => match e.2.io with
    | none => none
    | some j => some (.ioProgress (word e.2.id) (BitVec.ofNat 8 j.kind) (BitVec.ofNat 8 j.status) (BitVec.ofNat 8 j.cause)
        (word j.done)))

end Sys2Proof.Machine
end

