-- ==== Sys2Proof/Machine/Widen.lean ====
section
/-! DEFINITION. Widening to E4M3: its commands and what a step commit does with its table (R196 to R200, R204). -/

namespace Sys2Proof.Machine

open Sys2Proof.Map

/-- A widening entry; the wingset carries those that exist. -/
def widenOfId (s : State) (i : Nat) : Widen := mget {} s.fmt.entries i

def setWiden (i : Nat) (w : Widen) (s : State) : State :=
  { s with fmt := { s.fmt with entries := mset {} s.fmt.entries i w } }

/-- FMT_USED_SPACE and FMT_USED_HBM. -/
abbrev fmtUsedSpace : Nat := 0x31C
abbrev fmtUsedHbm : Nat := 0x320

/-- RESET of an entry: NARROW again, a WIDE entry's costs released (R200). -/
def widenBack (i : Nat) (s : State) : State :=
  let w := widenOfId s i
  if w.state = 0 then s
  else
    let s := if w.state = 2 then
        updReg fmtUsedHbm (fun x => x - word w.hbm) (updReg fmtUsedSpace (fun x => x - word w.space) s)
      else s
    raise 0 Evt.FMT_WIDEN_RESET (i + w.layer * 2 ^ 12) (setWiden i { w with state := 0 } s)

/-- Step 1 of R198: one latched command. [DEDUCED: log 45] -/
def widenApply (v : Word) (s : State) : State :=
  let i := fld v 11 0
  match fld v 31 28 with
  | 1 => setWiden i { widenOfId s i with en := true, thresh := fld v 27 12 } s
  | 2 => setWiden i { widenOfId s i with en := false } s
  | 3 => widenBack i s
  | _ => (s.fmt.entries.map (·.1)).foldl (fun s i => widenBack i s) s

/-- Step 2 of R198: an entry becomes REQUESTED above its threshold. -/
def widenTest (w : Widen) : Widen :=
  if w.en ∧ w.state = 0 ∧ w.narrow ∧ 0 < w.blocks ∧ w.thresh * w.blocks < w.sat * 65536 then { w with state := 1 } else w

/-- S × 65,536 / B of the committed step, free where B is 0. [DESIGN CHOICE: log 45] -/
def widenRate (w : Widen) (s : State) : Nat × State :=
  if w.last.2.1 = 0 then takeFree s else (min (w.last.1 * 65536 / w.last.2.1) 65535, s)

/-- Step 3 of R198: an entry is granted when its costs fit the reserve. [DEDUCED: log 45] -/
def widenGrant (i : Nat) (s : State) : State :=
  let w := widenOfId s i
  let sp := (reg s fmtUsedSpace).toNat + w.space
  let hb := (reg s fmtUsedHbm).toNat + w.hbm
  if w.state = 1 ∧ sp ≤ (reg s Reg.FMT_RESERVE_SPACE).toNat ∧ hb ≤ (reg s Reg.FMT_RESERVE_HBM).toNat then
    let (rate, s) := widenRate w s
    raise 0 Evt.FMT_WIDEN (i + w.layer * 2 ^ 12 + rate % 65536 * 2 ^ 20)
      (setReg fmtUsedHbm (word hb) (setReg fmtUsedSpace (word sp) (setWiden i { w with state := 2 } s)))
  else s

/-- Entries of a layer left REQUESTED. -/
def widenLeft (s : State) (layer : Nat) : Nat :=
  (s.fmt.entries.filter (fun e => e.2.state == 1 && e.2.layer == layer)).length

/-- FMT_WIDEN_DENIED once for a layer with entries left REQUESTED (R199). -/
def widenDeny (layer : Nat) (s : State) : State :=
  let n := widenLeft s layer
  if n = 0 then { s with fmt := { s.fmt with denied := s.fmt.denied.filter (· != layer) } }
  else if s.fmt.denied.contains layer then s
  else
    let free := (reg s Reg.FMT_RESERVE_SPACE).toNat - (reg s fmtUsedSpace).toNat
    raise 0 Evt.FMT_WIDEN_DENIED (layer % 256 + n * 2 ^ 8 + free * 2 ^ 21)
      { s with fmt := { s.fmt with denied := layer :: s.fmt.denied } }

/-- Steps 2 and 3 of R198 have set states: what is not granted is denied (R199). -/
def widenGrants (s : State) : State :=
  let s : State := (s.fmt.entries.map (·.1)).foldl (fun s i => widenGrant i s) s
  let layers := (s.fmt.entries.map (fun e => e.2.layer)).eraseDups
  layers.foldl (fun s l => widenDeny l s) s

/-- Step 2 for an entry. -/
def widenTested (w : Widen) : Widen := { widenTest w with fresh := (widenTest w).state != w.state }

/-- The widening table at a step commit (R198 to R200). -/
def widenCommit (s : State) : State :=
  let cmds := s.fmt.cmds
  let s : State := cmds.foldl (fun s v => widenApply v s) { s with fmt := { s.fmt with cmds := [], commitAt := some (sclk s) } }
  let s : State := { s with fmt := { s.fmt with entries := s.fmt.entries.map (fun e =>
      (e.1, widenTested { e.2 with last := (e.2.sat, e.2.blocks, e.2.narrow) })) } }
  let s := widenGrants s
  { s with fmt := { s.fmt with entries := s.fmt.entries.map (fun e =>
      (e.1, { e.2 with under := 0, sat := 0, blocks := 0, narrow := false })) } }

/-- A command latched in the commit's own SCLK cycle, after the commit has been worked out: it applies at that commit, and
what the test and the grants then give stands (R198). Events that the commit has logged stay. [DEDUCED: log 45] -/
def widenLate (v : Word) (s : State) : State :=
  let ids := if fld v 31 28 = 4 then s.fmt.entries.map (·.1) else [fld v 11 0]
  let untest := fun (s : State) i =>
    let w := widenOfId s i
    if w.fresh then
      let s := if w.state = 2 then
          updReg fmtUsedHbm (fun x => x - word w.hbm) (updReg fmtUsedSpace (fun x => x - word w.space) s)
        else s
      setWiden i { w with state := 0, fresh := false } s
    else s
  let retest := fun (s : State) i =>
    let w := widenOfId s i
    let t := widenTested { w with sat := w.last.1, blocks := w.last.2.1, narrow := w.last.2.2 }
    setWiden i { w with state := t.state, fresh := t.fresh } s
  widenGrants (ids.foldl retest (widenApply v (ids.foldl untest s)))

/-- A write of FMT_WIDEN_CMD: latched until the next step commit, or for the one of this SCLK cycle, or invalid (R198,
R204). -/
def widenCmd (v : Word) (s : State) : State :=
  let op := fld v 31 28
  let id := fld v 11 0
  let ok := op == 4 || (decide (1 ≤ op ∧ op ≤ 3) && id != 0xFFF && (widenOfId s id).valid)
  if ok then
    (if s.fmt.commitAt = some (sclk s) then widenLate v s else { s with fmt := { s.fmt with cmds := s.fmt.cmds ++ [v] } })
  else raise 0 Evt.FMT_CMD_INVALID v.toNat s

/-- WIDEN_ENABLE (R197). -/
def execWidenEnable (dt : Nat) (id : BitVec 12) (thresh : BitVec 16) (s : State) : Result :=
  actHost dt 0 (widenCmd (word (1 * 2 ^ 28 + thresh.toNat * 2 ^ 12 + id.toNat))) s
/-- WIDEN_DISABLE (R204). -/
def execWidenDisable (dt : Nat) (id : BitVec 12) (s : State) : Result := actHost dt 0 (widenCmd (word (2 * 2 ^ 28 + id.toNat))) s
/-- WIDEN_RESET (R200). -/
def execWidenReset (dt : Nat) (id : BitVec 12) (s : State) : Result := actHost dt 0 (widenCmd (word (3 * 2 ^ 28 + id.toNat))) s
/-- WIDEN_RESET_ALL (R198). -/
def execWidenResetAll (dt : Nat) (s : State) : Result := actHost dt 0 (widenCmd (word (4 * 2 ^ 28))) s

/-- FMT_WIDEN_STATE, FMT_WIDEN_COST and FMT_WIDEN_SUMMARY. -/
def widenStateWord (s : State) : Word :=
  let w := widenOfId s (regFld s 0x304 11 0)
  word (w.state + 4 * one w.en + 8 * one w.valid + w.layer % 256 * 2 ^ 8 + w.thresh % 65536 * 2 ^ 16)
def widenCostWord (s : State) : Word :=
  let w := widenOfId s (regFld s 0x304 11 0)
  word (w.space % 65536 + w.hbm % 65536 * 2 ^ 16)
def widenSummaryWord (s : State) : Word :=
  let n := fun k => (s.fmt.entries.filter (fun e => e.2.state == k)).length
  word (n 2 + n 1 * 2 ^ 16)

end Sys2Proof.Machine
end

