-- ==== Sys2Proof/Machine/Serve.lean ====
section
/-! DEFINITION. A module's part in serving (R388 to R394, R409 to R413) and in training steps (R364, R367, R368): receipt of
a GO, program selection, sampling, the step commit, COMMIT_DONE. -/

namespace Sys2Proof.Machine

open Sys2Proof.Map

/-! ## Row groups (R393) -/

def groupId (g : RowGroup) : Nat := g.slot.toNat + g.gen.toNat * 65536
/-- Batch rows of a group. -/
def groupRows (g : RowGroup) : Nat := g.count.toNat + 1
/-- Positions a group reserves (R331, R408). -/
def groupSlots (g : RowGroup) : Nat := if g.kind = 1 then groupRows g else if g.kind = 2 ∨ g.kind = 3 then g.realRows.toNat else 0
def isPrefill (g : RowGroup) : Bool := g.kind == 2 || g.kind == 3

def rowGroups (m : GoMsg) : List RowGroup := m.items.filterMap (fun i => match i with | .rowGroup g => some g | _ => none)
/-- Retired requests of a GO: ID, state code of the end, end reason. -/
def retirals (m : GoMsg) : List (Nat × Nat × Nat) :=
  m.items.filterMap (fun i => match i with
    | .retire r st c => some (r.toNat, st.toNat, c.toNat)
    | _ => none)
/-- Verdicts of a GO: ID, A, POISON. -/
def verdicts (m : GoMsg) : List (Nat × Nat × Bool) :=
  m.items.filterMap (fun i => match i with | .verdict r a p _ => some (r.toNat, a.toNat, p) | _ => none)

/-! ## Programs (R409) -/

structure Bucket where
  rows : Nat
  ctx : Nat
  kmax : Nat
  kind : Nat
deriving DecidableEq, Repr

def bucketOf (p : Program) : Bucket :=
  ⟨8 * (bits p.bucket 5 0 + 1), bits p.bucket 9 6, bits p.bucket 13 10, bits p.bucket 15 14⟩

/-- The programs of the directory with their buckets; entries whose bucket is invalid are none. -/
def programs (s : State) : List (Nat × Bucket) :=
  (List.range (if s.secure.storeOk then regFld s Reg.SEQ_STORE_INFO 31 16 else 0)).filterMap (fun i =>
    match programOf s i with
    | none => none
    | some p =>
      let b := bucketOf p
      if b.ctx ≤ 10 ∧ b.kmax ≤ 8 ∧ b.kind ≤ 1 then some (i, b) else none)

/-- A wave's requirement: rows, positions, draft depth. -/
def waveNeeds (gs : List RowGroup) : Nat × Nat × Nat :=
  ((gs.map groupRows).sum, gs.foldl (fun m g => max m (g.pos.toNat + groupRows g)) 0,
    gs.foldl (fun m g => if g.kind = 1 then max m g.count.toNat else m) 0)

/-- A covers-or-not program is better: smaller rows, then CTX, then KMAX; the first of equals stays. -/
def better (a b : Bucket) : Bool :=
  decide (a.rows < b.rows) || (a.rows == b.rows && (decide (a.ctx < b.ctx) || (a.ctx == b.ctx && decide (a.kmax < b.kmax))))

/-- The program that serves a requirement (R409). -/
def selectProgram (s : State) (kind rows pos k : Nat) : Option Nat :=
  (((programs s).filter (fun e => e.2.kind == kind && decide (rows ≤ e.2.rows) && decide (pos ≤ 2 ^ (e.2.ctx + 10)) &&
      decide (k ≤ e.2.kmax))).foldl (fun r e => match r with
    | none => some e
    | some o => if better e.2 o.2 then some e else some o) (none : Option (Nat × Bucket))).map (·.1)

/-- Select and start, or raise SERVE_NO_PROGRAM. -/
def runWave (kind rows pos k : Nat) (s : State) : State :=
  match selectProgram s kind rows pos k with
  | some p => choose p s
  | none => raise 2 Evt.SERVE_NO_PROGRAM (rows % 2 ^ 10 + pos % 2 ^ 21 * 2 ^ 10 + k % 16 * 2 ^ 31) s

/-! ## Receipt of a GO (R392) -/

/-- Sampling fields and egress buffer of a request at stage S − 1: no message carries them, so each is free within the values
that a submission may hold. [DESIGN CHOICE: log 55] -/
def drawSampling (s : State) : (Sampling × Nat) × State :=
  let f := fun k => Config.free (s.freeIdx + k)
  let temp := word (f 0 % 2 ^ 32)
  let topP := word (f 1 % 2 ^ 32)
  (({ temp := if Fp.isFinite temp && !Fp.sgn temp then temp else 0
      topP := if Fp.isFinite topP && decide (0 < Fp.val topP ∧ Fp.val topP ≤ 1) then topP else Fp.one32
      topK := f 2 % 2 ^ 32, seed := BitVec.ofNat 64 (f 3), stop := f 4 % 2 ^ 32 }, f 5 % 4096), { s with freeIdx := s.freeIdx + 6 })

/-- The parameter block of a job that becomes active: the lead has its address, on another module its bytes but for ADAPTER
are free. [DESIGN CHOICE: log 54] -/
def jobParams (id adapter : Nat) (s : State) : Bytes × State :=
  if isLead s then (hbmRead s (byteField (mget {} s.serve.lead.reqs (id % 65536)).entry 40 47) 64, s)
  else
    (toBytes 2 adapter ++ (List.range 62).map (fun k => BitVec.ofNat 8 (Config.free (s.freeIdx + k))),
      { s with freeIdx := s.freeIdx + 62 })

/-- Admit a request of a GO (R363, R367, R392): it counts in USERS from here on, a job sets TRAINING. -/
def admitReq (req : Word) (home flags : Byte) (adapter : BitVec 16) (len maxNew : Word) (kind : Byte) (s : State) : State :=
  let (d, s) := if moduleId s + 1 = machineSize s then drawSampling s else (({}, 0), s)
  let s := if kind = 6 then
      let (b, s) := jobParams req.toNat adapter.toNat s
      trainBegin req.toNat adapter.toNat b s
    else adapterUsers adapter.toNat true s
  setModReq { id := req.toNat, kind := kind.toNat, flags := flags.toNat, home := home.toNat % 4, adapter := adapter.toNat,
              length := len.toNat, maxNew := maxNew.toNat, samp := d.1, egress := d.2 } s

/-- An item at receipt of a GO: admissions and keys, expiries, orders; the rest waits for the commit. -/
def goItem (s : State) (i : MsgItem) : State :=
  match i with
  | .admits req home flags adapter len _ maxNew kind => admitReq req home flags adapter len maxNew kind s
  | .key req _ k =>
    (match modReq s req.toNat with
    | none => s
    | some r => setModReq { r with keys := r.keys ++ [padTo 16 k] } s)
  | .expire h => parkDrop h.toNat s
  | .ship req t side len => if side then adoptStart req.toNat t.toNat len.toNat s else shipStart req.toNat t.toNat len.toNat s
  | .park req h rg o c => parkStart req.toNat h.toNat rg.toNat o.toNat c.toNat s
  | .resume req h rg o p => resumeStart req.toNat h.toNat rg.toNat o.toNat p.toNat s
  | _ => s

/-- A group as this module runs it: VOID when its request has retired (R394). -/
def voided (s : State) (m : GoMsg) (g : RowGroup) : RowGroup :=
  if (modReq s (groupId g)).isNone || (retirals m).any (fun r => r.1 == groupId g) then { g with kind := 0 } else g

/-- Reserve the positions of one request's groups (R331, R392): a refused reservation leaves nothing reserved. -/
def reserveFor (gs : List RowGroup) (id : Nat) (s : State) : State :=
  match modReq s id with
  | none => s
  | some r =>
    let mine := gs.filter (fun g => g.kind != 0 && groupId g == id)
    let n := (mine.map groupSlots).sum
    let p0 := mine.foldl (fun m g => min m g.pos.toNat) 0x1FFFFF
    if n = 0 then s
    else
      match reserve r.pages r.home id (id % 65536) p0 n s with
      | (none, s) => { s with serve := { s.serve with lead := { s.serve.lead with poolFail := s.serve.lead.poolFail ++ [id] } } }
      | (some ps, s) => setModReq { r with pages := ps } s

/-- The groups that fill each batch row: row and group. -/
def waveRows (gs : List RowGroup) : List (Nat × RowGroup) :=
  gs.flatMap (fun g => (List.range (groupRows g)).map (fun i => (g.row.toNat + i, g)))

/-- The adapter term header of a row (R111, R364): PRESENT where the row's request selects an adapter whose TARGETS name the
matrix of the descriptor's column block. -/
def termHeader (d : Nat) (g : Nat × AGroup) (s : State) (e : Nat × RowGroup) : State :=
  let sel := e.2.kind != 0 && e.2.adp
  let present := sel && bit (adTargets (knownEntry s e.2.adapter.toNat)) (Config.groupMatrix d g.1)
  spadPut d ((g.2.adtAddr + e.1 * g.2.adtRow) % 2 ^ 32)
    (dataWord (e.2.slot.toNat + (if sel then e.2.adapter.toNat * 2 ^ 16 else 0) + one present * 2 ^ 28)) s

/-- The array-group descriptors of a die whose lists name a carrier, with their indices. -/
def carrierGroups (s : State) (d : Nat) : List (Nat × AGroup) :=
  match dirEntry s d 0 with
  | none => []
  | some (_, cnt) => (List.range (min cnt 65536)).filterMap (fun i =>
      match descWords s d 0 i 8 with
      | .inl _ => none
      | .inr b => match agroupOf b with
        | .inl _ => none
        | .inr g => match arrayList s d g.list g.count with
          | .inl _ => none
          | .inr es => if es.any (·.carrier) then some (i, g) else none)

/-- Adapter term headers of the step, for batch rows and the groups they belong to (R364). -/
def termHeaders (rows : List (Nat × RowGroup)) (s : State) : State :=
  (List.range 16).foldl (fun s d =>
    (carrierGroups s d).foldl (fun s g => rows.foldl (termHeader d g) s) s) s

/-! ## Page lists (R330, R332, R392, R394) -/

/-- A die's GATHER descriptors. -/
def gatherDescs (s : State) (d : Nat) : List Bytes :=
  match dirEntry s d 2 with
  | none => []
  | some (_, cnt) => (List.range (min cnt 1048576)).filterMap (fun i =>
      match descWords s d 2 i 4 with
      | .inl _ => none
      | .inr b => if dKind b = 2 then some b else none)

/-- A list entry of a page: INDEX, GEN, SLOT and COUNT − 1. -/
def listEntry (s : State) (i slot count : Nat) : Nat := i + (pte s i).gen * 2 ^ 24 + slot * 2 ^ 40 + (count - 1) * 2 ^ 44

/-- The entries of a group's append list: the slots reserved for it, page by page. -/
def appendEntries (s : State) (r : ModReq) (g : RowGroup) : List Nat :=
  let p := g.pos.toNat
  let e := p + groupSlots g
  (List.range (ceilDiv e 16 - p / 16)).filterMap (fun k =>
    let j := p / 16 + k
    let lo := max p (16 * j)
    let hi := min e (16 * j + 16)
    (r.pages[j]?).bind (fun i => if lo < hi then some (listEntry s i (lo - 16 * j) (hi - lo)) else none))

/-- The page list of a group for a descriptor: empty where the group is VOID. [DESIGN CHOICE: log 52] -/
def pageListWords (s : State) (g : RowGroup) (layer : Nat) (append : Bool) : List Nat :=
  let es := match (if g.kind = 0 then none else modReq s (groupId g)) with
    | none => []
    | some r => if append then appendEntries s r g else r.pages.map (fun i => listEntry s i 0 1)
  (es.length + layer * 2 ^ 17 + (if append then g.slot.toNat * 2 ^ 32 else 0)) :: es

/-- Write one descriptor's list.  Which group and layer of the wave it serves, if any, stands in the program alone,
so both are free. [DESIGN CHOICE: log 52] -/
def putPageList (gs : List RowGroup) (d : Nat) (s : State) (b : Bytes) : State :=
  let (f, s) := takeFree s
  match gs[f % (gs.length + 1)]? with
  | none => s
  | some g =>
    let append := match placeOf d (dDst b) with | some (.hbm _) => true | _ => false
    let ws := pageListWords s g (f / (gs.length + 1) % max 1 (kvLayers s)) append
    if residentRun s d (dAux b) ws.length then spadPuts d (dAux b) (ws.map dataWord) s else s

/-- The page lists that the step's GATHER transfers name (R392). [DESIGN CHOICE: log 52] -/
def pageLists (gs : List RowGroup) (s : State) : State :=
  (List.range 20).foldl (fun s d => (gatherDescs s d).foldl (putPageList gs d) s) s

/-! ## Tokens (R413, R536) -/

/-- A token record. -/
def tokenRecord (req tok pos fl : Nat) : Bytes := toBytes 4 req ++ toBytes 4 tok ++ toBytes 4 pos ++ toBytes 2 fl ++ [0, 0]

/-- Record slots of an egress buffer; 0 where its length is not allowed. -/
def egressSlots (t : Target) : Nat := if t.len < 80 ∨ (t.len - 64) % 16 ≠ 0 then 0 else (t.len - 64) / 16

/-- Write token records and then the new P: position, token and FLAGS of each (R413). -/
def egressRecords (id : Nat) (t : Target) (i : Nat) : List (Nat × Nat × Nat) → State → State
  | [], s => s
  | e :: es, s =>
    let p := byteField (ctxEntry s 3 i) 24 31
    let s := chargeEth 9 16 s
    let w : Work := ⟨.egress i, .write t.rkey (t.addr + 64 + 16 * (p % egressSlots t)) (tokenRecord id e.2.1 e.1 e.2.2)⟩
    let s := qpPost t.qp w s
    let s := setCtxEntry 3 i ((ctxEntry s 3 i).take 24 ++ toBytes 8 (p + 1)) s
    egressRecords id t i es s

/-- FLAGS of the last of a verdict's tokens beyond those all of them carry: STOP, and LAST where the turn ends with KEEP
(R411, R413). -/
def endFlags (r : ModReq) (tok out : Nat) : Nat :=
  let stop := decide (tok = r.samp.stop)
  one (bit r.flags 3 && (stop || decide (r.maxNew ≤ out))) * 16 + one stop * 32

/-- Stage S − 1 delivers the tokens of a verdict (R412 to R414, R536).  OUT_OF_RANGE, BOUND_LAPSED and EXCLUDED are this
stage's with what other stages may add, LATE stays once it has been set: no message carries the lead's OR or DEADLINE here,
so those parts are free. [DESIGN CHOICE: log 55] -/
def deliverTokens (v : Nat × Nat × Bool) (s : State) : State :=
  match modReq s v.1 with
  | none => s
  | some r =>
    if moduleId s + 1 ≠ machineSize s ∨ v.2.2 = true ∨ v.2.1 = 0 ∨ (r.kind = 1 ∧ bit r.flags 2 = true) then s
    else
      let t := targetOf s r.egress
      let h : OutTokens := (s.serve.tokens.find? (fun e => e.req == r.id)).getD { req := r.id, toks := [] }
      let (f, s) := takeFree s
      let late := r.late || f / 8 % 2 == 1
      let fl := one late + (h.flags ||| f % 8 * 2) % 16 / 2 * 2
      let n := v.2.1
      let tok := fun k => h.toks.getD k (Config.free (s.freeIdx + k) % 2 ^ 32)
      let recs := (List.range n).map (fun k =>
        (r.length + r.out + k, tok k, fl + (if k + 1 = n then endFlags r (tok k) (r.out + n) else 0)))
      let s := setModReq { r with out := r.out + n, late := late }
        { s with freeIdx := s.freeIdx + n
                 serve := { s.serve with tokens := s.serve.tokens.filter (fun e => e.req != r.id) } }
      if t.kind ≠ 1 ∨ egressSlots t = 0 ∨ qpStateOf s t.qp = 4 then s
      else
        let s := egressRecords r.id t r.egress recs s
        let w : Work := ⟨.egress r.egress, .write t.rkey t.addr (toBytes 8 (byteField (ctxEntry s 3 r.egress) 24 31))⟩
        qpPost t.qp w (chargeEth 9 8 s)

/-! ## Training steps (R364, R367, R368, R375) -/

/-- The sequences of a micro-batch from a record's address on: LENGTH of each, and the address after them.  Where no record
stands, the first one of DATA follows. [DESIGN CHOICE: log 54] -/
def microSeqs (s : State) : Nat → Nat → List Nat × Nat
  | 0, a => ([], a)
  | n + 1, a =>
    let len := fun a => byteField (hbmRead s a 8) 0 3
    let ok := fun a => decide (2 ≤ len a ∧ len a ≤ jobField s 36 39)
    let b := if ok a then a else jobField s 40 47
    if !ok b then ([], b)
    else
      let (ls, c) := microSeqs s n (b + 8 + 8 * ceilDiv (len b) 2)
      (len b :: ls, c)

/-- The next micro-batch of the active job. -/
def microBatch (s : State) : List Nat × Nat := microSeqs s (Config.microBatch + 1) s.adapt.dataAt

/-- Positions that a training step asks of its program: a tile program is one with contexts of 1,024 positions, taken where
STORED_OK allows tiles and no row has more keys (R374, R375). [DESIGN CHOICE: log 54] -/
def trainPositions (s : State) : Nat :=
  let n := (microBatch s).1.foldl max 0
  if jobFlag s 3 then n else max 1025 n

/-- Reserve positions 0 to LENGTH − 1 of each sequence, in record order (R331, R368). -/
def reserveMicro (home id : Nat) : List Nat → State → State
  | [], s => s
  | n :: ns, s =>
    match reserve [] home id (id % 65536) 0 n s with
    | (none, s) => { s with serve := { s.serve with lead := { s.serve.lead with poolFail := s.serve.lead.poolFail ++ [id] } } }
    | (some ps, s) => reserveMicro home id ns { s with adapt := { s.adapt with batch := s.adapt.batch ++ [ps] } }

/-- The rows of a training step: every batch row of its program belongs to the job and selects its adapter. -/
def trainRows (s : State) (rows : Nat) : List (Nat × RowGroup) :=
  let g : RowGroup := { slot := BitVec.ofNat 16 s.adapt.job, gen := BitVec.ofNat 16 (s.adapt.job / 65536), pos := 0, count := 0,
                        kind := 1, row := 0, realRows := 0, adapter := BitVec.ofNat 12 s.adapt.adapter, adp := true }
  (List.range rows).map (fun i => (i, g))

/-- A training step starts (R364, R368, R409). -/
def trainGo (s : State) : State :=
  let need := trainPositions s
  let (ls, next) := microBatch s
  let home := match modReq s s.adapt.job with | none => 0 | some r => r.home
  let s : State := { s with adapt := { s.adapt with dataAt := next, batch := [] } }
  let s := reserveMicro home s.adapt.job ls s
  let rows := match (selectProgram s 1 0 need 0).bind (programOf s) with | none => 0 | some p => (bucketOf p).rows
  runWave 1 0 need 0 (termHeaders (trainRows s rows) s)

/-- Every reservation of the micro-batch resolves with A = 0 (R335, R368). -/
def resolveMicro (s : State) : State :=
  s.adapt.batch.foldl (fun s ps => (resolvePages ps 0 s).2.2) { s with adapt := { s.adapt with batch := [] } }

/-! ## GO -/

/-- A GO is received (R392). -/
def goArrives (m : GoMsg) (s : State) : State :=
  let s := { s with serve := { s.serve with go := some m, waiting := false, commitAt := none } }
  let s := if isLead s then s else commitRegs .machineCommit (setFld Reg.HAWK_CONFIG 1 0 (m.role.toNat % 4) s)
  let s := setReg64 Reg.SEQ_STEP_START m.start.toNat s
  let s : State := (verdicts m).foldl (fun s v => deliverTokens v s) s
  let s := m.items.foldl goItem s
  if m.train then
    trainGo { s with serve := { s.serve with wave := (m.step.toNat, []) }, seq := { s.seq with batch := [] } }
  else
    let waves := ((m.step.toNat, rowGroups m) :: s.serve.waves).take (machineSize s)
    let own := waves.getD (moduleId s) (m.step.toNat, [])
    let gs := own.2.map (voided s m)
    let s := { s with serve := { s.serve with waves := waves, wave := (own.1, gs) }, seq := { s.seq with batch := gs } }
    let ids := ((gs.filter (fun g => g.kind != 0)).map groupId).eraseDups
    let s : State := ids.foldl (fun s id => reserveFor gs id s) s
    let s := termHeaders (waveRows gs) (pageLists gs s)
    if gs.isEmpty then { s with serve := { s.serve with commitAt := some m.start.toNat } }
    else
      let n := waveNeeds own.2
      runWave 0 n.1 n.2.1 n.2.2 s

/-! ## The step commit (R389) -/

/-- Tentative slots of a request. -/
def tentativeOf (s : State) (r : ModReq) : Nat := (r.pages.map (fun i => (pte s i).tentative)).sum

/-- Resolve a request with A; pages that filled enter the prefix table (R335, R342, R352). -/
def resolveReq (id a : Nat) (s : State) : State :=
  match modReq s id with
  | none => s
  | some r =>
    let t := tentativeOf s r
    let (pages, filled, s) := resolvePages r.pages a s
    let r' := { r with pages := pages, committed := r.committed + min a t }
    let s := setModReq r' s
    if !bit r.flags 0 then s
    else filled.foldl (fun s i =>
      let k := pageOf r' i
      match r.keys[k]? with
      | none => s
      | some key => if r.length < 16 * (k + 1) then s
        else prefixInsert r.home i k key (if k = 0 then none else r.keys[k - 1]?) s) s

/-- Step 3: the prefix lookup of a request that the GO admitted (R351, R389). -/
def lookupReq (s : State) (r : ModReq) : State :=
  if r.kind ≠ 1 then s
  else
    let (pages, s) := prefixLookup r.home r.keys s
    setModReq { r with pages := pages, reused := pages.length, committed := 16 * pages.length } s

/-- Step 4: a retired request's references and its use of an adapter end (R329, R389, R420, R422). -/
def releaseReq (s : State) (e : Nat × Nat × Nat) : State :=
  match modReq s e.1 with
  | none => s
  | some r =>
    let s := match r.io with
      | none => s
      | some j =>
        if j.status = 0 ∧ j.kind ≤ 2 then sendStatus r.id j.ticket false 5 s
        else if j.kind = 3 ∧ e.2.1 = 7 ∧ e.2.2 = 5 ∧ isLead s = false then setParkValid (j.ticket % 2 ^ 20) true s
        else s
    let s := { s with serve := { s.serve with
      reqs := mdel s.serve.reqs (r.id % 65536), tokens := s.serve.tokens.filter (fun t => t.req != r.id) } }
    let s := shipStop r.id s
    let s := if r.kind = 6 then
        (if s.adapt.job = r.id then jobEnds (if e.2.1 = 7 then 1 else if e.2.1 = 8 then 2 else 3) s else s)
      else adapterUsers r.adapter false s
    r.pages.foldl (fun s i => dropRef i s) s

/-- Advance BASE at END (R261, R270). [DEDUCED: log 48] -/
def advanceBase (s : State) : State :=
  match programOf s s.seq.program with
  | none => s
  | some p => (advances s p).foldl (fun s e =>
      let t := tagOf s e.1
      setTag e.1 { t with base := t.base + word e.2 } s) s

/-- A verdict of stage S − 1 for a group of its wave (R410 to R412): the drafts are tested and the last token is sampled from
what the program left at a draw; a stop token or the output limit ends them; the tokens are held for delivery. -/
def verdictOf (step fl : Nat) (s : State) (g : RowGroup) : Option MsgItem × State :=
  match modReq s (groupId g) with
  | none => (none, s)
  | some r =>
    if g.kind ≠ 1 ∧ g.kind ≠ 3 then (none, s)
    else
      let draw := s.freeIdx
      let (_, s) := takeFree s
      let (k, pos) := if g.kind = 1 then (g.count.toNat, g.pos.toNat) else (0, g.pos.toNat + g.realRows.toNat - 1)
      match verifyDrafts r.samp draw k 0 pos with
      | none => (some (.verdict (word r.id) 0 true (BitVec.ofNat 64 step)), s)
      | some ts =>
        let ts := truncated r.samp.stop (ts.take (r.maxNew - r.out))
        (some (.verdict (word r.id) (word ts.length) false (BitVec.ofNat 64 step)),
          holdTokens { req := r.id, toks := ts, flags := fl } s)

def verdictItems (step fl : Nat) : List RowGroup → State → List MsgItem × State
  | [], s => ([], s)
  | g :: gs, s =>
    let (i, s) := verdictOf step fl s g
    let (is, s) := verdictItems step fl gs s
    (match i with | none => is | some i => i :: is, s)

/-- COMMIT_DONE of the step (R389, R392, R500). [DEDUCED: log 58] -/
def sendCommitDone (err : Bool) (s : State) : State :=
  let wave := s.serve.wave
  let (f, s) := if wave.2.isEmpty then (0, s) else takeFree s
  let (vs, s) := if moduleId s + 1 = machineSize s then verdictItems wave.1 (f % 16) wave.2 s else ([], s)
  let items := ioItems s ++ s.serve.parity.map (fun e => MsgItem.parity (word e.1) (BitVec.ofNat 8 e.2.1) (word e.2.2)) ++
    s.serve.capFail.map (fun r => MsgItem.capacityFail (word r)) ++ vs
  let m : CommitMsg := { src := BitVec.ofNat 6 (moduleId s), step := BitVec.ofNat 64 (stepNumber s), stepError := err,
                         outFlags := BitVec.ofNat 64 (f % 16),
                         free := (List.range 4).map (fun q => word (freePages s q)), items := items }
  let train := match s.serve.go with | none => false | some m => m.train
  let s := { s with serve := { s.serve with
    waiting := true, trained := train, go := none, commitAt := none, parity := [], capFail := [] } }
  if isLead s then
    { s with serve := { s.serve with lead := { s.serve.lead with
        done := mput s.serve.lead.done 0 m, ownAt := some (tick s) } } }
  else (List.range (messageParts items)).foldl (fun s p => sendTo 0 (fun vc => .commitDone vc 0 p m) s) s

/-- The step commit (R270, R271, R389). -/
def commitStep (s : State) : State :=
  let ran := s.seq.state == .running
  let err := ran && s.seq.stepError
  let s := drain s
  let s := setReg64 Reg.SEQ_STEP_NUMBER ((stepNumber s + 1) % 2 ^ 48) s
  let wave := s.serve.wave.2
  let s : State := (((wave.filter isPrefill).map groupId).eraseDups).foldl (fun s id => resolveReq id (if err then 0 else 1048576) s) s
  let s := resolveMicro s
  let s := match s.serve.go with
    | none => s
    | some m =>
      let s : State := (verdicts m).foldl (fun s v => resolveReq v.1 (if v.2.2 then 0 else v.2.1) s) s
      let s : State := (retirals m).foldl (fun s r => resolveReq r.1 0 s) s
      let new := m.items.filterMap (fun i => match i with | .admits r _ _ _ _ _ _ _ => modReq s r.toNat | _ => none)
      let new := (new.foldl (fun m r => mput m (r.id % 65536) r) ([] : SMap ModReq)).map (·.2)
      let s := new.foldl lookupReq s
      let s := (retirals m).foldl releaseReq s
      if m.train && s.adapt.job != 0 then trainStep s else s
  let s := commitRegs .stepCommit (swapAll (widenCommit (adapterCommit s)))
  let s := if ran then advanceBase s else s
  let q := s.seq
  let s := { s with
    seq := { q with ending := false, held := none, issued := none, arrival := none, points := 0 }
    boot := { s.boot with committed := true } }
  afterCommit (sendCommitDone err s)

/-- A step commit is due: END has issued and everything of the program has completed; or the wave has no rows and tick
T has come (R392); or no step has yet been started by a GO. -/
def commitDue (s : State) : Bool :=
  s.seq.fatal.isNone && s.boot.state == .ready &&
  ((s.seq.state == .running && s.seq.ending && !outstanding s && subsDone s && arraysIdle s) ||
   (s.seq.state == .idle && !s.serve.waiting &&
     (match s.serve.go with
      | none => true
      | some _ => match s.serve.commitAt with | none => false | some t => decide (t ≤ tick s))))

end Sys2Proof.Machine
end

