-- ==== Sys2Proof/Machine/Lead.lean ====
section
/-! DEFINITION. The lead's serving engine (R386 to R428, R446, R447): the machine commit, submissions, admission,
planning, deadlines, parking, the state window and the completion ring. -/

namespace Sys2Proof.Machine

open Sys2Proof.Map

/-! ## Requests of the lead -/

def updLead (f : Lead → Lead) (s : State) : State := { s with serve := { s.serve with lead := f s.serve.lead } }
def reqAt (s : State) (slot : Nat) : Req := mget {} s.serve.lead.reqs slot
def setReq (slot : Nat) (r : Req) (s : State) : State := updLead (fun l => { l with reqs := mset {} l.reqs slot r }) s
def updReq (slot : Nat) (f : Req → Req) (s : State) : State := setReq slot (f (reqAt s slot)) s
def reqId (slot : Nat) (r : Req) : Nat := slot + r.gen * 65536
def terminal (st : Nat) : Bool := decide (7 ≤ st)
/-- The slot of a live or terminal request by ID; none when the ID is stale (R395). -/
def slotOfId (s : State) (id : Nat) : Option Nat :=
  let r := reqAt s (id % 65536)
  if r.state ≠ 0 ∧ id < 2 ^ 32 ∧ r.gen = id / 65536 then some (id % 65536) else none
def addOrder (i : MsgItem) (s : State) : State := updLead (fun l => { l with orders := l.orders ++ [i] }) s
/-- Slots in use. -/
def slotsUsed (s : State) : List (Nat × Req) := s.serve.lead.reqs.filter (fun e => e.2.state != 0)

/-! ## Submission entries (R400) -/

def eKind (b : Bytes) : Nat := byteAt b 0
def eFlags (b : Bytes) : Nat := byteAt b 1
def eHome (b : Bytes) : Nat := byteAt b 2
def eSpec (b : Bytes) : Nat := byteAt b 3
def eClient (b : Bytes) : Nat := byteField b 4 7
def eTarget (b : Bytes) : Nat := byteField b 8 11
def eLen (b : Bytes) : Nat := byteField b 12 15
def eIngress (b : Bytes) : Nat := byteField b 16 19
def eMaxNew (b : Bytes) : Nat := byteField b 20 23
def eAdapter (b : Bytes) : Nat := byteField b 24 25
def eEgress (b : Bytes) : Nat := byteField b 26 27
def eDeadline (b : Bytes) : Nat := byteField b 48 55
def eStop (b : Bytes) : Nat := byteField b 56 59
def eParams (b : Bytes) : Nat := byteField b 40 47
def eOffset (b : Bytes) : Nat := byteField b 40 47
def eCapacity (b : Bytes) : Nat := byteField b 48 55
def eExpiry (b : Bytes) : Nat := byteField b 56 63
def fShip (b : Bytes) : Bool := bit (eFlags b) 2
def fKeep (b : Bytes) : Bool := bit (eFlags b) 3
def fOnLate (b : Bytes) : Bool := bit (eFlags b) 1
/-- A kind that takes a slot. -/
def takesSlot (k : Nat) : Bool := k == 1 || k == 4 || k == 5 || k == 6
def isServe (k : Nat) : Bool := k == 1 || k == 4 || k == 5

/-! ## Completions (R401, R402) -/

/-- A completion entry. -/
def cplBytes (client req kind cause handle step detail : Nat) : Bytes :=
  toBytes 4 client ++ toBytes 4 req ++ toBytes 1 kind ++ toBytes 1 cause ++ [0, 0] ++ toBytes 4 handle ++ toBytes 8 step ++
  toBytes 8 detail

def addCpl (b : Bytes) (s : State) : State := updLead (fun l => { l with cplWait := l.cplWait ++ [b] }) s

/-- A request's completion of a kind. -/
def complete (slot kind cause step detail : Nat) (s : State) : State :=
  let r := reqAt s slot
  addCpl (cplBytes (eClient r.entry) (reqId slot r) kind cause (if kind = 3 ∧ cause = 5 then r.handle else 0) step detail) s

/-- PARK_RELEASE for an entry of the park table: OFFSET, REGION and bytes per module. -/
def parkRelease (client req : Nat) (b : Bytes) (s : State) : State :=
  addCpl (cplBytes client req 7 0 (byteField b 0 3) (byteField b 16 23)
    (byteField b 24 25 + ceilDiv (byteField b 4 7) 16 * pageSize s * 2 ^ 16)) s

/-- A request ends (R396, R397): its completion, its RETIRE. -/
def endReq (slot state kind cause step : Nat) (s : State) : State :=
  let r := reqAt s slot
  if r.state = 0 ∨ terminal r.state = true then s
  else
    let s := setReq slot { r with state := state, cause := cause, changeStep := step } s
    addOrder (.retire (word (reqId slot r)) (BitVec.ofNat 8 state) (BitVec.ofNat 8 cause)) (complete slot kind cause step r.out s)

def finishReq (slot cause step : Nat) (s : State) : State := endReq slot 7 3 cause step s

/-- A request fails (R396, R397). -/
def failReq (slot cause step : Nat) (s : State) : State :=
  let r := reqAt s slot
  if r.state = 0 ∨ terminal r.state = true then s
  else endReq slot 9 5 cause step
    (raiseFor 2 Evt.SERVE_REQ_FAILED s.log.cls (reqId slot r) (cause + step % 2 ^ 48 * 2 ^ 8) (bump Reg.HAWK_FAIL_COUNT 1 s))

/-- Move a request to a state. -/
def moveReq (slot state step : Nat) (s : State) : State := updReq slot (fun r => { r with state := state, changeStep := step }) s

/-! ## Waves in flight (R388, R407) -/

def inFlight (s : State) (id : Nat) : Bool := s.serve.lead.waves.any (fun w => w.groups.any (fun g => groupId g == id))

/-- A COMMIT_DONE's flags and step error reach the wave its module ran (R398, R412). -/
def waveReport (step : Nat) (s : State) (m : CommitMsg) : State :=
  let k := m.src.toNat
  match s.serve.lead.waves[k]? with
  | none => s
  | some w =>
    let s := updLead (fun l => { l with waves := l.waves.set k { w with flags := w.flags ||| m.outFlags.toNat } }) s
    if !m.stepError then s
    else ((w.groups.map groupId).eraseDups).foldl (fun s id =>
      match slotOfId s id with | none => s | some slot => failReq slot 1 step s) s

/-! ## Delivery (R411 to R415) -/

/-- A request's turn ends (R413): idle with KEEP, finished otherwise. -/
def turnEnds (slot cause step : Nat) (s : State) : State :=
  let r := reqAt s slot
  if fKeep r.entry then complete slot 6 cause step r.out (setReq slot { r with idle := true, changeStep := step } s)
  else finishReq slot cause step s

/-- `n` tokens of a request are delivered at commit tick `t` with the flags of their wave. -/
def deliverReq (slot n k fl t step : Nat) (s : State) : State :=
  let r := reqAt s slot
  let late := eDeadline r.entry ≠ 0 ∧ eDeadline r.entry < t
  let s := if late ∧ bit r.seen 0 = false then
      raiseFor 2 Evt.SERVE_LATE s.log.cls (reqId slot r) (t - eDeadline r.entry) s else s
  let s := if late then bump Reg.HAWK_LATE_COUNT n s else s
  let s := bump64 Reg.HAWK_SPEC_ACCEPTED (n - 1) (bump64 Reg.HAWK_SPEC_PROPOSED k s)
  let r := { r with state := 5, out := r.out + n, seen := r.seen ||| (fl % 16 / 2 * 2) ||| (if late then 1 else 0),
                    committed := r.length + r.out + n - 1, proposed := r.proposed + k, accepted := r.accepted + (n - 1),
                    readyAt := step + 1, changeStep := step }
  let (f, s) := if eStop r.entry = 0xFFFFFFFF then (0, s) else takeFree s
  let s := addOrder (.verdict (word (reqId slot r)) (word n) false 0) (setReq slot r s)
  if f % 2 = 1 then turnEnds slot 1 step s
  else if eMaxNew r.entry ≤ r.out then turnEnds slot 2 step s
  else s

/-- A verdict of the wave that has left stage S − 1. -/
def verdictArrives (w : Wave) (t step : Nat) (s : State) (v : Nat × Nat × Bool) : State :=
  match slotOfId s v.1, w.groups.find? (fun g => groupId g == v.1 && (g.kind == 1 || g.kind == 3)) with
  | some slot, some g =>
    let r := reqAt s slot
    if terminal r.state then s
    else if v.2.2 then failReq slot 2 step s
    else if r.state = 3 ∧ g.kind = 3 then
      if fShip r.entry ∧ eKind r.entry = 1 then
        addOrder (.ship (word v.1) (word (eTarget r.entry)) false (word r.length))
          (updReq slot (fun r => { r with committed := r.length }) (moveReq slot 4 step s))
      else deliverReq slot 1 0 w.flags t step s
    else if r.state = 5 ∧ g.kind = 1 then
      let n := min v.2.1 (eMaxNew r.entry - r.out)
      if n = 0 then s else deliverReq slot n g.count.toNat w.flags t step s
    else s
  | _, _ => s

/-- Verdicts that a COMMIT_DONE carries. -/
def doneVerdicts (m : CommitMsg) : List (Nat × Nat × Bool) :=
  m.items.filterMap (fun i => match i with | .verdict r a p _ => some (r.toNat, a.toNat, p) | _ => none)

/-! ## Shipping and parking reports (R419, R422 to R424) -/

/-- All modules have reported their part. -/
def allDone (s : State) (r : Req) : Bool := (List.range (machineSize s)).all (fun m => r.ioDone.contains m)

/-- What the state table gives when a job is complete on every module (R396). -/
def ioComplete (slot t step : Nat) (s : State) : State :=
  let r := reqAt s slot
  let s := setReq slot { r with ioDone := [] } s
  if r.state = 4 ∧ eKind r.entry = 5 then deliverReq slot 1 0 0 t step (complete slot 8 0 step r.out s)
  else if r.state = 4 then finishReq slot 4 step s
  else if r.state = 6 then finishReq slot 5 step (setParkValid (r.handle % 2 ^ 20) true s)
  else if r.state = 2 then
    let b := r.parked
    setReq slot { reqAt s slot with state := 3, planned := byteField b 4 7, committed := byteField b 4 7, changeStep := step }
      (parkRelease (eClient r.entry) (reqId slot r) b s)
  else s

/-- The job kind that a request waits for, and the cause of its failure. -/
def waitsFor (r : Req) : Option (Nat × Nat) :=
  if r.state = 4 then some (if eKind r.entry = 5 then (2, 5) else (1, 5))
  else if r.state = 6 then some (3, 6)
  else if r.state = 2 ∧ eKind r.entry = 4 then some (4, 7)
  else none

/-- An item of a COMMIT_DONE (R387, R401, R418 to R424). -/
def doneItem (m t step : Nat) (s : State) (i : MsgItem) : State :=
  match i with
  | .parity req _ _ => (match slotOfId s req.toNat with | none => s | some slot => failReq slot 4 step s)
  | .capacityFail req =>
    (match slotOfId s req.toNat with
    | none => s
    | some slot =>
      let r := reqAt s slot
      if r.state ≠ 6 then s
      else
        let s := raiseFor 2 Evt.SERVE_SUB_REJECT s.log.cls req.toNat (3 + 11 * 2 ^ 8 + r.parkIndex % 2 ^ 32 * 2 ^ 16)
          (bump Reg.HAWK_REJECT_COUNT 1 s)
        addCpl (cplBytes r.parkClient 0 2 11 0 step r.out)
          (setReq slot { r with state := 5, idle := true, handle := 0, ioDone := [], changeStep := step } s))
  | .ioProgress req kind status _ _ =>
    (match slotOfId s req.toNat with
    | none => s
    | some slot =>
      let r := reqAt s slot
      match waitsFor r with
      | none => s
      | some (k, cause) =>
        if kind.toNat ≠ k then s
        else if status = 2 then failReq slot cause step s
        else if status = 1 ∧ r.ioDone.contains m = false then
          let r := { r with ioDone := r.ioDone ++ [m] }
          let s := setReq slot r s
          if allDone s r then ioComplete slot t step s else s
        else s)
  | _ => s

/-- Pages of quadrant `q` that the lead's requests hold there and not yet on module `m`: those from the first position of
their groups in the waves that have not reached it (R388, R405). -/
def pagesAhead (s : State) (m q : Nat) : Nat :=
  let gs := (s.serve.lead.waves.take m).flatMap (fun w => w.groups.filter (fun g => g.kind != 0))
  (((gs.map groupId).eraseDups).map (fun id =>
    match modReq s id with
    | none => 0
    | some r => if r.home ≠ q then 0
      else r.pages.length - ceilDiv ((gs.filter (fun g => groupId g == id)).foldl (fun p g => min p g.pos.toNat) (2 ^ 21)) 16)).sum

/-- Free page counts against what the lead's page accounting predicts (R405). [DEDUCED: log 58] -/
def poolCheck (s : State) (m : CommitMsg) : State :=
  if m.src = 0 then s
  else (List.range 4).foldl (fun s q =>
    let f := freePages s q + pagesAhead s m.src.toNat q
    let n := (m.free.getD q 0).toNat
    if f = n then s
    else raise 2 Evt.SERVE_POOL_DIVERGED (m.src.toNat + q * 2 ^ 6 + f % 2 ^ 30 * 2 ^ 8 + n % 2 ^ 26 * 2 ^ 38) s) s

/-! ## Deadlines (R414, R415) -/

def deadline (t step : Nat) (s : State) (e : Nat × Req) : State :=
  let r := reqAt s e.1
  if r.state = 0 ∨ terminal r.state = true ∨ isServe (eKind r.entry) = false ∨ eDeadline r.entry = 0 ∨ t ≤ eDeadline r.entry then s
  else
    let r := { r with late := true, retiring := fOnLate r.entry }
    let s := setReq e.1 r s
    if r.retiring ∧ inFlight s (reqId e.1 r) = false then finishReq e.1 3 step s else s

/-! ## Submissions (R399 to R403) -/

/-- Role in force (R416). -/
def roleOf (s : State) : Nat := forceFld s Reg.HAWK_CONFIG 1 0
def roleTakes (role : Nat) (b : Bytes) : Bool :=
  let k := eKind b
  if role = 1 then (k == 1 && fShip b) || k == 2
  else if role = 2 then k != 1
  else true

/-- A remote target may serve as an egress buffer (R536). [DEDUCED: log 56] -/
def egressOk (s : State) (i : Nat) : Bool :=
  decide (i < 4096) && (targetOf s i).kind == 1 && decide (egressSlots (targetOf s i) ≠ 0)

/-- The training parameter block is allowed (chapter 10's table). [DEDUCED: log 56] -/
def paramsOk (s : State) (b : Bytes) : Bool :=
  let p := hbmRead s (eParams b) 64
  let f := fun a => word (byteField p a (a + 3))
  let beta := fun a => Fp.isFinite (f a) && !Fp.sgn (f a) && decide (Fp.val (f a) < 1)
  let pos := fun a => Fp.isFinite (f a) && decide (0 < Fp.val (f a))
  hbmValid (eParams b) && decide (byteField p 0 1 < 4096) && decide (bits (byteAt p 2) 7 4 = 0) && byteAt p 3 == 0 &&
  Fp.isFinite (f 4) && beta 8 && beta 12 && pos 16 && Fp.isFinite (f 20) && pos 24 && decide (1 ≤ byteField p 28 31) &&
  decide (2 ≤ byteField p 36 39 ∧ byteField p 36 39 ≤ 65536) && allZero (p.drop 48)

/-- The adapter a submission selects; a TRAIN's stands in its parameter block. -/
def adapterOf (s : State) (b : Bytes) : Nat :=
  if eKind b = 6 then byteField (hbmRead s (eParams b) 64) 0 1 else eAdapter b

/-- No field breaks the tables (R400). [DEDUCED: log 56] -/
def fieldsOk (s : State) (b : Bytes) : Bool :=
  let k := eKind b
  let zero := fun (a n : Nat) => allZero ((b.drop a).take n)
  decide (1 ≤ k ∧ k ≤ 7) && decide (eFlags b < 16) && decide (eHome b ≤ 4) && decide (eSpec b ≤ 8) &&
  (if isServe k then
    decide (1 ≤ eMaxNew b ∧ eMaxNew b ≤ 1048576) && decide (eAdapter b < 4096 ∨ eAdapter b = 0xFFFF) && decide (1 ≤ eLen b) &&
    egressOk s (eEgress b) && zero 60 4 &&
    (let te := word (byteField b 32 35); Fp.isFinite te && !(Fp.sgn te && decide (Fp.val te ≠ 0))) &&
    (let tp := word (byteField b 36 39); Fp.isFinite tp && decide (0 < Fp.val tp ∧ Fp.val tp ≤ 1))
  else if k = 3 then decide (eLen b < 4096) && (targetOf s (eLen b)).kind == 2 && zero 16 24
  else if k = 6 then zero 8 32 && zero 48 16 && paramsOk s b
  else zero 12 52)

/-- The live park entry that a handle names: valid, not expired, not claimed by a waiting RESUME. -/
def handleLive (s : State) (t h : Nat) : Bool :=
  let b := parkEntry s (h % 2 ^ 20)
  h != 0 && parkValid b && byteField b 0 3 == h && decide (t ≤ byteField b 8 15) &&
  !(slotsUsed s).any (fun e => eKind e.2.entry == 4 && e.2.state == 1 && e.2.handle == h)

/-- The lowest free slot (R395). -/
def firstFree : List (Nat × Req) → Nat → Nat
  | [], i => i
  | (k, r) :: rs, i => if i < k then i else if r.state = 0 then k else firstFree rs (k + 1)

/-- Positions a request starts from: the prompt, the restored positions and the prompt, the shipped positions. -/
def lengthOf (s : State) (b : Bytes) : Nat :=
  eLen b + (if eKind b = 4 then byteField (parkEntry s (eTarget b % 2 ^ 20)) 4 7 else 0)

/-- The first rejection cause that applies, in ascending order, 0 for none (R401, R416, R534). [DEDUCED: log 56] -/
def rejectCause (s : State) (t : Nat) (b : Bytes) : Nat :=
  let k := eKind b
  let target := slotOfId s (eTarget b)
  let r : Req := match target with | none => ({} : Req) | some slot => reqAt s slot
  let byHandle := k = 7 ∧ target = none
  if !fieldsOk s b then 1
  else if takesSlot k && decide (65536 ≤ firstFree s.serve.lead.reqs 0) then 2
  else if !roleTakes (roleOf s) b then 3
  else if (isServe k && eAdapter b != 0xFFFF || k == 6) && (!adapterFree s (adapterOf s b) ||
      (k == 6 && (adUsers (knownEntry s (adapterOf s b)) != 0 || adState (knownEntry s (adapterOf s b)) == 0))) then 4
  else if (k = 2 ∨ k = 3) ∧ target = none then 5
  else if byHandle ∧ handleLive s t (eTarget b) = false then 6
  else if k = 4 ∧ handleLive s t (eTarget b) = false then 6
  else if isServe k ∧ 1048576 < lengthOf s b + eMaxNew b then 7
  else if (k = 1 ∨ k = 4) ∧ (regFld s Reg.SP_ING_COUNT 15 0 ≤ eIngress b ∨
      regFld s Reg.SP_ING_SIZE 15 0 * 4096 < 4 * eLen b) then 8
  else if (k = 2 ∧ terminal r.state = true) ∨ (k = 3 ∧ (r.state ≠ 5 ∨ r.idle = false)) ∨
      (k = 7 ∧ target.isSome = true ∧ (r.state ≠ 5 ∨ r.idle = false)) then 9
  else if k = 5 ∧ (slotsUsed s).any (fun e => eKind e.2.entry == 5 && eTarget e.2.entry == eTarget b && !terminal e.2.state) = true then 10
  else if k = 3 ∧ (eCapacity b < (match modReq s (eTarget b) with | none => 0 | some q => q.pages.length) * pageSize s ∨
      (targetOf s (eLen b)).len < eOffset b + eCapacity b) then 11
  else 0

/-- Indices of park entries that are valid or being written, in rising order. -/
def parkTaken (s : State) : List Nat :=
  let base := reg64 s Reg.HAWK_PARK_BASE
  let listed := ((s.mem.hbm.filter (fun e => decide (base ≤ e.1 ∧ e.1 < base + 33554432))).map (fun e => (e.1 - base) / 32)).eraseDups
  listed.filter (fun i => parkValid (parkEntry s i) || (slotsUsed s).any (fun e => e.2.state == 6 && e.2.handle % 2 ^ 20 == i))

/-- The lowest number not in a rising list. -/
def lowestFree : List Nat → Nat → Nat
  | [], i => i
  | k :: ks, i => if i < k then i else if k = i then lowestFree ks (i + 1) else lowestFree ks i

/-- The next handle (R421). -/
def nextHandle (s : State) : Nat :=
  let i := lowestFree (parkTaken s) 0
  let g := byteField (parkEntry s i) 0 3 / 2 ^ 20
  i + (if g = 4095 then 1 else g + 1) * 2 ^ 20

/-- The prompt store's copy (R535). -/
def copyPrompt (b : Bytes) (s : State) : Bytes × State :=
  if eKind b ≠ 1 ∧ eKind b ≠ 4 then ([], s)
  else
    let a := reg64 s Reg.SP_ING_BASE + eIngress b * regFld s Reg.SP_ING_SIZE 15 0 * 4096
    (hbmRead s a (4 * eLen b), chargeHbm (16 + hbmStack a / 6 % 4) 9 (burstsOf a (4 * eLen b)).length s)

/-- An accepted entry takes effect (R403, R416, R422). -/
def acceptEntry (step idx : Nat) (b : Bytes) (s : State) : State :=
  let k := eKind b
  if takesSlot k then
    let slot := firstFree s.serve.lead.reqs 0
    let g := (reqAt s slot).gen
    let (p, s) := copyPrompt b s
    let r : Req := { gen := (if g = 65535 then 1 else g + 1), state := 1, entry := b, prompt := p,
                     home := (if eHome b = 4 then slot % 4 else eHome b), length := lengthOf s b, changeStep := step,
                     handle := (if k = 4 then eTarget b else 0), order := s.serve.lead.taken }
    setReq slot r s
  else match slotOfId s (eTarget b) with
    | some slot =>
      if k = 2 then endReq slot 8 4 0 step s
      else if k = 7 then finishReq slot 6 step s
      else
        let h := nextHandle s
        let s := hbmWrite (parkAddr s (h % 2 ^ 20) + 8) (toBytes 8 (eExpiry b)) s
        let s := updReq slot (fun r => { r with state := 6, handle := h, idle := false, ioDone := [], parkClient := eClient b,
                                                parkIndex := idx, changeStep := step }) s
        addOrder (.park (word (eTarget b)) (word h) (BitVec.ofNat 16 (eLen b)) (BitVec.ofNat 64 (eOffset b))
          (BitVec.ofNat 64 (eCapacity b))) s
    | none =>
      let h := eTarget b
      addOrder (.expire (word h)) (setParkValid (h % 2 ^ 20) false (parkRelease (eClient b) 0 (parkEntry s (h % 2 ^ 20)) s))

/-- One entry of the submission ring (R399, R401). -/
def takeEntry (t step idx : Nat) (s : State) : State :=
  let b := bar2Read s (0x01000000 + 64 * (idx % 2 ^ ringLog2 s Reg.HAWK_SUB_RING)) 64
  let c := rejectCause s t b
  let s := updLead (fun l => { l with taken := l.taken + 1 }) s
  if c = 0 then acceptEntry step idx b s
  else
    addCpl (cplBytes (eClient b) 0 2 c 0 step 0)
      (raise 2 Evt.SERVE_SUB_REJECT (eKind b + c * 2 ^ 8 + idx % 2 ^ 32 * 2 ^ 16) (bump Reg.HAWK_REJECT_COUNT 1 s))

/-- Up to 1,024 entries below the latched tail, in ring order (R399). -/
def takeEntries (t step : Nat) : Nat → State → State
  | 0, s => s
  | n + 1, s =>
    let h := reg s Reg.HAWK_SUB_HEAD
    if h = reg s Reg.HAWK_SUB_TAIL then s
    else takeEntries t step n (setReg Reg.HAWK_SUB_HEAD (h + 1) (takeEntry t step h.toNat s))

/-! ## Admission (R403 to R406) -/

/-- The promise of a request (R404). [DEDUCED: log 58] -/
def promise (r : Req) : Nat := ceilDiv (r.length + eMaxNew r.entry) 16

/-- The part of a promise not yet moved to use (R406). -/
def outstandingOf (s : State) (e : Nat × Req) : Nat :=
  if 2 ≤ e.2.state ∧ e.2.state ≤ 6 ∧ isServe (eKind e.2.entry) = true then
    promise e.2 - (match modReq s (reqId e.1 e.2) with | none => 0 | some r => r.pages.length)
  else 0

def outstandingIn (s : State) (q : Nat) : Nat :=
  ((s.serve.lead.reqs.filter (fun e => e.2.home == q)).map (outstandingOf s)).sum

/-- Chain keys of a prompt (R349). -/
def chainKeys (tail : Bytes) : Nat → Bytes → Bytes → List Bytes
  | 0, _, _ => []
  | n + 1, prev, p =>
    let k := (shake256 32 (prev ++ p.take 64 ++ tail)).take 16
    k :: chainKeys tail n k (p.drop 64)

/-- KEY items of a request: block indices in rising order. -/
def keyItems (id : Nat) (ks : List Bytes) : List MsgItem :=
  ((List.range ks.length).zip ks).map (fun e => .key (word id) (word e.1) e.2)

/-- A request is admitted (R396, R406, R424). -/
def admits (slot t step : Nat) (s : State) : State :=
  let r := reqAt s slot
  let b := r.entry
  let id := reqId slot r
  if eKind b = 4 ∧ (parkValid (parkEntry s (r.handle % 2 ^ 20)) = false ∨
      byteField (parkEntry s (r.handle % 2 ^ 20)) 8 15 < t) then failReq slot 7 step s
  else
    let ks := if eKind b = 1 then chainKeys (wingsetDigest s ++ adapterDigest s (eAdapter b)) ((r.length - 1) / 16)
        (List.replicate 16 0) r.prompt else []
    let s := setReq slot { r with state := (if eKind b = 5 then 4 else 2), admitStep := step, changeStep := step } s
    let s := complete slot 1 0 step 0 (bump Reg.HAWK_ADMIT_COUNT 1 s)
    let s := addOrder (.admits (word id) (BitVec.ofNat 8 r.home) (BitVec.ofNat 8 (eFlags b)) (BitVec.ofNat 16 (eAdapter b))
      (word r.length) (word ks.length) (word (eMaxNew b)) (BitVec.ofNat 8 (eKind b))) s
    let s : State := (keyItems id ks).foldl (fun s i => addOrder i s) s
    if eKind b = 5 then addOrder (.ship (word id) (word (eTarget b)) true (word r.length)) s
    else if eKind b = 4 then
      let i := r.handle % 2 ^ 20
      let p := parkEntry s i
      addOrder (.resume (word id) (word r.handle) (BitVec.ofNat 16 (byteField p 24 25)) (BitVec.ofNat 64 (byteField p 16 23))
        (word (byteField p 4 7))) (setParkValid i false (updReq slot (fun r => { r with parked := p }) s))
    else s

/-- Insert by a key, after equals. -/
def insertBy (f : Nat × Req → Nat) (e : Nat × Req) : List (Nat × Req) → List (Nat × Req)
  | [] => [e]
  | x :: xs => if f e < f x then e :: x :: xs else x :: insertBy f e xs
def sortBy (f : Nat × Req → Nat) (es : List (Nat × Req)) : List (Nat × Req) := es.foldl (fun l e => insertBy f e l) []

/-- The adapter of a request may still be selected (R363); a request whose adapter may not waits. -/
def adapterOpen (s : State) (r : Req) : Bool := eAdapter r.entry == 0xFFFF || adapterFree s (eAdapter r.entry)

/-- Admissions in submission order; a request that must wait holds back its quadrant (R363, R403). [DEDUCED: log 58] -/
def admitAll (t step : Nat) : List (Nat × Req) → List Nat → State → State
  | [], _, s => s
  | e :: es, held, s =>
    let q := e.2.home
    if held.contains q then admitAll t step es held s
    else if freePages s q < outstandingIn s q + promise e.2 ∨ adapterOpen s e.2 = false then admitAll t step es (q :: held) s
    else admitAll t step es held (admits e.1 t step s)

def admissions (t step : Nat) (s : State) : State :=
  if flag (force s Reg.HAWK_CONFIG) 2 then
    admitAll t step (sortBy (fun e => e.2.order)
      ((slotsUsed s).filter (fun e => e.2.state == 1 && isServe (eKind e.2.entry)))) [] s
  else s

/-- The active training job: its slot (R367). -/
def activeJob (s : State) : Option Nat :=
  ((slotsUsed s).find? (fun e => eKind e.2.entry == 6 && e.2.state == 2)).map (·.1)

/-- A waiting job's adapter is VALID, with state, and no request selects it (R367, the parameter block). -/
def jobReady (s : State) (e : Nat × Req) : Bool :=
  let a := adapterOf s e.2.entry
  let b := knownEntry s a
  e.2.state == 1 && eKind e.2.entry == 6 && adapterFree s a && adUsers b == 0 && adState b != 0 &&
  !(slotsUsed s).any (fun x => isServe (eKind x.2.entry) && decide (2 ≤ x.2.state ∧ x.2.state ≤ 6) && eAdapter x.2.entry == a)

/-- The next training job becomes active: the first that can (R367). [DEDUCED: log 54] -/
def startJob (step : Nat) (s : State) : State :=
  if (activeJob s).isSome || s.adapt.job != 0 || s.adapt.ending.isSome then s
  else match sortBy (fun e => e.2.order) ((slotsUsed s).filter (jobReady s)) with
    | [] => s
    | (slot, r) :: _ =>
      let a := adapterOf s r.entry
      let s := setReq slot { r with state := 2, admitStep := step, changeStep := step } s
      addOrder (.admits (word (reqId slot r)) (BitVec.ofNat 8 r.home) (BitVec.ofNat 8 (eFlags r.entry)) (BitVec.ofNat 16 a) 0 0 0 6)
        (complete slot 1 0 step 0 (bump Reg.HAWK_ADMIT_COUNT 1 s))

/-- The active job ends: its STEPS updates taken, or failed (R379, R380). [DEDUCED: log 54] -/
def checkJob (step : Nat) (s : State) : State :=
  match activeJob s with
  | none => s
  | some slot =>
    let r := reqAt s slot
    if s.adapt.job ≠ reqId slot r then s
    else if s.adapt.failed then failReq slot 8 step s
    else if jobField s 28 31 ≤ s.adapt.steps then finishReq slot 7 step s
    else s

/-! ## Park expiry (R425) -/

def expireEntry (deferred : Nat) (s : State) (i : Nat) : State :=
  let b := parkEntry s i
  let s := parkRelease 0 0 b (setParkValid i false s)
  raise 2 Evt.PARK_EXPIRED (byteField b 0 3 + deferred * 2 ^ 32)
    (addOrder (.expire (word (byteField b 0 3))) (bump Reg.HAWK_EXPIRE_COUNT 1 s))

def expiries (t : Nat) (s : State) : State :=
  let due := (parkTaken s).filter (fun i => parkValid (parkEntry s i) && decide (byteField (parkEntry s i) 8 15 < t))
  (due.take 4096).foldl (expireEntry (due.length - 4096)) s

/-! ## Planning (R382, R407 to R409, R446, R447) -/

/-- A field of a program's cost record; none when a word of it reads as poison. -/
def costField (s : State) (i a b : Nat) : Option Nat :=
  (spadBytes s 16 ((reg s Reg.ATLAS_COST_BASE).toNat + 16 * i) 128).map (fun r => byteField r a b)

/-- Demand of a class in a resource against `d` breaths of budget. -/
def demandFits (s : State) (i d c r : Nat) : Bool :=
  let off := if r = 3 then (12 * c + 6, 12 * c + 9) else (12 * c + 2 * r, 12 * c + 2 * r + 1)
  match costField s i off.1 off.2 with
  | none => false
  | some n =>
    let cost := if r = 3 then n * s.atlas.k * inputFactor s else n
    let unit := if r = 3 then 2 ^ 32 else 1
    let lend := if c = 1 ∧ borrowEn s = true then (List.range 10).filter (lends s) else []
    match budgetOf s c r with
    | none => true
    | some b =>
      if lend.any (fun l => (budgetOf s l r).isNone) then true
      else decide (cost ≤ d * (b + (lend.map (fun l => (budgetOf s l r).getD 0)).sum) * unit)

/-- Breaths a program's step takes. -/
def breathsOf (s : State) (i : Nat) : Nat := max 1 (ceilDiv ((costField s i 120 123).getD 0) s.breath.ticks)

/-- The ledger passes a program (R447). -/
def ledgerPasses (s : State) (i : Nat) : Bool :=
  let d := breathsOf s i
  let e := ((List.range 10).map (fun c => (costField s i (12 * c + 6) (12 * c + 9)).getD 0)).sum
  (List.range 40).all (fun x => demandFits s i d (x / 4) (x % 4)) &&
  decide (e * s.atlas.k * inputFactor s * 800 + basePower s * (costField s i 120 123).getD 0 * 2 ^ 32 ≤
    d * s.atlas.allowance * 800 * 2 ^ 32)

/-- Row capacities of the serving programs, largest first. -/
def capacities (s : State) : List Nat :=
  let cs := ((programs s).filter (fun e => e.2.kind == 0)).map (fun e => e.2.rows)
  ((List.range 64).reverse.map (fun i => 8 * (i + 1))).filter (cs.contains ·)

/-- The covering program of a capacity with the largest CTX and KMAX. -/
def largestAt (s : State) (rows : Nat) : Option Nat :=
  (((programs s).filter (fun e => e.2.kind == 0 && e.2.rows == rows)).foldl (fun r e => match r with
    | none => some e
    | some o => if o.2.ctx < e.2.ctx ∨ (o.2.ctx = e.2.ctx ∧ o.2.kmax < e.2.kmax) then some e else some o)
    (none : Option (Nat × Bucket))).map (·.1)

/-- rows_allowed_by_ledger (R447), bounded by the largest capacity present (R409). -/
def rowsMax (s : State) : Nat :=
  let cs := capacities s
  let allowed := ((cs.find? (fun c => match largestAt s c with | none => false | some i => ledgerPasses s i))).getD 8
  min 512 (min allowed (cs.headD 0))

/-- A row group. -/
def mkGroup (slot : Nat) (r : Req) (pos count kind row real : Nat) : RowGroup :=
  { slot := BitVec.ofNat 16 slot, gen := BitVec.ofNat 16 r.gen, pos := BitVec.ofNat 21 pos, count := BitVec.ofNat 4 count,
    kind := BitVec.ofNat 3 kind, row := BitVec.ofNat 9 row, realRows := BitVec.ofNat 5 real,
    adapter := BitVec.ofNat 12 (if eAdapter r.entry < 4096 then eAdapter r.entry else 0), adp := decide (eAdapter r.entry < 4096) }

/-- DECODE groups (R408). -/
def planDecode (maxRows : Nat) : List (Nat × Req) → Nat → List RowGroup × Nat
  | [], rows => ([], rows)
  | (slot, r) :: es, rows =>
    let k := min (eSpec r.entry) (eMaxNew r.entry - r.out - 1)
    if rows + k + 1 ≤ maxRows then
      let (gs, n) := planDecode maxRows es (rows + k + 1)
      (mkGroup slot r (r.length + r.out - 1) k 1 rows 0 :: gs, n)
    else planDecode maxRows es rows

/-- PREFILL chunks of one request (R408): groups, rows, next position. -/
def planChunks (maxRows slot : Nat) (r : Req) : Nat → Nat → Nat → List RowGroup × Nat × Nat
  | 0, rows, pos => ([], rows, pos)
  | c + 1, rows, pos =>
    if r.length ≤ pos ∨ maxRows < rows + 16 then ([], rows, pos)
    else
      let real := min 16 (r.length - pos)
      let (gs, n, p) := planChunks maxRows slot r c (rows + 16) (pos + real)
      (mkGroup slot r pos 15 (if r.length ≤ pos + real then 3 else 2) rows real :: gs, n, p)

/-- PREFILL groups, with the next positions. -/
def planPrefill (maxRows chunks : Nat) : List (Nat × Req) → Nat → List RowGroup × List (Nat × Nat)
  | [], _ => ([], [])
  | (slot, r) :: es, rows =>
    let (gs, n, p) := planChunks maxRows slot r chunks rows r.planned
    let (hs, ps) := planPrefill maxRows chunks es n
    (gs ++ hs, (slot, p) :: ps)

/-- A request is decode-ready at the machine commit of a step (R407). -/
def decodeReady (s : State) (step : Nat) (e : Nat × Req) : Bool :=
  e.2.state == 5 && !e.2.idle && !e.2.retiring && decide (e.2.readyAt ≤ step) && !inFlight s (reqId e.1 e.2)

/-- Plan the wave of the next serving step (R408). -/
def planWave (step : Nat) (s : State) : List RowGroup × State :=
  let m := rowsMax s
  let dec := sortBy (fun e => e.2.readyAt) ((slotsUsed s).filter (decodeReady s step))
  let pre := sortBy (fun e => e.2.admitStep) ((slotsUsed s).filter (fun e => e.2.state == 3 && !e.2.retiring))
  let (gs, rows) := planDecode m dec 0
  let (hs, ps) := planPrefill m (max 1 (forceFld s Reg.HAWK_CONFIG 12 8)) pre rows
  (gs ++ hs, ps.foldl (fun s e => updReq e.1 (fun r => { r with planned := e.2 }) s) s)

/-- The next step is a training step (R382). -/
def trainNext (s : State) : Bool :=
  let ratio := forceFld s Reg.TRAIN_CONFIG 7 0
  match activeJob s with
  | none => false
  | some slot =>
    s.adapt.job == reqId slot (reqAt s slot) && ratio != 0 && decide (ratio - 1 ≤ s.serve.lead.sinceTrain) &&
    (match selectProgram s 1 0 (trainPositions s) 0 with
    | none => false
    | some i => (List.range 4).all (fun r => demandFits s i (breathsOf s i) 3 r))

/-! ## The state window and the completion ring (R402, R426) -/

/-- A request record. -/
def reqRecord (slot : Nat) (r : Req) : Bytes :=
  if r.state = 0 then List.replicate 64 0
  else
    toBytes 4 (reqId slot r) ++ toBytes 1 r.state ++ toBytes 1 (r.seen % 16) ++ toBytes 1 r.cause ++ toBytes 1 r.home ++
    toBytes 4 (eClient r.entry) ++ toBytes 4 (if isServe (eKind r.entry) then r.length else 0) ++ toBytes 4 r.committed ++
    toBytes 4 r.out ++ toBytes 8 (if isServe (eKind r.entry) then eDeadline r.entry else 0) ++ toBytes 8 r.admitStep ++
    toBytes 4 r.proposed ++ toBytes 4 r.accepted ++
    toBytes 2 (if isServe (eKind r.entry) then eAdapter r.entry else 0xFFFF) ++ [0, 0] ++ toBytes 4 r.handle ++ toBytes 8 r.changeStep

/-- Adapters that are known, and those of which the window shows anything. -/
def adaptersListed (s : State) : List Nat :=
  let shown := s.host.bar2.filter (fun (e : Nat × Byte) => decide (0x405000 ≤ e.1 ∧ e.1 < 0x40D000))
  (s.adapt.table.map (fun (e : Nat × Bytes) => e.1) ++ shown.map (fun (e : Nat × Byte) => (e.1 - 0x405000) / 8)).eraseDups

/-- Publication (R426): GEN turns odd and even again around the changed records. -/
def publishWindow (t step : Nat) (s : State) : State :=
  let gen := ofBytes (bar2Read s 0 8)
  let sub := ((slotsUsed s).filter (fun e => e.2.state == 1)).length
  let s := setBar2 0 (toBytes 8 (gen + 2) ++ toBytes 8 step ++ toBytes 8 t ++ toBytes 8 (roleOf s + sub * 2 ^ 16)) s
  let s : State := s.serve.lead.reqs.foldl (fun s e => setBar2 (0x1000 + 64 * e.1) (reqRecord e.1 e.2) s) s
  let s : State := s.fmt.entries.foldl (fun s e =>
    setBar2 (0x401000 + e.1) [BitVec.ofNat 8 (e.2.state + 4 * one e.2.en + 8 * one e.2.valid)] s) s
  let s : State := (adaptersListed s).foldl (fun s a => setBar2 (0x405000 + 8 * a) (toBytes 4 (adapterStateOf s a).toNat) s) s
  msix 2 s

/-- Write waiting completions while the ring has room (R402). -/
def flushCpl : Nat → State → State
  | 0, s => s
  | n + 1, s =>
    match s.serve.lead.cplWait with
    | [] => s
    | b :: rest =>
      let k := ringLog2 s Reg.HAWK_CPL_RING
      let tail := reg s Reg.HAWK_CPL_TAIL
      if 2 ^ k ≤ (tail - reg s Reg.HAWK_CPL_HEAD).toNat then s
      else
        let s := setBar2 (0x01400000 + 32 * (tail.toNat % 2 ^ k)) b (updLead (fun l => { l with cplWait := rest }) s)
        let s := setReg Reg.HAWK_CPL_TAIL (tail + 1) s
        let s := match slotOfId s (byteField b 4 7) with
          | none => s
          | some slot => if terminal (reqAt s slot).state ∧ 3 ≤ byteAt b 8 ∧ byteAt b 8 ≤ 5 then
              updReq slot (fun r => { r with closed := true }) s else s
        flushCpl n s

def writeCpls (s : State) : State :=
  let tail := reg s Reg.HAWK_CPL_TAIL
  let s := flushCpl s.serve.lead.cplWait.length s
  let s := if reg s Reg.HAWK_CPL_TAIL = tail then s else msix 0 s
  if s.serve.lead.cplWait.isEmpty then s else raise 2 Evt.SERVE_CPL_BACKLOG s.serve.lead.cplWait.length s

/-! ## The machine commit (R390, R392) -/

/-- Slots whose completion has been written are free (R397). -/
def freeClosed (s : State) : State :=
  updLead (fun l => { l with reqs := (l.reqs.map (fun e =>
    (e.1, if e.2.closed then ({ gen := e.2.gen } : Req) else e.2))).filter (fun e => decide (e.2 ≠ {})) }) s

/-- A SERVE whose lookup is done enters PREFILL (R396, R406). -/
def startPrefill (step : Nat) (s : State) (e : Nat × Req) : State :=
  if e.2.state ≠ 2 ∨ eKind e.2.entry ≠ 1 then s
  else match modReq s (reqId e.1 e.2) with
    | none => s
    | some r => updReq e.1 (fun q => { q with state := 3, planned := 16 * r.reused, committed := 16 * r.reused, changeStep := step }) s

/-- Send GO to every module and take the lead's own copy (R392). -/
def sendGo (m : GoMsg) (s : State) : State :=
  let n := messageParts m.items
  let s : State := (List.range (machineSize s - 1)).foldl (fun s i =>
    (List.range n).foldl (fun s p => sendTo (i + 1) (fun vc => .go vc (i + 1) p m) s) s) s
  goArrives m s

/-- The machine commit of a step (R390). -/
def machineCommit (s : State) : State :=
  let t := tick s
  let step := stepNumber s
  let n := machineSize s
  let msgs := s.serve.lead.done.map (·.2)
  let train := s.serve.trained
  let backlog := !s.serve.lead.cplWait.isEmpty
  let s := commitRegs .machineCommit (freeClosed (updLead (fun l => { l with done := [], ownAt := none }) s))
  let s : State := msgs.foldl poolCheck s
  let s : State := if train then
      (if msgs.any (·.stepError) then (match activeJob s with | none => s | some slot => failReq slot 1 step s) else s)
    else msgs.foldl (waveReport step) s
  let s : State := msgs.foldl (fun s m => m.items.foldl (doneItem m.src.toNat t step) s) s
  let s : State := s.serve.lead.poolFail.foldl (fun s id =>
    match slotOfId s id with | none => s | some slot => failReq slot 3 step s) s
  let s : State := if train then s else
    match s.serve.lead.waves[n - 1]? with
    | none => s
    | some w =>
      ((msgs.filter (fun m => m.src.toNat + 1 == n)).flatMap doneVerdicts).foldl (verdictArrives w t step) s
  let s := updLead (fun l => { l with
    waves := if train then l.waves else l.waves.take (n - 1)
    sinceTrain := if train then 0 else l.sinceTrain + 1, poolFail := [] }) s
  let s : State := (slotsUsed s).foldl (startPrefill step) s
  let s : State := (slotsUsed s).foldl (deadline t step) s
  let s := checkJob step s
  let head := reg s Reg.HAWK_SUB_HEAD
  let s := if backlog then s else
    expiries t (startJob step (admissions t step (takeEntries t step 1024 s)))
  let train := trainNext s
  let (gs, s) := if train then ([], s) else planWave step s
  let s := writeCpls (publishWindow t step s)
  let s := if reg s Reg.HAWK_SUB_HEAD = head then s else msix 1 s
  let job := match activeJob s with | none => 0 | some slot => reqId slot (reqAt s slot)
  let items := gs.map MsgItem.rowGroup ++ s.serve.lead.orders
  let m : GoMsg := { step := BitVec.ofNat 64 (step + 1),
                     start := BitVec.ofNat 64 (t + max 2400 (force s Reg.HAWK_PLAN_LEAD).toNat),
                     rows := BitVec.ofNat 16 ((gs.map groupRows).sum), role := BitVec.ofNat 8 (roleOf s), train := train,
                     job := word job, items := items }
  let s := updLead (fun l => { l with
    orders := [], waves := if train then l.waves else { step := step + 1, groups := gs } :: l.waves }) s
  sendGo m s

/-- The lead holds every module's COMMIT_DONE (R390); none is taken after a FATAL event (R272). [DEDUCED: log 58] -/
def machineReady (s : State) : Bool :=
  isLead s && s.serve.lead.ownAt.isSome && s.seq.fatal.isNone && s.seq.state != .halted &&
  (List.range (machineSize s)).all (fun m => (find? s.serve.lead.done m).isSome)

def tryCommit (s : State) : State := if machineReady s then machineCommit s else s

/-! ## The commands -/

/-- STEP_COMMIT (R389). -/
def execStepCommit (dt : Nat) (s : State) : Result :=
  act dt (fun s => if commitDue s then tryCommit (commitStep s) else s) s

/-- The step whose COMMIT_DONE the lead awaits. -/
def awaited (s : State) : Nat := if s.serve.lead.ownAt.isSome then stepNumber s else stepNumber s + 1

/-- A message of unknown items is discarded whole (R500). -/
def messageOk (items : List MsgItem) : Bool := items.all (fun i => i != .unknown)

/-- COMMIT_DONE (R390, R392): a module's message reaches the lead. -/
def commitArrives (m : CommitMsg) (s : State) : State :=
  if !isLead s || m.src = 0 || decide (machineSize s ≤ m.src.toNat) then s
  else receive (arrivalPort s m.src.toNat) (messagePackets m.items.length) (fun s =>
    if !messageOk m.items then frameInvalid (arrivalPort s m.src.toNat) 2 1 s
    else if m.step.toNat ≠ awaited s then s
    else tryCommit (updLead (fun l => { l with done := mput l.done m.src.toNat m }) s)) s

/-- COMMIT_DONE (R390). -/
def execCommitDone (dt : Nat) (msg : CommitMsg) (s : State) : Result := act dt (commitArrives msg) s

/-- SERVE_COMMIT_TIMEOUT (R391): a message latched in the compare tick counts as arrived. [DEDUCED: log 58] -/
def commitTimeout (s : State) : State :=
  match s.serve.lead.ownAt with
  | none => s
  | some t0 =>
    if machineReady s then machineCommit s
    else if tick s < t0 + max 2400 (force s Reg.HAWK_COMMIT_TIMEOUT).toNat then s
    else match (List.range (machineSize s)).find? (fun m => (find? s.serve.lead.done m).isNone) with
      | none => s
      | some m => raise 2 Evt.SERVE_COMMIT_TIMEOUT (stepNumber s + m * 2 ^ 48) (updLead (fun l => { l with ownAt := none }) s)

def execServeCommitTimeout (dt : Nat) (s : State) : Result :=
  act dt (fun s => if isLead s then commitTimeout s else s) s

/-- A GO reaches a module that has committed the step before (R392). -/
def goReceived (m : GoMsg) (s : State) : State :=
  if isLead s || !s.serve.waiting || decide (m.step.toNat ≠ stepNumber s + 1) then s
  else receive (arrivalPort s 0) (messagePackets m.items.length) (fun s =>
    if !messageOk m.items then frameInvalid (arrivalPort s 0) 2 1 s else goArrives m s) s

/-- GO (R392). -/
def execGo (dt : Nat) (msg : GoMsg) (s : State) : Result := act dt (goReceived msg) s

/-! ## Rings and cores (R384 to R387, R399) -/

def hawkInvalid (a : Nat) (v : Word) (s : State) : State := cmdInvalid 2 Evt.SERVE_CMD_INVALID a v s

/-- A write of HAWK_SUB_TAIL (R386, R399). -/
def subTailWrite (v : Word) (s : State) : State :=
  if !isLead s then s
  else if 2 ^ ringLog2 s Reg.HAWK_SUB_RING < (v - reg s Reg.HAWK_SUB_HEAD).toNat then hawkInvalid Reg.HAWK_SUB_TAIL v s
  else setReg Reg.HAWK_SUB_TAIL v s

/-- A write of HAWK_CPL_HEAD: beyond CPL_TAIL it is ignored. -/
def cplHeadWrite (v : Word) (s : State) : State :=
  if !isLead s then s
  else if (reg s Reg.HAWK_CPL_TAIL - reg s Reg.HAWK_CPL_HEAD).toNat < (v - reg s Reg.HAWK_CPL_HEAD).toNat then
    hawkInvalid Reg.HAWK_CPL_HEAD v s
  else setReg Reg.HAWK_CPL_HEAD v s

/-- Ring sizes are written while ADMIT_EN is 0 only. -/
def ringSizeWrite (a : Nat) (v : Word) (s : State) : State :=
  if !isLead s then s
  else if flag (force s Reg.HAWK_CONFIG) 2 || flag (reg s Reg.HAWK_CONFIG) 2 then hawkInvalid a v s
  else setReg a (v &&& 0x1F) s

/-- HAWK_CONFIG: ROLE 3 is refused. -/
def hawkConfigWrite (v : Word) (s : State) : State :=
  if fld v 1 0 = 3 then hawkInvalid Reg.HAWK_CONFIG v s else setReg Reg.HAWK_CONFIG (v &&& 0x1F07) s

/-- HAWK_SPARE_CMD (R384): the ninth core takes the place of a core, once. -/
def spareCmd (v : Word) (s : State) : State :=
  if !flag v 31 then s
  else if !isStopped s || regFld s Reg.HAWK_STATUS 15 12 != 15 then hawkInvalid Reg.HAWK_SPARE_CMD v s
  else
    let c := fld v 2 0
    setFld Reg.HAWK_STATUS c c 1 (setFld Reg.HAWK_STATUS 15 12 c s)

/-- HAWK_SPARE (R384). -/
def execHawkSpare (dt : Nat) (core : Fin 8) (s : State) : Result :=
  actHost dt 2 (spareCmd (word (2 ^ 31 + core.val))) s

/-- HAWK_CORE_FAULT (R385): the core, or what the ninth core stands for, no longer runs. [DEDUCED: log 59] -/
def coreFault (core cause : Nat) (s : State) : State :=
  let c := if core = 8 then regFld s Reg.HAWK_STATUS 15 12 else core
  let s := if c < 8 then setFld Reg.HAWK_STATUS c c 0 s else s
  raise 2 Evt.HAWK_CORE_FAULT (core + cause * 2 ^ 4) s

def execHawkCoreFault (dt : Nat) (core : Fin 9) (cause : BitVec 2) (s : State) : Result :=
  act dt (fun s => if cause = 1 ∨ cause = 2 then coreFault core cause.toNat s else s) s

/-- The request whose entry of the request table a slot holds, 0 for none: the lead holds those in SUBMITTED too. -/
def tableReq (s : State) (slot : Nat) : Nat :=
  if isLead s && decide ((reqAt s slot).state ≠ 0) then reqId slot (reqAt s slot)
  else match find? s.serve.reqs slot with | none => 0 | some r => r.id

/-- SERVE_TABLE_PARITY (R387): an entry of the request table fails its request at the next machine commit; any other
table is FATAL. [DEDUCED: log 59] -/
def tableParity (table index : Nat) (s : State) : State :=
  let d := table + index % 2 ^ 32 * 2 ^ 4
  if table = 1 then
    let id := tableReq s (index / 32)
    let s := raiseAt (tick s) 2 Evt.SERVE_TABLE_PARITY 3 (eventClass 2 s) id d s
    if id = 0 then s else { s with serve := { s.serve with parity := s.serve.parity ++ [(id, table, index)] } }
  else raiseAt (tick s) 2 Evt.SERVE_TABLE_PARITY 4 (eventClass 2 s) 0 d s

def execServeTableParity (dt : Nat) (table : BitVec 2) (index : Word) (s : State) : Result :=
  act dt (fun s => if table = 0 ∨ (table = 1 ∧ 2097152 ≤ index.toNat) then s else tableParity table.toNat index.toNat s) s

/-- The writes that the host link carried before the tail (R518). -/
def bar2Writes (ws : List (Word × Bytes)) (s : State) : State :=
  ws.foldl (fun s w =>
    if isLead s && bar2Valid s w.1.toNat w.2.length true then setBar2 w.1.toNat w.2 s
    else accessInvalid 2 w.1.toNat w.2.length true s) s

/-- HAWK_SUB_TAIL (R399, R518). -/
def execHawkSubTail (dt : Nat) (writes : List (Word × Bytes)) (tail : Word) (s : State) : Result :=
  actHost dt 2 (fun s => if s.host.d3hot then s else subTailWrite tail (bar2Writes writes s)) s

/-- HAWK_REQ_ACTIVE. -/
def reqActiveWord (s : State) : Word := word (slotsUsed s).length

end Sys2Proof.Machine
end

