-- ==== Sys2Proof/Machine/Nvm.lean ====
section
/-! DEFINITION. The NVM record area (R571 to R579): life records, the NVREC window, host time and firmware
copies. -/

namespace Sys2Proof.Machine

open Sys2Proof.Map

/-! ## Life records (R575 to R579) -/

/-- The module's powered seconds. -/
def modulePowered (s : State) : Nat := s.modLife.poweredS + poweredNow s

/-- A die's record as it would be written now. -/
def lifeNow (s : State) (d : Nat) : Life :=
  let l := mget {} s.life d
  { l with
    poweredS := l.poweredS + poweredNow s
    ageClock := if d < 16 then ageClock s d else 0
    pool := if d < 16 then sparePool s d else
      ((List.range 6).map (fun k => rowsRetired s (6 * (d - 16) + k))).sum
    factory := if d < 16 then ((inState s d 4).filter (fun p => (physOf s d p).cause == 5)).length else 0 }

/-- Write every life record (R570, R575): two writes of one SCLK cycle are one. [DESIGN CHOICE: log 26] -/
def writeLife (s : State) : State :=
  let step := if s.boot.lifeAt = some (sclk s) then 0 else 1
  let s := { s with
    life := (List.range 20).foldl (fun m d => mupd {} m d (fun l => { l with seq := l.seq + step })) s.life
    modLife := { s.modLife with seq := s.modLife.seq + step }
    boot := { s.boot with lifeAt := some (sclk s) } }
  nvTouch { s with nvm := { s.nvm with
    life := (List.range 20).foldl (fun m d => mset {} m d (lifeNow s d)) s.nvm.life
    modLife := { s.modLife with poweredS := modulePowered s } } }

/-- MEAN_EST in 1/16 °C, truncated. [DESIGN CHOICE: log 26] -/
def meanEst (l : Life) : Int := if l.estTicks = 0 then 0 else Int.tdiv l.estSum l.estTicks

/-- Whether MEAN_EST lies above 90 °C. -/
def meanHigh (l : Life) : Bool := decide ((1440 * l.estTicks : Nat) < l.estSum)

/-- The life events of a die at an hourly write (R579, R583). -/
def lifeEvents (d : Nat) (s : State) : State :=
  let l := mget {} s.life d
  let h := (l.poweredS + poweredNow s) / 3600
  let high := decide (1000 ≤ h) && meanHigh l
  let near := decide (78840 ≤ h)
  let past := decide (87600 < h)
  let s := if high && !l.hot then raise 8 Evt.LIFE_TEMP_HIGH (d + unsigned 16 (meanEst l) * 2 ^ 8) s else s
  let s := if near && !l.nearEnd then raise 8 Evt.LIFE_NEAR_END (d + h % 2 ^ 32 * 2 ^ 8) s else s
  let s := if past && !l.ended then raise 8 Evt.LIFE_END (d + h % 2 ^ 32 * 2 ^ 8) s else s
  { s with life := mupd {} s.life d (fun l => { l with
      hot := high || (l.hot && meanHigh l), nearEnd := l.nearEnd || near, ended := l.ended || past }) }

/-- Copy each die's record into its history slot (R577). -/
def lifeHistory (s : State) : State :=
  let k := (modulePowered s / 2592000 + 255) % 256
  nvTouch { s with nvm := { s.nvm with
    history := (List.range 20).foldl (fun m d => mset {} m (d * 256 + k) (mget {} s.nvm.life d)) s.nvm.history } }

/-- The records whose write fails keep their older copies (R571). [DEDUCED: log 25] -/
def keepOlder (old : Nvm) (o : List (Fin 21 × NvmObs)) (s : State) : State :=
  o.foldl (fun s e =>
    let (failed, s) := nvmFind e.2 s
    if !failed then s
    else if e.1.val = 20 then { s with nvm := { s.nvm with modLife := old.modLife } }
    else { s with nvm := { s.nvm with life := mset {} s.nvm.life e.1.val (mget {} old.life e.1.val) } }) s

/-- The hourly write: due when a powered hour has passed since the last (R575). [DESIGN CHOICE: log 26] -/
def hourlyWrite (o : List (Fin 21 × NvmObs)) (s : State) : State :=
  let h := modulePowered s / 3600
  if h ≤ s.boot.hour then s
  else
    let snap := decide (s.boot.hour / 720 < h / 720)
    let s := (List.range 16).foldl (fun s d => ageWarn d s) { s with boot := { s.boot with hour := h } }
    let s := keepOlder s.nvm o (writeLife ((List.range 20).foldl (fun s d => lifeEvents d s) s))
    if snap then lifeHistory s else s

/-- LIFE_RECORD_WRITE (R575). -/
def execLifeRecordWrite (dt : Nat) (nvm : List (Fin 21 × NvmObs)) (s : State) : Result :=
  act dt (hourlyWrite nvm) s

/-! ## The records' bytes -/

/-- `b` closed by its CRC-32C. -/
def withCrc (b : Bytes) : Bytes := b ++ toBytes 4 (crc32c b)

/-- Seconds of a number of Drone ticks. -/
def tickSeconds (t : Nat) : Nat := t / 800000000

/-- A die life record. -/
def lifeBytes (l : Life) : Bytes :=
  withCrc (padTo 124 (toBytes 8 l.poweredS ++ toBytes 4 l.seq ++ toBytes 4 l.powerUps ++ toBytes 4 l.ageClock ++
    toBytes 4 (unsigned 32 (meanEst l)) ++ l.bands.flatMap (fun t => toBytes 4 (tickSeconds t)) ++
    toBytes 4 (unsigned 16 l.peak) ++ toBytes 8 (l.energy / 1024000000) ++ toBytes 2 l.pool ++ toBytes 2 l.factory ++
    toBytes 4 l.rotations ++ toBytes 4 l.replacements ++ toBytes 4 (tickSeconds l.throttleTicks) ++ toBytes 4 l.trips))

/-- The module's life record. -/
def modLifeBytes (l : ModLife) : Bytes :=
  withCrc (padTo 124 (toBytes 8 l.poweredS ++ toBytes 4 l.seq ++ toBytes 4 l.powerUps ++ toBytes 4 l.devCount ++
    toBytes 4 l.trips ++ toBytes 4 l.clockLosses ++ toBytes 4 l.resets ++ toBytes 4 l.installs ++
    toBytes 8 l.hostTime ++ toBytes 1 l.fwCopy))

/-- An install record (R574). -/
def installBytes (r : InstallRec) : Bytes :=
  withCrc (padTo 124 (toBytes 4 r.seq ++ padTo 32 r.wingset ++ toBytes 8 r.poweredS ++ toBytes 8 r.hostTime ++
    toBytes 4 r.programmed ++ toBytes 4 r.failed ++ toBytes 4 r.equiv))

/-- Erased bytes. -/
def erased (n : Nat) : Bytes := List.replicate n 0xFF

/-- A stored life record's bytes, erased where none has been written. [DEDUCED: log 25] -/
def storedLife (m : SMap Life) (k : Nat) : Bytes :=
  match find? m k with | none => erased 128 | some l => lifeBytes l

/-- Four bytes of a structure as a word. -/
def wordAt (b : Bytes) (o : Nat) : Word := word (byteField b o (o + 3))

/-- A word of the NVREC window (R574). [DEDUCED: log 25] -/
def nvrecWindowWord (s : State) (o : Nat) : Word :=
  let n := s.nvm
  if o < 0x1000 then wordAt n.identity o
  else if o < 0x8000 then wordAt n.cert (o - 0x1000)
  else if o < 0x8040 then wordAt (n.shutdown.getD (erased 64)) (o - 0x8000)
  else if o < 0x8440 then wordAt (n.shutHistory.getD ((o - 0x8040) / 64) (erased 64)) ((o - 0x8040) % 64)
  else if 0x9000 ≤ o ∧ o < 0xB000 then
    (match n.installs.find? (fun r => r.seq % 64 == (o - 0x9000) / 128) with
     | none => wordAt (erased 128) 0
     | some r => wordAt (installBytes r) ((o - 0x9000) % 128))
  else if 0x10000 ≤ o ∧ o < 0x10A00 then wordAt (storedLife n.life ((o - 0x10000) / 128)) (o % 128)
  else if 0x10A00 ≤ o ∧ o < 0x10A80 then wordAt (modLifeBytes n.modLife) (o - 0x10A00)
  else if 0x20000 ≤ o ∧ o < 0xC0000 then
    wordAt (storedLife n.history ((o - 0x20000) / 0x8000 * 256 + (o - 0x20000) % 0x8000 / 128)) (o % 128)
  else 0

/-! ## Host time and firmware (R572, R578) -/

def globalInvalid (a : Nat) (v : Word) (s : State) : State := cmdInvalid 0 Evt.GLOBAL_CMD_INVALID a v s

/-- A word of NVREC_HOST_TIME: the low word is held, the high word completes the value, once per power-up. -/
def hostTimeWrite (high : Bool) (v : Word) (s : State) : State :=
  let a := Reg.NVREC_HOST_TIME
  if s.boot.hostTimeSet then globalInvalid (if high then a + 4 else a) v s
  else if !high then { s with regs := { s.regs with heldLow := mput s.regs.heldLow a v } }
  else
    let low := (find? s.regs.heldLow a).getD (reg s a)
    let s := setReg (a + 4) v (setReg a low s)
    { s with
      regs := { s.regs with heldLow := mdel s.regs.heldLow a }
      boot := { s.boot with hostTimeSet := true }
      modLife := { s.modLife with hostTime := low.toNat + v.toNat * 2 ^ 32 } }

/-- NVREC_HOST_TIME (R578). -/
def execNvrecHostTime (dt : Nat) (high : Bool) (value : Word) (s : State) : Result :=
  actHost dt 8 (hostTimeWrite high value) s

/-- A write of NVREC_FW_CMD (R572): WRITE only while stopped. [DESIGN CHOICE: log 27] -/
def fwCmd (v : Word) (s : State) : State :=
  let op := fld v 31 28
  if s.boot.fwBusy.isSome ∨ (op ≠ 1 ∧ op ≠ 2) then globalInvalid Reg.NVREC_FW_CMD v s
  else if op = 1 ∧ isStopped s = false then
    globalInvalid Reg.NVREC_FW_CMD v { s with boot := { s.boot with fwResult := 4 } }
  else { s with boot := { s.boot with fwBusy := some (op, fld v 11 0) } }

/-- NVREC_FW_WRITE (R572). -/
def execNvrecFwWrite (dt : Nat) (units : BitVec 12) (s : State) : Result :=
  actHost dt 8 (fwCmd (0x10000000 ||| units.setWidth 32)) s
/-- NVREC_FW_SELECT (R572). -/
def execNvrecFwSelect (dt : Nat) (copy : Bool) (s : State) : Result :=
  actHost dt 8 (fwCmd (0x20000000 ||| word (one copy))) s

/-- The image of a WRITE lies in one HBM region and has a length of 1 to 2,048 units. -/
def fwBounds (s : State) (units : Nat) : Bool :=
  decide (1 ≤ units) && decide (units ≤ 2048) && (regionOf s (reg64 s Reg.NVREC_FW_SRC) (units * 4096)).isSome

/-- FW_RESULT of a WRITE: 0 OK, 1 signature, 2 bounds. [DESIGN CHOICE: log 27] -/
def fwWriteResult (s : State) (units : Nat) : Nat :=
  let a := reg64 s Reg.NVREC_FW_SRC
  if !fwBounds s units then 2
  else if hbmPoisoned s a (units * 4096) || !Config.vendorVerify (hbmRead s a (units * 4096)) then 1
  else 0

/-- A firmware command ends: it never writes the running copy (R572). [DESIGN CHOICE: log 27] -/
def fwEnds (s : State) : State :=
  match s.boot.fwBusy with
  | none => s
  | some (op, arg) =>
    let r := if op = 1 then fwWriteResult s arg else 0
    let s := { s with boot := { s.boot with fwBusy := none, fwResult := r } }
    if r ≠ 0 then raise 8 Evt.FW_UPDATE_FAIL r s
    else if op = 1 then
      let d := Config.firmwareDigest (hbmRead s (reg64 s Reg.NVREC_FW_SRC) (arg * 4096))
      let copy := !s.boot.fwCopy
      raise 8 Evt.FW_UPDATE_DONE (1 + 16 * one copy) { s with nvm := { s.nvm with
        fwDigest := if copy then (s.nvm.fwDigest.1, d) else (d, s.nvm.fwDigest.2) } }
    else
      raise 8 Evt.FW_UPDATE_DONE (2 + 16 * (arg % 2)) { s with nvm := { s.nvm with fwPref := arg % 2 == 1 } }

/-- FW_UPDATE_DONE (R572). -/
def execFwUpdateDone (dt : Nat) (s : State) : Result := act dt fwEnds s

/-- NVREC_STATUS. -/
def nvrecStatusWord (s : State) : Word :=
  word (s.nvm.spares % 512 + one s.nvm.fwPref * 2 ^ 24 + s.boot.fwResult % 8 * 2 ^ 28 + one s.boot.fwBusy.isSome * 2 ^ 31)

end Sys2Proof.Machine
end

