-- ==== Sys2Proof/Machine/Boot.lean ====
section
/-! DEFINITION. Power, start-up and shutdown (R563 to R570, R601, R607 to R611, R615). -/

namespace Sys2Proof.Machine

open Sys2Proof.Map

/-! ## Power -/

/-- The record area as it is read again: a physical record whose write failed is the older copy (R571).
[DEDUCED: log 25] -/
def nvmAsStored (n : Nvm) : Nvm :=
  { n with phys := n.stale.foldl (fun m e => mset (physDefault (e.1 % 8192)) m e.1 e.2) n.phys, stale := [] }

/-- What is left of the module without power: the NVM record area, and what it has sent. -/
def unpowered (s : State) : State :=
  { State.reset with nvm := nvmAsStored s.nvm, out := s.out, freeIdx := s.freeIdx, pending := s.pending }

/-- Power goes (R601, R610): PWRGD falls, THERMTRIP_N is released (R611). [DESIGN CHOICE: log 79] -/
def powerLoss (hold lockout : Bool) (s : State) : State :=
  emit (.pwrgd false) { unpowered s with clk := { offHold := hold, lockout := lockout } }

/-- PWR_EN_DEASSERT (R610): the rails stay off for at least 1 s. -/
def execPwrEnDeassert (dt : Nat) (s : State) : Result := actPowered dt (powerLoss true false) s

/-- INPUT_VOLTAGE_LOCKOUT (R601): below 38.0 V or above 62.0 V conversion stops. -/
def execInputVoltageLockout (dt : Nat) (mv : Nat) (s : State) : Result :=
  actPowered dt (fun s => if mv < 38000 ∨ 62000 < mv then powerLoss false true s else s) s

/-- RAIL_OUT_OF_RANGE (R609): PWRGD is pulled low. [DESIGN CHOICE: log 24] -/
def execRailOutOfRange (dt : Nat) (_die : Die) (_rail : Fin 6) (s : State) : Result :=
  actPowered dt (fun s => if s.clk.pwrGood then
    emit (.pwrgd false) { s with clk := { s.clk with pwrGood := false } } else s) s

/-! ## The steps (R563) -/

/-- BLK_STATUS.UP of pages is set (R615). -/
def setUp (pages : List Nat) (s : State) : State :=
  { s with regs := { s.regs with up := pages.foldl (fun m p => mset false m p true) s.regs.up } }

/-- A register and the value in force of it. -/
def loadReg (a : Nat) (v : Word) (s : State) : State :=
  let s := setReg a v s
  { s with regs := { s.regs with inForce := mset (regReset a) s.regs.inForce a v } }

/-- The strap word as SHAWM_MACHINE holds it (R607). -/
def strapMachine (straps : BitVec 14) : Word :=
  let n := straps.toNat
  word (n % 16 + bits n 6 4 * 2 ^ 8 + bits n 9 7 * 2 ^ 12)

/-- The straps are sampled at the start of step 1 (R607); a set that R480 refuses loads zeros (R608).
[DESIGN CHOICE: log 79] -/
def loadStraps (straps : BitVec 14) (s : State) : State :=
  let m := strapMachine straps
  if machineValid m then
    (List.range 4).foldl (fun s p => setReg (shawmReg p 0x104) (word (one (straps.getLsbD (10 + p)))) s)
      (setReg Reg.SHAWM_MACHINE m s)
  else
    cmdInvalidPg Evt.SHAWM_CMD_INVALID Reg.SHAWM_MACHINE (straps.setWidth 32)
      ((List.range 4).foldl (fun s p => setReg (shawmReg p 0x104) 0 s) (setReg Reg.SHAWM_MACHINE 0 s))

/-- Step 1 POWER ends: clocks locked, PWRGD high, the Drone counter released at 0 (R30, R609). -/
def stepPower (o : StartupObs) (s : State) : State :=
  let s := setReg Reg.CLK_STATUS (word (7 + 8 * one o.pcieRefclk)) s
  emit (.pwrgd true) { s with
    clk := { s.clk with pwrGood := true, pwrEn := true }
    host := { s.host with refclk := o.pcieRefclk }
    drone := { s.drone with running := true, count := 0 } }

/-- Step 2 BOOT: the preferred firmware copy that verifies, else the other (R572); answers the ending event. -/
def stepBoot (o : StartupObs) (s : State) : Nat × State :=
  let pref := s.nvm.fwPref
  let ok := fun (c : Bool) => if c then o.fwOk.2 else o.fwOk.1
  let run := fun (c : Bool) (s : State) =>
    setFld Reg.HAWK_STATUS 8 8 (one c) { s with
      boot := { s.boot with fwCopy := c, fwNone := false }, modLife := { s.modLife with fwCopy := one c } }
  if ok pref then (0, run pref s)
  else if ok (!pref) then (0, run (!pref) (raise 0 Evt.BOOT_FW_FALLBACK (one pref) s))
  else (Evt.BOOT_STEP_FAIL, { s with boot := { s.boot with fwNone := true } })

/-- Pages set at the end of step 3 (R615). -/
def recordPages : List Nat := [0, 3, 4, 8, 9, 0xA, 0xB, 0xF8, 0xF9, 0xFA, 0xFB]

/-- Step 3 RECORD: identity and trims are loaded, unless a structure has no readable copy (R571); a shutdown record
holds the module (R566). [DEDUCED: log 25] -/
def stepRecord (o : StartupObs) (s : State) : Nat × State :=
  let s := (nvmFinds o.nvm s).2
  if o.nvm.any (fun x => x.uncorrectable && x.lost) then (Evt.NVM_ECC_UNCORRECTED, s) else
  let s := setUp recordPages (s.nvm.trims.foldl (fun s e => loadReg e.1 e.2 s) s)
  match s.nvm.shutdown with
  | none => (0, s)
  | some r =>
    let complete := byteAt r 63 == 0xA5
    (0, raise 0 Evt.BOOT_HELD (byteAt r 14 + one complete * 2 ^ 8)
      { s with boot := { s.boot with state := .held, recordIncomplete := !complete } })

/-- Cores whose failure shows: those that are not replaced (R384, R385). -/
def coresFailing (s : State) (failed : List Nat) : List Nat :=
  (List.range 9).filter (fun c => failed.contains c && c != regFld s Reg.HAWK_STATUS 15 12)

/-- The cores' self-check. -/
def stepCores (failed : List Nat) (s : State) : State :=
  let s := (List.range 8).foldl (fun s c => setFld Reg.HAWK_STATUS c c 1 s) s
  (coresFailing s failed).foldl (fun s c => coreFault c 1 s) s

/-- Banks of a die that failed the self-test of the step. -/
def bankObs (o : StartupObs) (d : Nat) : List Nat := (o.bankFail.filter (fun e => e.1.val == d)).map (·.2)

/-- Pages of step 4 whose own work succeeded (R615). -/
def bringupPages (s : State) (o : StartupObs) : List Nat :=
  [1] ++ (if (coresFailing s o.hawkFail).isEmpty then [2] else []) ++
  (List.range 16).flatMap (fun d => [pgLuna d 0, pgLuna d 1, pgLuna d 3, pgLuna d 5, pgLuna d 7]) ++
  ((List.range 20).filter (fun d => (banksNeeding s d (bankObs o d)).isEmpty)).map pgSpad

/-- Step 4 BRINGUP: links, scratchpad self-test, cores, array maps (R26, R285, R385, R157). -/
def stepBringup (o : StartupObs) (s : State) : Nat × State :=
  let s := (List.range 20).foldl (fun s l => linkTrained l o.laneFail s) s
  let s := (List.range 20).foldl (fun s d => selfTestEnd d (bankObs o d) s) s
  let s := stepCores o.hawkFail s
  let s := (List.range 16).foldl (fun s d => refreshPowerUp d s) s
  let s := setUp (bringupPages s o) s
  let lanes := (List.range 20).any (fun l => !flag (reg s (linkReg l)) 0)
  let banks := (List.range 20).any (fun d => !(banksNeeding s d (bankObs o d)).isEmpty)
  (if lanes then Evt.D2D_LANE_FAIL else if banks then Evt.SPAD_BANK_FAIL
   else if (coresFailing s o.hawkFail).isEmpty then 0 else Evt.HAWK_CORE_FAULT, s)

/-- Step 5 HBM: a stack that does not train faults the module (R19, R297, R301). -/
def stepHbm (o : StartupObs) (s : State) : Nat × State :=
  let s := o.hbmFail.foldl (fun s e => raise (pgHbm e.1) Evt.HBM_TRAIN_FAIL (e.1.val + e.2 % 32 * 2 ^ 8) s) s
  let bad := o.hbmFail.map (·.1.val)
  let good := (List.range 24).filter (fun st => !bad.contains st)
  let s := good.foldl (fun s st => setFld (ra (pgHbm st) 0x100) 0 0 1 s) (setUp (good.map pgHbm) s)
  if bad.isEmpty then (0, setUp [7] s) else (Evt.HBM_TRAIN_FAIL, s)

/-- Step 6 HKC: HKC_CAL everywhere, then the seed of R464 where every converter passed. -/
def stepHkc (o : StartupObs) (s : State) : State :=
  let s := (List.range 20).foldl (fun s d => hkcCalFinish d (o.hkc.getD d ⟨0, 0, 0⟩) (hkcCalStart d s)) s
  if (List.range 20).all (fun d => (hkcOf s d).calDone) then seedModel o.diode (readAll o.diode s) else s

/-- Step 7 COLCAL (R457, R459). -/
def stepColcal (o : StartupObs) (s : State) : State :=
  setUp ((List.range 16).map (fun d => pgLuna d 4)) ((List.range 16).foldl (fun s d =>
    let s := inClass 8 (colcalRecord d o.colcal) (colcalBegin d s)
    updLunaDie d (fun x => { x with colSince := none, checking := true }) s) s)

/-- A die's baseline check still runs. -/
def someChecking (s : State) : Bool := (List.range 16).any (fun d => (lunaDie s d).checking)

/-- The Piccolo pages of dies whose check is done are up (R615). -/
def baselineUp (s : State) : State :=
  setUp (((List.range 16).filter (fun d => !(lunaDie s d).checking)).map (fun d => pgLuna d 2)) s

/-- Step 8 BASELINE (R98): it stays the current step while passes wait for the CALIB gate. -/
def stepBaseline (o : StartupObs) (s : State) : State :=
  baselineUp ((List.range 16).foldl (fun s d => inClass 8 (baselineRun d o.baseline) s) s)

/-- Step 9 FABRIC: training, then the HELLO check (R481, R482). -/
def stepFabric (o : StartupObs) (s : State) : Nat × State :=
  let s := (List.range 4).foldl (fun s p => trainStart p s) s
  let s := ((List.range 4).zip o.ports).foldl (fun s e => if (portOf s e.1).training then trainEnd e.1 e.2 s else s) s
  let s := routeCheck s
  let s := ((List.range 4).zip o.ports).foldl (fun s e => match e.2.hello with
    | none => s
    | some h => helloArrives e.1 h s) s
  let bad := (List.range 4).any (fun p => (portOf s p).trainFail)
  let s := setUp (((List.range 4).filter (fun p => !(portOf s p).trainFail)).map pgShawm ++ [6]) s
  (if bad then Evt.SHAWM_TRAIN_FAIL else 0, s)

/-- Milliseconds since power good. -/
def msNow (s : State) : Nat := s.clk.now / 1600000 % 2 ^ 32

/-- A step that fails leaves the module in FAILED (R565). [DESIGN CHOICE: log 23] -/
def bootFail (k code : Nat) (s : State) : State :=
  raise 0 Evt.BOOT_STEP_FAIL (k + code * 2 ^ 4) { s with boot := { s.boot with state := .failed, failEvent := code } }

/-- The work of a step: its ending event, 0 where it succeeds. -/
def bootWork (k : Nat) (o : StartupObs) (s : State) : Nat × State :=
  match k with
  | 1 => (0, stepPower o s)
  | 2 => stepBoot o s
  | 3 => stepRecord o s
  | 4 => stepBringup o s
  | 5 => stepHbm o s
  | 6 => (0, stepHkc o s)
  | 7 => (0, stepColcal o s)
  | 8 => (0, stepBaseline o s)
  | _ => stepFabric o s

/-- Run `n` steps from step `k`: each starts when the one before it ends; after the ninth READY_LOCAL (R563).
[DESIGN CHOICE: log 23] -/
def runSteps (o : StartupObs) : Nat → Nat → State → State
  | 0, _, s => raise 0 Evt.BOOT_READY_LOCAL (msNow s) { s with boot := { s.boot with state := .readyLocal } }
  | n + 1, k, s =>
    let s := { s with boot := { s.boot with state := .starting, step := k, failEvent := 0 } }
    let (e, s) := bootWork k o (advance (o.stepCycles.getD (k - 1) 0) s)
    if e ≠ 0 then bootFail k e s
    else if s.boot.state = .held ∨ (k = 8 ∧ someChecking s = true) then s
    else runSteps o n (k + 1) s

/-- Start-up from step `k`. [DESIGN CHOICE: log 23] -/
def bootFrom (k : Nat) (o : StartupObs) (s : State) : State :=
  runSteps o (10 - k) k { s with boot := { s.boot with phys := some o } }

/-- A baseline check goes on with what its passes showed; host commands held by a COLCAL go on after it (R457), and a
start-up that waited at step 8 goes on with step 9 (R98, R563). -/
def baselineGoOn (d : Nat) (obs : List BaselineObs) (s : State) : State :=
  let s := inClass 8 (baselineRun d obs) s
  if (lunaDie s d).checking then s
  else
    let s := cmdGoOn d (baselineUp s)
    match s.boot.phys with
    | some o => if s.boot.state = .starting ∧ s.boot.step = 8 ∧ someChecking s = false then runSteps o 1 9 s else s
    | none => s

/-- BASELINE_CHECK_END (R98). -/
def execBaselineCheckEnd (dt : Nat) (die : Luna) (obs : List BaselineObs) (s : State) : Result :=
  act dt (fun s =>
    if (lunaDie s die).checking && baselineShape s die obs then baselineGoOn die obs s else s) s

/-- What a start-up showed has the shape it has: nine durations, twenty converters and diodes, four ports, and
for each listed array of the baseline check its passes (R98). [DESIGN CHOICE: log 2] -/
def startupFormed (o : StartupObs) : Bool :=
  o.stepCycles.length == 9 && o.hkc.length == 20 && o.diode.length == 20 && o.ports.length == 4

/-- The life records of a start-up that begins now: as stored, one power-up more; running values add the powered
seconds from power good, which `powered` of them the stored ones hold already (R575). -/
def loadLife (powered : Nat) (s : State) : State :=
  let n := s.nvm
  let s := { s with
    life := (List.range 20).foldl (fun m d =>
      let l : Life := mget {} n.life d
      mset {} m d { l with
        poweredS := l.poweredS - powered
        ageClock := l.ageClock - hoursPast (l.poweredS - powered) powered
        powerUps := l.powerUps + 1 }) []
    modLife := { n.modLife with poweredS := n.modLife.poweredS - powered, powerUps := n.modLife.powerUps + 1 } }
  { s with boot := { s.boot with hour := modulePowered s / 3600 } }

/-- Power good: start-up from step 1 (R563).  Due with the input in range (R601), and no sooner than 1 s after
PWR_EN took the rails away (R610). [DESIGN CHOICE: log 23, 79] -/
def powerUp (o : StartupObs) (s : State) : State :=
  if s.clk.powered ∨ (s.clk.offHold = true ∧ s.clk.now < 1600000000) ∨ o.supplyMv < 40000 ∨ 62000 < o.supplyMv then s
  else
    let s := { unpowered s with clk := { powered := true } }
    bootFrom 1 o (loadStraps o.straps (loadLife 0 (showAllLanes s)))

/-- POWER_UP (R563). -/
def execPowerUp (dt : Nat) (obs : StartupObs) (s : State) : Result :=
  if startupFormed obs then always dt (powerUp obs) s else .fault (.illFormed "POWER_UP")

/-! ## READY (R568) -/

/-- What READY needs. -/
def readyHolds (s : State) : Bool :=
  s.boot.state == .readyLocal && s.fabric.routeOk && (isLead s || s.drone.state == .locked) && s.secure.wingsetOk &&
  (match s.nvm.installs.getLast? with | none => false | some r => r.wingset == s.secure.wingset)

/-- ENTER_READY (R568): the firmware may start programs. -/
def execEnterReady (dt : Nat) (s : State) : Result :=
  act dt (fun s =>
    if readyHolds s then
      leaveStopped (raise 0 Evt.BOOT_READY (msNow s) { s with boot := { s.boot with state := .ready } })
    else s) s

/-! ## BOOT_CMD (R565 to R570) -/

/-- ACK_SHUTDOWN (R567): ARG proves that this record was read. -/
def ackShutdown (v : Word) (o : StartupObs) (s : State) : State :=
  match s.boot.state, s.nvm.shutdown with
  | .held, some r =>
    if byteField r 0 1 ≠ fld v 15 0 then globalInvalid Reg.BOOT_CMD v s
    else
      let slot := s.nvm.shutCount % 16
      let h := padTo 64 r
      let hist := if s.nvm.shutHistory.length < 16 then s.nvm.shutHistory ++ [h] else s.nvm.shutHistory.set slot h
      let s := nvTouch { s with
        nvm := { s.nvm with shutdown := none, shutHistory := hist, shutCount := s.nvm.shutCount + 1 }
        boot := { s.boot with recordIncomplete := false } }
      bootFrom 4 o (raise 0 Evt.SHUTDOWN_ACK (byteField r 0 3) s)
  | _, _ => globalInvalid Reg.BOOT_CMD v s

/-- RETRY (R565): start-up again from the failed step; ignored with no firmware. [DESIGN CHOICE: log 23] -/
def bootRetry (v : Word) (o : StartupObs) (s : State) : State :=
  if s.boot.fwNone then s
  else if s.boot.state ≠ .failed then globalInvalid Reg.BOOT_CMD v s
  else bootFrom s.boot.step o { s with seq := { s.seq with fatal := none } }

/-- PREPARE_OFF (R570). -/
def bootPrepareOff (v : Word) (s : State) : State :=
  if isRunning s then globalInvalid Reg.BOOT_CMD v s
  else
    let s := writeLife s
    { s with boot := { s.boot with offSafe := true } }

/-- RESET (R569): the life records are written, and start-up begins again at step 1; power stays.
[DESIGN CHOICE: log 23] -/
def bootResets (v : Word) (o : StartupObs) (s : State) : State :=
  if fld v 15 0 ≠ 0x5EC7 then globalInvalid Reg.BOOT_CMD v s
  else
    let n := s.modLife.resets + 1
    let s := writeLife { s with modLife := { s.modLife with resets := n } }
    let p := poweredNow s
    let s := loadLife p { unpowered s with clk := { now := s.clk.now, powered := true }, kv := { aged := p } }
    bootFrom 1 o (loadStraps o.straps (raise 0 Evt.MODULE_RESET n (showAllLanes s)))

/-- A write of BOOT_CMD, with what start-up then shows. -/
def bootCmd (v : Word) (o : StartupObs) (s : State) : State :=
  let op := fld v 31 28
  if op = 1 then ackShutdown v o s
  else if op = 2 then bootRetry v o s
  else if op = 3 then bootPrepareOff v s
  else if op = 4 then bootResets v o s
  else globalInvalid Reg.BOOT_CMD v s

/-- ACK_SHUTDOWN (R567). -/
def execAckShutdown (dt : Nat) (arg : BitVec 16) (obs : StartupObs) (s : State) : Result :=
  if startupFormed obs then actHost dt 0 (bootCmd (0x10000000 ||| arg.setWidth 32) obs) s
  else .fault (.illFormed "ACK_SHUTDOWN")

/-- RETRY (R565). -/
def execRetry (dt : Nat) (obs : StartupObs) (s : State) : Result :=
  if startupFormed obs then actHost dt 0 (bootCmd 0x20000000 obs) s else .fault (.illFormed "RETRY")

/-- PREPARE_OFF (R570). -/
def execPrepareOff (dt : Nat) (s : State) : Result := actHost dt 0 (bootPrepareOff 0x30000000) s

/-- BOOT_RESET (R569). -/
def execBootReset (dt : Nat) (arg : BitVec 16) (obs : StartupObs) (s : State) : Result :=
  if startupFormed obs then actHost dt 0 (bootCmd (0x40000000 ||| arg.setWidth 32) obs) s
  else .fault (.illFormed "BOOT_RESET")

/-- BOOT_STATUS. -/
def bootCode (s : State) : Nat :=
  match s.boot.state with | .starting => 0 | .held => 1 | .failed => 2 | .readyLocal => 3 | .ready => 4
def bootStatusWord (s : State) : Word :=
  word (bootCode s + s.boot.step % 16 * 2 ^ 4 + one s.boot.recordIncomplete * 2 ^ 8 + one s.boot.offSafe * 2 ^ 9 +
    s.boot.failEvent % 2 ^ 16 * 2 ^ 16)

end Sys2Proof.Machine
end

