-- ==== Sys2Proof/Machine/Boundary.lean ====
section
/-! DEFINITION. BREATH_BOUNDARY whole (R432): budgets and Atlas, the thermal model, refresh, the Drone's part, and
the events that every chapter collects over a breath; and the page engine's CRC (R342). -/

namespace Sys2Proof.Machine

open Sys2Proof.Map

/-! ## Breath events (R29, R74, R133, R171, R205, R237, R274, R313, R357, R448, R477, R512, R540) -/

/-- A breath's count in a 32-bit field. -/
def count32 (n : Nat) : Nat := min n 0xFFFFFFFF

/-- Codes whose key is a die and whose detail is die [7:0], count [39:8], with the page of a Luna die, by its
place k among the die's pages. -/
def dieCodes : List (Nat × Nat) :=
  [(Evt.ARRAY_SPLIT, 0), (Evt.A8_INPUT_CLAMP, 0), (Evt.ACT_CLIP_HIGH, 2), (Evt.REF_TRACK_REJECT, 2),
   (Evt.SHADOW_SKIP, 2), (Evt.REFRESH_BG_ABORT, 3), (Evt.ACC_OVERRUN, 5), (Evt.ACC_ECC_CORRECTED, 5)]

/-- Page and detail of a collected event: its code, its key, the breath's count and what its first occurrence
showed. -/
def collectedEvent (code key n first : Nat) : Nat × Nat :=
  let c := count32 n
  let plain := key + c * 2 ^ 8
  match dieCodes.find? (fun e => e.1 == code) with
  | some e => (pgLuna key e.2, plain)
  | none =>
    if code = Evt.ARRAY_OUT_OF_RANGE ∨ code = Evt.ARRAY_READ_BLOCKED then (pgLuna key 0, key + first % 256 * 2 ^ 8 + c * 2 ^ 16)
    else if code = Evt.FMT_SATURATE ∨ code = Evt.FMT_CODE_INVALID then (0, plain + first % 4096 * 2 ^ 40)
    else if code = Evt.XFER_ZERO_LEN then (1, plain)
    else if code = Evt.SEQ_GATE_STALL then (1, key + c * 2 ^ 4)
    else if code = Evt.SEQ_FETCH_STALL then (1, c)
    else if code = Evt.SPAD_ECC_CORRECTED then (pgSpad key, plain)
    else if code = Evt.SLOT_UNDERRUN ∨ code = Evt.SLOT_OVERRUN then
      (pgSpad (key / 1024), key / 1024 + key % 1024 * 2 ^ 8 + c * 2 ^ 18)
    else if code = Evt.HBM_ECC_CORRECTED then (pgHbm key, plain)
    else if code = Evt.KV_POOL_EMPTY then (0, key + n % 2 ^ 30 * 2 ^ 2 + first % 2 ^ 17 * 2 ^ 32)
    else if code = Evt.KV_PREFIX_FULL then (0, c)
    else if code = Evt.ATLAS_SAMPLE_MISSING then (3, key + n % 2 ^ 16 * 2 ^ 8)
    else if code = Evt.SHAWM_REPLAY then (pgShawm key, key + c * 2 ^ 2)
    else if code = Evt.ETH_FEC_UNCORRECTED then (pgEth key, key + c * 2)
    else if code = Evt.SP_RECV_EMPTY then (0xFB, c)
    else (0, plain)

/-- ACT_CLIP_HIGH is logged only above its limit (R133). -/
def collectedDue (s : State) (code key n : Nat) : Bool :=
  n != 0 && (code != Evt.ACT_CLIP_HIGH || decide ((force s (Reg.luna key 2 0x11C)).toNat < n))

/-- Log what the breath collected, and start afresh. -/
def flushBreath (s : State) : State :=
  let counts := s.log.breathCount
  let firsts := s.log.breathFirst
  let s := { s with log := { s.log with
    breathCount := [], breathFirst := [], breathSeen := [], vecSeen := [], noticeSent := false } }
  counts.foldl (fun s e =>
    let code := e.1 / 2 ^ 32
    let key := e.1 % 2 ^ 32
    if collectedDue s code key e.2 then
      let pd := collectedEvent code key e.2 (mget 0 firsts e.1)
      raiseFor pd.1 code 0xFF 0 pd.2 s
    else s) s

/-! ## BREATH_BOUNDARY -/

/-- The boundary at tick `b`: it stands at that tick, whatever has passed since.  The new breath's gates let the ship-and-park
engine go on (R437). -/
def boundaryAt (b : Nat) (s : State) : State :=
  let late := tick s - b
  let s := { s with drone := { s.drone with count := b } }
  let s := refreshBoundary (boundaryCore b s)
  let s := ioGoOn (droneBoundary (flushBreath s))
  { s with drone := { s.drone with count := s.drone.count + late } }

/-- BREATH_BOUNDARY (R432), with the stacks' readouts (R297). -/
def execBreathBoundary (dt : Nat) (stackTemps : List (BitVec 8)) (s : State) : Result :=
  act dt (fun s => match boundaryDue s with | none => s | some b => stackReadouts stackTemps (boundaryAt b s)) s

/-! ## PAGE_CRC_COMPUTE (R342) -/

/-- PAGE_CRC_COMPUTE (R342): due for an entry whose page waits for its CRC, while AUDIT is open. -/
def execPageCrcCompute (dt : Nat) (entry : BitVec 24) (s : State) : Result :=
  act dt (fun s =>
    if s.kv.crcDue.contains entry.toNat && startOpen s 7 then pageCrc entry.toNat s else s) s

end Sys2Proof.Machine
end

