-- ==== Sys2Proof/Machine/Roce.lean ====
section
/-! DEFINITION. RoCE v2 (R527 to R533): the context commands, queue pairs and their errors, acknowledgements and
timers, rate reaction, and incoming SEND, WRITE and READ messages. -/

namespace Sys2Proof.Machine

open Sys2Proof.Map

/-! ## Queue pairs in error (R532) -/

/-- Everything queued on a queue pair completes in error; an egress write raises the event. -/
def workError (q cause : Nat) (w : Work) (s : State) : State :=
  match w.owner with
  | .xfer die th => completeNow die th 6 1 s
  | .egress _ => raise 0xFA Evt.ROCE_QP_ERROR (q + cause * 2 ^ 12) s
  | o => ioError o s

/-- Whether a request's ship, park or resume uses a queue pair. -/
def jobUses (s : State) (q : Nat) (j : IoJob) : Bool :=
  j.status == 0 && (if j.kind ≤ 2 then shipQp s == some q else (targetOf s j.target).qp == q)

/-- The jobs on a queue pair fail: cause SHIP, PARK_IO or RESTORE. -/
def jobsError (q : Nat) (s : State) : State :=
  s.serve.reqs.foldl (fun s e => match e.2.io with
    | none => s
    | some j =>
      if jobUses s q j = false then s
      else if j.kind ≤ 2 then shipFail e.2.id 5 j.done false s
      else parkFail e.2.id (if j.kind = 3 then 1 else 2) j.done s) s

/-- The queue of a queue pair is emptied, everything in it in error. -/
def qpFlush (q cause : Nat) (s : State) : State :=
  let works := (qpOf s q).queue
  jobsError q (works.foldl (fun s w => workError q cause w s) (setQp q {} s))

/-- A queue pair enters ERROR (R532): cause 1 retry, 2 RNR retry, 3 access NAK, 4 operation NAK, 5 host.
[PRESUMED: log 73] -/
def qpError (q cause : Nat) (s : State) : State :=
  let s := bump Reg.ROCE_QP_ERROR_COUNT 1 (setQpState q 4 s)
  qpFlush q cause (raise 0xFA Evt.ROCE_QP_ERROR (q + cause * 2 ^ 12) s)

/-- What waits on a queue pair is sent when it may send. -/
def qpKick (q : Nat) (s : State) : State :=
  let x := qpOf s q
  if qpSends s q && !x.queue.isEmpty then
    markSent q (x.queue.foldl (fun s w => qpSend q w.msg s) (setQp q { x with sentAt := s.clk.now } s))
  else s

/-! ## Context commands (R528, R529) -/

/-- The field ranges of a queue pair's context. -/
def qpEntryOk (b : Bytes) : Bool :=
  decide (bits (byteAt b 1) 4 3 ≤ 2) && byteAt b 1 / 32 == 0 && decide (byteAt b 2 < 16) && decide (byteAt b 3 < 64) &&
  decide (byteAt b 4 < 8) && decide (3 ≤ byteAt b 5) && decide (byteAt b 5 ≤ 5) && decide (8 ≤ byteAt b 6) &&
  decide (byteAt b 6 ≤ 20) && decide (byteAt b 7 < 128) && decide (bits (byteAt b 7) 6 4 ≤ 6) &&
  !bit (byteAt b 7) 3 && decide (byteAt b 19 < 32) && byteField b 27 31 == 0 && byteField b 48 63 == 0

/-- The zero fields and ranges of the other tables' entries. -/
def sideEntryOk (t : Nat) (b : Bytes) : Bool :=
  if t = 1 then decide (byteAt b 20 < 8) && byteField b 21 31 == 0
  else if t = 2 then decide (byteAt b 16 < 2) && byteField b 17 31 == 0
  else decide (byteField b 20 21 < 4096) && decide (byteAt b 22 ≤ 2) && byteAt b 23 == 0

/-- A memory region's parts. -/
def mrBase (b : Bytes) : Nat := byteField b 0 7
def mrLength (b : Bytes) : Nat := byteField b 8 15
def mrKey (b : Bytes) : Nat := byteField b 16 19
def mrValid (b : Bytes) : Bool := bit (byteAt b 20) 0

/-- The valid memory region of a key, other than entry `i`. -/
def mrOf (s : State) (key : Nat) (i : Option Nat) : Option Bytes :=
  ((List.range 256).find? (fun k => some k != i && mrValid (ctxEntry s 1 k) && mrKey (ctxEntry s 1 k) == key)).map
    (fun k => ctxEntry s 1 k)

/-- A memory region may be written (R529): it lies in one valid HBM region and its key is no other's. -/
def mrFits (s : State) (i : Nat) (b : Bytes) : Bool :=
  !mrValid b || ((regionOf s (mrBase b) (mrLength b)).isSome && (mrOf s (mrKey b) (some i)).isNone)

/-- ROCE_CTX_DATA as an entry of `n` bytes. -/
def ctxData (s : State) (n : Nat) : Bytes :=
  (List.range (n / 4)).flatMap (fun k => toBytes 4 (reg s (Reg.ROCE_CTX_DATA k)).toNat)

/-- RESULT of a WRITE: 0 OK, 1 INVALID, 2 STATE, 3 CONFLICT. -/
def ctxWriteResult (s : State) (t i : Nat) (b : Bytes) : Nat :=
  if t = 0 then
    (if qpStateOf s i ≠ 0 ∨ 1 < byteAt b 0 then 2 else if qpEntryOk b then 0 else 1)
  else if !sideEntryOk t b then 1
  else if t = 1 && !mrFits s i b then 3
  else 0

/-- Another queue pair is the broadcast ingress (R533). -/
def otherIngress (s : State) (q : Nat) : Bool :=
  s.host.ctx.any (fun e => decide (e.1 < 4096) && e.1 != q && qpKind s e.1 == 2 &&
    (qpStateOf s e.1 == 2 || qpStateOf s e.1 == 3))

/-- RESULT of a MODIFY. -/
def ctxModifyResult (s : State) (t q st : Nat) : Nat :=
  if t ≠ 0 ∨ 4 < st then 1
  else if st ≠ 0 ∧ st ≠ 4 ∧ st ≠ qpStateOf s q + 1 then 2
  else if (st = 2 ∨ st = 3) ∧ qpKind s q = 2 ∧ otherIngress s q = true then 3
  else 0

/-- A permitted MODIFY. -/
def qpModify (q st : Nat) (s : State) : State :=
  if st = 4 then (if qpStateOf s q = 4 then s else qpError q 5 s)
  else if st = 0 then qpFlush q 5 (setQpState q 0 s)
  else if st = 3 then qpKick q (setQpState q 3 s)
  else setQpState q st s

/-- ROCE_CTX_CMD: a command that breaks the rules completes with its RESULT and the event. [DEDUCED: log 74] -/
def ctxCommand (v : Word) (s : State) : State :=
  let t := regFld s Reg.ROCE_CTX_SEL 31 28
  let i := regFld s Reg.ROCE_CTX_SEL 11 0
  let op := fld v 31 28
  let b := ctxData s (ctxSize t)
  let r := if 4 ≤ t ∨ ctxEntries t ≤ i ∨ op = 0 ∨ 3 < op then 1
    else if op = 1 then 0
    else if op = 2 then ctxWriteResult s t i b
    else ctxModifyResult s t i (fld v 2 0)
  let s := setReg Reg.ROCE_CTX_STATUS (word r) s
  if r ≠ 0 then cmdInvalidPg Evt.ROCE_CMD_INVALID Reg.ROCE_CTX_CMD v s
  else if op = 1 then
    (List.range (ctxSize t / 4)).foldl (fun s k =>
      setReg (Reg.ROCE_CTX_DATA k) (word (byteField (ctxEntry s t i) (4 * k) (4 * k + 3))) s) s
  else if op = 2 then setCtxEntry t i b (if t = 0 then setQp i {} s else s)
  else qpModify i (fld v 2 0) s

/-- ROCE_CTX_READ (R528). -/
def execRoceCtxRead (dt : Nat) (s : State) : Result := actHost dt 0xFA (ctxCommand 0x10000000) s
/-- ROCE_CTX_WRITE (R528). -/
def execRoceCtxWrite (dt : Nat) (s : State) : Result := actHost dt 0xFA (ctxCommand 0x20000000) s
/-- ROCE_CTX_MODIFY (R528). -/
def execRoceCtxModify (dt : Nat) (state : BitVec 3) (s : State) : Result :=
  actHost dt 0xFA (ctxCommand (0x30000000 ||| state.setWidth 32)) s

/-! ## Acknowledgements and timers (R527) -/

/-- A message of this module has been acknowledged. -/
def workDone (w : Work) (s : State) : State :=
  match w.owner with
  | .xfer die th =>
    match threadOf s die th with
    | none => s
    | some x => endThread die th (if x.poison then 5 else 0) 0 s
  | o => ioAcked o s

/-- The oldest `n` messages are acknowledged; a READ is acknowledged by its response only. -/
def acked (q : Nat) : Nat → State → State
  | 0, s => s
  | n + 1, s =>
    match (qpOf s q).queue with
    | [] => s
    | w :: ws =>
      match w.msg with
      | .read _ _ _ => s
      | _ => acked q n (workDone w (setQp q { qpOf s q with
          queue := ws, sent := (qpOf s q).sent - 1, sentAt := s.clk.now, retries := 0, rnrRetries := 0
          rnrWait := false } s))

/-- The response of the oldest message, a READ. -/
def readBack (q : Nat) (data : Bytes) (s : State) : State :=
  match (qpOf s q).queue with
  | { owner := .resume id k, msg := .read _ _ _ } :: ws =>
    pageRestored id k data (setQp q { qpOf s q with
      queue := ws, sent := (qpOf s q).sent - 1, sentAt := s.clk.now, retries := 0, rnrRetries := 0
      rnrWait := false } s)
  | _ => s

/-- Retransmit, or enter ERROR when every retry is used. [PRESUMED: log 73] -/
def qpRetransmit (q : Nat) (s : State) : State :=
  let x := qpOf s q
  if qpRetry s q ≤ x.retries then qpError q 1 s else qpResend q (setQp q { x with retries := x.retries + 1 } s)

/-- What an incoming packet acknowledges. [PRESUMED: log 73] -/
def ackIn (q : Nat) (a : RoceAck) (s : State) : State :=
  if qpStateOf s q ≠ 3 then s
  else match a with
    | .none => s
    | .ack n => acked q n s
    | .readResponse d => readBack q d s
    | .seqNak => if (qpOf s q).queue.isEmpty then s else qpRetransmit q s
    | .rnrNak => if (qpOf s q).queue.isEmpty then s else setQp q { qpOf s q with rnrWait := true } s
    | .accessNak => qpError q 3 s
    | .operationNak => qpError q 4 s

/-- ROCE_ACK_TIMEOUT (R527): due when the oldest message has waited the QP's timeout. -/
def execRoceAckTimeout (dt : Nat) (qp : Qp) (s : State) : Result :=
  act dt (fun s =>
    let x := qpOf s qp
    if qpSends s qp && !x.queue.isEmpty && !x.rnrWait && decide (x.sentAt + qpTimeout s qp ≤ s.clk.now) then
      qpRetransmit qp s
    else s) s

/-- ROCE_RNR_TIMEOUT (R527): due while an RNR NAK is waited out. -/
def execRoceRnrTimeout (dt : Nat) (qp : Qp) (s : State) : Result :=
  act dt (fun s =>
    let x := qpOf s qp
    if !qpSends s qp || !x.rnrWait || x.queue.isEmpty then s
    else if qpRnrRetry s qp ≤ x.rnrRetries then qpError qp 2 s
    else qpResend qp (setQp qp { x with rnrRetries := x.rnrRetries + 1 } s)) s

/-! ## Congestion (R531) -/

/-- A CE-marked packet is answered with a CNP, at most one per QP per 50 µs. -/
def cnpAnswer (q : Nat) (s : State) : State :=
  let x := qpOf s q
  let free := match x.cnpSent with | none => true | some t => decide (t + 80000 ≤ s.clk.now)
  if flag (reg s Reg.ROCE_CONFIG) 1 && free then
    emit (.cnp q) (bump Reg.ROCE_CNP_TX_COUNT 1 (setQp q { x with cnpSent := some s.clk.now } s))
  else s

/-- CNP_RECEIVE (R531). -/
def execCnpReceive (dt : Nat) (qp : Qp) (s : State) : Result :=
  act dt (fun s =>
    let s := bump Reg.ROCE_CNP_RX_COUNT 1 s
    if flag (reg s Reg.ROCE_CONFIG) 2 then
      let x := qpOf s qp
      setQp qp { x with rate := max 1 (x.rate / 2), cnpAt := s.clk.now } s
    else s) s

/-- PERIOD in CCLK cycles and STEP. -/
def ratePeriod (s : State) : Nat := 1600 * max 1 (regFld s Reg.ROCE_RATE_CONFIG 15 0)
def rateStep (s : State) : Nat := max 1 (regFld s Reg.ROCE_RATE_CONFIG 23 16)

/-- ROCE_RATE_INCREASE (R531): due after PERIOD without a CNP or a step. -/
def execRoceRateIncrease (dt : Nat) (qp : Qp) (s : State) : Result :=
  act dt (fun s =>
    let x := qpOf s qp
    if flag (reg s Reg.ROCE_CONFIG) 2 && decide (x.rate < 400) && decide (x.cnpAt + ratePeriod s ≤ s.clk.now) then
      setQp qp { x with rate := min 400 (x.rate + rateStep s), cnpAt := s.clk.now } s
    else s) s

/-! ## Incoming messages (R530, R533) -/

/-- A queue pair takes requests in RTR and RTS. -/
def qpTakes (s : State) (q : Nat) : Bool :=
  flag (reg s Reg.ROCE_CONFIG) 0 && (qpStateOf s q == 2 || qpStateOf s q == 3)

/-- A message reaches a queue pair over its port, where that is up. -/
def overPort (q : Nat) (f : State → State) (s : State) : State := if qpPortUp s q then f s else s

/-- A message for a queue pair that takes none: dropped and counted, but for one in INIT (R524). -/
def qpDrop (q : Nat) (s : State) : State :=
  if qpStateOf s q = 1 then s else bump (ra (pgEth (qpPort s q)) 0x120) 1 s

/-- Why a request against a memory region fails, 0 where it does not: 1 key, 2 access, 3 bounds (R530). -/
def mrCause (s : State) (key addr n right : Nat) : Nat :=
  match mrOf s key none with
  | none => 1
  | some b =>
    if bit (byteAt b 20) right = false then 2
    else if mrBase b ≤ addr ∧ addr + n ≤ mrBase b + mrLength b then 0 else 3

/-- A failed request: remote-access NAK, count and event. -/
def mrReject (q key cause : Nat) (s : State) : State :=
  emit (.roceNak q 2) (raise 0xFA Evt.ROCE_ACCESS_REJECT (q + key * 2 ^ 12 + cause * 2 ^ 44)
    (bump Reg.ROCE_ACCESS_REJECT_COUNT 1 s))

/-- HBM bursts of a request and the energy of its Ethernet bytes, under HOSTIO. [DEDUCED: log 74] -/
def chargeRequest (addr n : Nat) (s : State) : State :=
  charge 18 9 2 0 (n * 15000) (chargeHbm (16 + hbmStack addr / 6) 9 (burstsOf addr n).length s)

/-- RDMA_WRITE_RECEIVE (R530): acknowledged with every byte in HBM. -/
def execRdmaWriteReceive (dt : Nat) (qp : Qp) (rkey : Word) (addr : DWord) (data : Bytes) (s : State) : Result :=
  act dt (overPort qp (fun s =>
    if !qpTakes s qp then qpDrop qp s
    else if !startOpen s 9 then s
    else
      let cause := mrCause s rkey.toNat addr.toNat data.length 1
      if cause ≠ 0 then mrReject qp rkey.toNat cause s
      else
        let s := (hbmStore addr.toNat data false (chargeRequest addr.toNat data.length s)).2
        psnAdvance 24 qp (psnCount s qp data.length) (emit (.roceAck qp) s))) s

/-- The bytes a READ returns: those of a poisoned burst are free. [DEDUCED: log 74] -/
def readBytes (a n : Nat) (s : State) : Bytes × State :=
  if hbmPoisoned s a n then
    ((List.range n).map (fun i => if burstPoison s ((a + i) / 64) then BitVec.ofNat 8 (Config.free (s.freeIdx + i)) else hbmByte s (a + i)),
      { s with freeIdx := s.freeIdx + n })
  else (hbmRead s a n, s)

/-- RDMA_READ_RECEIVE (R530). -/
def execRdmaReadReceive (dt : Nat) (qp : Qp) (rkey : Word) (addr : DWord) (length : Word) (s : State) : Result :=
  act dt (overPort qp (fun s =>
    if !qpTakes s qp then qpDrop qp s
    else if 2 ^ 31 < length.toNat then emit (.roceNak qp 1) s
    else if !startOpen s 9 then s
    else
      let n := length.toNat
      let cause := mrCause s rkey.toNat addr.toNat n 2
      if cause ≠ 0 then mrReject qp rkey.toNat cause s
      else
        let (d, s) := readBytes addr.toNat n (psnAdvance 24 qp (psnCount s qp n) s)
        let s := bump64 (ra (pgEth (qpPort s qp)) 0x128) n (emit (.roceData qp d) s)
        chargeEth 9 n (chargeHbm (16 + hbmStack addr.toNat / 6) 9 (burstsOf addr.toNat n).length s))) s

/-- A payload of the broadcast ingress goes down the tree as frames of up to eight packets, under REFRESH (R501,
R503). [DEDUCED: log 74] -/
def ingress (b : Bytes) (s : State) : State :=
  if !s.fabric.routeOk then s
  else
    let s := (chunksOf 8 (chunksOf 72 b)).foldl (fun s f => sendTree (.broadcast f) s) s
    chargeShawm 18 6 (b.length * (treePorts s).length) (charge 18 6 2 0 (b.length * 15000) s)

/-- ROCE_SEND_RECEIVE (R533). -/
def execRoceSendReceive (dt : Nat) (qp : Qp) (payload : Bytes) (s : State) : Result :=
  act dt (overPort qp (fun s =>
    let taken := fun (s : State) => psnAdvance 24 qp (psnCount s qp payload.length) (emit (.roceAck qp) s)
    if !qpTakes s qp then qpDrop qp s
    else match qpKind s qp with
      | 1 =>
        let (r, s) := shipReceive payload s
        if r = 0 then taken s else emit (.roceNak qp (r - 1)) s
      | 2 =>
        let s := taken s
        if isLead s && flag (reg s Reg.BCAST_CONTROL) 0 && payload.length % 72 == 0 then ingress payload s
        else raise 0xFA Evt.BCAST_INGRESS_INVALID (qp + payload.length % 2 ^ 32 * 2 ^ 12) s
      | _ => emit (.roceNak qp 1) s)) s

end Sys2Proof.Machine
end

