-- ==== Sys2Proof/Machine/Eth.lean ====
section
/-! DEFINITION. The Ethernet ports (R523 to R526): frames received, pauses, and the link. -/

namespace Sys2Proof.Machine

open Sys2Proof.Map

def ethReg (p off : Nat) : Nat := ra (pgEth p) off
def ethOf (s : State) (p : Nat) : EthState := mget {} s.host.eth p
def setEth (p : Nat) (x : EthState) (s : State) : State :=
  { s with host := { s.host with eth := mset {} s.host.eth p x } }

/-- PFC is enabled on a priority. -/
def pfcOn (s : State) (p q : Nat) : Bool := flag (reg s (ethReg p 0x104)) (8 + q)

/-- A PFC frame: its priorities pause, the others resume and end their episode (R525). [DESIGN CHOICE: log 75] -/
def pfcArrives (p : Nat) (mask : Byte) (s : State) : State :=
  let s := bump (ethReg p 0x124) 1 s
  let x := ethOf s p
  let on : Nat → Bool := fun q => mask.getLsbD q && pfcOn s p q
  setEth p { x with
    paused := (List.range 8).foldl (fun m q =>
      if on q then (if (find? m q).isSome then m else mput m q s.clk.now) else mdel m q) x.paused
    storm := x.storm.filter on } s

/-- The receive buffer of a priority after a frame: XOFF above 75 %, XON below 50 % (R525). -/
def bufferFill (p q fill : Nat) (s : State) : State :=
  let x := ethOf s p
  if !pfcOn s p q then s
  else if 75 < fill ∧ q ∉ x.xoff then emit (.pfc p q true) (setEth p { x with xoff := q :: x.xoff } s)
  else if fill < 50 ∧ q ∈ x.xoff then emit (.pfc p q false) (setEth p { x with xoff := x.xoff.erase q } s)
  else s

/-- A RoCE packet: dropped and counted unless a queue pair in INIT, RTR or RTS has its number (R524). -/
def roceArrives (p : Nat) (qpn : BitVec 24) (ce : Bool) (a : RoceAck) (prio fill : Nat) (s : State) : State :=
  let s := bufferFill p prio fill s
  let q := qpn.toNat - 0x1000
  let st := qpStateOf s q
  if qpn.toNat < 0x1000 ∨ 0x2000 ≤ qpn.toNat ∨ st = 0 ∨ st = 4 ∨ flag (reg s Reg.ROCE_CONFIG) 0 = false then
    bump (ethReg p 0x120) 1 s
  else ackIn q a (if ce then cnpAnswer q s else s)

/-- A frame at a port (R523, R524). [DESIGN CHOICE: log 75] -/
def frameIn (p bytes : Nat) (f : EthFrame) (s : State) : State :=
  let s := bump64 (ethReg p 0x130) bytes s
  match f with
  | .pfc m => pfcArrives p m s
  | .pause => s
  | .roce qpn ce a prio fill => roceArrives p qpn ce a prio fill s
  | .fcsError => bump (ethReg p 0x11C) 1 s
  | .fec c u =>
    let s := bump (ethReg p 0x118) u (bump (ethReg p 0x114) c s)
    if u = 0 then s else collect Evt.ETH_FEC_UNCORRECTED p u s
  | .other => bump (ethReg p 0x120) 1 s
  | .notOurs => s

/-- ETH_FRAME_RECEIVE (R524): only a port that is up receives. -/
def execEthFrameReceive (dt : Nat) (port : EthPort) (bytes : Nat) (frame : EthFrame) (s : State) : Result :=
  act dt (fun s => if (ethOf s port).up then frameIn port bytes frame s else s) s

/-- A port's link drops (R526). -/
def ethDown (p : Nat) (s : State) : State :=
  if (ethOf s p).up then raise (pgEth p) Evt.ETH_LINK_DOWN p (setEth p {} s) else s

def execEthLinkDown (dt : Nat) (port : EthPort) (s : State) : Result := act dt (ethDown port) s

/-- ETH_LINK_UP (R523): an enabled port's link comes up. -/
def execEthLinkUp (dt : Nat) (port : EthPort) (s : State) : Result :=
  act dt (fun s =>
    if flag (reg s (ethReg port 0x104)) 0 then setEth port { ethOf s port with up := true, fecLock := true } s else s) s

/-- ETH_PAUSE_LIMIT in CCLK cycles. -/
def pauseLimit (s : State) (p : Nat) : Nat := 1600 * max 1000 (reg s (ethReg p 0x108)).toNat

/-- ETH_PAUSE_STORM (R525): a priority held paused for longer than the limit, once per episode. -/
def execEthPauseStorm (dt : Nat) (port : EthPort) (prio : Fin 8) (s : State) : Result :=
  act dt (fun s =>
    let x := ethOf s port
    match find? x.paused prio with
    | none => s
    | some t =>
      if t + pauseLimit s port < s.clk.now ∧ (prio : Nat) ∉ x.storm then
        raise (pgEth port) Evt.ETH_PAUSE_STORM (port + prio * 2) (setEth port { x with storm := (prio : Nat) :: x.storm } s)
      else s) s

/-- ETH_STATUS. [DESIGN CHOICE: log 75] -/
def ethStatusWord (s : State) (p : Nat) : Word := word (one (ethOf s p).up + 2 * one (ethOf s p).fecLock)

/-- A write of ETH_CONFIG: EN = 0 takes the link down. [DESIGN CHOICE: log 75] -/
def ethConfigWrite (p : Nat) (v : Word) (s : State) : State :=
  let s := setReg (ethReg p 0x104) (v &&& 0xFF01) s
  if flag v 0 then s else ethDown p s

/-- A write of ROCE_CONFIG: an engine that is enabled sends what waits. -/
def roceConfigWrite (v : Word) (s : State) : State :=
  let was := flag (reg s Reg.ROCE_CONFIG) 0
  let s := setReg Reg.ROCE_CONFIG (v &&& 7) s
  if flag v 0 && !was then (s.host.qps.map (·.1)).foldl (fun s q => qpKick q s) s else s

end Sys2Proof.Machine
end

