-- ==== Sys2Proof/Machine/EventLog.lean ====
section
/-! DEFINITION. The event log's writer and reader (R555 to R559, R616). -/

namespace Sys2Proof.Machine

open Sys2Proof.Map

def logBase (s : State) : Nat := reg64 s Reg.EVTLOG_BASE
def logWriteIx (s : State) : Nat := (reg s Reg.EVTLOG_WRITE).toNat
def logReadIx (s : State) : Nat := (reg s Reg.EVTLOG_READ).toNat
/-- Unread records. -/
def logUsed (s : State) : Nat := (logWriteIx s + 2 ^ 32 - logReadIx s) % 2 ^ 32
/-- Record i lies at EVTLOG_BASE + 32 × (i mod 65,536). -/
def recordAddr (s : State) (i : Nat) : Nat := logBase s + 32 * (i % 65536)
def stopMode (s : State) : Bool := flag (reg s Reg.EVTLOG_CONFIG) 0

/-- The log is full (R558). -/
def logFull (s : State) : Bool := decide (65536 ≤ logUsed s)

/-- The module advances READ past an overwritten record (R558, R559). -/
def overwriteOldest (s : State) : State :=
  let r := freshCycle s
  bump Reg.EVTLOG_LOST_COUNT 1 (setReg Reg.EVTLOG_READ (word (logReadIx s + 1))
    { s with regs := { r with hwInc := mset 0 r.hwInc Reg.EVTLOG_READ 1 } })

/-- Write a record's bytes to HBM and advance WRITE: an even index by a read-modify-write of its burst, an odd
one as a whole burst with the record before it, which the writer holds (R616). -/
def writeRecord (b : Bytes) (s : State) : State :=
  let i := logWriteIx s
  let a := recordAddr s i
  let die := 16 + hbmStack a / 6
  let s :=
    if i % 2 = 0 then
      let s := (hbmStore a b false (chargeHbm die 9 2 s)).2
      { s with log := { s.log with held := b } }
    else (hbmStore (a - 32) (padTo 32 s.log.held ++ b) false (chargeHbm die 9 1 s)).2
  setReg Reg.EVTLOG_WRITE (word (i + 1)) s

/-- Make room for a record: in ring mode the oldest is overwritten; in stop mode a full log takes none, and
STOPPED is set (R558, R562). Answers whether a record may be written. [DESIGN CHOICE: log 21] -/
def makeRoom (s : State) : Bool × State :=
  if !logFull s then (true, s)
  else if !stopMode s then (true, overwriteOldest s)
  else if s.log.stopped then (false, s)
  else (false, raiseOwn 7 Evt.EVTLOG_FULL (logWriteIx s) { s with log := { s.log with stopped := true } })

/-- The EVTLOG_LOST record that goes before the first record after a drop: it takes no queue entry (R558).
[DESIGN CHOICE: log 21] -/
def writeLost (s : State) : Bool × State :=
  let (ok, s) := makeRoom s
  if !ok then (false, s)
  else
    let e := recordOf s (tick s) 7 Evt.EVTLOG_LOST (Evt.sevOf Evt.EVTLOG_LOST) 9 0 (s.log.dropped % 2 ^ 32)
    (true, writeRecord (eventBytes e) (signalEvent e { s with log := { s.log with dropped := 0 } }))

/-- The writer may write: records wait, HBM is trained, EVTLOG_BASE is set and HOSTIO is open (R556).
[DESIGN CHOICE: log 21] -/
def writerDue (s : State) : Bool :=
  !s.log.queue.isEmpty && s.log.baseSet && decide (6 ≤ s.boot.step) && startOpen s 9

/-- Write the oldest queued record. -/
def logWrite (s : State) : State :=
  let (ok, s) := if s.log.dropped = 0 then (true, s) else writeLost s
  if !ok then s
  else
    let (ok, s) := makeRoom s
    match ok, s.log.queue with
    | true, e :: q => writeRecord (eventBytes e) { s with log := { s.log with queue := q } }
    | _, _ => s

/-- EVTLOG_RECORD_WRITE (R616). -/
def execEvtlogRecordWrite (dt : Nat) (s : State) : Result :=
  act dt (fun s => if writerDue s then logWrite s else s) s

/-! ## The host's side -/

/-- A write of EVTLOG_SEL starts a fetch (R557). -/
def selWrite (v : Word) (s : State) : State :=
  let s := setReg Reg.EVTLOG_SEL v s
  { s with log := { s.log with fetching := some v.toNat } }

/-- EVTLOG_SEL (R557). -/
def execEvtlogSel (dt : Nat) (index : Word) (s : State) : Result := actHost dt 7 (selWrite index) s

/-- An index the fetch serves: WRITE − 65,536 to WRITE − 1. -/
def indexHeld (s : State) (i : Nat) : Bool :=
  s.log.baseSet && decide ((logWriteIx s + 2 ^ 32 - 1 - i) % 2 ^ 32 < 65536)

/-- The fetch ends: EVTLOG_RECORD holds the record, or zeros. [DESIGN CHOICE: log 21] -/
def fetchEnds (s : State) : State :=
  match s.log.fetching with
  | none => s
  | some i =>
    let s := { s with log := { s.log with fetching := none } }
    let a := recordAddr s i
    let (b, s) := if indexHeld s i then readBytes a 32 (chargeHbm (16 + hbmStack a / 6) 9 1 s) else (padTo 32 [], s)
    (List.range 8).foldl (fun s k => setReg (Reg.EVTLOG_RECORD k) (word (byteField b (4 * k) (4 * k + 3))) s) s

/-- EVTLOG_FETCH_DONE (R557). -/
def execEvtlogFetchDone (dt : Nat) (s : State) : Result := act dt fetchEnds s

def logInvalid (a : Nat) (v : Word) (s : State) : State := cmdInvalid 7 Evt.EVTLOG_CMD_INVALID a v s

/-- STOPPED clears when the log has room again. [DESIGN CHOICE: log 21] -/
def unstop (s : State) : State :=
  if stopMode s && logFull s then s else { s with log := { s.log with stopped := false } }

/-- A host write of EVTLOG_READ (R559): beyond WRITE it is ignored; with a module advance in the same SCLK cycle
the value closer to WRITE stays. [DESIGN CHOICE: log 21] -/
def readIxWrite (v : Word) (s : State) : State :=
  if 2 ^ 31 ≤ (logWriteIx s + 2 ^ 32 - v.toNat) % 2 ^ 32 then logInvalid Reg.EVTLOG_READ v s
  else if mget 0 (freshCycle s).hwInc Reg.EVTLOG_READ ≠ 0 ∧
      logUsed s ≤ (logWriteIx s + 2 ^ 32 - v.toNat) % 2 ^ 32 then s
  else unstop (setReg Reg.EVTLOG_READ v s)

/-- EVTLOG_READ (R559). -/
def execEvtlogRead (dt : Nat) (index : Word) (s : State) : Result := actHost dt 7 (readIxWrite index) s

/-- A write of EVTLOG_CONFIG. -/
def logConfigWrite (v : Word) (s : State) : State := unstop (setReg Reg.EVTLOG_CONFIG (v &&& 1) s)

/-- EVTLOG_BASE as a completed pair: while stopped, with WRITE = READ, 2 MiB aligned within one HBM region of
KIND 5. -/
def logBaseOk (s : State) (a : Nat) : Bool :=
  isStopped s && logUsed s == 0 && a % 2097152 == 0 &&
  (match regionOf s a 2097152 with | some (_, k) => k == 5 | none => false)

def logBaseWrite (a : Nat) (at_ : Nat) (v : Word) (s : State) : State :=
  if logBaseOk s a then
    let s := setReg64 Reg.EVTLOG_BASE a s
    { s with log := { s.log with baseSet := true } }
  else logInvalid at_ v s

/-- EVTLOG_STATUS. -/
def logStatusWord (s : State) : Word :=
  word (s.log.queue.length + one s.log.fetching.isSome * 2 ^ 30 + one s.log.stopped * 2 ^ 31)

end Sys2Proof.Machine
end

