-- ==== Sys2Proof/Machine/Secure.lean ====
section
/-! DEFINITION. Signed streams, development mode and attestation (R543 to R552): the digest tree, a stream's
end, the commands and the report. -/

namespace Sys2Proof.Machine

open Sys2Proof.Map

/-! ## The digest tree (R543) -/

/-- Leaf hash r. -/
def leafHash (r : Nat) (leaf : Bytes) : Bytes := shake256 32 ((0 : Byte) :: (toBytes 4 r ++ leaf))

/-- One level up: adjacent pairs; a node without a partner passes up unchanged. -/
def treeLevel : List Bytes → List Bytes
  | a :: b :: rest => shake256 32 ((1 : Byte) :: (a ++ b)) :: treeLevel rest
  | rest => rest

/-- The root, with fuel for the levels. -/
def treeRoot : Nat → List Bytes → Bytes
  | 0, xs => xs.headD []
  | n + 1, xs => if xs.length ≤ 1 then xs.headD [] else treeRoot n (treeLevel xs)

/-- The root over leaves 1 to N. -/
def digestRoot (leaves : List Bytes) : Bytes :=
  treeRoot 32 ((List.range leaves.length).zip leaves |>.map (fun e => leafHash (e.1 + 1) e.2))

/-! ## A stream's end -/

/-- A stream fails with a RESULT; it is counted. [DEDUCED: log 76] -/
def streamFail (result : Nat) (f : State → State) (s : State) : State :=
  f (bump Reg.SECURE_SIG_FAIL_COUNT 1
    { s with secure := { s.secure with stream := { s.secure.stream with result := result } } })

/-- STREAM_REJECTED (R544, R545, R548). -/
def streamReject (result : Nat) (s : State) : State :=
  streamFail result (raise 9 Evt.STREAM_REJECTED (result + s.secure.stream.stored * 2 ^ 4)) s

/-- STREAM_DIGEST_FAIL: a record, or a program of one (R545, R546). -/
def streamDigestFail (record program : Nat) (s : State) : State :=
  streamFail 4 (raise 9 Evt.STREAM_DIGEST_FAIL (record + program * 2 ^ 32)) s

/-- A write of BCAST_CONTROL, while stopped: EN set starts BCAST_STATUS.STORED anew; EN cleared rejects a stream
in progress (R545). -/
def bcastControlWrite (v : Word) (s : State) : State :=
  if !isStopped s then cmdInvalidPg Evt.SHAWM_CMD_INVALID Reg.BCAST_CONTROL v s
  else
    let s := setReg Reg.BCAST_CONTROL (v &&& 1) s
    if flag v 0 then setFld Reg.BCAST_STATUS 30 0 0 s
    else if s.secure.stream.result = 1 then streamReject 5 s
    else s

/-! ## Commands (R549, R552) -/

/-- The firmware digest of the running copy. -/
def firmwareDigest (s : State) : Bytes := padTo 32 (if s.boot.fwCopy then s.nvm.fwDigest.2 else s.nvm.fwDigest.1)

/-- Bytes 0–255 of the report (R552). -/
def reportBody (s : State) : Bytes :=
  padTo 256 (toBytes 4 1 ++
    (List.range 8).flatMap (fun k => toBytes 4 (reg s (Reg.SECURE_NONCE k)).toNat) ++
    toBytes 8 (tick s) ++ toBytes 6 (stepNumber s) ++ toBytes 2 (reg s 0x100).toNat ++
    toBytes 4 (reg s 0x108).toNat ++ toBytes 2 (reg s 0x104).toNat ++
    toBytes 1 (one s.secure.devMode + 2 * one s.nvm.devEver + 4 * one s.boot.fwCopy) ++ toBytes 1 0 ++
    toBytes 4 s.modLife.devCount ++ firmwareDigest s ++
    padTo 32 (match s.nvm.installs.getLast? with | none => [] | some r => r.wingset) ++
    padTo 32 (if s.secure.storeOk then s.secure.store else []) ++
    shake256 32 s.nvm.idKey)

/-- DEV_ENTER (R549): the development count goes into the NVM life record at once. [DEDUCED: log 76] -/
def devEnter (s : State) : State :=
  if s.secure.devMode then s
  else
    let n := s.modLife.devCount + 1
    raise 9 Evt.DEV_MODE_ENTERED n (nvTouch { s with
      secure := { s.secure with devMode := true }
      modLife := { s.modLife with devCount := n }
      nvm := { s.nvm with modLife := { s.nvm.modLife with devCount := n } } })

def secureInvalid (a : Nat) (v : Word) (s : State) : State := cmdInvalid 9 Evt.SECURE_CMD_INVALID a v s

/-- A write of SECURE_CMD. [DEDUCED: log 76] -/
def secureCmd (v : Word) (s : State) : State :=
  if s.secure.attestBusy then secureInvalid Reg.SECURE_CMD v s
  else if fld v 31 28 = 1 then
    { s with secure := { s.secure with attestBusy := true, attestDone := false, draft := reportBody s } }
  else if fld v 31 28 = 2 ∧ fld v 15 0 = 0xDE71 ∧ isStopped s = true then devEnter s
  else secureInvalid Reg.SECURE_CMD v s

/-- ATTEST (R552). -/
def execAttest (dt : Nat) (s : State) : Result := actHost dt 9 (secureCmd 0x10000000) s
/-- DEV_ENTER (R549). -/
def execDevEnter (dt : Nat) (arg : BitVec 16) (s : State) : Result :=
  actHost dt 9 (secureCmd (0x20000000 ||| arg.setWidth 32)) s

/-- The report is written (R552). -/
def attestEnds (s : State) : State :=
  if !s.secure.attestBusy then s
  else
    let d := s.secure.draft
    raise 9 Evt.ATTEST_DONE (byteField d 4 7) { s with secure := { s.secure with
      attestBusy := false, attestDone := true, draft := []
      report := padTo 2048 (d ++ padTo 1280 (Config.identitySign d)) } }

/-- ATTEST_DONE (R552). -/
def execAttestDone (dt : Nat) (s : State) : Result := act dt attestEnds s

/-- A write of SECURE_NONCE[k]. [DEDUCED: log 76] -/
def nonceWrite (a : Nat) (v : Word) (s : State) : State :=
  if s.secure.attestBusy then secureInvalid a v s
  else
    let s := setReg a v s
    { s with secure := { s.secure with attestDone := false } }

/-- SECURE_STATUS. -/
def secureStatusWord (s : State) : Word :=
  let x := s.secure
  word (one x.devMode + 2 * one s.nvm.devEver + 4 * one (x.storeOk && x.storeSigned) + 8 * one x.wingsetOk +
    16 * one x.attestBusy + 32 * one x.attestDone)

/-- SECURE_STREAM_STATUS. -/
def streamStatusWord (s : State) : Word :=
  let x := s.secure.stream
  word (x.result + x.kind % 16 * 2 ^ 4 + x.stored % 2 ^ 24 * 2 ^ 8)

end Sys2Proof.Machine
end

