-- ==== Sys2Proof/Machine/Access.lean ====
section
/-! DEFINITION. An aligned 32-bit access to the module's own register pages and large windows (R10 to R15,
R584 to R599): what each word reads as, and what a write of it does. -/

namespace Sys2Proof.Machine

open Sys2Proof.Map

/-! ## What a word reads as -/

/-- EVT_PENDING of a page is non-zero (R598). -/
def pagePending (s : State) (i : Nat) : Word :=
  (List.range 32).foldl (fun w j =>
    if (pageBlk (32 * i + j)).isSome && reg s (ra (32 * i + j) 0x018) != 0 then putFlag w j true else w) 0

/-- Pages accept some registers only while stopped, and own a large window, where BLK_CAPS says so. -/
def headerWord (s : State) (page : Nat) (b : Blk) (i off : Nat) : Word :=
  if off = 0x000 then word ((blkInfo b).1 * 2 ^ 16 + i * 2 ^ 8 + 1)
  else if off = 0x004 then word (blkInfo b).2.1
  else if off = 0x008 then
    word (bootCode s + one (mget false s.regs.up page) * 2 ^ 4 + one (isStopped s) * 2 ^ 5 + one (isLead s) * 2 ^ 6)
  else if off = 0x020 then word (blkInfo b).2.2
  else reg s (ra page off)

/-- One of two words by a register's half. -/
def halfOf (n : Nat) (high : Bool) : Word := if high then word (n / 2 ^ 32) else word n

def globalWord (s : State) (off : Nat) : Word :=
  if off = 0x114 then bootStatusWord s
  else if 0x2CC ≤ off ∧ off < 0x2D8 then failMap s ((off - 0x2CC) / 4)
  else if off = 0x308 then widenStateWord s
  else if off = 0x30C then widenCostWord s
  else if off = 0x310 then widenSummaryWord s
  else if 0x418 ≤ off ∧ off < 0x428 then word (freePages s ((off - 0x418) / 4))
  else if off = 0x428 then word (fifoCount s.kv.entries)
  else if off = 0x42C then word s.kv.prefixValid
  else if off = 0x48C then adapterStatusWord s
  else if off = 0x494 then adapterStateWord s
  else if off = 0x504 then routeStatusWord s
  else if 0x600 ≤ off ∧ off < 0x620 then pagePending s ((off - 0x600) / 4)
  else reg s off

def seqWord (s : State) (off : Nat) : Word :=
  if off = 0x104 then seqStatusWord s
  else if off = 0x128 then tagCountWord s
  else if off = 0x12C then tagBaseWord s
  else if off = 0x130 then tagStatusWord s
  else reg s (ra 1 off)

/-- The ring registers read zero on a module other than the lead (R386). -/
def hawkWord (s : State) (off : Nat) : Word :=
  if 0x108 ≤ off ∧ off < 0x120 ∧ isLead s = false then 0
  else if off = 0x134 then reqActiveWord s
  else reg s (ra 2 off)

/-- ATLAS_ENERGY of the counter selected, in whole µJ. -/
def atlasEnergy (s : State) : Nat :=
  let c := regFld s Reg.ATLAS_COUNTER_SEL 3 0
  if c < 12 then mget 0 s.atlas.energy c / 1024 else 0

def atlasWord (s : State) (off : Nat) : Word :=
  if off = 0x11C ∨ off = 0x120 then halfOf s.atlas.winSpent (off == 0x120)
  else if off = 0x124 then word s.atlas.allowance
  else if off = 0x128 then word s.atlas.k
  else if off = 0x130 ∨ off = 0x134 then halfOf (atlasEnergy s) (off == 0x134)
  else if off = 0x138 then word s.atlas.last
  else reg s (ra 3 off)

def breathWord (s : State) (off : Nat) : Word :=
  if off = 0x10C then s.breath.number
  else if off = 0x110 then gateStatusWord s
  else reg s (ra 4 off)

def thermWord (s : State) (off : Nat) : Word :=
  if off = 0x11C then thermStateWord s
  else if off = 0x120 then word (unsigned 16 s.therm.plate)
  else if 0x1A0 ≤ off ∧ off < 0x1F0 then
    let d := (off - 0x1A0) / 4
    word (unsigned 16 (est s d) + unsigned 16 (mget 0 s.therm.rate d) * 2 ^ 16)
  else reg s (ra 5 off)

def droneWord (s : State) (off : Nat) : Word :=
  if off = 0x100 ∨ off = 0x104 then halfOf s.drone.count (off == 0x104)
  else if off = 0x108 then droneStatusWord s
  else if off = 0x10C then word (unsigned 32 s.drone.rho)
  else if off = 0x114 then word s.drone.path
  else reg s (ra 6 off)

def nvrecWord (s : State) (off : Nat) : Word :=
  if off = 0x100 then nvrecStatusWord s
  else if off = 0x104 then s.nvm.generation
  else if off = 0x108 then 0x00F00000
  else reg s (ra 8 off)

def secureWord (s : State) (off : Nat) : Word :=
  if off = 0x100 then secureStatusWord s
  else if off = 0x108 then streamStatusWord s
  else if 0x800 ≤ off then wordAt s.secure.report (off - 0x800)
  else reg s (ra 9 off)

/-- TUNNEL_TARGET reads zero on a module other than the lead (R585); TUNNEL_STATUS counts the reads in flight. -/
def tunnelWord (s : State) (off : Nat) : Word :=
  if 0x110 ≤ off ∧ off < 0x11C then
    word ((s.fabric.reads.filter (fun r => r.window == (off - 0x110) / 4)).length)
  else if 0x100 ≤ off ∧ off < 0x10C ∧ isLead s = false then 0
  else reg s (ra 0xB off)

def hkcWord (s : State) (d off : Nat) : Word :=
  if off = 0x108 then hkcStatusWord s d
  else if off = 0x10C then word (unsigned 32 (hkcOf s d).offset)
  else if off = 0x110 then word (hkcOf s d).gain
  else if 0x180 ≤ off ∧ off < 0x1E0 then hkcResultWord s d ((off - 0x180) / 4)
  else reg s (ra (pgHkc d) off)

def coreWord (s : State) (d off : Nat) : Word :=
  if off = 0x108 then readsActiveWord s d
  else if off = 0x10C then tempBandWord s d
  else reg s (ra (pgLuna d 0) off)

def mapPageWord (s : State) (d off : Nat) : Word :=
  if off = 0x100 then word (0x00400000 + d * 0x80000)
  else if off = 0x104 then (lunaDie s d).mapGen
  else mapPoolWord s d

def piccoloWord (s : State) (d off : Nat) : Word :=
  if off = 0x110 then shadowQueueWord s d
  else if off = 0x114 then trackSummaryWord s d
  else if off = 0x118 then word (0x00C00000 + d * 0x20000)
  else reg s (ra (pgLuna d 2) off)

def refreshWord (s : State) (d off : Nat) : Word :=
  if off = 0x108 then refreshStatusWord s d
  else if off = 0x10C then refreshActivityWord s d
  else if off = 0x110 then refreshOldestWord s d
  else if off = 0x114 then word (ageClock s d)
  else reg s (ra (pgLuna d 3) off)

def colcalWord (s : State) (d off : Nat) : Word :=
  if off = 0x104 then colcalStatusWord s d
  else if off = 0x108 then word (0x00E00000 + d * 0x10000)
  else reg s (ra (pgLuna d 4) off)

def spadPageWord (s : State) (d off : Nat) : Word :=
  if off = 0x100 then spadInfoWord s d
  else if off = 0x108 then mget 0 s.nvm.banks d
  else if off = 0x11C then (ringOf s d (regFld s (spadReg d 0x118) 9 0)).p
  else if off = 0x120 then (ringOf s d (regFld s (spadReg d 0x118) 9 0)).c
  else reg s (spadReg d off)

/-- A word of a die's window registers, at their offset in a WINDOWS page. -/
def winWord (s : State) (d off : Nat) : Word :=
  if off = 0x108 then winStateWord s d
  else if off = 0x10C then winSummary s d
  else reg s (winReg d off)

def shawmWord (s : State) (p off : Nat) : Word :=
  if off = 0x100 then shawmStatusWord s p
  else if off = 0x104 ∧ portDisabled s p = true then 0
  else if off = 0x10C then word ((portOf s p).delay % 2 ^ 24)
  else reg s (shawmReg p off)

/-- What a register of a block reads as now. -/
def blkWord (s : State) (page : Nat) (b : Blk) (i off : Nat) : Word :=
  match b with
  | .global => globalWord s off
  | .seq => seqWord s off
  | .hawk => hawkWord s off
  | .atlas => atlasWord s off
  | .breath => breathWord s off
  | .therm => thermWord s off
  | .drone => droneWord s off
  | .evtlog => if off = 0x114 then logStatusWord s else reg s (ra page off)
  | .nvrec => nvrecWord s off
  | .secure => secureWord s off
  | .tunnel => tunnelWord s off
  | .hkcLuna => hkcWord s i off
  | .hkcHub => hkcWord s (16 + i) off
  | .core => coreWord s i off
  | .map => mapPageWord s i off
  | .piccolo => piccoloWord s i off
  | .refresh => refreshWord s i off
  | .colcal => colcalWord s i off
  | .spad => spadPageWord s i off
  | .windows => winWord s i off
  | .hubspad => if 0x300 ≤ off then winWord s (16 + i) (off - 0x200) else spadPageWord s (16 + i) off
  | .hbm => if off = 0x100 then hbmStatusWord s i else reg s (ra page off)
  | .shawm => shawmWord s i off
  | .eth => if off = 0x100 then ethStatusWord s i else reg s (ra page off)
  | .pcie | .tensor | .roce | .shippark => reg s (ra page off)

/-- What a register word reads as, whatever SNAPSHOT holds (R586, R587). -/
def liveWord (s : State) (a : Nat) : Word :=
  match pageBlk (a / 0x1000), rowOf a with
  | some (b, i), some _ =>
    if a % 0x1000 < 0x100 then headerWord s (a / 0x1000) b i (a % 0x1000)
    else blkWord s (a / 0x1000) b i (a % 0x1000)
  | _, _ => 0

/-- While SNAPSHOT is 1 the counters of a page read as frozen (R595). [DEDUCED: log 15] -/
def shownWord (s : State) (a : Nat) : Word := (find? s.regs.snap a).getD (liveWord s a)

/-- A word of the large windows (R584). -/
def windowWord (s : State) (a : Nat) : Word :=
  if a < 0xC00000 then mapWindowWord s ((a - 0x400000) / 0x80000) ((a - 0x400000) % 0x80000)
  else if a < 0xE00000 then trackerWindowWord s ((a - 0xC00000) / 0x20000) ((a - 0xC00000) % 0x20000)
  else if a < 0xF00000 then colcalWindowWord s ((a - 0xE00000) / 0x10000) ((a - 0xE00000) % 0x10000)
  else nvrecWindowWord s (a - 0xF00000)

/-- A page answers: without firmware only GLOBAL and NVREC do (R565). [DESIGN CHOICE: log 14] -/
def pageAnswers (s : State) (page : Nat) : Bool := !s.boot.fwNone || page == 0 || page == 8

/-- Read an aligned word of the module's own pages and windows. The low word of a 64-bit register holds its high
word until the high word is read (R14); no other read changes anything but the count of unmapped accesses (R590). -/
def localRead (a : Nat) (s : State) : Word × State :=
  if 0x400000 ≤ a then (if pageAnswers s (if 0xF00000 ≤ a then 8 else 1) then windowWord s a else 0, s)
  else if (pageBlk (a / 0x1000)).isNone then (0, bump Reg.GLOBAL_UNMAPPED_COUNT 1 s)
  else if !pageAnswers s (a / 0x1000) then (0, s)
  else
    match rowOf a with
    | none => (0, s)
    | some r =>
      match r.half with
      | .one => (shownWord s a, s)
      | .low => (shownWord s a, { s with regs := { s.regs with holdHigh := mput s.regs.holdHigh a (shownWord s (a + 4)) } })
      | .high =>
        match find? s.regs.holdHigh (a - 4) with
        | none => (shownWord s a, s)
        | some w => (w, { s with regs := { s.regs with holdHigh := mdel s.regs.holdHigh (a - 4) } })

/-! ## What a write does -/

/-- FE_REARM (R594): the capture is cleared; an event of the same SCLK cycle is captured after it. -/
def feRearm (page : Nat) (s : State) : State :=
  let s := setReg (ra page 0x02C) 0 (setReg (ra page 0x028) 0 (setReg (ra page 0x024) 0 s))
  match find? s.log.feNow page with
  | some e => if e.cycle = sclk s then captureFirst page e.sev e.code e.detail e.several s else s
  | none => s

/-- BLK_CONTROL.SNAPSHOT (R595): the page's counters freeze as it is set, and run free as it is cleared.
[DEDUCED: log 15] -/
def setSnapshot (page : Nat) (on : Bool) (s : State) : State :=
  let was := flag (reg s (ra page 0x00C)) 1
  let s := setFld (ra page 0x00C) 1 1 (one on) s
  if on && !was then
    let snap := (pageCounters page).foldl (fun m a => mput m a (liveWord s a)) s.regs.snap
    { s with regs := { s.regs with snap := snap } }
  else if on then s
  else { s with regs := { s.regs with snap := s.regs.snap.filter (fun e => e.1 / 0x1000 != page) } }

/-- A write of BLK_CONTROL. -/
def controlWrite (page : Nat) (v : Word) (s : State) : State :=
  let s := setSnapshot page (flag v 1) s
  if flag v 0 then feRearm page s else s

/-- A host write of a HIGH_WATER field in [hi:lo] of which `cur` is the present level: updates of the same SCLK
cycle come after it (R589). [DEDUCED: log 15] -/
def highWrite (a hi lo cur : Nat) (v : Word) (s : State) : State :=
  let r := freshCycle s
  setFld a hi lo (max (fld v hi lo) (max cur (mget 0 r.hwInc a))) { s with regs := r }

/-- A W1C write: bits that the hardware set in the same SCLK cycle stay (R13). [DESIGN CHOICE: log 13] -/
def clearWrite (a : Nat) (v : Word) (s : State) : State :=
  let r := freshCycle s
  setReg a (reg s a &&& (~~~ v ||| mget 0 r.hwSet a)) { s with regs := r }

/-- A write of a counter: the increments of the same SCLK cycle are added to what is written (R560, R589).
[DESIGN CHOICE: log 13] -/
def counterWrite (a : Nat) (v : Word) (s : State) : State :=
  let r := freshCycle s
  setReg a (satAdd v (mget 0 r.hwInc a)) { s with regs := r }

/-- The command-invalid event of a block whose register takes writes only while stopped (R590). -/
def stopInvalid (b : Blk) (i a : Nat) (v : Word) (s : State) : State :=
  match b with
  | .secure => secureInvalid a v s
  | .refresh => refreshInvalid i (a % 0x1000) v s
  | .shippark => cmdInvalidPg Evt.ROCE_CMD_INVALID a v s
  | _ => s

/-- A write of a register without a rule of its own: RW bits take the value, reserved bits ignore it (R10 to R12);
a low word of a 64-bit pair is held at any time, and the pair counts as one write, that of its high word (R15, R590).
[DEDUCED: log 18] -/
def plainWrite (b : Blk) (i a : Nat) (r : RegRow) (v : Word) (s : State) : State :=
  let m : Word := word r.rw
  if r.half = .low ∧ r.ctr = false ∧ r.rw ≠ 0 then
    { s with regs := { s.regs with heldLow := mput s.regs.heldLow a v } }
  else if r.stop && !isStopped s then
    stopInvalid b i a v { s with regs := { s.regs with heldLow := if r.half = .high then mdel s.regs.heldLow (a - 4) else s.regs.heldLow } }
  else if r.ctr then (if r.rw = 0 then s else counterWrite a v s)
  else if r.w1c ≠ 0 then clearWrite a (v &&& word r.w1c) s
  else if r.rw = 0 then s
  else
    match r.half with
    | .one | .low => setReg a ((reg s a &&& ~~~ m) ||| (v &&& m)) s
    | .high =>
      let low := (find? s.regs.heldLow (a - 4)).getD (reg s (a - 4))
      setReg a v (setReg (a - 4) low { s with regs := { s.regs with heldLow := mdel s.regs.heldLow (a - 4) } })

/-- EVTLOG_BASE: one write, that of its high word, accepted while stopped (R15, R557). [DEDUCED: log 18] -/
def logBasePair (high : Bool) (v : Word) (s : State) : State :=
  let a := Reg.EVTLOG_BASE
  if !high then { s with regs := { s.regs with heldLow := mput s.regs.heldLow a v } }
  else
    let low := (find? s.regs.heldLow a).getD (reg s a)
    logBaseWrite (low.toNat + v.toNat * 2 ^ 32) (a + 4) v
      { s with regs := { s.regs with heldLow := mdel s.regs.heldLow a } }

/-- Writes of GLOBAL registers with rules of their own; none for the others. [DEDUCED: log 17] -/
def globalWrite (off : Nat) (v : Word) (s : State) : Option State :=
  if off = 0x118 then some (match s.boot.phys with | some o => bootCmd v o s | none => s)
  else if off = 0x2C0 then some (d2dRepairCmd v s)
  else if off = 0x300 then some (widenCmd v s)
  else if off = 0x488 then some (adapterCmd v s)
  else if off = 0x500 then some (machineWrite v s)
  else if off = 0x50C then some (bcastControlWrite v s)
  else none

/-- Writes of HAWK registers; ring registers ignore them on a module other than the lead (R386). -/
def hawkWrite (off : Nat) (v : Word) (s : State) : Option State :=
  if off = 0x100 then some (hawkConfigWrite v s)
  else if off = 0x108 ∨ off = 0x114 then some (ringSizeWrite (ra 2 off) v s)
  else if off = 0x10C then some (subTailWrite v s)
  else if off = 0x118 then some (cplHeadWrite v s)
  else if off = 0x128 then some (spareCmd v s)
  else none

/-- [DEDUCED: log 17] -/
def thermWrite (off : Nat) (v : Word) (s : State) : Option State :=
  if off = 0x114 then some (thermCmd v (match s.boot.phys with | some o => o.diode | none => []) s)
  else if off = 0x118 then some (diodeCmd v s)
  else if off = 0x104 then some (limitsWrite v s)
  else none

def droneWrite (off : Nat) (v : Word) (s : State) : Option State :=
  if off = 0x110 then some (droneConfig v s)
  else if off = 0x118 then some (highWrite Reg.DRONE_OFFSET_MAX 31 0 0 v s)
  else none

def evtlogWrite (off : Nat) (v : Word) (s : State) : Option State :=
  if off = 0x100 then some (logConfigWrite v s)
  else if off = 0x104 ∨ off = 0x108 then some (logBasePair (off == 0x108) v s)
  else if off = 0x110 then some (readIxWrite v s)
  else if off = 0x11C then some (selWrite v s)
  else none

def nvrecWrite (off : Nat) (v : Word) (s : State) : Option State :=
  if off = 0x10C ∨ off = 0x110 then some (hostTimeWrite (off == 0x110) v s)
  else if off = 0x11C then some (fwCmd v s)
  else none

def secureWrite (off : Nat) (v : Word) (s : State) : Option State :=
  if off = 0x104 then some (secureCmd v s)
  else if 0x140 ≤ off ∧ off < 0x160 then some (nonceWrite (ra 9 off) v s)
  else none

/-- Writes of the PCIE page: a vector unmasked in the MSI-X table is sent if it is pending (R513, R516). -/
def pcieWrite (off : Nat) (v : Word) (s : State) : Option State :=
  if off = 0x108 ∨ off = 0x10C then some (remoteClear (off == 0x10C) v s)
  else if 0x800 ≤ off ∧ off < 0xC00 then some (msixDeliver (setReg (ra 0xA off) (if off % 16 = 12 then v &&& 1 else v) s))
  else none

def piccoloWrite (d off : Nat) (v : Word) (s : State) : Option State :=
  if off = 0x110 then some (highWrite (ra (pgLuna d 2) off) 12 8 (lunaDie s d).shadow.length v s)
  else if off = 0x13C then some (snapSel d v s)
  else none

def refreshWrite (d off : Nat) (v : Word) (s : State) : Option State :=
  if off = 0x104 then some (refreshCmdWrite d v s)
  else if off = 0x118 then some (offHoursWrite d v s)
  else if off = 0x11C then some (stageBaseWrite d v s)
  else none

def spadPageWrite (d off : Nat) (v : Word) (s : State) : Option State :=
  if off = 0x10C then some (spadRepairCmd d v s)
  else if off = 0x110 ∨ off = 0x114 ∨ (0x180 ≤ off ∧ off < 0x200) then some (spadWrite d (spadReg d off) v s)
  else none

def winWrite (d off : Nat) (v : Word) (s : State) : Option State :=
  if off = 0x100 then some (winTableWrite (winReg d off) v s) else none

def hbmWriteReg (st off : Nat) (v : Word) (s : State) : Option State :=
  if off = 0x110 then some (hbmRetireCmd st v s)
  else if 0x180 ≤ off then some (regionWrite (ra (pgHbm st) off) v s)
  else none

/-- A port that R479 disables ignores writes of SHAWM_CONFIG. -/
def shawmWrite (p off : Nat) (v : Word) (s : State) : Option State :=
  if off = 0x104 ∧ portDisabled s p = true then some s
  else if off = 0x108 then some (retrainCmd p v s)
  else none

/-- A write with a rule of its own; none for every other register. -/
def ownWrite (b : Blk) (i off : Nat) (v : Word) (s : State) : Option State :=
  match b with
  | .global => globalWrite off v s
  | .seq => if off = 0x100 then some (seqControlWrite v s) else none
  | .hawk => hawkWrite off v s
  | .atlas => if off = 0x104 then some (powerLimitWrite v s) else none
  | .breath => if off = 0x104 then some (breathTicksWrite v s) else none
  | .therm => thermWrite off v s
  | .drone => droneWrite off v s
  | .evtlog => evtlogWrite off v s
  | .nvrec => nvrecWrite off v s
  | .secure => secureWrite off v s
  | .pcie => pcieWrite off v s
  | .tunnel => if off < 0x10C ∧ isLead s = false then some s else none
  | .hkcLuna => if off = 0x104 then some (hkcCmd i v s) else none
  | .hkcHub => if off = 0x104 then some (hkcCmd (16 + i) v s) else none
  | .core => if off = 0x108 then some (highWrite (ra (pgLuna i 0) off) 26 16 (fld (readsActiveWord s i) 10 0) v s) else none
  | .map => none
  | .piccolo => piccoloWrite i off v s
  | .refresh => refreshWrite i off v s
  | .colcal => if off = 0x100 then some (colcalCmd i v s) else none
  | .tensor => none
  | .spad => spadPageWrite i off v s
  | .windows => winWrite i off v s
  | .hubspad => if 0x300 ≤ off then winWrite (16 + i) (off - 0x200) v s else spadPageWrite (16 + i) off v s
  | .hbm => hbmWriteReg i off v s
  | .shawm => shawmWrite i off v s
  | .eth => if off = 0x104 then some (ethConfigWrite i v s) else none
  | .roce => if off = 0x100 then some (roceConfigWrite v s) else if off = 0x108 then some (ctxCommand v s) else none
  | .shippark => none

/-- A write of a register of a mapped page; an offset that no table defines ignores it (R587).
[DESIGN CHOICE: log 13] -/
def regWrite (b : Blk) (i a : Nat) (v : Word) (s : State) : State :=
  match rowOf a with
  | none => s
  | some r =>
    if a % 0x1000 = 0x00C then controlWrite (a / 0x1000) v s
    else if a % 0x1000 < 0x100 then plainWrite b i a r v s
    else (ownWrite b i (a % 0x1000) v s).getD (plainWrite b i a r v s)

/-- Write an aligned word of the module's own pages and windows: the windows are read-only, an unmapped page
counts the access (R584, R586), and a page that does not act on writes ignores it. -/
def localWrite (a : Nat) (v : Word) (s : State) : State :=
  if 0x400000 ≤ a then s
  else
    match pageBlk (a / 0x1000) with
    | none => bump Reg.GLOBAL_UNMAPPED_COUNT 1 s
    | some (b, i) => if hostActs s (a / 0x1000) then regWrite b i a v s else s

end Sys2Proof.Machine
end

