-- ==== Sys2Proof/Machine/Stream.lean ====
section
/-! DEFINITION. Records of a broadcast stream (R502, R503), the checks that make a stream trusted (R543 to R547)
and the configuration record (R548). -/

namespace Sys2Proof.Machine

open Sys2Proof.Map

/-! ## A record's place and check (R503) -/

/-- Where a record's DST lies: spaces 1 and 2 only. [DEDUCED: log 71] -/
def recordPlace (r : BcastRecord) : Option Place :=
  if bits r.dst.toNat 63 60 = 1 ∨ bits r.dst.toNat 63 60 = 2 then placeOf 16 r.dst.toNat else none

/-- The place holds `n` packets; hub N's space reaches to the end of its bundle store, which no transfer reaches
and a stream fills. -/
def recordFits (s : State) (p : Place) (n : Nat) : Bool :=
  match p with
  | .spad d w => decide (w + 9 * n ≤ if d = 16 then 67108864 else spadWords d)
  | _ => placeFits s p n

/-- Why a record fails, 0 for none: 1 digest, 2 bounds, 3 not stopped, 4 header. [DEDUCED: log 71] -/
def recordCause (s : State) (r : BcastRecord) : Nat :=
  if shake256 32 r.body ≠ r.digest then 1
  else
    match recordPlace r with
    | none => 4
    | some p =>
      if !recordFits s p r.length.toNat then 2
      else if !isStopped s then 3
      else if !r.zeroOk || r.length == 0 || decide (16777215 < r.length.toNat) then 4
      else 0

/-- Write a body; what goes to HBM is charged to class REFRESH. [DEDUCED: log 72] -/
def storeBody (p : Place) (body : Bytes) (s : State) : State :=
  match p with
  | .spad d w => setSpadWords d w (bytesWords body false) s
  | .hbm a => chargeHbm (16 + hbmStack a / 6) 6 (burstsOf a body.length).length (hbmStore a body false s).2
  | .window _ _ _ => s

/-- Change the stream. -/
def updStream (f : Stream → Stream) (s : State) : State :=
  { s with secure := { s.secure with stream := f s.secure.stream } }

/-- A stream is in progress. -/
def streaming (s : State) : Bool := s.secure.stream.result == 1

/-- A record fails (R503): its bytes stay and count for nothing; a stream in progress is rejected (R545). -/
def recordFails (cause : Nat) (r : BcastRecord) (s : State) : State :=
  let n := r.number.toNat
  let s := match recordPlace r with
    | some p => if recordFits s p r.length.toNat && (streaming s || n == 0) then storeBody p r.body s else s
    | none => s
  let s := raise 0 Evt.BCAST_RECORD_FAIL (n + cause * 2 ^ 32)
    (bump Reg.BCAST_FAIL_COUNT 1 (hwSetBits Reg.BCAST_STATUS 0x80000000 s))
  if streaming s || n == 0 then streamDigestFail n 0xFFF s else s

/-! ## The manifest (R544, R550) -/

def manKind (b : Bytes) : Nat := byteAt b 4
def manKey (b : Bytes) : Nat := byteAt b 5
def manCount (b : Bytes) : Nat := byteField b 12 15
def manSignature (b : Bytes) : Bytes := (b.drop (64 + 32 * manCount b)).take 1280

/-- Step 1: FORMAT, KIND, RECORDS, the zero fields, and a body of the length these give. -/
def manFormed (b : Bytes) : Bool :=
  decide (byteField b 0 3 = 1 ∧ 1 ≤ manKind b ∧ manKind b ≤ 3 ∧ byteField b 6 7 = 0 ∧ byteField b 20 23 = 0 ∧
    byteField b 56 63 = 0 ∧ 1 ≤ manCount b ∧ manCount b ≤ 131072 ∧
    b.length = 72 * ceilDiv (1344 + 32 * manCount b) 72) &&
  allZero (b.drop (1344 + 32 * manCount b))

/-- The stream that a manifest starts. -/
def manStream (b : Bytes) : Stream :=
  { result := 1
    kind := manKind b
    key := manKey b
    records := manCount b
    shape := byteField b 16 19
    root := (b.drop 24).take 32
    leaves := (List.range (manCount b)).map (fun i => (b.drop (64 + 32 * i)).take 32)
    stored := 1
    signed := manKey b != 0xFF }

/-- An unsigned manifest: KEY 0xFF and a signature of all zero (R550). -/
def manUnsigned (b : Bytes) : Bool := manKey b == 0xFF && allZero (manSignature b)

/-- Steps 2 to 5 of the check. [DEDUCED: log 72] -/
def manCheck (b : Bytes) (s : State) : State :=
  let x := s.secure.stream
  if byteField b 8 11 ≠ (reg s 0x108).toNat then streamReject 6 s
  else if x.shape ≠ regFld s Reg.SHAWM_MACHINE 3 0 then streamReject 6 s
  else if digestRoot x.leaves ≠ x.root then streamReject 7 s
  else if manUnsigned b then
    (if x.kind = 2 ∧ s.secure.devMode = true then s
    else streamFail 3 (raise 9 Evt.UNSIGNED_STORE_REFUSED (x.kind % 16)) s)
  else if manKey b < 4 ∧ Config.publisherVerify (firmwareDigest s) (manKey b) (b.take 64) (manSignature b) = true then s
  else streamFail 3 (raise 9 Evt.STREAM_SIG_FAIL (x.kind % 16 + x.key * 2 ^ 4)) s

/-- A manifest starts a stream; one in progress ends incomplete. It is stored at SECURE_STAGE_BASE; a failure of step 1
has no RESULT of its own in the spec. [DEDUCED: log 72] -/
def manifest (r : BcastRecord) (s : State) : State :=
  let s := if streaming s then streamReject 5 s else s
  let b := r.body
  let s := storeBody (.spad 16 (regFld s Reg.SECURE_STAGE_BASE 25 0)) b s
  let s := updStream (fun _ => manStream b) s
  let s := setFld Reg.BCAST_STATUS 30 0 (regFld s Reg.BCAST_STATUS 30 0 + 1) s
  let s := { s with secure := { s.secure with
    shadowOk := s.secure.shadowOk && manKind b == 2, storeOk := s.secure.storeOk && manKind b != 2 } }
  if manFormed b then manCheck b s
  else
    let (f, s) := takeFree s
    streamReject (3 + f % 5) s

/-! ## The configuration record (R548) -/

/-- A configuration entry. -/
structure ConfigEntry where
  page : Nat
  off : Nat
  value : Word
  layer : Nat
  ok : Bool
deriving DecidableEq, Repr

def configEntry (b : Bytes) : ConfigEntry :=
  { page := byteField b 0 1
    off := byteField b 2 3
    value := word (byteField b 4 7)
    layer := byteField b 8 11
    ok := byteField b 12 15 == 0 && (byteField b 0 1 == 0xFFFD || byteField b 8 11 == 0) }

/-- The entries before the end entry, none where the list has none: `n` more entries can follow. -/
def configEntries : Nat → Bytes → Option (List ConfigEntry)
  | 0, _ => none
  | n + 1, b =>
    if b.length < 16 then none
    else if byteField b 0 1 = 0xFFFE then some []
    else (configEntries n (b.drop 16)).map (fun es => configEntry (b.take 16) :: es)

/-- Registers that the host writes only while bundle issue is stopped (R590). -/
def stopOnly (b : Blk) (off : Nat) (v : Word) : Bool :=
  match b with
  | .global => off == 0x2C0 || off == 0x500 || off == 0x50C
  | .refresh =>
    (off == 0x104 && (fld v 31 28 == 1 || fld v 31 28 == 3)) || off == 0x11C || off == 0x120 || off == 0x124
  | .spad => off == 0x10C || off == 0x110 || off == 0x114 || decide (0x180 ≤ off)
  | .windows => off == 0x100
  | .hubspad => off == 0x10C || off == 0x110 || off == 0x114 || (decide (0x180 ≤ off) && decide (off ≤ 0x300))
  | .hbm => off == 0x110 || decide (0x180 ≤ off)
  | .breath => off == 0x104
  | .shawm => off == 0x108
  | .drone => off == 0x110
  | .hawk => off == 0x128
  | .shippark => decide (off < 0x11C)
  | .evtlog => off == 0x104 || off == 0x108
  | .secure => off == 0x10C || (off == 0x104 && fld v 31 28 == 2)
  | .nvrec => off == 0x11C && fld v 31 28 == 1
  | .colcal => off == 0x100
  | _ => false

/-- The bits of a register loaded from the wingset. -/
def wingMask (a : Nat) : Word :=
  if a = Reg.KV_CONFIG then 0x30FFF
  else if a = Reg.SEQ_STORE_INFO then 0xFFFF07FF
  else if a = Reg.ATLAS_COST_BASE ∨ a / 0x1000 = 1 then 0x3FFFFFF
  else 0xFFFFFFFF

/-- R319: the page holds its header and its layers. -/
def kvConfigOk (v : Word) : Bool :=
  let u := fld v 7 0
  let l := fld v 11 8
  decide (8 ≤ u ∧ u ≤ 128 ∧ 1 ≤ l ∧ l ≤ 11 ∧ 1 + 11 * l ≤ u)

/-- Write a register loaded from the wingset; the halves of a 64-bit one apply together (R15). -/
def wingWrite (a : Nat) (r : RegRow) (v : Word) (s : State) : State :=
  let v := v &&& wingMask a
  if a = Reg.KV_CONFIG ∧ kvConfigOk v = false then
    raise 0 Evt.KV_CONFIG_INVALID (fld v 7 0 + fld v 11 8 * 2 ^ 8) s
  else
    match r.half with
    | .one =>
      -- CRC_CHECK and CRC_EN wait for a step commit, as a host write of them does (R355)
      if a = Reg.KV_CONFIG then
        let old := force s a
        let s := loadReg a v s
        { s with regs := { s.regs with
            inForce := mset (regReset a) s.regs.inForce a ((v &&& 0xFFF) ||| (old &&& 0xFFFFF000)) } }
      else loadReg a v s
    | .low => { s with regs := { s.regs with heldLow := mput s.regs.heldLow a v } }
    | .high =>
      let low := (find? s.regs.heldLow (a - 4)).getD (reg s (a - 4))
      loadReg a v (loadReg (a - 4) low { s with regs := { s.regs with heldLow := mdel s.regs.heldLow (a - 4) } })

/-- A widening table entry becomes VALID. -/
def widenEntry (e : ConfigEntry) (s : State) : State :=
  let w : Widen := { valid := true, layer := e.layer, space := fld e.value 15 0, hbm := fld e.value 31 16 }
  { s with fmt := { s.fmt with entries := mset {} s.fmt.entries e.off w } }

/-- An entry names a register it may name. -/
def entryNames (e : ConfigEntry) : Bool :=
  e.ok &&
  if e.page = 0xFFFD then decide (e.off < 4096 ∧ e.layer < 256)
  else if e.off % 4 ≠ 0 ∨ 0x1000 ≤ e.off ∨ e.off < 0x100 then false
  else
    match pageBlk e.page, rowOf (ra e.page e.off) with
    | some (b, _), some r => r.wing || stopOnly b e.off e.value
    | _, _ => false

/-- Apply an entry. -/
def applyEntry (e : ConfigEntry) (s : State) : State :=
  if e.page = 0xFFFD then widenEntry e s
  else
    match pageBlk e.page, rowOf (ra e.page e.off) with
    | some (b, i), some r =>
      if r.wing then wingWrite (ra e.page e.off) r e.value s else regWrite b i (ra e.page e.off) e.value s
    | _, _ => s

def applyEntries (es : List ConfigEntry) (s : State) : State := es.foldl (fun s e => applyEntry e s) s

/-- The events by which a register's own rule refuses a value. -/
def refusals : List Nat :=
  [Evt.D2D_CMD_INVALID, Evt.REFRESH_CMD_INVALID, Evt.MEM_CMD_INVALID, Evt.SERVE_CMD_INVALID, Evt.BREATH_CMD_INVALID,
   Evt.HKC_CMD_INVALID, Evt.SHAWM_CMD_INVALID, Evt.ROCE_CMD_INVALID, Evt.SECURE_CMD_INVALID, Evt.EVTLOG_CMD_INVALID,
   Evt.GLOBAL_CMD_INVALID, Evt.KV_CONFIG_INVALID]

/-- Entries are checked one after the other, each against the state that those before it leave. -/
def entriesOk : List ConfigEntry → State → Bool
  | [], _ => true
  | e :: es, s =>
    let t := applyEntry e { s with log := { s.log with queue := [] } }
    entryNames e && !t.log.queue.any (fun x => refusals.contains x.code) && entriesOk es t

/-- A page size too small for its layers (R319): as the entries give it, or in a wingset without such an entry as it stands. -/
def kvRefused (wing : Bool) (es : List ConfigEntry) (s : State) : Option Word :=
  let kv := es.filter (fun e => e.page == 0 && e.off == 0x400)
  match kv.find? (fun e => !kvConfigOk e.value) with
  | some e => some e.value
  | none => if wing && kv.isEmpty && !kvConfigOk (reg s Reg.KV_CONFIG) then some (reg s Reg.KV_CONFIG) else none

/-! ## After record N (R546 to R548, R551) -/

/-- Bytes of the bundle store, none where a word reads as poison. -/
def storeBytes (s : State) (o n : Nat) : Option Bytes :=
  let ws := spadRead s 16 (storeBase + o / 8) (ceilDiv (o % 8 + n) 8)
  if anyPoison ws then none else some (((wordsBytes ws).drop (o % 8)).take n)

/-- A program's digest is the one its directory entry gives. -/
def programDigestOk (s : State) (i : Nat) : Bool :=
  match programOf s i, storeBytes s (64 * i) 64 with
  | some p, some e =>
    match storeBytes s p.offset p.length, storeBytes s p.advOffset (8 * p.advCount) with
    | some a, some b => shake256 32 (a ++ b) == (e.drop 24).take 32
    | _, _ => false
  | _, _ => false

/-- The first program of the store whose digest does not agree. -/
def badProgram (s : State) : Option Nat :=
  (List.range (min 4096 (regFld s Reg.SEQ_STORE_INFO 31 16))).find? (fun i => !programDigestOk s i)

/-- STREAM_ACCEPTED: the wingset or restore, or the bundle store, is in force (R546, R551). [DEDUCED: log 72] -/
def streamAccepts (s : State) : State :=
  let x := s.secure.stream
  let store := decide (x.kind = 2) || !x.places.isEmpty
  let wing := decide (x.kind ≠ 2)
  let s := if wing then poolInit s else s
  let ever := if !x.signed then true else if x.kind ≠ 3 ∧ s.secure.devMode = false then false else s.nvm.devEver
  let s := { s with
    secure := { s.secure with
      stream := { x with result := 2 }
      wingsetOk := s.secure.wingsetOk || wing
      shadowOk := s.secure.shadowOk || wing
      wingset := if wing then x.root else s.secure.wingset
      storeOk := s.secure.storeOk || store
      storeSigned := if store then x.signed else s.secure.storeSigned
      store := if store then x.root else s.secure.store }
    boot := { s.boot with installDone := if wing then [] else s.boot.installDone }
    nvm := { s.nvm with devEver := ever } }
  raise 9 Evt.STREAM_ACCEPTED (x.kind % 16 + x.records * 2 ^ 4) s

/-- The wingset digest of the install record in force (R547). -/
def installRoot (s : State) : Option Bytes := s.nvm.installs.getLast?.map (·.wingset)

/-- After record N: the configuration entries, the programs of a stored bundle store, the root of a restore.
[DEDUCED: log 72] -/
def streamEnds (s : State) : State :=
  let x := s.secure.stream
  if 1 < x.configs ∨ (x.kind ≠ 2 ∧ x.configs = 0) then streamReject 5 s
  else
    match (if x.configs = 0 then some [] else configEntries (x.config.length / 16) x.config) with
    | none => streamReject 5 s
    | some es =>
      match kvRefused (x.kind != 2) es s with
      | some v => streamReject 5 (raise 0 Evt.KV_CONFIG_INVALID (fld v 7 0 + fld v 11 8 * 2 ^ 8) s)
      | none =>
        if !entriesOk es s then streamReject 5 s
        else
          let t := applyEntries es s
          match (if x.kind = 2 ∨ x.places ≠ [] then badProgram t else none) with
          | some i => streamDigestFail (((storeBytes s (64 * i + 20) 4).map ofBytes).getD 0) i s
          | none => if x.kind = 3 ∧ installRoot s ≠ some x.root then streamReject 7 s else streamAccepts t

/-- Word address of the module's configuration area in hub N's scratchpad. -/
def configBase (s : State) : Nat := regFld s Reg.SECURE_STAGE_BASE 25 0 + 786432

/-- A record of a stream in progress passes: stored if it is for this module, forwarded only if not. -/
def recordPasses (mine : Bool) (r : BcastRecord) (s : State) : State :=
  let s :=
    match mine, recordPlace r with
    | true, some p =>
      let s := storeBody p r.body s
      let s := setFld Reg.BCAST_STATUS 30 0 (regFld s Reg.BCAST_STATUS 30 0 + 1) s
      let s := updStream (fun x => { x with stored := x.stored + 1 }) s
      (match p with
       | .spad 16 w =>
         if w = configBase s then updStream (fun x => { x with configs := x.configs + 1, config := r.body }) s
         else if storeBase < w + 9 * r.length.toNat then
           let s := updStream (fun x => { x with places := x.places ++ [(r.number.toNat, w, 9 * r.length.toNat)] }) s
           { s with secure := { s.secure with storeOk := false } }
         else s
       | _ => s)
    | _, _ => s
  let s := updStream (fun x => { x with passed := r.number.toNat }) s
  if r.number.toNat = s.secure.stream.records then streamEnds s else s

/-- Record N + 1 rejects the stream that was accepted: neither its wingset nor its store counts any more (R545, R546).
[DEDUCED: log 71] -/
def streamOverrun (s : State) : State :=
  let x := s.secure.stream
  streamReject 5 { s with secure := { s.secure with
    shadowOk := s.secure.shadowOk && x.kind == 2
    storeOk := s.secure.storeOk && x.kind != 2 && x.places.isEmpty } }

/-- A record after the manifest: those of a stream come in order, N of them, each with the digest of its leaf (R545).
[DEDUCED: log 71] -/
def laterRecord (mine : Bool) (r : BcastRecord) (s : State) : State :=
  let x := s.secure.stream
  if x.result = 2 ∧ r.number.toNat = x.records + 1 then streamOverrun s
  else if !streaming s then s
  else if r.number.toNat ≠ x.passed + 1 ∨ x.records < r.number.toNat then streamReject 5 s
  else if mine && (r.digest != x.leaves.getD (r.number.toNat - 1) []) then streamDigestFail r.number.toNat 0xFFF s
  else recordPasses mine r s

/-- A record of the broadcast stream arrives (R503). [DEDUCED: log 71] -/
def bcastRecord (r : BcastRecord) (s : State) : State :=
  if !flag (reg s Reg.BCAST_CONTROL) 0 then s
  else if !r.mask.getLsbD (moduleId s) then (if r.number = 0 then s else laterRecord false r s)
  else
    let c := recordCause s r
    if c ≠ 0 then recordFails c r s
    else if r.number = 0 then manifest r s
    else laterRecord true r s

/-- BCAST_RECORD (R503): a body of LENGTH packets and a digest of 32 bytes. -/
def execBcastRecord (dt : Nat) (record : BcastRecord) (s : State) : Result :=
  if record.body.length = 72 * record.length.toNat ∧ record.digest.length = 32 then
    act dt (inClass 6 (bcastRecord record)) s
  else .fault (.illFormed "BCAST_RECORD")

end Sys2Proof.Machine
end

