-- ==== Sys2Proof/Machine/Tunnel.lean ====
section
/-! DEFINITION. Accesses of the host to BAR0 (R14, R514, R584 to R590) and through the tunnel windows (R496 to R498,
R521, R522). -/

namespace Sys2Proof.Machine

open Sys2Proof.Map

/-! ## The lead's windows -/

/-- TUNNEL_TARGET[w]. -/
def tunnelTarget (s : State) (w : Nat) : Nat := regFld s (Reg.TUNNEL_TARGET w) 5 0

/-- An access is not forwarded: its target is at or beyond the machine size, or ROUTE_OK is 0 (R521). -/
def tunnelLost (s : State) (w : Nat) : Bool := decide (machineSize s ≤ tunnelTarget s w) || !s.fabric.routeOk

def targetInvalid (w : Nat) (s : State) : State :=
  raise 0xB Evt.TUNNEL_TARGET_INVALID (w + tunnelTarget s w * 2 ^ 2) s

/-- The next TAG of a window, modulo 256 (R499). [DEDUCED: log 70] -/
def takeTag (w : Nat) (s : State) : Nat × State :=
  let t := mget 0 s.fabric.tagNext w
  (t, { s with fabric := { s.fabric with tagNext := mset 0 s.fabric.tagNext w ((t + 1) % 256) } })

/-- A host write through a window, posted (R496, R521). [DEDUCED: log 70] -/
def tunnelWrite (w o : Nat) (v : Word) (s : State) : State :=
  if tunnelTarget s w = 0 then localWrite o v (bump Reg.TUNNEL_WRITE_COUNT 1 s)
  else if tunnelLost s w then targetInvalid w s
  else
    let (t, s) := takeTag w (bump Reg.TUNNEL_WRITE_COUNT 1 s)
    sendTo (tunnelTarget s w) (fun vc => .control vc (moduleId s) (tunnelTarget s w) 2 [o, v.toNat, w, t]) s

/-- Reads of a window in flight (R522). -/
def readsOf (s : State) (w : Nat) : List TunnelRead := s.fabric.reads.filter (·.window == w)

/-- The answer of a read goes to the host. -/
def answer (x : Word × State) : State := emit (.hostData x.1) x.2

/-- A host read through a window (R496, R521); with 16 in flight the next one waits for link credit (R522).
[DEDUCED: log 70] -/
def tunnelRead (w o : Nat) (s : State) : State :=
  if tunnelTarget s w = 0 then answer (localRead o (bump Reg.TUNNEL_READ_COUNT 1 s))
  else if tunnelLost s w then emit (.hostData 0xFFFFFFFF) (targetInvalid w s)
  else if 16 ≤ (readsOf s w).length then s
  else
    let (t, s) := takeTag w (bump Reg.TUNNEL_READ_COUNT 1 s)
    let d := tunnelTarget s w
    let s := { s with fabric := { s.fabric with
      reads := s.fabric.reads ++ [{ window := w, tag := t, target := d, offset := o, sent := tick s }] } }
    sendTo d (fun vc => .control vc (moduleId s) d 3 [o, 0, w, t]) s

/-- A host write of 4 bytes at a BAR0 offset: in D3hot no BAR is decoded (R513), an access that is not aligned is
invalid (R514), the tunnel windows are the lead's (R585). [DESIGN CHOICE: log 14] -/
def hostWrite (a : Nat) (v : Word) (s : State) : State :=
  if s.host.d3hot then s
  else if a % 4 ≠ 0 then accessInvalid 0 a 4 true s
  else if a < 0x1000000 then localWrite a v s
  else if isLead s then tunnelWrite (a / 0x1000000 - 1) (a % 0x1000000) v s
  else s

/-- A host read of 4 bytes at a BAR0 offset. -/
def hostRead (a : Nat) (s : State) : State :=
  if s.host.d3hot then s
  else if a % 4 ≠ 0 then accessInvalid 0 a 4 false s
  else if a < 0x1000000 then answer (localRead a s)
  else if isLead s then tunnelRead (a / 0x1000000 - 1) (a % 0x1000000) s
  else s

/-- TUNNEL_WINDOW_WRITE (R496). -/
def execTunnelWindowWrite (dt : Nat) (window : Fin 3) (offset : BitVec 24) (data : Word) (s : State) : Result :=
  actPowered dt (hostWrite (0x1000000 * (window.val + 1) + offset.toNat) data) s

/-- TUNNEL_WINDOW_READ (R496). -/
def execTunnelWindowRead (dt : Nat) (window : Fin 3) (offset : BitVec 24) (s : State) : Result :=
  actPowered dt (hostRead (0x1000000 * (window.val + 1) + offset.toNat)) s

/-! ## Frames of the tunnel (R496 to R499) -/

/-- A tunnel frame passes this module, or is for it. -/
def tunnelFrame (f : TunnelFrame) (op : Nat) (here : State → State) (s : State) : State :=
  if machineSize s ≤ f.dst.toNat then frameInvalid f.port 2 2 s
  else if f.window = 3 ∨ (op = 4 ∧ f.offset ≠ 0) ∨ (op = 3 ∧ f.data ≠ 0) ∨ f.offset.toNat % 4 ≠ 0 then frameInvalid f.port 2 1 s
  else if f.dst.toNat = moduleId s then here s
  else forward f.port f.dst.toNat f.vc (fun vc =>
    .control vc f.src.toNat f.dst.toNat op [f.offset.toNat, f.data.toNat, f.window.toNat, f.tag.toNat]) s

/-- TUNNEL_WR (R496): the target executes the access as a local one. -/
def execTunnelWr (dt : Nat) (frame : TunnelFrame) (s : State) : Result :=
  act dt (receive frame.port 0 (tunnelFrame frame 2 (localWrite frame.offset.toNat frame.data))) s

/-- The target's answer (R496). -/
def tunnelAnswers (f : TunnelFrame) (s : State) : State :=
  let x := localRead f.offset.toNat s
  sendTo f.src.toNat (fun vc => .control vc (moduleId s) f.src.toNat 4 [0, x.1.toNat, f.window.toNat, f.tag.toNat]) x.2

/-- TUNNEL_RD (R496). -/
def execTunnelRd (dt : Nat) (frame : TunnelFrame) (s : State) : Result :=
  act dt (receive frame.port 0 (tunnelFrame frame 3 (tunnelAnswers frame))) s

/-- A response completes its read; one that matches none is discarded (R498, R499). -/
def readCompletes (w tag : Nat) (v : Word) (s : State) : State :=
  match s.fabric.reads.find? (fun r => r.window == w && r.tag == tag) with
  | none => s
  | some r => emit (.hostData v) { s with fabric := { s.fabric with reads := s.fabric.reads.erase r } }

/-- TUNNEL_RSP (R499). -/
def execTunnelRsp (dt : Nat) (frame : TunnelFrame) (s : State) : Result :=
  act dt (receive frame.port 0
    (tunnelFrame frame 4 (readCompletes frame.window.toNat frame.tag.toNat frame.data))) s

/-- A read has had no response in time (R498, R519). -/
def tunnelLate (w tag : Nat) (s : State) : State :=
  match s.fabric.reads.find? (fun r => r.window == w && r.tag == tag) with
  | none => s
  | some r =>
    if tick s < r.sent + replyTimeout s then s
    else
      let s := emit (.hostData 0xFFFFFFFF) { s with fabric := { s.fabric with reads := s.fabric.reads.erase r } }
      msix 5 (raise 0xB Evt.SHAWM_TUNNEL_TIMEOUT (w + r.target * 2 ^ 2 + r.offset * 2 ^ 8)
        (bump Reg.TUNNEL_TIMEOUT_COUNT 1 s))

/-- SHAWM_TUNNEL_TIMEOUT (R498). -/
def execShawmTunnelTimeout (dt : Nat) (window : Fin 3) (tag : BitVec 8) (s : State) : Result :=
  act dt (tunnelLate window tag.toNat) s

/-! ## Accesses of the register pages -/

/-- FE_REARM (R594): the write of BLK_CONTROL that rearms a page and leaves SNAPSHOT as it is. -/
def execFeRearm (dt : Nat) (page : BitVec 10) (s : State) : Result :=
  actPowered dt (fun s => hostWrite (ra page.toNat 0x00C) (word (1 + 2 * regFld s (ra page.toNat 0x00C) 1 1)) s) s

/-- SNAPSHOT (R595). -/
def execSnapshot (dt : Nat) (page : BitVec 10) (on : Bool) (s : State) : Result :=
  actPowered dt (hostWrite (ra page.toNat 0x00C) (word (2 * one on))) s

/-- REG64_LOW_READ (R14): a read of a word; the low word of a 64-bit register holds its high word. -/
def execReg64LowRead (dt : Nat) (addr : BitVec 26) (s : State) : Result := actPowered dt (hostRead addr.toNat) s

/-- UNMAPPED_ACCESS (R586): due for an aligned access to a page that the page map does not list. [DEDUCED: log 16] -/
def execUnmappedAccess (dt : Nat) (addr : BitVec 26) (write : Bool) (s : State) : Result :=
  actPowered dt (fun s =>
    if addr.toNat % 4 = 0 ∧ addr.toNat < 0x400000 ∧ pageBlk (addr.toNat / 0x1000) = none then
      (if write then hostWrite addr.toNat 0 s else hostRead addr.toNat s)
    else s) s

/-- REGISTER_WRITE (R588). -/
def execRegisterWrite (dt : Nat) (addr : BitVec 26) (value : Word) (s : State) : Result :=
  actPowered dt (hostWrite addr.toNat value) s

end Sys2Proof.Machine
end

