-- ==== Sys2Proof/Machine/Dispatch.lean ====
section
/-! DEFINITION. The dispatcher: one arm for each command, each arm one call of the command's meaning. -/

namespace Sys2Proof.Machine

def exec (i : Instr) (s : State) : Host.Outcome State Fault Refusal :=
  match i with
  | .powerUp dt obs => Sys2Proof.Machine.execPowerUp dt obs s
  | .enterReady dt => Sys2Proof.Machine.execEnterReady dt s
  | .pwrEnDeassert dt => Sys2Proof.Machine.execPwrEnDeassert dt s
  | .inputVoltageLockout dt mv => Sys2Proof.Machine.execInputVoltageLockout dt mv s
  | .railOutOfRange dt die rail => Sys2Proof.Machine.execRailOutOfRange dt die rail s
  | .clockFault dt kind => Sys2Proof.Machine.execClockFault dt kind s
  | .bundleComparePoint dt obs => Sys2Proof.Machine.execBundleComparePoint dt obs s
  | .xferIssue dt die => Sys2Proof.Machine.execXferIssue dt die s
  | .windowOpen dt die entryBad => Sys2Proof.Machine.execWindowOpen dt die entryBad s
  | .windowClose dt die => Sys2Proof.Machine.execWindowClose dt die s
  | .ringPublish dt die => Sys2Proof.Machine.execRingPublish dt die s
  | .ringRelease dt die => Sys2Proof.Machine.execRingRelease dt die s
  | .endProgram dt => Sys2Proof.Machine.execEndProgram dt s
  | .arrayGroupFwd dt die => Sys2Proof.Machine.execArrayGroupFwd dt die s
  | .arrayGroupTrn dt die => Sys2Proof.Machine.execArrayGroupTrn dt die s
  | .matmul dt die obs => Sys2Proof.Machine.execMatmul dt die obs s
  | .clear dt die => Sys2Proof.Machine.execClear dt die s
  | .preload dt die obs => Sys2Proof.Machine.execPreload dt die obs s
  | .add dt die obs => Sys2Proof.Machine.execAdd dt die obs s
  | .read dt die obs => Sys2Proof.Machine.execRead dt die obs s
  | .readClear dt die obs => Sys2Proof.Machine.execReadClear dt die obs s
  | .save dt die obs => Sys2Proof.Machine.execSave dt die obs s
  | .restore dt die obs => Sys2Proof.Machine.execRestore dt die obs s
  | .extInit dt die => Sys2Proof.Machine.execExtInit dt die s
  | .extChunk dt die obs => Sys2Proof.Machine.execExtChunk dt die obs s
  | .vector dt die obs => Sys2Proof.Machine.execVector dt die obs s
  | .quant dt die obs => Sys2Proof.Machine.execQuant dt die obs s
  | .segq dt die obs => Sys2Proof.Machine.execSegq dt die obs s
  | .shadowCheck dt die obs sramBad => Sys2Proof.Machine.execShadowCheck dt die obs sramBad s
  | .flagClear dt die => Sys2Proof.Machine.execFlagClear dt die s
  | .mark dt die => Sys2Proof.Machine.execMark dt die s
  | .seqWaitTimeout dt => Sys2Proof.Machine.execSeqWaitTimeout dt s
  | .issueHalt dt => Sys2Proof.Machine.execIssueHalt dt s
  | .stepCommit dt => Sys2Proof.Machine.execStepCommit dt s
  | .commitDone dt msg => Sys2Proof.Machine.execCommitDone dt msg s
  | .serveCommitTimeout dt => Sys2Proof.Machine.execServeCommitTimeout dt s
  | .go dt msg => Sys2Proof.Machine.execGo dt msg s
  | .arrayPassStart dt die obs => Sys2Proof.Machine.execArrayPassStart dt die obs s
  | .piccoloDeliver dt die obs => Sys2Proof.Machine.execPiccoloDeliver dt die obs s
  | .xferThreadStart dt die thread obs => Sys2Proof.Machine.execXferThreadStart dt die thread obs s
  | .xferComplete dt die thread => Sys2Proof.Machine.execXferComplete dt die thread s
  | .breathBoundary dt stackTemps => Sys2Proof.Machine.execBreathBoundary dt stackTemps s
  | .hkcScanStart dt => Sys2Proof.Machine.execHkcScanStart dt s
  | .hkcScanEnd dt scans => Sys2Proof.Machine.execHkcScanEnd dt scans s
  | .atlasSampleMissing dt die => Sys2Proof.Machine.execAtlasSampleMissing dt die s
  | .droneCorrection dt => Sys2Proof.Machine.execDroneCorrection dt s
  | .sync dt frame => Sys2Proof.Machine.execSync dt frame s
  | .droneHoldover dt => Sys2Proof.Machine.execDroneHoldover dt s
  | .thermtripAssert dt => Sys2Proof.Machine.execThermtripAssert dt s
  | .programComplete dt die channel obs => Sys2Proof.Machine.execProgramComplete dt die channel obs s
  | .progTimeout dt die channel => Sys2Proof.Machine.execProgTimeout dt die channel s
  | .bgPassRerun dt die channel => Sys2Proof.Machine.execBgPassRerun dt die channel s
  | .auditComplete dt die phys obs => Sys2Proof.Machine.execAuditComplete dt die phys obs s
  | .installComplete dt die => Sys2Proof.Machine.execInstallComplete dt die s
  | .pendingSwapExpire dt die logical => Sys2Proof.Machine.execPendingSwapExpire dt die logical s
  | .trackerStale dt die phys => Sys2Proof.Machine.execTrackerStale dt die phys s
  | .pageCrcCompute dt entry => Sys2Proof.Machine.execPageCrcCompute dt entry s
  | .prefixAgeTick dt => Sys2Proof.Machine.execPrefixAgeTick dt s
  | .spadScrub dt die word corrected uncorrectable => Sys2Proof.Machine.execSpadScrub dt die word corrected uncorrectable s
  | .lifeRecordWrite dt nvm => Sys2Proof.Machine.execLifeRecordWrite dt nvm s
  | .evtlogRecordWrite dt => Sys2Proof.Machine.execEvtlogRecordWrite dt s
  | .tensorFrame dt frame => Sys2Proof.Machine.execTensorFrame dt frame s
  | .windowWriteLanded dt window src die thread => Sys2Proof.Machine.execWindowWriteLanded dt window src die thread s
  | .broadcastFrame dt port src packets => Sys2Proof.Machine.execBroadcastFrame dt port src packets s
  | .bcastRecord dt record => Sys2Proof.Machine.execBcastRecord dt record s
  | .xferReply dt port die thread status => Sys2Proof.Machine.execXferReply dt port die thread status s
  | .tunnelWr dt frame => Sys2Proof.Machine.execTunnelWr dt frame s
  | .tunnelRd dt frame => Sys2Proof.Machine.execTunnelRd dt frame s
  | .tunnelRsp dt frame => Sys2Proof.Machine.execTunnelRsp dt frame s
  | .faultNotice dt notice => Sys2Proof.Machine.execFaultNotice dt notice s
  | .eventNotice dt src code severity => Sys2Proof.Machine.execEventNotice dt src code severity s
  | .hello dt port msg => Sys2Proof.Machine.execHello dt port msg s
  | .ack dt port seq => Sys2Proof.Machine.execAck dt port seq s
  | .nak dt port seq => Sys2Proof.Machine.execNak dt port seq s
  | .frameCrcError dt port crcBad seq => Sys2Proof.Machine.execFrameCrcError dt port crcBad seq s
  | .shawmAckTimer dt port => Sys2Proof.Machine.execShawmAckTimer dt port s
  | .shawmReplayTimeout dt port => Sys2Proof.Machine.execShawmReplayTimeout dt port s
  | .shawmLinkDown dt port cause dir lane => Sys2Proof.Machine.execShawmLinkDown dt port cause dir lane s
  | .shawmReplyTimeout dt die thread => Sys2Proof.Machine.execShawmReplyTimeout dt die thread s
  | .shawmTunnelTimeout dt window tag => Sys2Proof.Machine.execShawmTunnelTimeout dt window tag s
  | .d2dFlitReplay dt link => Sys2Proof.Machine.execD2dFlitReplay dt link s
  | .d2dLinkDown dt link seq => Sys2Proof.Machine.execD2dLinkDown dt link seq s
  | .hawkCoreFault dt core cause => Sys2Proof.Machine.execHawkCoreFault dt core cause s
  | .serveTableParity dt table index => Sys2Proof.Machine.execServeTableParity dt table index s
  | .pcieReset dt kind => Sys2Proof.Machine.execPcieReset dt kind s
  | .pcieLinkDown dt => Sys2Proof.Machine.execPcieLinkDown dt s
  | .pcieLinkUp dt speed width flit => Sys2Proof.Machine.execPcieLinkUp dt speed width flit s
  | .bar2AccessInvalid dt bar offset bytes write => Sys2Proof.Machine.execBar2AccessInvalid dt bar offset bytes write s
  | .ethFrameReceive dt port bytes frame => Sys2Proof.Machine.execEthFrameReceive dt port bytes frame s
  | .ethLinkDown dt port => Sys2Proof.Machine.execEthLinkDown dt port s
  | .ethPauseStorm dt port prio => Sys2Proof.Machine.execEthPauseStorm dt port prio s
  | .roceSendReceive dt qp payload => Sys2Proof.Machine.execRoceSendReceive dt qp payload s
  | .rdmaWriteReceive dt qp rkey addr data => Sys2Proof.Machine.execRdmaWriteReceive dt qp rkey addr data s
  | .rdmaReadReceive dt qp rkey addr length => Sys2Proof.Machine.execRdmaReadReceive dt qp rkey addr length s
  | .roceAckTimeout dt qp => Sys2Proof.Machine.execRoceAckTimeout dt qp s
  | .cnpReceive dt qp => Sys2Proof.Machine.execCnpReceive dt qp s
  | .roceRateIncrease dt qp => Sys2Proof.Machine.execRoceRateIncrease dt qp s
  | .d2dRepair dt value => Sys2Proof.Machine.execD2dRepair dt value s
  | .install dt die repair => Sys2Proof.Machine.execInstall dt die repair s
  | .replace dt die logical phys retireOld repair => Sys2Proof.Machine.execReplace dt die logical phys retireOld repair s
  | .apply dt die => Sys2Proof.Machine.execApply dt die s
  | .refreshCancel dt die => Sys2Proof.Machine.execRefreshCancel dt die s
  | .retire dt die phys => Sys2Proof.Machine.execRetire dt die phys s
  | .refreshOffHours dt die hours => Sys2Proof.Machine.execRefreshOffHours dt die hours s
  | .piccoloSnapSel dt die value => Sys2Proof.Machine.execPiccoloSnapSel dt die value s
  | .widenEnable dt id thresh => Sys2Proof.Machine.execWidenEnable dt id thresh s
  | .widenDisable dt id => Sys2Proof.Machine.execWidenDisable dt id s
  | .widenReset dt id => Sys2Proof.Machine.execWidenReset dt id s
  | .widenResetAll dt => Sys2Proof.Machine.execWidenResetAll dt s
  | .run dt on => Sys2Proof.Machine.execRun dt on s
  | .haltClear dt => Sys2Proof.Machine.execHaltClear dt s
  | .spadRepair dt die => Sys2Proof.Machine.execSpadRepair dt die s
  | .hbmRetire dt stack row => Sys2Proof.Machine.execHbmRetire dt stack row s
  | .adapterLoad dt index => Sys2Proof.Machine.execAdapterLoad dt index s
  | .adapterUnload dt index => Sys2Proof.Machine.execAdapterUnload dt index s
  | .hawkSubTail dt writes tail => Sys2Proof.Machine.execHawkSubTail dt writes tail s
  | .hawkSpare dt core => Sys2Proof.Machine.execHawkSpare dt core s
  | .breathTicks dt ticks => Sys2Proof.Machine.execBreathTicks dt ticks s
  | .hkcCal dt die => Sys2Proof.Machine.execHkcCal dt die s
  | .hkcCalEnd dt die means => Sys2Proof.Machine.execHkcCalEnd dt die means s
  | .hkcConvert dt die ch => Sys2Proof.Machine.execHkcConvert dt die ch s
  | .hkcConvertEnd dt die raw => Sys2Proof.Machine.execHkcConvertEnd dt die raw s
  | .colcalGo dt die all => Sys2Proof.Machine.execColcalGo dt die all s
  | .colcalEnd dt die found => Sys2Proof.Machine.execColcalEnd dt die found s
  | .baselineCheckEnd dt die obs => Sys2Proof.Machine.execBaselineCheckEnd dt die obs s
  | .thermSeed dt readings => Sys2Proof.Machine.execThermSeed dt readings s
  | .thermDiodeRead dt mask => Sys2Proof.Machine.execThermDiodeRead dt mask s
  | .diodeReadEnd dt die reading => Sys2Proof.Machine.execDiodeReadEnd dt die reading s
  | .shawmMachineWrite dt value => Sys2Proof.Machine.execShawmMachineWrite dt value s
  | .shawmRetrain dt port tx rx => Sys2Proof.Machine.execShawmRetrain dt port tx rx s
  | .resync dt => Sys2Proof.Machine.execResync dt s
  | .pcieRemotePendingClear dt high value => Sys2Proof.Machine.execPcieRemotePendingClear dt high value s
  | .tunnelWindowWrite dt window offset data => Sys2Proof.Machine.execTunnelWindowWrite dt window offset data s
  | .tunnelWindowRead dt window offset => Sys2Proof.Machine.execTunnelWindowRead dt window offset s
  | .roceCtxRead dt => Sys2Proof.Machine.execRoceCtxRead dt s
  | .roceCtxWrite dt => Sys2Proof.Machine.execRoceCtxWrite dt s
  | .roceCtxModify dt state => Sys2Proof.Machine.execRoceCtxModify dt state s
  | .attest dt => Sys2Proof.Machine.execAttest dt s
  | .attestDone dt => Sys2Proof.Machine.execAttestDone dt s
  | .devEnter dt arg => Sys2Proof.Machine.execDevEnter dt arg s
  | .evtlogSel dt index => Sys2Proof.Machine.execEvtlogSel dt index s
  | .evtlogRead dt index => Sys2Proof.Machine.execEvtlogRead dt index s
  | .ackShutdown dt arg obs => Sys2Proof.Machine.execAckShutdown dt arg obs s
  | .retry dt obs => Sys2Proof.Machine.execRetry dt obs s
  | .prepareOff dt => Sys2Proof.Machine.execPrepareOff dt s
  | .bootReset dt arg obs => Sys2Proof.Machine.execBootReset dt arg obs s
  | .nvrecFwWrite dt units => Sys2Proof.Machine.execNvrecFwWrite dt units s
  | .nvrecFwSelect dt copy => Sys2Proof.Machine.execNvrecFwSelect dt copy s
  | .fwUpdateDone dt => Sys2Proof.Machine.execFwUpdateDone dt s
  | .nvrecHostTime dt high value => Sys2Proof.Machine.execNvrecHostTime dt high value s
  | .feRearm dt page => Sys2Proof.Machine.execFeRearm dt page s
  | .snapshot dt page on => Sys2Proof.Machine.execSnapshot dt page on s
  | .reg64LowRead dt addr => Sys2Proof.Machine.execReg64LowRead dt addr s
  | .unmappedAccess dt addr write => Sys2Proof.Machine.execUnmappedAccess dt addr write s
  | .registerWrite dt addr value => Sys2Proof.Machine.execRegisterWrite dt addr value s
  | .shawmFrameInvalid dt frame => Sys2Proof.Machine.execShawmFrameInvalid dt frame s
  | .d2dTrainingEnd dt link failed => Sys2Proof.Machine.execD2dTrainingEnd dt link failed s
  | .spadSelfTestEnd dt die failed => Sys2Proof.Machine.execSpadSelfTestEnd dt die failed s
  | .hbmRowRetired dt stack corrected badBursts => Sys2Proof.Machine.execHbmRowRetired dt stack corrected badBursts s
  | .shawmTrainingEnd dt port obs => Sys2Proof.Machine.execShawmTrainingEnd dt port obs s
  | .trainJobEnd dt => Sys2Proof.Machine.execTrainJobEnd dt s
  | .evtlogFetchDone dt => Sys2Proof.Machine.execEvtlogFetchDone dt s
  | .ethLinkUp dt port => Sys2Proof.Machine.execEthLinkUp dt port s
  | .roceRnrTimeout dt qp => Sys2Proof.Machine.execRoceRnrTimeout dt qp s
  | .pcieConfigWrite dt busMaster d3hot => Sys2Proof.Machine.execPcieConfigWrite dt busMaster d3hot s
  | .aerError dt uncorrectable status => Sys2Proof.Machine.execAerError dt uncorrectable status s
  | .pcieDataPoison dt offset => Sys2Proof.Machine.execPcieDataPoison dt offset s

end Sys2Proof.Machine
end

