-- ==== Sys2Proof/WellFormed.lean ====
section
/-! DEFINITION. Well-formed commands: the shapes of operand lists that the spec fixes.  Every other bound of an
operand is in its type. -/

namespace Sys2Proof

/-- What start-up tests: nine steps, twenty converters and diodes, four ports (R563). -/
def StartupObs.wellFormed (o : StartupObs) : Bool :=
  o.stepCycles.length == 9 && o.hkc.length == 20 && o.diode.length == 20 && o.ports.length == 4

/-- At most eight packets of 72 bytes, or of none where poisoned (R484). -/
def WriteFrame.wellFormed (f : WriteFrame) : Bool :=
  decide (f.data.length ≤ 8) && f.data.all (fun p => p.isEmpty || p.length == 72)

/-- A body of LENGTH packets of 72 bytes and a digest of 32 bytes (R502). -/
def BcastRecord.wellFormed (r : BcastRecord) : Bool :=
  r.body.length == 72 * r.length.toNat && r.digest.length == 32

/-- A command that can be sent. [DESIGN CHOICE: log 2] -/
def wellFormed : Instr → Bool
  | .powerUp _ o => o.wellFormed
  | .ackShutdown _ _ o => o.wellFormed
  | .retry _ o => o.wellFormed
  | .bootReset _ _ o => o.wellFormed
  | .tensorFrame _ f => f.wellFormed
  | .broadcastFrame _ _ _ ps => decide (ps.length ≤ 8)
  | .bcastRecord _ r => r.wellFormed
  | .hkcScanEnd _ scans => scans.all (fun o => o.raw.length == 12)
  | .thermSeed _ rs => rs.length == 20
  | .enterReady .. | .pwrEnDeassert .. | .inputVoltageLockout .. | .railOutOfRange .. | .clockFault ..
  | .bundleComparePoint .. | .xferIssue .. | .windowOpen .. | .windowClose .. | .ringPublish ..
  | .ringRelease .. | .endProgram .. | .arrayGroupFwd .. | .arrayGroupTrn .. | .matmul .. | .clear ..
  | .preload .. | .add .. | .read .. | .readClear .. | .save .. | .restore .. | .extInit .. | .extChunk ..
  | .vector .. | .quant .. | .segq .. | .shadowCheck .. | .flagClear .. | .mark .. | .seqWaitTimeout ..
  | .issueHalt .. | .stepCommit .. | .commitDone .. | .serveCommitTimeout .. | .go .. | .arrayPassStart ..
  | .piccoloDeliver .. | .xferThreadStart .. | .xferComplete .. | .breathBoundary .. | .hkcScanStart ..
  | .atlasSampleMissing .. | .droneCorrection .. | .sync .. | .droneHoldover .. | .thermtripAssert ..
  | .programComplete .. | .progTimeout .. | .bgPassRerun .. | .auditComplete .. | .installComplete ..
  | .pendingSwapExpire .. | .trackerStale .. | .pageCrcCompute .. | .prefixAgeTick .. | .spadScrub ..
  | .lifeRecordWrite .. | .evtlogRecordWrite .. | .windowWriteLanded .. | .xferReply .. | .tunnelWr ..
  | .tunnelRd .. | .tunnelRsp .. | .faultNotice .. | .eventNotice .. | .hello .. | .ack .. | .nak ..
  | .frameCrcError .. | .shawmAckTimer .. | .shawmReplayTimeout .. | .shawmLinkDown .. | .shawmReplyTimeout ..
  | .shawmTunnelTimeout .. | .d2dFlitReplay .. | .d2dLinkDown .. | .hawkCoreFault .. | .serveTableParity ..
  | .pcieReset .. | .pcieLinkDown .. | .pcieLinkUp .. | .bar2AccessInvalid .. | .ethFrameReceive ..
  | .ethLinkDown .. | .ethPauseStorm .. | .roceSendReceive .. | .rdmaWriteReceive .. | .rdmaReadReceive ..
  | .roceAckTimeout .. | .cnpReceive .. | .roceRateIncrease .. | .d2dRepair .. | .install .. | .replace ..
  | .apply .. | .refreshCancel .. | .retire .. | .refreshOffHours .. | .piccoloSnapSel .. | .widenEnable ..
  | .widenDisable .. | .widenReset .. | .widenResetAll .. | .run .. | .haltClear .. | .spadRepair ..
  | .hbmRetire .. | .adapterLoad .. | .adapterUnload .. | .hawkSubTail .. | .hawkSpare .. | .breathTicks ..
  | .hkcCal .. | .hkcCalEnd .. | .hkcConvert .. | .hkcConvertEnd .. | .colcalGo .. | .colcalEnd ..
  | .baselineCheckEnd .. | .thermDiodeRead .. | .diodeReadEnd .. | .shawmMachineWrite .. | .shawmRetrain ..
  | .resync .. | .pcieRemotePendingClear .. | .tunnelWindowWrite .. | .tunnelWindowRead .. | .roceCtxRead ..
  | .roceCtxWrite .. | .roceCtxModify .. | .attest .. | .attestDone .. | .devEnter .. | .evtlogSel ..
  | .evtlogRead .. | .prepareOff .. | .nvrecFwWrite .. | .nvrecFwSelect .. | .fwUpdateDone ..
  | .nvrecHostTime .. | .feRearm .. | .snapshot .. | .reg64LowRead .. | .unmappedAccess .. | .registerWrite ..
  | .shawmFrameInvalid .. | .d2dTrainingEnd .. | .spadSelfTestEnd .. | .hbmRowRetired .. | .shawmTrainingEnd ..
  | .trainJobEnd .. | .evtlogFetchDone .. | .ethLinkUp .. | .roceRnrTimeout .. | .pcieConfigWrite ..
  | .aerError .. | .pcieDataPoison .. => true

end Sys2Proof
end

