-- ==== Sys2Proof/Safety.lean ====
section
/-! DEFINITION. What claims call safe and what they call left alone: the canonical form of the memories, a queue of
well-formed commands, the conditions under which commands act, and frames. -/

namespace Sys2Proof.Machine

open Sys2Proof.Map

/-- The memories of the module are in canonical form: scratchpad, HBM and its poison markers, and the
host-interface memory behind BAR2 (R275, R294, R299, R517). -/
def Memory.wf (s : State) : Bool :=
  Map.wf ({} : SWord) s.mem.spad && Map.wf 0 s.mem.hbm && Map.wf false s.mem.hbmPoison && Map.wf 0 s.host.bar2

/-- Every command that waits is well formed. -/
def queueOk (s : State) : Bool := s.pending.all wellFormed

/-- The module runs, with its root clock (R34). -/
def Clocked (s : State) : Prop := s.clk.powered = true ∧ s.clk.rootLost = false

/-- Where a start-up comes to rest: READY_LOCAL, HELD, FAILED, or at step 8 while baseline passes wait for the CALIB
gate (R98, R563, R565, R566). -/
def StartUpRests (t : State) : Prop :=
  t.boot.state = .readyLocal ∨ t.boot.state = .held ∨ t.boot.state = .failed ∨
    (t.boot.state = .starting ∧ t.boot.step = 8)

/-- A command of the host to a page acts (R34, R475, R565, R566). -/
def HostMay (page : Nat) (s : State) : Prop := s.clk.powered = true ∧ hostActs s page = true

/-- Every byte and word of memory reads as before: scratchpad, HBM and its poison markers, and the memory behind
BAR2. -/
def SameMemory (s t : State) : Prop :=
  (∀ d w, spadWord t d w = spadWord s d w) ∧ (∀ a, hbmByte t a = hbmByte s a) ∧
    (∀ b, burstPoison t b = burstPoison s b) ∧ (∀ o, mget 0 t.host.bar2 o = mget 0 s.host.bar2 o)

/-- The registers that signalling an event of a page may change: the page's event header (EVT_CODE, EVT_PENDING,
EVT_COUNT, FIRST_ERR_INFO), the log's counts by severity and last FATAL record, the MSI-X pending bits of vectors
0–31, and the bytes sent on the Shawm ports (R520, R553 to R558, R594). -/
def signalReg (page a : Nat) : Bool :=
  [0x010, 0x018, 0x01C, 0x024, 0x028, 0x02C].any (fun o => a == ra page o) ||
  (List.range 8).any (fun k => a == Reg.EVTLOG_LAST_FATAL k) ||
  (List.range 5).any (fun v => a == Reg.EVTLOG_SEV_COUNT v) || a == 0xAC00 ||
  (List.range 4).any (fun p => a == ra (pgShawm p) 0x11C || a == ra (pgShawm p) 0x11C + 4)

/-- The registers that raising an event may change: those, and the count of lost records. -/
def eventReg (page a : Nat) : Bool := signalReg page a || a == Reg.EVTLOG_LOST_COUNT

/-- Every register reads as before, but for those that raising events of a page changes and those listed. -/
def SameRegsBut (page : Nat) (written : List Nat) (s t : State) : Prop :=
  ∀ a, eventReg page a = false → a ∉ written → reg t a = reg s a

/-- An event of a page was raised last: its record is the newest in the writer's queue, or the full queue lost it
and EVTLOG_LOST_COUNT counts it (R553, R556). -/
def Logged (page code detail : Nat) (s t : State) : Prop :=
  if s.log.queue.length < 1024 then
    ∃ e, t.log.queue = s.log.queue ++ [e] ∧ e.block = page ∧ e.code = code ∧ e.sev = Evt.sevOf code ∧
      e.detail = detail % 2 ^ 64
  else t.log.queue = s.log.queue ∧ reg t Reg.EVTLOG_LOST_COUNT = satAdd (reg s Reg.EVTLOG_LOST_COUNT) 1

/-- The issued bundle carries operation `op` in a die's sub-slot, valid and not executed yet (R242 to R247). -/
def Carries (i : Issued) (die sub op : Nat) (s : State) : Prop :=
  s.seq.issued = some i ∧ opOf die sub (dieSlot i.bundle die sub) = op ∧ i.done.contains (die * 4 + sub) = false ∧
    subRuns i die sub = true

/-- What a sub-slot's operation knows of its bundle. -/
def ctxOf (i : Issued) (die sub : Nat) : SubCtx :=
  { die := die, sub := sub, v := dieSlot i.bundle die sub, rep := i.rep, cls := bClass i.bundle, cycle := i.cycle }

/-- The issued bundle with a sub-slot marked as executed. -/
def doneSub (i : Issued) (die sub : Nat) : Issued := { i with done := i.done ++ [die * 4 + sub] }

/-- The issued bundle carries a tensor operation whose descriptor is `d`, one that its widening tensor selects (R198,
R249, R618). -/
def CarriesTensor (i : Issued) (die op : Nat) (d : TDesc) (s : State) : Prop :=
  Carries i die 1 op s ∧ tensorDesc s die op (tDesc (dieSlot i.bundle die 1)) = .inr d ∧ unselected s op d = false

/-- Operation `op` of a bundle has been issued to a die's tensor engine: its effect, with the die, the operation, the
destination, KSEQ and blocks of its descriptor, is seen `latency` issue cycles later (R240, R249, R262); no
accumulator and no byte of memory has changed yet. -/
def TensorIssued (i : Issued) (die op latency : Nat) (d : TDesc) (s t : State) : Prop :=
  (∃ e : TensorOp, t.seq.effects = s.seq.effects ++ [(i.cycle + latency, .tensor e)] ∧ e.die = die ∧ e.op = op ∧
    e.cycle = i.cycle ∧ e.cls = bClass i.bundle ∧ e.blocks = d.blocks ∧ e.dst = tD d (ctxOf i die 1) ∧
    e.kseq = tK d (ctxOf i die 1) ∧ e.fmtA = d.fmtA ∧ e.fmtB = d.fmtB ∧ e.func = d.func) ∧
  t.seq.issued = some (doneSub i die 1) ∧ t.tensor.accs = s.tensor.accs ∧ SameMemory s t

/-- The words that a bundle's operation writes have been scheduled: to the destination its descriptor gives, with the
flags for a flag word, seen 12 issue cycles later (R224, R227); memory has not changed yet. -/
def WriteScheduled (i : Issued) (die : Nat) (d : TDesc) (flagAddr : Option Nat) (ws : List (Option DWord)) (fl : Nat)
    (s t : State) : Prop :=
  (∃ w : WriteOp, t.seq.effects = s.seq.effects ++ [(i.cycle + 12, .write w)] ∧ w.die = die ∧
    w.addr = tD d (ctxOf i die 1) ∧ w.flagAddr = flagAddr ∧ w.words = ws ∧ w.flags = fl) ∧
  t.seq.issued = some (doneSub i die 1) ∧ SameMemory s t

end Sys2Proof.Machine
end

