-- ==== Sys2Proof/Certificates/Slice0/Obligations.lean ====
section
/-! DEFINITION. The statements for the provers. -/

open Sys2Proof Sys2Proof.Machine Sys2Proof.Map

/-- What die-to-die link commands do (R24, R25, R26, R27, R28, R29). The model's choices in it: log entries 3 and
28. -/
def Obligations.DieLinkCommands : Prop :=
  (∀ (dt : Nat) (link : Fin 20) (s : State), Clocked s →
    ∃ t, exec (.d2dFlitReplay dt link) s = .next t ∧
      reg t (0x260 + 4 * link.val) = satAdd (reg s (0x260 + 4 * link.val)) 1 ∧
      mget 0 t.log.breathCount (Evt.D2D_REPLAY * 2 ^ 32 + link.val) =
        mget 0 s.log.breathCount (Evt.D2D_REPLAY * 2 ^ 32 + link.val) + 1 ∧
      (∀ a, a ≠ 0x260 + 4 * link.val → reg t a = reg s a) ∧ SameMemory s t) ∧
  (∀ (dt : Nat) (link : Fin 20) (seq : BitVec 24) (s : State), Clocked s →
    flag (reg s (linkReg link)) 0 = true →
    ∃ t, exec (.d2dLinkDown dt link seq) s = .next t ∧
      reg t (linkReg link) = putFlag (reg s (linkReg link)) 0 false ∧
      Logged 0 Evt.D2D_LINK_DOWN (link.val + seq.toNat * 2 ^ 8) s t ∧
      (s.seq.fatal = none → t.seq.fatal = some Evt.D2D_LINK_DOWN) ∧
      SameRegsBut 0 [linkReg link] s t ∧ SameMemory s t) ∧
  (∀ (dt : Nat) (link : Fin 20) (failed : List Lane) (s : State), Clocked s →
    flag (reg s (linkReg link)) 2 = true →
    ∃ t, exec (.d2dTrainingEnd dt link failed) s = .next t ∧
      (let bad := (failed.filter (·.link == link.val)).filter (fun x => !s.nvm.lanes.contains x)
        if bad = [] then fld (reg t (linkReg link)) 2 0 = 1 ∧ t.log = s.log
        else fld (reg t (linkReg link)) 2 0 = 2 ∧ Logged 0 Evt.D2D_LANE_FAIL (laneFailDetail bad link) s t) ∧
      fld (reg t (linkReg link)) 19 12 = (s.nvm.lanes.filter (·.link == link.val)).length % 2 ^ 8 ∧
      t.nvm = s.nvm ∧ SameRegsBut 0 [linkReg link] s t ∧ SameMemory s t) ∧
  (∀ (dt : Nat) (value : Word) (s : State), HostMay 0 s → fld value 4 0 < 20 → flag value 8 = true →
    s.seq.state = .stopped →
    let link := fld value 4 0
    let new := (s.boot.lanesFailed.filter (·.link == link)).filter (fun x => !s.nvm.lanes.contains x)
    lanesExhausted (s.nvm.lanes ++ new) link = false →
    ∃ t, exec (.d2dRepair dt value) s = .next t ∧ t.nvm.lanes = s.nvm.lanes ++ new ∧
      fld (reg t (linkReg link)) 2 0 = 4 ∧ (∀ a, a ≠ linkReg link → reg t a = reg s a) ∧ SameMemory s t)

/-- What power, rail and trip pins do (R475, R476, R601, R609, R610, R611). The model's choices in it: log entries
3, 23 and 24. -/
def Obligations.PowerPins : Prop :=
  (∀ (dt : Nat) (s : State), s.clk.powered = true → exec (.pwrEnDeassert dt) s = .next
    { State.reset with
      nvm := nvmAsStored s.nvm, clk := { offHold := true }, out := s.out ++ [.pwrgd false], freeIdx := s.freeIdx
      pending := s.pending }) ∧
  (∀ (dt mv : Nat) (s : State), s.clk.powered = true → (mv < 38000 ∨ 62000 < mv) →
    exec (.inputVoltageLockout dt mv) s = .next
    { State.reset with
      nvm := nvmAsStored s.nvm, clk := { lockout := true }, out := s.out ++ [.pwrgd false], freeIdx := s.freeIdx
      pending := s.pending }) ∧
  (∀ (dt mv : Nat) (s : State), s.clk.powered = true → 38000 ≤ mv → mv ≤ 62000 →
    exec (.inputVoltageLockout dt mv) s = .next (advance dt s)) ∧
  (∀ (dt : Nat) (die : Die) (rail : Fin 6) (s : State), s.clk.powered = true → s.clk.pwrGood = true →
    exec (.railOutOfRange dt die rail) s = .next { advance dt s with
      clk := { (advance dt s).clk with pwrGood := false }
      out := s.out ++ [.pwrgd false] }) ∧
  (∀ (dt : Nat) (s : State), s.clk.powered = true → s.therm.tripped = true → s.clk.thermtrip = false →
    ∃ t, exec (.thermtripAssert dt) s = .next t ∧ t.clk.thermtrip = true ∧ t.out = s.out ++ [.thermtrip] ∧
      (tick (advance dt s) ≤ s.therm.tripTick + 1600000 → t.nvm.shutdown = s.nvm.shutdown.map recordComplete) ∧
      (s.therm.tripTick + 1600000 < tick (advance dt s) → t.nvm = s.nvm) ∧
      t.regs = s.regs ∧ t.log = s.log ∧ SameMemory s t)

/-- What a clock fault and PREPARE_OFF do (R33, R34, R272, R476, R570). The model's choices in it: log entries 3, 22
and 26. -/
def Obligations.ClockFaultAndOff : Prop :=
  (∀ (dt : Nat) (n : Byte) (s : State), Clocked s →
    ∃ t r, exec (.clockFault dt (.refLoss n)) s = .next t ∧ t.clk.rootLost = true ∧ t.clk.powered = true ∧
      fld (reg t Reg.CLK_STATUS) 1 0 = 0 ∧ Logged 0 Evt.CLK_REF_LOSS n.toNat s t ∧
      (s.seq.fatal = none → t.seq.fatal = some Evt.CLK_REF_LOSS) ∧
      t.nvm.shutdown = some r ∧ byteAt r 14 = 3 ∧ byteAt r 15 = 0xFF ∧ byteAt r 63 = 0xA5 ∧
      t.modLife.clockLosses = s.modLife.clockLosses + 1 ∧ SameRegsBut 0 [Reg.CLK_STATUS] s t ∧ SameMemory s t) ∧
  (∀ (dt : Nat) (die : Die) (s : State), Clocked s →
    ∃ t r, exec (.clockFault dt (.pllUnlock die)) s = .next t ∧ t.clk.rootLost = true ∧ t.clk.powered = true ∧
      flag (reg t Reg.CLK_STATUS) 1 = false ∧ Logged 0 Evt.CLK_PLL_UNLOCK die.val s t ∧
      (s.seq.fatal = none → t.seq.fatal = some Evt.CLK_PLL_UNLOCK) ∧
      t.nvm.shutdown = some r ∧ byteAt r 14 = 3 ∧ byteAt r 15 = 0xFF ∧ byteAt r 63 = 0xA5 ∧
      t.modLife.clockLosses = s.modLife.clockLosses + 1 ∧ SameRegsBut 0 [Reg.CLK_STATUS] s t ∧ SameMemory s t) ∧
  (∀ (dt : Nat) (die : Die) (n : Byte) (s : State), Clocked s →
    ∃ t, exec (.clockFault dt (.alignFail die n)) s = .next t ∧ t.clk.rootLost = false ∧
      flag (reg t Reg.CLK_STATUS) 2 = false ∧ Logged 0 Evt.CLK_ALIGN_FAIL (die.val + n.toNat * 2 ^ 8) s t ∧
      (s.seq.fatal = none → t.seq.fatal = some Evt.CLK_ALIGN_FAIL) ∧
      t.nvm = s.nvm ∧ SameRegsBut 0 [Reg.CLK_STATUS] s t ∧ SameMemory s t) ∧
  (∀ (dt : Nat) (s : State), HostMay 0 s → s.seq.state ≠ .running →
    ∃ t, exec (.prepareOff dt) s = .next t ∧ t.boot.offSafe = true ∧ t.boot.state = s.boot.state ∧
      (∀ d < 20, mget {} t.nvm.life d = lifeNow t d) ∧
      t.nvm.modLife = { t.modLife with poweredS := modulePowered t } ∧ t.regs = s.regs ∧ SameMemory s t)

/-- What POWER_UP, ENTER_READY and the BOOT_CMD commands do (R563, R565, R566, R567, R568, R569, R601, R610). The
model's choices in it: log entries 3, 23 and 25. -/
def Obligations.StartUpCommands : Prop :=
  (∀ (dt : Nat) (obs : StartupObs) (s : State), startupFormed obs = true → s.clk.powered = false →
    (s.clk.offHold = false ∨ 1600000000 ≤ s.clk.now + dt) → 40000 ≤ obs.supplyMv → obs.supplyMv ≤ 62000 →
    ∃ t u, exec (.powerUp dt obs) s = .next t ∧ t = { bootFrom 1 obs u with pending := s.pending } ∧
      u.mem = {} ∧ u.seq.state = .stopped ∧ u.clk = { powered := true } ∧ u.nvm = nvmAsStored s.nvm ∧ StartUpRests t ∧
      (obs.fwOk = (false, false) → t.boot.state = .failed ∧ t.boot.step = 2 ∧ t.boot.fwNone = true ∧
        t.boot.failEvent = Evt.BOOT_STEP_FAIL)) ∧
  (∀ (dt : Nat) (s : State), Clocked s → readyHolds s = true →
    ∃ t, exec (.enterReady dt) s = .next t ∧ t.boot.state = .ready ∧
      (s.seq.state = .stopped → s.seq.run = true → s.seq.chosen = none → t.seq.state = .idle) ∧
      (s.seq.run = false → t.seq.state = s.seq.state ∧ Logged 0 Evt.BOOT_READY (msNow (advance dt s)) s t)) ∧
  (∀ (dt : Nat) (arg : BitVec 16) (obs : StartupObs) (s : State) (r : Bytes), startupFormed obs = true → HostMay 0 s →
    s.boot.state = .held → s.nvm.shutdown = some r → byteField r 0 1 = arg.toNat →
    ∃ t u, exec (.ackShutdown dt arg obs) s = .next t ∧
      t = { bootFrom 4 obs (raise 0 Evt.SHUTDOWN_ACK (byteField r 0 3) u) with pending := s.pending } ∧
      u.nvm.shutdown = none ∧ u.boot.recordIncomplete = false ∧ u.nvm.shutCount = s.nvm.shutCount + 1 ∧
      u.nvm.shutHistory = (if s.nvm.shutHistory.length < 16 then s.nvm.shutHistory ++ [padTo 64 r]
        else s.nvm.shutHistory.set (s.nvm.shutCount % 16) (padTo 64 r)) ∧
      StartUpRests t) ∧
  (∀ (dt : Nat) (obs : StartupObs) (s : State), startupFormed obs = true → HostMay 0 s → s.boot.fwNone = false →
    s.boot.state = .failed →
    ∃ t u, exec (.retry dt obs) s = .next t ∧ t = { bootFrom s.boot.step obs u with pending := s.pending } ∧
      u = { advance dt s with seq := { s.seq with fatal := none } } ∧
      StartUpRests t) ∧
  (∀ (dt : Nat) (obs : StartupObs) (s : State), startupFormed obs = true → HostMay 0 s → s.clk.rootLost = false →
    ∃ t u, exec (.bootReset dt 0x5EC7 obs) s = .next t ∧ t = { bootFrom 1 obs u with pending := s.pending } ∧
      u.mem = {} ∧ u.seq.state = .stopped ∧ u.clk = { now := s.clk.now + dt, powered := true } ∧
      u.nvm.modLife.resets = s.modLife.resets + 1 ∧ u.nvm.map = s.nvm.map ∧ u.nvm.lanes = s.nvm.lanes ∧
      StartUpRests t) ∧
  (∀ (dt : Nat) (arg : BitVec 16) (obs : StartupObs) (s : State), startupFormed obs = true → HostMay 0 s →
    arg ≠ 0x5EC7 →
    ∃ t, exec (.bootReset dt arg obs) s = .next t ∧ t.boot = s.boot ∧ t.nvm = s.nvm ∧ SameMemory s t ∧
      SameRegsBut 0 [] s t ∧
      Logged 0 Evt.GLOBAL_CMD_INVALID (Reg.BOOT_CMD % 0x1000 + (0x40000000 ||| arg.setWidth 32 : Word).toNat * 2 ^ 12) s t)

/-- What a compare point, END and SEQ_WAIT_TIMEOUT do (R238, R263, R264, R265, R267, R270). The model's choices in
it: log entries 3, 46, 47 and 48. -/
def Obligations.IssueAndEnd : Prop :=
  (∀ (dt : Nat) (obs : IssueObs) (s : State) (h : Held) (len k : Nat), Clocked s → mayIssue (advance dt s) = true →
    pointNow (advance dt s) = some k →
    let v := reachPoint k (advance dt s)
    v.seq.fatal = none → atPoint v obs = some (some (h, len)) → (obs.decompBad = false ∨ v.seq.held.isSome = true) →
    let u := lateStart h k (bundleAt h len v)
    ((stallsAt u (reachCycle u.seq.cycle u) obs h).causes = [] →
      ∃ t i, exec (.bundleComparePoint dt obs) s = .next t ∧ t.seq.issued = some i ∧ i.bundle = h.bundle ∧
        i.rep = h.rep ∧ i.cycle = s.seq.cycle ∧ i.done = [] ∧ t.seq.cycle = s.seq.cycle + 1 ∧
        t.seq.arrival = some (s.clk.now + dt + 1) ∧ t.seq.points = 0 ∧
        t.seq.held.map (fun x => (x.bundle, x.rep)) =
          if h.rep < bRepeat h.bundle then some (h.bundle, h.rep + 1) else none) ∧
    ((stallsAt u (reachCycle u.seq.cycle u) obs h).causes ≠ [] →
      ∃ t, exec (.bundleComparePoint dt obs) s = .next t ∧ t.seq.issued = s.seq.issued ∧
        t.seq.cycle = s.seq.cycle ∧ t.seq.points = k + 1 ∧
        t.seq.held.map (fun x => (x.bundle, x.rep)) = some (h.bundle, h.rep) ∧
        t.seq.stall = (stallsAt u (reachCycle u.seq.cycle u) obs h).causes.foldl min 7)) ∧
  (∀ (dt : Nat) (obs : IssueObs) (s : State) (k : Nat), Clocked s → mayIssue (advance dt s) = true →
    pointNow (advance dt s) = some k → atPoint (reachPoint k (advance dt s)) obs = none →
    ∃ t, exec (.bundleComparePoint dt obs) s = .next t ∧ t.seq.issued = s.seq.issued ∧ t.seq.cycle = s.seq.cycle ∧
      t.seq.points = k + 1 ∧
      reg t Reg.SEQ_STALL_OTHER_COUNT = satAdd (reg (reachPoint k (advance dt s)) Reg.SEQ_STALL_OTHER_COUNT) 1) ∧
  (∀ (dt : Nat) (obs : IssueObs) (s : State), Clocked s →
    (mayIssue (advance dt s) = false ∨ pointNow (advance dt s) = none) →
    exec (.bundleComparePoint dt obs) s = .next (advance dt s)) ∧
  (∀ (dt : Nat) (s : State) (i : Issued), Clocked s → Carries i 16 0 6 s →
    exec (.endProgram dt) s = .next { advance dt s with
      seq := { s.seq with ending := true, issued := some (doneSub i 16 0) } }) ∧
  (∀ (dt : Nat) (s : State) (c x : Nat) (h : Held), Clocked s → s.seq.timeoutDue = some (c, x) → s.seq.held = some h →
    let u : State := { advance dt s with seq := { s.seq with timeoutDue := none } }
    (stillHeld u h c = true →
      ∃ t, exec (.seqWaitTimeout dt) s = .next t ∧ t.seq.timeoutDue = none ∧ t.seq.held = some h ∧
        Logged 1 Evt.SEQ_WAIT_TIMEOUT (timeoutDetail u h c x) s t ∧ SameRegsBut 1 [] s t ∧ SameMemory s t) ∧
    (stillHeld u h c = false → exec (.seqWaitTimeout dt) s = .next u))

/-- What RUN, HALT_CLEAR and ISSUE_HALT do (R261, R272, R273, R287, R312). The model's choices in it: log entries 3
and 48. -/
def Obligations.RunAndHalt : Prop :=
  (∀ (dt : Nat) (s : State), HostMay 1 s →
    ∃ t, exec (.run dt false) s = .next t ∧ t.seq = { s.seq with
        run := false, state := if s.seq.state = .idle then .stopped else s.seq.state
        stall := if s.seq.state = .idle then 0 else s.seq.stall } ∧
      flag (reg t Reg.SEQ_CONTROL) 0 = false ∧ SameMemory s t) ∧
  (∀ (dt : Nat) (s : State), HostMay 1 s → s.seq.state = .stopped → s.boot.state = .ready → s.seq.chosen = none →
    ∃ t, exec (.run dt true) s = .next t ∧
      t.seq = { s.seq with run := true, state := .idle, tags := rebase s.seq.tags } ∧
      flag (reg t Reg.SEQ_CONTROL) 0 = true ∧ SameMemory s t) ∧
  (∀ (dt : Nat) (s : State) (p : Nat) (d : Program), HostMay 1 s → s.seq.state = .stopped → s.boot.state = .ready →
    s.seq.chosen = some p → programOf s p = some d →
    ∃ t, exec (.run dt true) s = .next t ∧ t.seq.state = .running ∧ t.seq.program = p ∧ t.seq.next = d.offset ∧
      t.seq.cycle = 0 ∧ t.seq.chosen = none) ∧
  (∀ (dt : Nat) (s : State), HostMay 1 s → (s.seq.state ≠ .stopped ∨ s.boot.state ≠ .ready) →
    ∃ t, exec (.run dt true) s = .next t ∧ t.seq = { s.seq with run := true } ∧
      flag (reg t Reg.SEQ_CONTROL) 0 = true ∧ SameMemory s t) ∧
  (∀ (dt : Nat) (s : State), HostMay 1 s → s.seq.state = .halted →
    ∃ t, exec (.haltClear dt) s = .next t ∧ t.seq.state = .stopped ∧ t.seq.fatal = none ∧ t.seq.chosen = none ∧
      t.seq.effects = [] ∧ (s.serve.waiting = false → t.serve.go = none)) ∧
  (∀ (dt : Nat) (s : State), HostMay 1 s → s.seq.state ≠ .halted →
    ∃ t, exec (.haltClear dt) s = .next t ∧ t.seq = s.seq ∧ Logged 1 Evt.SEQ_CMD_INVALID 2 s t ∧ SameMemory s t ∧
      SameRegsBut 1 [] s t) ∧
  (∀ (dt : Nat) (s : State) (code : Nat), s.clk.powered = true → s.seq.fatal = some code → s.seq.state ≠ .halted →
    beforeReadyLocal s = false → (s.clk.rootLost || s.therm.tripped || (subsDone s && arraysIdle s)) = true →
    ∃ t, exec (.issueHalt dt) s = .next t ∧ t.seq.state = .halted ∧ t.seq.held = none ∧ t.seq.issued = none ∧
      t.seq.ending = false ∧ t.seq.commitReady = false ∧ t.seq.fatal = some code) ∧
  (∀ (dt : Nat) (s : State), s.clk.powered = true → s.seq.fatal = none →
    exec (.issueHalt dt) s = .next (advance dt s))

/-- MATMUL, PRELOAD, ADD, EXT_CHUNK and RESTORE issue (R198, R208, R214, R222, R229, R235, R249, R262). The model's
choices in it: log entries 3, 29, 42 and 44. -/
def Obligations.TensorOperandIssue : Prop :=
  (∀ (dt : Nat) (die : Luna) (obs : AccObs) (s : State) (i : Issued) (d : TDesc), Clocked s →
    CarriesTensor i die 1 d s → ∃ t, exec (.matmul dt die obs) s = .next t ∧ TensorIssued i die 1 17 d s t) ∧
  (∀ (dt : Nat) (die : Luna) (obs : AccObs) (s : State) (i : Issued) (d : TDesc), Clocked s →
    CarriesTensor i die 3 d s → ∃ t, exec (.preload dt die obs) s = .next t ∧ TensorIssued i die 3 11 d s t) ∧
  (∀ (dt : Nat) (die : Luna) (obs : AccObs) (s : State) (i : Issued) (d : TDesc), Clocked s →
    CarriesTensor i die 4 d s → ∃ t, exec (.add dt die obs) s = .next t ∧ TensorIssued i die 4 11 d s t) ∧
  (∀ (dt : Nat) (die : Luna) (obs : AccObs) (s : State) (i : Issued) (d : TDesc), Clocked s →
    CarriesTensor i die 10 d s → ∃ t, exec (.extChunk dt die obs) s = .next t ∧ TensorIssued i die 10 11 d s t) ∧
  (∀ (dt : Nat) (die : Luna) (obs : AccObs) (s : State) (i : Issued) (d : TDesc), Clocked s →
    CarriesTensor i die 8 d s → ∃ t, exec (.restore dt die obs) s = .next t ∧ TensorIssued i die 8 11 d s t) ∧
  (∀ (dt : Nat) (die : Luna) (obs : AccObs) (s : State) (i : Issued) (op : Nat) (c : Instr) (d : TDesc), Clocked s →
    Carries i die 1 op s → tensorDesc s die op (tDesc (dieSlot i.bundle die 1)) = .inr d → unselected s op d = true →
    (op, c) ∈ [(1, Instr.matmul dt die obs), (3, .preload dt die obs), (4, .add dt die obs), (10, .extChunk dt die obs)] →
    exec c s = .next { advance dt s with seq := { s.seq with issued := some (doneSub i die 1) } })

/-- CLEAR, EXT_INIT and VECTOR issue (R207, R222, R229, R249, R262). The model's choices in it: log entries 3, 41,
42 and 43. -/
def Obligations.TensorClearIssue : Prop :=
  (∀ (dt : Nat) (die : Luna) (s : State) (i : Issued) (d : TDesc), Clocked s → CarriesTensor i die 2 d s →
    ∃ t, exec (.clear dt die) s = .next t ∧ TensorIssued i die 2 11 d s t ∧ t.regs = s.regs ∧ t.log = s.log ∧
      t.seq.fatal = s.seq.fatal) ∧
  (∀ (dt : Nat) (die : Luna) (s : State) (i : Issued) (d : TDesc), Clocked s → CarriesTensor i die 9 d s →
    ∃ t, exec (.extInit dt die) s = .next t ∧ TensorIssued i die 9 11 d s t ∧ t.regs = s.regs ∧ t.log = s.log ∧
      t.seq.fatal = s.seq.fatal) ∧
  (∀ (dt : Nat) (die : Luna) (obs : AccObs) (s : State) (i : Issued) (d : TDesc), Clocked s → CarriesTensor i die 11 d s →
    ∃ t, exec (.vector dt die obs) s = .next t ∧ TensorIssued i die 11 12 d s t)

/-- What READ, READ_CLEAR, SAVE and QUANT write, and where (R187, R222, R224, R226, R227, R234, R618). The model's
choices in it: log entries 3 and 44. -/
def Obligations.TensorResultIssue : Prop :=
  (∀ (dt : Nat) (die : Luna) (obs : AccObs) (s : State) (i : Issued) (d : TDesc), Clocked s → CarriesTensor i die 5 d s →
    let r := accsRead (accResidue die obs (accFile die obs s)) die (tA d (ctxOf i die 1)) (32 * d.blocks)
    let w := readWords 5 d r.1
    ∃ t, exec (.read dt die obs) s = .next t ∧ WriteScheduled i die d (some d.dFlags) w.1 (r.2 ||| w.2) s t ∧
      (obs.residue = [] → obs.uncorrected = [] → t.tensor.accs = s.tensor.accs)) ∧
  (∀ (dt : Nat) (die : Luna) (obs : AccObs) (s : State) (i : Issued) (d : TDesc), Clocked s → CarriesTensor i die 6 d s →
    let r := accsRead (accResidue die obs (accFile die obs s)) die (tA d (ctxOf i die 1)) (32 * d.blocks)
    let w := readWords 6 d r.1
    ∃ t, exec (.readClear dt die obs) s = .next t ∧ WriteScheduled i die d (some d.dFlags) w.1 (r.2 ||| w.2) s t ∧
      ∀ k < 32 * d.blocks, tA d (ctxOf i die 1) + k < accLimit →
        (s.tensor.cycle ≠ i.cycle ∨ mget 0 s.tensor.chunks (accKey die (tA d (ctxOf i die 1) + k)) = 0) → acc t die (tA d (ctxOf i die 1) + k) = accMake 0 1 0) ∧
  (∀ (dt : Nat) (die : Luna) (obs : AccObs) (s : State) (i : Issued) (d : TDesc), Clocked s → CarriesTensor i die 12 d s →
    let r := accsRead (accResidue die obs (accFile die obs s)) die (tA d (ctxOf i die 1)) (32 * d.blocks)
    let w := readWords 12 d r.1
    ∃ t, exec (.quant dt die obs) s = .next t ∧ WriteScheduled i die d (some d.dFlags) w.1 (r.2 ||| w.2) s t ∧
      (obs.residue = [] → obs.uncorrected = [] → t.tensor.accs = s.tensor.accs)) ∧
  (∀ (dt : Nat) (die : Luna) (obs : AccObs) (s : State) (i : Issued) (d : TDesc), Clocked s → CarriesTensor i die 7 d s →
    ∃ t, exec (.save dt die obs) s = .next t ∧
      WriteScheduled i die d none
        (saveWords (accResidue die obs (accFile die obs s)) die (tA d (ctxOf i die 1)) (32 * d.blocks)) 0 s t ∧
      (obs.residue = [] → obs.uncorrected = [] → t.tensor.accs = s.tensor.accs))

/-- SEGQ, SHADOW_CHECK, FLAG_CLEAR and MARK issue (R104, R122, R123, R193, R224, R227, R262). The model's choices in
it: log entries 3, 30, 35 and 36. -/
def Obligations.SegmentAndMarkIssue : Prop :=
  (∀ (dt : Nat) (die : Luna) (obs : AccObs) (s : State) (i : Issued) (d : TDesc), Clocked s → CarriesTensor i die 13 d s →
    let r := accsRead (accResidue die obs (accFile die obs s)) die (tA d (ctxOf i die 1)) (32 * d.blocks)
    let w := segqWords d (segStatic (fun _ => i.cycle) die (d.b % 4096) obs.spadUncorr s).1 r.1
    ∃ t, exec (.segq dt die obs) s = .next t ∧ WriteScheduled i die d (some d.dFlags) w.1 (r.2 ||| w.2) s t ∧
      (obs.residue = [] → obs.uncorrected = [] → t.tensor.accs = s.tensor.accs)) ∧
  (∀ (dt : Nat) (die : Luna) (obs : XferObs) (sram : Bool) (s : State) (i : Issued) (d : TDesc) (e : ShadowSample) (es : List ShadowSample), Clocked s →
    CarriesTensor i die 14 d s → (lunaDie s die).shadow = e :: es →
    ∃ t, exec (.shadowCheck dt die obs sram) s = .next t ∧ (lunaDie t die).shadow = es ∧
      (marginOf t die e.phys).samples = min 65535 ((marginOf s die e.phys).samples + 8) ∧
      t.seq.issued = some (doneSub i die 1) ∧ t.tensor.accs = s.tensor.accs ∧ SameMemory s t) ∧
  (∀ (dt : Nat) (die : Luna) (obs : XferObs) (sram : Bool) (s : State) (i : Issued) (d : TDesc), Clocked s →
    CarriesTensor i die 14 d s → (lunaDie s die).shadow = [] →
    exec (.shadowCheck dt die obs sram) s = .next { advance dt s with
      seq := { s.seq with issued := some (doneSub i die 1) } }) ∧
  (∀ (dt : Nat) (die : Luna) (s : State) (i : Issued) (b : Bytes), Clocked s → Carries i die 2 2 s →
    descWords s die 1 (moveIndex (dieSlot i.bundle die 2) i.rep) 8 = .inr b →
    blocksOk (tdescOf b) = true →
    exec (.flagClear dt die) s = .next { advance dt s with
      seq := { s.seq with
        issued := some (doneSub i die 2)
        effects := s.seq.effects ++ [(i.cycle + 8, .flagClear die (tdescOf b).dFlags)] } }) ∧
  (∀ (dt : Nat) (die : Luna) (s : State) (i : Issued), Clocked s → Carries i die 3 1 s →
    exec (.mark dt die) s = .next { advance dt s with
      seq := { s.seq with
        issued := some (doneSub i die 3)
        trace := s.seq.trace ++ [(i.cycle, die.val, bits (dieSlot i.bundle die 3) 15 4)] } })

/-- Ring and window operations issue (R240, R288, R290, R304, R306). The model's choices in it: log entry 3. -/
def Obligations.RingAndWindowIssue : Prop :=
  (∀ (dt : Nat) (die : Die) (s : State) (i : Issued) (info : RingInfo), Clocked s →
    let sub := if die.val < 16 then 2 else 0
    let v := dieSlot i.bundle die sub
    let r := if die.val < 16 then moveIndex v i.rep else hubIndex v i.rep
    Carries i die sub (if die.val < 16 then 3 else 4) s → ringInfo s die r = some info →
    exec (.ringPublish dt die) s = .next { advance dt s with
      seq := { s.seq with
        issued := some (doneSub i die sub), effects := s.seq.effects ++ [(i.cycle + 8, .ring die r true)] } }) ∧
  (∀ (dt : Nat) (die : Die) (s : State) (i : Issued) (info : RingInfo), Clocked s →
    let sub := if die.val < 16 then 2 else 0
    let v := dieSlot i.bundle die sub
    let r := if die.val < 16 then moveIndex v i.rep else hubIndex v i.rep
    Carries i die sub (if die.val < 16 then 4 else 5) s → ringInfo s die r = some info →
    exec (.ringRelease dt die) s = .next { advance dt s with
      seq := { s.seq with
        issued := some (doneSub i die sub), effects := s.seq.effects ++ [(i.cycle + 8, .ring die r false)] } }) ∧
  (∀ (dt : Nat) (die : Die) (bad : List (Fin 4)) (s : State) (i : Issued), Clocked s →
    let sub := if die.val < 16 then 3 else 0
    let v := dieSlot i.bundle die sub
    let w := if die.val < 16 then bits v 15 4 else hubIndex v i.rep
    Carries i die sub 2 s → (winOwner w).map (·.1) = some die.val →
    exec (.windowOpen dt die bad) s = .next { advance dt s with
      seq := { s.seq with
        issued := some (doneSub i die sub), effects := s.seq.effects ++ [(i.cycle + 8, .window die w true (bad.map (·.val)))] } }) ∧
  (∀ (dt : Nat) (die : Die) (s : State) (i : Issued), Clocked s →
    let sub := if die.val < 16 then 3 else 0
    let v := dieSlot i.bundle die sub
    let w := if die.val < 16 then bits v 15 4 else hubIndex v i.rep
    Carries i die sub 3 s → (winOwner w).map (·.1) = some die.val →
    exec (.windowClose dt die) s = .next { advance dt s with
      seq := { s.seq with
        issued := some (doneSub i die sub), effects := s.seq.effects ++ [(i.cycle + 8, .window die w false [])] } })

/-- Array-group operations, pass starts and deliveries (R47, R49, R61, R118, R262). The model's choices in it: log
entries 3, 30, 31 and 32. -/
def Obligations.ArrayOperations : Prop :=
  (∀ (dt : Nat) (die : Luna) (s : State) (i : Issued) (b : Bytes) (g : AGroup) (es : List ListEntry), Clocked s →
    Carries i die 0 1 s → descWords s die 0 (agGroup (dieSlot i.bundle die 0)) 8 = .inr b → agroupOf b = .inr g →
    arrayList s die g.list g.count = .inr es →
    ∃ (t : State) (op : ArrOp), exec (.arrayGroupFwd dt die) s = .next t ∧
      (lunaDie t die).scheduled = (lunaDie s die).scheduled ++ [op] ∧ op.trn = false ∧ op.desc = b ∧
      op.a8 = (agMode (dieSlot i.bundle die 0) == 1) ∧ op.row = agRow (dieSlot i.bundle die 0) i.rep ∧
      op.entries = es.map packEntry ∧ op.cycle = i.cycle ∧ op.cls = bClass i.bundle ∧
      op.edge = ceilDiv (i.time + 16) 8 * 8 ∧ op.startCycle = i.cycle + (op.edge - i.time) ∧
      t.regs = s.regs ∧ t.mem = s.mem ∧ t.tensor = s.tensor ∧ t.log = s.log ∧
      t.seq = { s.seq with issued := some (doneSub i die 0) }) ∧
  (∀ (dt : Nat) (die : Luna) (s : State) (i : Issued) (b : Bytes) (g : AGroup) (es : List ListEntry), Clocked s →
    Carries i die 0 2 s → descWords s die 0 (agGroup (dieSlot i.bundle die 0)) 8 = .inr b → agroupOf b = .inr g →
    arrayList s die g.list g.count = .inr es →
    ∃ (t : State) (op : ArrOp), exec (.arrayGroupTrn dt die) s = .next t ∧
      (lunaDie t die).scheduled = (lunaDie s die).scheduled ++ [op] ∧ op.trn = true ∧ op.desc = b ∧
      op.a8 = (agMode (dieSlot i.bundle die 0) == 1) ∧ op.row = agRow (dieSlot i.bundle die 0) i.rep ∧
      op.entries = es.map packEntry ∧ op.cycle = i.cycle ∧ op.cls = bClass i.bundle ∧
      op.edge = ceilDiv (i.time + 16) 8 * 8 ∧ op.startCycle = i.cycle + (op.edge - i.time) ∧
      t.regs = s.regs ∧ t.mem = s.mem ∧ t.tensor = s.tensor ∧ t.log = s.log ∧
      t.seq = { s.seq with issued := some (doneSub i die 0) }) ∧
  (∀ (dt : Nat) (die : Luna) (obs : AccObs) (s : State) (op : ArrOp) (rest : List ArrOp) (g : AGroup), Clocked s →
    (lunaDie s die).scheduled = op :: rest → op.edge ≤ s.clk.now + dt → streamPast s op = true → agroupOf op.desc = .inr g →
    ∃ (t : State) (rs : List ArrRead), exec (.arrayPassStart dt die obs) s = .next t ∧
      (lunaDie t die).scheduled = rest ∧ (lunaDie t die).reads = (lunaDie s die).reads ++ rs ∧
      rs.map (fun r => (r.logical, r.dest, r.kseq, r.staged, r.due, r.start)) =
        (op.entries.map (bareRead op g)).map (fun r => (r.logical, r.dest, r.kseq, r.staged, r.due, r.start)) ∧
      t.tensor.accs = s.tensor.accs ∧ SameMemory s t) ∧
  (∀ (dt : Nat) (die : Luna) (obs : ReadObs) (s : State) (r : ArrRead) (rest : List ArrRead), Clocked s →
    (lunaDie s die).reads = r :: rest → deliverAt r ≤ s.clk.now + dt → obsFits r obs = true →
    let cs := outChunks r (outValues (readClash die r s).1 obs)
    ∃ t, exec (.piccoloDeliver dt die obs) s = .next t ∧ (lunaDie t die).reads = rest ∧
      t.seq.effects = s.seq.effects ++ [if r.staged then
          (r.due + 1, .stageChunks die cs r.flagAddr (obs.acc.spadUncorr.contains r.flagAddr))
        else (r.due + 4, .accChunks die cs obs.acc)] ∧
      cs.length = (if r.trn then 1024 else 512) ∧ t.tensor.accs = s.tensor.accs ∧ SameMemory s t)

/-- How a transfer is issued, starts and completes (R252, R254, R255, R256, R257, R258, R262). The model's choices
in it: log entries 3 and 49. -/
def Obligations.TransferCommands : Prop :=
  (∀ (dt : Nat) (die : Die) (s : State) (i : Issued) (b : Bytes), Clocked s →
    let sub := if die.val < 16 then 2 else 0
    let v := dieSlot i.bundle die sub
    let n := if die.val < 16 then moveIndex v i.rep else hubIndex v i.rep
    Carries i die sub 1 s → descWords s die 2 n 4 = .inr b →
    ∃ t, exec (.xferIssue dt die) s = .next t ∧ queueOf t die = queueOf s die ++ [⟨n, b, s.seq.epoch, s.clk.now + dt⟩] ∧
      (∀ d, d ≠ die.val → queueOf t d = queueOf s d) ∧ t.seq.issued = some (doneSub i die sub) ∧
      t.regs = s.regs ∧ t.log = s.log ∧ SameMemory s t) ∧
  (∀ (dt : Nat) (die : Die) (thread : BitVec 10) (obs : XferObs) (s : State) (d : Desc) (q : List Desc), Clocked s →
    let u := fenced (advance dt s)
    threadOf u die thread.toNat = none → queueOf u die = d :: q → thread.toNat < threadCount die →
    anyHold u die (startBreaks u die d.bytes) = false →
    let v := setQueue die q u
    let w := inClass (if dClass d.bytes < 10 then dClass d.bytes else 0xFF)
      (countUnderruns die thread.toNat (runBreaks v die (lengthRun d.bytes))) (takeThread die thread.toNat obs d v)
    let mem := fun (t : State) => (t.mem.spad, t.mem.hbm, t.mem.hbmPoison)
    (∀ st side, xferPlan v die d.bytes (startBad v die obs d.bytes) = .done st side →
      ∃ t x, exec (.xferThreadStart dt die thread obs) s = .next t ∧ queueOf t die = q ∧
        threadOf t die thread.toNat = some x ∧ x.phase = .finished ∧ x.status = st ∧ x.side = side ∧
        x.desc = { d with bytes := withLength v die d.bytes (startBad v die obs d.bytes) } ∧ mem t = mem u) ∧
    ((∀ st side, xferPlan v die d.bytes (startBad v die obs d.bytes) ≠ .done st side) → mayMove w d = false →
      ∃ t x, exec (.xferThreadStart dt die thread obs) s = .next t ∧ queueOf t die = q ∧
        threadOf t die thread.toNat = some x ∧ x.phase = .gated ∧ mem t = mem u) ∧
    ((∀ st side, xferPlan v die d.bytes (startBad v die obs d.bytes) ≠ .done st side) → mayMove w d = true →
      exec (.xferThreadStart dt die thread obs) s =
        .next { moveData die thread.toNat obs w with pending := s.pending })) ∧
  (∀ (dt : Nat) (die : Die) (thread : BitVec 10) (s : State) (x : Xfer) (sd sw dd dw n : Nat), Clocked s →
    let u := fenced (advance dt s)
    threadOf u die thread.toNat = some x → (x.phase = .gated ∨ x.phase = .ringHold) → mayMove u x.desc = true →
    runBreaks u die (listRun u die x.desc.bytes) = [] →
    xferPlan u die x.desc.bytes [] = .copy (.spad sd sw) (.spad dd dw) n → diePath u sd dd = true →
    ringBreaks u sd sw (9 * n) false = [] → ringBreaks u dd dw (9 * n) true = [] →
    ∃ t y, exec (.xferThreadStart dt die thread {}) s = .next t ∧ threadOf t die thread.toNat = some y ∧
      y.phase = .finished ∧
      let ps := spadPackets u sd sw n [] []
      y.status = (if ps.any (·.isEmpty) then 5 else 0) ∧
      (∀ k < 9 * n, spadAt t dd (dw + k) = (ps.flatMap packetWords).getD k {}) ∧
      (∀ e a, (e ≠ dd ∨ a < dw ∨ dw + 9 * n ≤ a) → spadAt t e a = spadAt u e a) ∧
      t.mem.hbm = u.mem.hbm ∧ t.mem.hbmPoison = u.mem.hbmPoison) ∧
  (∀ (dt : Nat) (die : Die) (thread : BitVec 10) (s : State) (x : Xfer), Clocked s →
    threadOf s die thread.toNat = some x → completes (advance dt s) x = true →
    ∃ t, exec (.xferComplete dt die thread) s = .next t ∧ threadOf t die thread.toNat = none ∧
      let k := dTag x.desc.bytes
      (tagOf t k).count = (tagOf s k).count + 1 ∧ (tagOf t k).base = (tagOf s k).base ∧
      (if stepErrorStatus x.status then
          (tagOf t k).err = true ∧ (tagOf t k).last = x.status ∧ t.seq.stepError = true ∧
          reg t Reg.SEQ_XFER_ERR_COUNT = satAdd (reg s Reg.SEQ_XFER_ERR_COUNT) 1
        else (tagOf t k).err = (tagOf s k).err ∧ (tagOf t k).last = (tagOf s k).last ∧
          t.seq.stepError = s.seq.stepError) ∧
      (∀ j, j ≠ k → tagOf t j = tagOf s j) ∧ SameMemory s t)

/-- What arriving fabric traffic does to windows and threads (R307, R309, R310, R484, R493, R494, R501). The model's
choices in it: log entries 3 and 67. -/
def Obligations.WindowFrames : Prop :=
  (∀ (dt : Nat) (f : WriteFrame) (s : State) (d j base : Nat), Clocked s → f.wellFormed = true →
    let u := fenced (advance dt s)
    (portOf u f.port).up = true → f.dst.toNat = moduleId u → moduleId u < machineSize u →
    winOwner f.window.toNat = some (d, j) →
    let x := winOf u f.window.toNat
    (if f.first then x.flight.find? (isFlight f.src.toNat f.die.toNat f.thread.toNat) = none ∧ x.state = .opened ∧
        x.mask.getLsbD f.src.toNat = true ∧ f.offset.toNat + 9 * f.length.toNat ≤ x.len ∧ base = x.base
      else (x.flight.find? (isFlight f.src.toNat f.die.toNat f.thread.toNat)).map (·.base) = some base) →
    ∃ t, exec (.tensorFrame dt f) s = .next t ∧
      let ws := f.data.flatMap packetWords
      let a := base + f.offset.toNat
      (∀ k < ws.length, a + k < spadWords d → spadAt t d (a + k) = ws.getD k {}) ∧
      (∀ e w, (e ≠ d ∨ w < a ∨ a + ws.length ≤ w) → spadAt t e w = spadAt u e w) ∧
      t.mem.hbm = u.mem.hbm ∧ t.mem.hbmPoison = u.mem.hbmPoison) ∧
  (∀ (dt : Nat) (window : BitVec 12) (src : BitVec 6) (die : BitVec 5) (thread : BitVec 10) (s : State) (d j : Nat)
    (fl : Flight), Clocked s → winOwner window.toNat = some (d, j) →
    (winOf s window.toNat).flight.find? (isFlight src.toNat die.toNat thread.toNat) = some fl → fl.packets ≤ fl.got →
    ∃ t, exec (.windowWriteLanded dt window src die thread) s = .next t ∧
      (winOf t window.toNat).flight = (winOf s window.toNat).flight.erase fl ∧
      (∀ k, fl.arrive = some k → (tagOf t k).count = (tagOf s k).count + 1) ∧ SameMemory s t) ∧
  (∀ (dt : Nat) (port : Port) (die : BitVec 5) (thread : BitVec 10) (status : BitVec 3) (s : State) (x : Xfer),
    Clocked s → (portOf s port).up = true → threadOf s die.toNat thread.toNat = some x →
    x.phase = .waitReply → status.toNat < 7 →
    ∃ t, exec (.xferReply dt port die thread status) s = .next t ∧ threadOf t die.toNat thread.toNat = none ∧
      (tagOf t (dTag x.desc.bytes)).count = (tagOf s (dTag x.desc.bytes)).count + 1 ∧ SameMemory s t) ∧
  (∀ (dt : Nat) (die : Die) (thread : BitVec 10) (s : State) (x : Xfer), Clocked s →
    threadOf s die.val thread.toNat = some x → x.phase = .waitReply → x.sentAt + replyTimeout s ≤ tick (advance dt s) →
    ∃ t, exec (.shawmReplyTimeout dt die thread) s = .next t ∧ threadOf t die.val thread.toNat = none ∧
      (tagOf t (dTag x.desc.bytes)).count = (tagOf s (dTag x.desc.bytes)).count + 1 ∧
      (tagOf t (dTag x.desc.bytes)).err = true ∧ (tagOf t (dTag x.desc.bytes)).last = 6 ∧ SameMemory s t) ∧
  (∀ (dt : Nat) (port : Port) (ps : List Bytes) (s : State), Clocked s → ps.length ≤ 8 →
    (portOf s port).up = true →
    ∃ t, exec (.broadcastFrame dt port 0 ps) s = .next t ∧
      (portOf t port).rxSeq = (portOf s port).rxSeq + 1 ∧
      (∀ p ∈ treePorts s, (portOf s p).up = true →
        Frame.broadcast ps ∈ ((portOf t p).unacked ++ (portOf t p).waiting).map (·.frame)) ∧ SameMemory s t)

/-- What a breath boundary and BREATH_TICKS do (R297, R429, R430, R432). The model's choices in it: log entries 3,
60 and 61. -/
def Obligations.BreathBoundary : Prop :=
  (∀ (dt b : Nat) (temps : List (BitVec 8)) (s : State), Clocked s → boundaryDue (advance dt s) = some b →
    ∃ t, exec (.breathBoundary dt temps) s = .next t ∧ t.breath.number = s.breath.number + 1 ∧ t.breath.start = b ∧
      t.breath.ticks = periodAt s b ∧ t.atlas.lastSample = b ∧
      (∀ (k : Nat) (c : BitVec 8), k < 24 → temps[k]? = some c → fld (reg t (ra (pgHbm k) 0x100)) 15 8 = c.toNat)) ∧
  (∀ (dt : Nat) (temps : List (BitVec 8)) (s : State), Clocked s → boundaryDue (advance dt s) = none →
    exec (.breathBoundary dt temps) s = .next (advance dt s)) ∧
  (∀ (dt : Nat) (ticks : Word) (s : State), HostMay 4 s → s.seq.state = .stopped →
    ∃ t, exec (.breathTicks dt ticks) s = .next t ∧ reg t Reg.BREATH_TICKS = word (fld ticks 21 0) ∧
      (∀ a, a ≠ Reg.BREATH_TICKS → reg t a = reg s a) ∧ t.breath.ticks = s.breath.ticks ∧ SameMemory s t) ∧
  (∀ (dt : Nat) (ticks : Word) (s : State), HostMay 4 s → s.seq.state ≠ .stopped →
    ∃ t, exec (.breathTicks dt ticks) s = .next t ∧ t.breath = s.breath ∧
      Logged 4 Evt.BREATH_CMD_INVALID (4 + Reg.BREATH_TICKS % 0x1000 * 2 ^ 8 + ticks.toNat * 2 ^ 20) s t ∧
      SameRegsBut 4 [] s t ∧ SameMemory s t)

/-- What the converter scans do (R442, R450, R453). The model's choices in it: log entries 3, 62 and 66. -/
def Obligations.HousekeepingScans : Prop :=
  (∀ (dt : Nat) (s : State), Clocked s → tick (advance dt s) % 80000 < 4 → s.drone.running = true →
    ∃ t, exec (.hkcScanStart dt) s = .next t ∧
      (∀ d < 20, if (hkcOf s d).calBusy = false ∧ (hkcOf s d).scanning = false then
          (hkcOf t d).scanning = true ∧ (hkcOf t d).scanTick = tick (advance dt s) - tick (advance dt s) % 80000 ∧
            (hkcOf t d).results = (hkcOf s d).results
        else hkcOf t d = hkcOf s d) ∧
      t.regs = s.regs ∧ t.log = s.log ∧ SameMemory s t) ∧
  (∀ (dt : Nat) (scans : List ScanObs) (s : State) (o : ScanObs), Clocked s →
    (∀ x ∈ scans, x.raw.length = 12) → (scans.map (·.die)).Nodup → o ∈ scans → (hkcOf s o.die).scanning = true →
    (hkcOf s o.die).scanTick + 4800 ≤ tick (advance dt s) →
    ∃ t, exec (.hkcScanEnd dt scans) s = .next t ∧ (hkcOf t o.die).scanning = false ∧
      (∀ k < 12, let ch := scanChannels.getD k 0;
        let r := mget {} (hkcOf t o.die).results ch;
        r.value = hkcCorrect (hkcOf s o.die) ch (16 * rawCode ch (o.raw.getD k 0)) ∧
          r.seq = (mget {} (hkcOf s o.die).results ch).seq + 1) ∧
      t.regs = s.regs ∧ t.log = s.log ∧ SameMemory s t) ∧
  (∀ (dt : Nat) (die : Die) (s : State), Clocked s → (hkcOf s die).scanning = true → (hkcOf s die).calDone = true →
    (hkcOf s die).scanTick + 8000 ≤ tick (advance dt s) →
    ∃ t, exec (.atlasSampleMissing dt die) s = .next t ∧ (hkcOf t die).scanning = false ∧
      reg t Reg.ATLAS_SAMPLE_MISS_COUNT = satAdd (reg s Reg.ATLAS_SAMPLE_MISS_COUNT) 1 ∧
      (∀ a, a ≠ Reg.ATLAS_SAMPLE_MISS_COUNT → reg t a = reg s a) ∧
      mget 0 t.log.breathCount (Evt.ATLAS_SAMPLE_MISSING * 2 ^ 32 + die.val) =
        mget 0 s.log.breathCount (Evt.ATLAS_SAMPLE_MISSING * 2 ^ 32 + die.val) + 1 ∧ SameMemory s t)

/-- What HKC_CAL and HKC_CONVERT do (R451, R452, R453, R454). The model's choices in it: log entries 3 and 66. -/
def Obligations.ConverterCommands : Prop :=
  (∀ (dt : Nat) (die : Die) (s : State), HostMay (pgHkc die) s → beforeReadyLocal s = false →
    (hkcOf s die).calBusy = false → (hkcOf s die).conv = none → (hkcOf s die).diode = false →
    ∃ t, exec (.hkcCal dt die) s = .next t ∧ (hkcOf t die).calBusy = true ∧ (hkcOf t die).calDone = false ∧
      (hkcOf t die).calFail = false ∧ (hkcOf t die).calAt = s.clk.now + dt ∧ (∀ ch, (mget {} (hkcOf t die).results ch).valid = false) ∧
      (∀ d, d ≠ die.val → hkcOf t d = hkcOf s d) ∧ t.regs = s.regs ∧ SameMemory s t) ∧
  (∀ (dt : Nat) (die : Die) (ch : BitVec 5) (s : State), HostMay (pgHkc die) s → beforeReadyLocal s = false →
    (hkcOf s die).calBusy = false → (hkcOf s die).conv = none → (hkcOf s die).diode = false →
    ch.toNat ≠ 14 → ch.toNat < 24 →
    ∃ t, exec (.hkcConvert dt die ch) s = .next t ∧
      hkcOf t die = { hkcOf s die with
        conv := some ch.toNat, convAt := placedEnd (advance dt s) (hkcOf s die) 400 } ∧
      (∀ d, d ≠ die.val → hkcOf t d = hkcOf s d) ∧ t.regs = s.regs ∧ SameMemory s t) ∧
  (∀ (dt : Nat) (die : Die) (raw : BitVec 12) (s : State) (ch : Nat), Clocked s →
    (hkcOf s die).conv = some ch → (hkcOf s die).convAt ≤ s.clk.now + dt →
    ∃ t, exec (.hkcConvertEnd dt die raw) s = .next t ∧ (hkcOf t die).conv = none ∧
      (let r := mget {} (hkcOf t die).results ch;
        r.value = hkcCorrect (hkcOf s die) ch (16 * rawCode ch raw) ∧
          r.seq = (mget {} (hkcOf s die).results ch).seq + 1 ∧
          r.valid = ((hkcOf s die).calDone && !(hkcOf s die).calBusy)) ∧
      (∀ d, d ≠ die.val → hkcOf t d = hkcOf s d) ∧ t.regs = s.regs ∧ SameMemory s t) ∧
  (∀ (dt : Nat) (die : Die) (m : HkcMeans) (s : State), Clocked s → (hkcOf s die).calBusy = true →
    (hkcOf s die).calAt + hkcCalCycles ≤ s.clk.now + dt →
    let cbg : Rat := ((reg s (ra (pgHkc die) 0x114)).toNat : Rat) * 8 / 3125
    let gain := if m.m0 = m.m15 then Config.free s.freeIdx % 2 ^ 16
      else (Fp.rne (32768 * 16 * cbg / ((m.m0 - m.m15 : Int) : Rat))).toNat
    let bad := hkcCheck m.m15 gain cbg m.m1
    let detail := die.val + unsigned 16 m.m15 * 2 ^ 8 + (gain % 2 ^ 16) * 2 ^ 24
    ∃ t, exec (.hkcCalEnd dt die m) s = .next t ∧
      hkcOf t die = { hkcOf s die with
        calBusy := false
        calDone := bad == 0
        calFail := bad != 0
        offset := m.m15
        gain := gain } ∧
      Logged (pgHkc die) (if bad = 0 then Evt.HKC_CAL_DONE else Evt.HKC_CAL_FAIL)
        (if bad = 0 then detail else detail + bad * 2 ^ 40) s t ∧
      (∀ d, d ≠ die.val → hkcOf t d = hkcOf s d) ∧ SameRegsBut (pgHkc die) [] s t ∧ SameMemory s t)

/-- What the thermal commands do (R451, R464, R466, R467, R468, R471, R475). The model's choices in it: log entries
3 and 65. -/
def Obligations.ThermalCommands : Prop :=
  (∀ (dt : Nat) (rs : List DiodeObs) (s : State), HostMay 5 s → beforeReadyLocal s = false → rs.length = 20 →
    ∃ t, exec (.thermSeed dt rs) s = .next t ∧
      t.therm.seed = some rs ∧ t.therm.est = s.therm.est ∧
      (∀ (d : Nat) (o : DiodeObs), rs[d]? = some o →
        if o.temp < -640 ∨ 2400 < o.temp then fld (reg t (Reg.THERM_DIODE d)) 17 16 = 2
        else reg t (Reg.THERM_DIODE d) = word (unsigned 16 o.temp + 2 ^ 16)) ∧ SameMemory s t) ∧
  (∀ (dt : Nat) (mask : BitVec 20) (s : State), HostMay 5 s → beforeReadyLocal s = false →
    (∀ d < 20, (hkcOf s d).diode = false) →
    ∃ t, exec (.thermDiodeRead dt mask) s = .next t ∧
      (∀ d < 20, hkcOf t d = if mask.getLsbD d then
          { hkcOf s d with diode := true, diodeAt := placedEnd (advance dt s) (hkcOf s d) 6400 }
        else hkcOf s d) ∧ t.regs = s.regs ∧ t.log = s.log ∧
      SameMemory s t) ∧
  (∀ (dt : Nat) (die : Die) (o : DiodeObs) (s : State), Clocked s → (hkcOf s die).diode = true →
    (hkcOf s die).diodeAt ≤ s.clk.now + dt → -640 ≤ o.temp → o.temp ≤ 2400 →
    ∃ t, exec (.diodeReadEnd dt die o) s = .next t ∧ (hkcOf t die).diode = false ∧
      reg t (Reg.THERM_DIODE die) = word (unsigned 16 o.temp + 2 ^ 16) ∧
      reg t Reg.THERM_DISAGREE_COUNT = (if s.therm.seeded = true ∧ (o.temp - est s die < -96 ∨ 96 < o.temp - est s die) then
        satAdd (reg s Reg.THERM_DISAGREE_COUNT) 1 else reg s Reg.THERM_DISAGREE_COUNT) ∧
      t.therm.tripped = (s.therm.tripped || decide ((forceFld s Reg.THERM_LIMITS 23 16 * 16 : Nat) ≤ o.temp)) ∧
      SameMemory s t) ∧
  (∀ (dt : Nat) (die : Die) (o : DiodeObs) (s : State), Clocked s → (hkcOf s die).diode = true →
    (hkcOf s die).diodeAt ≤ s.clk.now + dt → (o.temp < -640 ∨ 2400 < o.temp) →
    ∃ t, exec (.diodeReadEnd dt die o) s = .next t ∧ (hkcOf t die).diode = false ∧
      fld (reg t (Reg.THERM_DIODE die)) 17 16 = 2 ∧
      Logged 5 Evt.THERM_DIODE_FAIL (die.val + o.code.toNat * 2 ^ 8) s t ∧ t.therm = s.therm ∧
      SameRegsBut 5 [Reg.THERM_DIODE die] s t ∧ SameMemory s t) ∧
  (∀ (dt : Nat) (v : Word) (s : State), HostMay 5 s → s.host.d3hot = false →
    let warn := fld v 7 0
    let throttle := fld v 15 8
    let trip := fld v 23 16
    let valid := 70 ≤ warn ∧ warn ≤ throttle ∧ 80 ≤ throttle ∧ throttle + 5 ≤ trip ∧ 100 ≤ trip ∧ trip ≤ 115
    ∃ t, exec (.registerWrite dt 0x5104 v) s = .next t ∧
      reg t Reg.THERM_LIMITS = (if valid then v &&& 0xFFFFFF else reg s Reg.THERM_LIMITS) ∧
      (¬ valid → Logged 5 Evt.THERM_CMD_INVALID (0x104 + v.toNat * 2 ^ 12) s t) ∧ t.therm = s.therm ∧
      forceFld t Reg.THERM_LIMITS 23 16 = forceFld s Reg.THERM_LIMITS 23 16 ∧
      SameRegsBut 5 [Reg.THERM_LIMITS] s t ∧ SameMemory s t)

/-- What COLCAL and the baseline check do (R98, R457, R459, R460). The model's choices in it: log entries 3 and 40. -/
def Obligations.CalibrationCommands : Prop :=
  (∀ (dt : Nat) (die : Luna) (all : Bool) (s : State), HostMay (pgLuna die 4) s → beforeReadyLocal s = false →
    s.seq.state = .stopped → (∀ d < 16, (d = die.val ∨ all = true) → calibrating s d = false) →
    ∃ t, exec (.colcalGo dt die all) s = .next t ∧
      (∀ d < 16, if d = die.val ∨ all = true then
          (lunaDie t d).colSince = some (s.clk.now + dt) ∧ (lunaDie t d).colDone = false ∧ (lunaDie t d).channels = []
        else lunaDie t d = lunaDie s d) ∧ t.log = s.log ∧ SameMemory s t) ∧
  (∀ (dt : Nat) (die : Luna) (found : List ColcalObs) (s : State) (t0 : Nat), Clocked s →
    (lunaDie s die).colSince = some t0 → t0 + 608000000 ≤ s.clk.now + dt →
    ∃ t, exec (.colcalEnd dt die found) s = .next t ∧ (lunaDie t die).colSince = none ∧
      (lunaDie t die).checking = true ∧
      (∀ p < physCount, (∀ o ∈ colcalOf die found, o.phys ≠ p) → colRec t die p = {}) ∧
      (∀ o ∈ colcalOf die found, (colRec t die o.phys).rows = min o.rowFail 128 ∧
        (colRec t die o.phys).cols = ((colFails o).map (2 ^ ·)).sum) ∧ SameMemory s t) ∧
  (∀ (dt : Nat) (die : Luna) (obs : List BaselineObs) (s : State), Clocked s →
    (lunaDie s die).checking = true → baselineShape (advance dt s) die obs = true →
    let ps := (inState s die 1).filter (fun p => decide ((lunaDie s die).checkFrom ≤ p))
    let x := baselineCharge die ps (advance dt s)
    ∃ t, exec (.baselineCheckEnd dt die obs) s = .next t ∧
      (x.2.1 = none → (lunaDie t die).checking = false ∧ (lunaDie t die).colDone = true ∧
        die.val ∈ t.boot.baselined) ∧
      (∀ p, x.2.1 = some p → (lunaDie t die).checking = true ∧ (lunaDie t die).checkFrom = p) ∧
      (s.boot.state ≠ .starting → SameMemory s t))

/-- What the programming commands of the host do (R148, R154, R156, R159, R162, R166, R170). The model's choices in
it: log entries 3, 37 and 38. -/
def Obligations.RefreshCommands : Prop :=
  (∀ (dt : Nat) (die : Luna) (repair : Bool) (s : State), HostMay (pgLuna die 3) s → (lunaDie s die).cmd.busy = false →
    s.seq.state = .stopped → s.secure.shadowOk = true →
    ∃ t, exec (.install dt die repair) s = .next t ∧ (∀ a < 4096, (mapOf t die a).valid = false) ∧
      (lunaDie t die).cmd.busy = true ∧ (lunaDie t die).cmd.op = 1 ∧ SameMemory s t) ∧
  (∀ (dt : Nat) (die : Luna) (logical : BitVec 12) (phys : BitVec 13) (retireOld repair : Bool) (s : State) (k : Nat),
    HostMay (pgLuna die 3) s → (lunaDie s die).cmd.busy = false → phys.toNat < physCount →
    (physOf s die phys.toNat).state = 0 → (∀ w ∈ (lunaDie s die).pending, w.logical ≠ logical.toNat) →
    (∀ e ∈ (lunaDie s die).channels, e.2.kind = .rotate → e.2.logical ≠ logical.toNat) → progWindow s die = true →
    shadowFormed s die logical.toNat = true → freeChannel s die = some k → (lunaDie s die).stages ≠ [] →
    ∃ (t : State) (c : Channel), exec (.replace dt die logical phys retireOld repair) s = .next t ∧
      find? (lunaDie t die).channels k = some c ∧ c.kind = .replace ∧ c.phys = phys.toNat ∧
      c.logical = logical.toNat ∧ c.repair = repair ∧ c.since = s.clk.now + dt ∧
      (physOf t die phys.toNat).state = 2 ∧ (lunaDie t die).cmd.busy = true ∧
      (lunaDie t die).cmd.retireOld = retireOld ∧ SameMemory s t) ∧
  (∀ (dt : Nat) (die : Luna) (s : State), HostMay (pgLuna die 3) s → (lunaDie s die).cmd.busy = false →
    s.seq.state = .stopped → (lunaDie s die).pending.length ≤ 16 →
    ((lunaDie s die).pending.map (·.logical)).Nodup →
    ∃ t, exec (.apply dt die) s = .next t ∧ (lunaDie t die).pending = [] ∧
      (∀ w ∈ (lunaDie s die).pending, mapOf t die w.logical = { valid := true, level := w.level, phys := w.spare }) ∧
      t.mem.hbm = s.mem.hbm) ∧
  (∀ (dt : Nat) (die : Luna) (s : State), HostMay (pgLuna die 3) s → (lunaDie s die).cmd.busy = true →
    ∃ t, exec (.refreshCancel dt die) s = .next t ∧
      let c := (lunaDie s die).cmd
      let c' := (lunaDie t die).cmd
      (if c.op = 1 ∧ c.todo = [] ∧ c.erase = [] ∧ cmdChannels s die = [] then
          c.cancelAt = none → c'.busy = false ∧ c'.result = (if c.failed = 0 then 0 else 3)
        else if cmdChannels s die = [] then c'.busy = false ∧ c'.result = 5
        else c'.busy = true ∧ c'.cancelAt = some (sclk (advance dt s)) ∧ c'.todo = [] ∧ c'.erase = [] ∧
          c'.waiting = false ∧ (lunaDie t die).channels = (lunaDie s die).channels) ∧
      SameRegsBut (refPage die) [] s t ∧ SameMemory s t) ∧
  (∀ (dt : Nat) (die : Luna) (phys : BitVec 13) (s : State), HostMay (pgLuna die 3) s →
    (lunaDie s die).cmd.busy = false → phys.toNat < physCount → (physOf s die phys.toNat).state = 0 →
    ∃ t, exec (.retire dt die phys) s = .next t ∧ (physOf t die phys.toNat).state = 4 ∧
      (physOf t die phys.toNat).cause = 4 ∧ trkOf t die phys.toNat = {} ∧
      (∀ p < physCount, p ≠ phys.toNat → physOf t die p = physOf s die p) ∧
      SameRegsBut (pgLuna die 3) [] s t ∧ SameMemory s t) ∧
  (∀ (dt : Nat) (die : Luna) (hours : Word) (s : State), HostMay (pgLuna die 3) s → s.boot.committed = false →
    die.val ∉ s.boot.offHours →
    ∃ t, exec (.refreshOffHours dt die hours) s = .next t ∧ reg t (refReg die 0x118) = hours ∧
      SameRegsBut (refPage die) [refReg die 0x118] s t ∧
      (mget {} t.life die).ageClock = (mget {} s.life die).ageClock + hours.toNat ∧ die.val ∈ t.boot.offHours ∧
      SameMemory s t)

/-- What the ends of programs, audits and pending swaps do (R96, R142, R143, R144, R149, R150, R153, R156, R158).
The model's choices in it: log entries 3, 25, 37, 38 and 39. -/
def Obligations.ProgrammingEnds : Prop :=
  (∀ (dt : Nat) (die : Luna) (k : Fin 16) (o : ProgObs) (s : State) (c : Channel) (v : Word × Int), Clocked s →
    find? (lunaDie s die).channels k = some c → (c.kind = .install ∨ c.kind = .rotate) →
    (lunaDie s die).cmd.cancelAt = none → countedAt (s.clk.now + dt) c < timeoutPast →
    ((lunaDie s die).cmd.busy = true → (lunaDie s die).cmd.op = 1) →
    (runProgram die c o (advance dt s)).1 = .inl v →
    ∃ t, exec (.programComplete dt die k o) s = .next t ∧
      (physOf t die c.phys).programs = min 0xFFFFFFFF ((physOf s die c.phys).programs + 1) ∧
      (if c.kind = .install then (mapOf t die c.logical).valid = true ∧
          (lunaDie t die).cmd.done = (lunaDie s die).cmd.done + 1 ∧ (lunaDie t die).pending = (lunaDie s die).pending
        else ∃ w : Swap, (lunaDie t die).pending = (lunaDie s die).pending ++ [w] ∧ w.logical = c.logical ∧
          w.spare = c.phys ∧ w.stage = c.stage) ∧
      t.mem.hbm = s.mem.hbm) ∧
  (∀ (dt : Nat) (die : Luna) (k : Fin 16) (o : ProgObs) (s : State) (c : Channel) (f : Nat × Nat), Clocked s →
    find? (lunaDie s die).channels k = some c → c.kind = .rotate → (lunaDie s die).cmd.cancelAt = none →
    (lunaDie s die).cmd.busy = false → countedAt (s.clk.now + dt) c < timeoutPast →
    (runProgram die c o (advance dt s)).1 = .inr f →
    ∃ t, exec (.programComplete dt die k o) s = .next t ∧ find? (lunaDie t die).channels k = none ∧
      (physOf t die c.phys).state = 4 ∧ (physOf t die c.phys).cause = 1 ∧ t.mem.hbm = s.mem.hbm) ∧
  (∀ (dt : Nat) (die : Luna) (k : Fin 16) (s : State) (c : Channel), Clocked s →
    find? (lunaDie s die).channels k = some c → c.kind ≠ .audit → c.kind ≠ .erase →
    timeoutPast ≤ countedAt (s.clk.now + dt) c → (lunaDie s die).cmd.cancelAt = none → (lunaDie s die).cmd.busy = false →
    ∃ t, exec (.progTimeout dt die k) s = .next t ∧ find? (lunaDie t die).channels k = none ∧
      ((c.kind = .rotate ∨ c.kind = .replace) → (physOf t die c.phys).state = 4) ∧
      (mapOf t die c.logical) = (mapOf s die c.logical) ∧ SameMemory s t) ∧
  (∀ (dt : Nat) (die : Luna) (k : Fin 16) (s : State) (c : Channel), Clocked s →
    find? (lunaDie s die).channels k = some c → c.aborted = true →
    slotsAt (lunaDie s die).slots (s.clk.now + dt) + bgSlots die (s.clk.now + dt) (lunaDie s die) < 1152 →
    ∃ t, exec (.bgPassRerun dt die k) s = .next t ∧
      find? (lunaDie t die).channels k = some { c with aborted := false } ∧
      (∀ j, j ≠ k.val → find? (lunaDie t die).channels j = find? (lunaDie s die).channels j) ∧
      t.regs = s.regs ∧ SameMemory s t) ∧
  (∀ (dt : Nat) (die : Luna) (phys : BitVec 13) (o : AuditObs) (s : State) (k : Nat), Clocked s →
    auditChannel s die phys.toNat = some k → (lunaDie s die).cmd.busy = false →
    let p := phys.toNat
    ∃ t, exec (.auditComplete dt die phys o) s = .next t ∧
      (physOf t die p).state = (if s.nvm.retireOld.contains (physKey die p) = true ∨
        (inArray o.erased).all (fun l => levelOk 64 0 l.level) = false ∨ 10000 ≤ (physOf s die p).programs then 4 else 0) ∧
      (physOf t die p).audits = min 65535 ((physOf s die p).audits + 1) ∧
      (let drifts := (inArray o.found).map (fun l => (l.level - 256 * cellCode s die p l.row l.col).natAbs);
        (physOf t die p).auditCells = min 65535 (drifts.filter (fun n => decide (256 < n))).length ∧
        (physOf t die p).auditDrift = min 65535 (drifts.foldl max 0)) ∧ SameMemory s t) ∧
  (∀ (dt : Nat) (die : Luna) (s : State), Clocked s → (lunaDie s die).cmd.busy = true →
    (lunaDie s die).cmd.op = 1 → (lunaDie s die).cmd.cancelAt = none → (lunaDie s die).cmd.todo = [] →
    (lunaDie s die).cmd.erase = [] → cmdChannels s die = [] →
    ∃ t, exec (.installComplete dt die) s = .next t ∧ (lunaDie t die).cmd.busy = false ∧
      (lunaDie t die).cmd.result = (if (lunaDie s die).cmd.failed = 0 then 0 else 3) ∧ SameMemory s t) ∧
  (∀ (dt : Nat) (die : Luna) (logical : BitVec 12) (s : State) (w : Swap), Clocked s →
    (lunaDie s die).pending.find? (·.logical == logical.toNat) = some w → (lunaDie s die).cmd.busy = false →
    staleLimit s die < diePowered (advance dt s) die - w.seededAt →
    ∃ t, exec (.pendingSwapExpire dt die logical) s = .next t ∧
      (lunaDie t die).pending = (lunaDie s die).pending.filter (· != w) ∧ (physOf t die w.spare).state = 0 ∧
      mapOf t die logical.toNat = mapOf s die logical.toNat ∧
      Logged (refPage die) Evt.SWAP_DISCARDED (die + w.logical * 2 ^ 8 + w.spare * 2 ^ 20 + 2 ^ 33) s t ∧
      SameRegsBut (refPage die) [] s t ∧ SameMemory s t) ∧
  (∀ (dt : Nat) (die : Luna) (phys : BitVec 13) (s : State), Clocked s →
    (trkOf s die phys.toNat).state = 1 → trkOverdue (advance dt s) die phys.toNat = true →
    ∃ t, exec (.trackerStale dt die phys) s = .next t ∧
      trkOf t die phys.toNat = { trkOf s die phys.toNat with state := 2 } ∧
      (∀ p < physCount, p ≠ phys.toNat → trkOf t die p = trkOf s die p) ∧ t.regs = s.regs ∧ SameMemory s t)

/-- What PICCOLO_SNAP_SEL does (R130, R131). The model's choices in it: log entry 3. -/
def Obligations.PiccoloSnapshot : Prop :=
  ∀ (dt : Nat) (die : Luna) (value : Word) (s : State), HostMay (pgLuna die 2) s →
    let p := fld value 12 0
    ∃ t, exec (.piccoloSnapSel dt die value) s = .next t ∧
      reg t (picReg die 0x13C) = word (p + (if p < physCount then 2 ^ 31 else 0)) ∧
      (∀ k < 6, reg t (picReg die (0x140 + 4 * k)) = if p < physCount then
          word (byteField (trackerBytes (advance dt s) die p ++ marginBytes (marginOf s die p)) (4 * k) (4 * k + 3)) else 0) ∧
      (∀ a, a ≠ picReg die 0x13C → (∀ k < 6, a ≠ picReg die (0x140 + 4 * k)) → reg t a = reg s a) ∧
      t.log = s.log ∧ SameMemory s t

/-- What page CRCs and prefix ageing do (R342, R354). The model's choices in it: log entry 3. -/
def Obligations.KvClocks : Prop :=
  (∀ (dt : Nat) (entry : BitVec 24) (s : State), Clocked s → entry.toNat ∈ s.kv.crcDue →
    startOpen (advance dt s) 7 = true → (pte s entry.toNat).valid = true → (pte s entry.toNat).parked = false →
    let a := pageAddr s (pte s entry.toNat).phys
    (a + 512 ≤ pteAddr s entry.toNat ∨ pteAddr s entry.toNat + 16 ≤ a) →
    ∃ t, exec (.pageCrcCompute dt entry) s = .next t ∧ entry.toNat ∉ t.kv.crcDue ∧
      pte t entry.toNat = { pte s entry.toNat with crcValid := true } ∧
      (∀ l < kvLayers s, hbmRead t (a + 64 + 4 * l) 4 = toBytes 4 (crc32c (hbmRead s (sectionAt a l) 5632))) ∧
      (∀ x, (x < a ∨ a + 512 ≤ x) → (x < pteAddr s entry.toNat ∨ pteAddr s entry.toNat + 16 ≤ x) →
        hbmByte t x = hbmByte s x) ∧ t.mem.spad = s.mem.spad ∧ t.mem.hbmPoison = s.mem.hbmPoison ∧ t.regs = s.regs) ∧
  (∀ (dt : Nat) (s : State), Clocked s → s.kv.aged < poweredNow (advance dt s) →
    ∃ t, exec (.prefixAgeTick dt) s = .next t ∧ t.kv.aged = s.kv.aged + 1 ∧
      (∀ sl < 8388608, byteField (prefixEntry t sl) 22 23 = byteField (prefixEntry s sl) 22 23 +
        (if prefixIsValid (prefixEntry s sl) = true ∧ byteField (prefixEntry s sl) 22 23 < 65535 then 1 else 0)) ∧
      t.mem.spad = s.mem.spad ∧ t.mem.hbmPoison = s.mem.hbmPoison ∧ t.regs = s.regs)

/-- What scrubbing, bank repair and row retirement do (R283, R285, R299, R301, R302). The model's choices in it: log
entries 3 and 50. -/
def Obligations.MemoryCommands : Prop :=
  (∀ (dt : Nat) (die : Die) (w : BitVec 26) (c u : Bool) (s : State), Clocked s → w.toNat < spadWords die →
    regFld s (spadReg die 0x104) 7 0 ≠ 0 → startOpen (advance dt s) 7 = true → scrubNext (advance dt s) die ≤ w.toNat →
    ∃ t, exec (.spadScrub dt die w c u) s = .next t ∧
      mget (0, 0) t.mem.scrubAt die = (scrubPeriod (advance dt s) die, w.toNat + 1) ∧
      (c = true → u = false → reg t (spadReg die 0x128) = satAdd (reg s (spadReg die 0x128)) 1 ∧
        mget 0 t.log.breathCount (Evt.SPAD_ECC_CORRECTED * 2 ^ 32 + die.val) =
          mget 0 s.log.breathCount (Evt.SPAD_ECC_CORRECTED * 2 ^ 32 + die.val) + 1 ∧
        ∀ a, a ≠ spadReg die 0x128 → reg t a = reg s a) ∧
      (u = true → reg t (spadReg die 0x12C) = satAdd (reg s (spadReg die 0x12C)) 1 ∧
        reg t (spadReg die 0x128) = reg s (spadReg die 0x128)) ∧
      (c = false → u = false → t.regs = s.regs ∧ t.log = s.log) ∧ SameMemory s t) ∧
  (∀ (dt : Nat) (die : Die) (failed : List Nat) (s : State), Clocked s →
    mget false s.mem.selfTest die = true →
    ∃ t, exec (.spadSelfTestEnd dt die failed) s = .next t ∧ mget false t.mem.selfTest die = false ∧
      failedBanks t die = failed ∧ (banksNeeding t die failed = [] → t.log = s.log) ∧
      SameRegsBut (spadPage die) [] s t ∧ SameMemory s t) ∧
  (∀ (dt : Nat) (die : Die) (s : State), HostMay (pgSpad die) s → s.seq.state = .stopped →
    let need := banksNeeding s die (failedBanks s die)
    let free := (List.range 4).filter (fun k => !spareUsed s die k && !spareBad s die k)
    ∃ t, exec (.spadRepair dt die) s = .next t ∧
      flag (reg t (spadReg die 0x100)) 31 = decide (free.length < need.length) ∧
      (if free.length < need.length then t.nvm = s.nvm ∧ t.mem = s.mem
        else mget false t.mem.selfTest die = true ∧
          (∀ k < need.length, fld (mget 0 t.nvm.banks die) (7 * free.getD k 0 + 6) (7 * free.getD k 0) = need.getD k 0)) ∧
      (∀ a, a ≠ spadReg die 0x100 → reg t a = reg s a) ∧ t.log = s.log ∧ SameMemory s t) ∧
  (∀ (dt : Nat) (stack : Stack) (row : BitVec 27) (s : State), HostMay (pgHbm stack) s → s.seq.state = .stopped →
    flag (reg s (ra (pgHbm stack) 0x114)) 31 = false → row.toNat < 75497472 → rowsRetired s stack < 1024 →
    ∃ t, exec (.hbmRetire dt stack row) s = .next t ∧ reg t (ra (pgHbm stack) 0x114) = 0x80000000 ∧
      find? t.mem.retiring stack = some row.toNat ∧
      (∀ a, a ≠ ra (pgHbm stack) 0x114 → reg t a = reg s a) ∧ t.log = s.log ∧ SameMemory s t) ∧
  (∀ (dt : Nat) (stack : Stack) (corr bad : List (Fin 16)) (s : State) (row : Nat), Clocked s →
    find? s.mem.retiring stack = some row →
    ∃ t, exec (.hbmRowRetired dt stack corr bad) s = .next t ∧ find? t.mem.retiring stack = none ∧
      t.nvm.rows = s.nvm.rows ++ [stack.val * 2 ^ 27 + row] ∧ reg t (ra (pgHbm stack) 0x114) = 0 ∧
      (∀ b, burstPoison t b = (burstPoison s b || bad.any (fun k => stack.val * 2 ^ 31 + row * 16 + k.val == b))) ∧
      (corr = [] → bad = [] → Logged (pgHbm stack) Evt.HBM_ROW_RETIRED (stack + row * 2 ^ 8 + rowsRetired t stack * 2 ^ 35) s t) ∧
      t.mem.hbm = s.mem.hbm ∧ t.mem.spad = s.mem.spad ∧ SameRegsBut (pgHbm stack)
        [ra (pgHbm stack) 0x114, ra (pgHbm stack) 0x104, ra (pgHbm stack) 0x108] s t)

/-- What the NVM record area's commands do (R571, R572, R575, R578). The model's choices in it: log entries 3, 25,
26 and 27. -/
def Obligations.NvmCommands : Prop :=
  (∀ (dt : Nat) (nvm : List (Fin 21 × NvmObs)) (s : State), Clocked s →
    s.boot.hour < modulePowered (advance dt s) / 3600 →
    ∃ t, exec (.lifeRecordWrite dt nvm) s = .next t ∧ t.boot.hour = modulePowered (advance dt s) / 3600 ∧
      (∀ d < 20, (∀ e ∈ nvm, e.1.val = d → e.2.uncorrectable = false) →
        (mget {} t.nvm.life d).poweredS = (mget {} s.life d).poweredS + poweredNow (advance dt s)) ∧
      (∀ d < 20, (∃ e ∈ nvm, e.1.val = d ∧ e.2.uncorrectable = true) → s.nvm.spares = 0 →
        mget {} t.nvm.life d = mget {} s.nvm.life d) ∧
      ((∀ e ∈ nvm, e.1.val = 20 → e.2.uncorrectable = false) → t.nvm.modLife.poweredS = modulePowered (advance dt s)) ∧
      t.nvm.spares = s.nvm.spares - (nvm.filter (fun e => e.2.uncorrectable)).length ∧
      (∀ a, eventReg 8 a = false → (∀ d < 16, eventReg (refPage d) a = false) → a ≠ Reg.NVREC_ECC_CORR_COUNT →
        a ≠ Reg.NVREC_ECC_UNCORR_COUNT → reg t a = reg s a) ∧ SameMemory s t) ∧
  (∀ (dt : Nat) (v : Word) (s : State), HostMay 8 s → s.boot.hostTimeSet = false →
    ∃ t, exec (.nvrecHostTime dt false v) s = .next t ∧ find? t.regs.heldLow Reg.NVREC_HOST_TIME = some v ∧
      (∀ a, reg t a = reg s a) ∧ t.boot = s.boot ∧ t.modLife = s.modLife ∧ SameMemory s t) ∧
  (∀ (dt : Nat) (v : Word) (s : State), HostMay 8 s → s.boot.hostTimeSet = false →
    let low := (find? s.regs.heldLow Reg.NVREC_HOST_TIME).getD (reg s Reg.NVREC_HOST_TIME)
    ∃ t, exec (.nvrecHostTime dt true v) s = .next t ∧ t.boot.hostTimeSet = true ∧
      reg t Reg.NVREC_HOST_TIME = low ∧ reg t (Reg.NVREC_HOST_TIME + 4) = v ∧
      t.modLife.hostTime = low.toNat + v.toNat * 2 ^ 32 ∧
      (∀ a, a ≠ Reg.NVREC_HOST_TIME → a ≠ Reg.NVREC_HOST_TIME + 4 → reg t a = reg s a) ∧ SameMemory s t) ∧
  (∀ (dt : Nat) (units : BitVec 12) (s : State), HostMay 8 s → s.boot.fwBusy = none → s.seq.state = .stopped →
    exec (.nvrecFwWrite dt units) s = .next { advance dt s with
      boot := { s.boot with fwBusy := some (1, units.toNat) } }) ∧
  (∀ (dt : Nat) (units : BitVec 12) (s : State), HostMay 8 s → s.boot.fwBusy = none → s.seq.state ≠ .stopped →
    ∃ t, exec (.nvrecFwWrite dt units) s = .next t ∧ t.boot.fwResult = 4 ∧ t.boot.fwBusy = none ∧
      Logged 0 Evt.GLOBAL_CMD_INVALID (Reg.NVREC_FW_CMD % 0x1000 + (2 ^ 28 + units.toNat) * 2 ^ 12) s t ∧ SameRegsBut 0 [] s t ∧
      SameMemory s t) ∧
  (∀ (dt : Nat) (copy : Bool) (s : State), HostMay 8 s → s.boot.fwBusy = none →
    exec (.nvrecFwSelect dt copy) s = .next { advance dt s with
      boot := { s.boot with fwBusy := some (2, if copy then 1 else 0) } }) ∧
  (∀ (dt : Nat) (s : State) (op arg : Nat), Clocked s → s.boot.fwBusy = some (op, arg) →
    let r := if op = 1 then fwWriteResult s arg else 0
    ∃ t, exec (.fwUpdateDone dt) s = .next t ∧ t.boot.fwBusy = none ∧ t.boot.fwResult = r ∧
      (if r ≠ 0 then Logged 8 Evt.FW_UPDATE_FAIL r s t ∧ t.nvm = s.nvm
        else if op = 1 then Logged 8 Evt.FW_UPDATE_DONE (1 + (if s.boot.fwCopy then 0 else 16)) s t ∧
          t.nvm.fwPref = s.nvm.fwPref ∧ (if s.boot.fwCopy then t.nvm.fwDigest.2 = s.nvm.fwDigest.2
            else t.nvm.fwDigest.1 = s.nvm.fwDigest.1)
        else Logged 8 Evt.FW_UPDATE_DONE (2 + 16 * (arg % 2)) s t ∧ t.nvm.fwPref = (arg % 2 == 1) ∧
          t.nvm.fwDigest = s.nvm.fwDigest) ∧ SameRegsBut 8 [] s t ∧ SameMemory s t)

/-- What the event log's writer and reader do (R556, R557, R558, R559, R616). The model's choices in it: log entries
3, 20 and 21. -/
def Obligations.EventLogCommands : Prop :=
  (∀ (dt : Nat) (s : State) (e : Event) (q : List Event), Clocked s → writerDue (advance dt s) = true →
    s.log.dropped = 0 → s.log.queue = e :: q → (logFull s = false ∨ stopMode s = false) →
    let a := recordAddr s (logWriteIx s)
    ∃ t, exec (.evtlogRecordWrite dt) s = .next t ∧ t.log.queue = q ∧
      reg t Reg.EVTLOG_WRITE = reg s Reg.EVTLOG_WRITE + 1 ∧ hbmRead t a 32 = eventBytes e ∧
      (∀ x, (x < a - 32 ∨ a + 32 ≤ x) → hbmByte t x = hbmByte s x) ∧
      reg t Reg.EVTLOG_READ = (if logFull s then reg s Reg.EVTLOG_READ + 1 else reg s Reg.EVTLOG_READ) ∧
      reg t Reg.EVTLOG_LOST_COUNT =
        (if logFull s then satAdd (reg s Reg.EVTLOG_LOST_COUNT) 1 else reg s Reg.EVTLOG_LOST_COUNT) ∧
      (∀ x, x ≠ Reg.EVTLOG_WRITE → x ≠ Reg.EVTLOG_READ → x ≠ Reg.EVTLOG_LOST_COUNT → reg t x = reg s x) ∧
      t.mem.spad = s.mem.spad) ∧
  (∀ (dt : Nat) (index : Word) (s : State), HostMay 7 s →
    ∃ t, exec (.evtlogSel dt index) s = .next t ∧ reg t Reg.EVTLOG_SEL = index ∧
      t.log = { s.log with fetching := some index.toNat } ∧
      (∀ a, a ≠ Reg.EVTLOG_SEL → reg t a = reg s a) ∧ SameMemory s t) ∧
  (∀ (dt : Nat) (s : State) (i : Nat), Clocked s → s.log.fetching = some i →
    hbmPoisoned s (recordAddr s i) 32 = false →
    let b := if indexHeld s i then hbmRead s (recordAddr s i) 32 else []
    ∃ t, exec (.evtlogFetchDone dt) s = .next t ∧ t.log = { s.log with fetching := none } ∧
      (∀ k < 8, reg t (Reg.EVTLOG_RECORD k) = word (byteField b (4 * k) (4 * k + 3))) ∧
      (∀ a, (∀ k < 8, a ≠ Reg.EVTLOG_RECORD k) → reg t a = reg s a) ∧ SameMemory s t) ∧
  (∀ (dt : Nat) (index : Word) (s : State), HostMay 7 s →
    (logWriteIx s + 2 ^ 32 - index.toNat) % 2 ^ 32 < 2 ^ 31 →
    mget 0 (freshCycle (advance dt s)).hwInc Reg.EVTLOG_READ = 0 →
    ∃ t, exec (.evtlogRead dt index) s = .next t ∧ reg t Reg.EVTLOG_READ = index ∧
      (∀ a, a ≠ Reg.EVTLOG_READ → reg t a = reg s a) ∧ t.log.queue = s.log.queue ∧ SameMemory s t) ∧
  (∀ (dt : Nat) (index : Word) (s : State), HostMay 7 s →
    2 ^ 31 ≤ (logWriteIx s + 2 ^ 32 - index.toNat) % 2 ^ 32 →
    ∃ t, exec (.evtlogRead dt index) s = .next t ∧ reg t Reg.EVTLOG_READ = reg s Reg.EVTLOG_READ ∧
      Logged 7 Evt.EVTLOG_CMD_INVALID (Reg.EVTLOG_READ % 0x1000 + index.toNat * 2 ^ 12) s t ∧ SameRegsBut 7 [] s t ∧ SameMemory s t)

/-- What the link layer of a Shawm port does (R486, R487, R488, R491). The model's choices in it: log entries 3 and
67. -/
def Obligations.LinkLayer : Prop :=
  (∀ (dt : Nat) (p : Port) (seq : BitVec 20) (s : State), Clocked s → (portOf s p).up = true →
    (seq - oldestSeq (portOf s p)).toNat < (portOf s p).unacked.length →
    let left := (portOf s p).unacked.drop ((seq - oldestSeq (portOf s p)).toNat + 1)
    ∃ t sent, exec (.ack dt p seq) s = .next t ∧ (portOf t p).unacked = left ++ sent ∧
      (sent ++ (portOf t p).waiting).Perm (portOf s p).waiting ∧
      ((portOf t p).waiting = [] ∨ 512 ≤ (portOf t p).unacked.length) ∧
      (portOf t p).replays = 0 ∧ (∀ q, q ≠ p.val → portOf t q = portOf s q) ∧ t.log = s.log ∧ SameMemory s t) ∧
  (∀ (dt : Nat) (p : Port) (seq : BitVec 20) (s : State), Clocked s → (portOf s p).up = true →
    let x := portOf s p
    let k := (seq - oldestSeq x).toNat
    let n := if x.replaySeq = seq then x.replays + 1 else 1
    k < x.unacked.length →
    ∃ t, exec (.nak dt p seq) s = .next t ∧ (portOf t p).replays = n ∧ (portOf t p).replaySeq = seq ∧
      (portOf t p).unacked = x.unacked ∧
      t.out = s.out ++ (if n ≤ 8 then (((List.range x.unacked.length).zip x.unacked).drop k).map (fun e =>
        let q := (oldestSeq x + BitVec.ofNat 20 e.1).toNat
        Output.frame p q e.2.frame (linkCrc q e.2)) else []) ∧
      reg t (shawmReg p 0x110) = (if n ≤ 8 then satAdd (reg s (shawmReg p 0x110)) 1 else reg s (shawmReg p 0x110)) ∧
      SameMemory s t) ∧
  (∀ (dt : Nat) (p : Port) (s : State), Clocked s → (portOf s p).up = true → (portOf s p).unacked ≠ [] →
    (portOf s p).oldestAt + 3200 ≤ s.clk.now + dt →
    ∃ t, exec (.shawmReplayTimeout dt p) s = .next t ∧ exec (.nak dt p (oldestSeq (portOf s p))) s = .next t ∧
      SameMemory s t) ∧
  (∀ (dt : Nat) (p : Port) (crcBad : Bool) (seq : BitVec 20) (s : State), Clocked s → (portOf s p).up = true →
    (crcBad = true ∨ seq ≠ (portOf s p).rxSeq) →
    ∃ t, exec (.frameCrcError dt p crcBad seq) s = .next t ∧
      portOf t p = { portOf s p with nakSent := true } ∧
      t.out = s.out ++ (if (portOf s p).nakSent then [] else [.link p 2 [(portOf s p).rxSeq.toNat]]) ∧
      reg t (shawmReg p 0x114) = (if crcBad then satAdd (reg s (shawmReg p 0x114)) 1 else reg s (shawmReg p 0x114)) ∧
      (∀ a, a ≠ shawmReg p 0x114 → reg t a = reg s a) ∧ SameMemory s t) ∧
  (∀ (dt : Nat) (p : Port) (s : State), Clocked s → (portOf s p).up = true →
    ∃ t, exec (.shawmAckTimer dt p) s = .next t ∧ t.out = s.out ++ [.link p 1 [((portOf s p).rxSeq - 1).toNat]] ∧
      portOf t p = { portOf s p with
        sinceAck := 0
        ackAt := s.clk.now + dt } ∧ t.regs = s.regs ∧ SameMemory s t) ∧
  (∀ (dt : Nat) (f : AnyFrame) (s : State), Clocked s → (portOf s f.port).up = true → frameCause s f ≠ 0 →
    ∃ t, exec (.shawmFrameInvalid dt f) s = .next t ∧ (portOf t f.port).rxSeq = (portOf s f.port).rxSeq + 1 ∧
      Logged (pgShawm f.port) Evt.SHAWM_FRAME_INVALID (f.port + f.type.toNat * 2 ^ 2 + frameCause s f * 2 ^ 6) s t ∧
      SameMemory s t)

/-- What HELLO, training, retraining and a link's end do (R480, R481, R482, R483, R487, R495). The model's choices
in it: log entries 3, 67 and 68. -/
def Obligations.LinkTraining : Prop :=
  (∀ (dt : Nat) (p : Port) (h : Hello) (s : State), Clocked s → (portOf s p).up = true →
    ∃ t, exec (.hello dt p h) s = .next t ∧ (portOf t p).hello = some h ∧
      (portOf t p).partner = h.y.toNat * dimX s + h.x.toNat ∧ (portOf t p).helloOk = helloPasses s p h ∧
      (t.fabric.routeOk = true ↔ ∀ q < 4, (portOf t q).up = true → (portOf t q).helloOk = true) ∧
      (if helloPasses s p h then t.log = s.log else Logged (pgShawm p) Evt.SHAWM_WIRING
        (p + h.x.toNat * 2 ^ 2 + h.y.toNat * 2 ^ 5 + (neighbour s p).1 * 2 ^ 8 + (neighbour s p).2 * 2 ^ 11) s t) ∧
      SameRegsBut (pgShawm p) [] s t ∧ SameMemory s t) ∧
  (∀ (dt : Nat) (v : Word) (s : State), HostMay 0 s → s.seq.state = .stopped → machineValid v = true →
    ∃ t, exec (.shawmMachineWrite dt v) s = .next t ∧ reg t Reg.SHAWM_MACHINE = v &&& 0x770F ∧
      (∀ a, a ≠ Reg.SHAWM_MACHINE → reg t a = reg s a) ∧
      (∀ p < 4, (portOf t p).up = (portOf s p).up ∧ (portOf t p).helloOk = (match (portOf s p).hello with
        | none => false
        | some h => helloPasses t p h)) ∧
      (t.fabric.routeOk = true ↔ ∀ q < 4, (portOf t q).up = true → (portOf t q).helloOk = true) ∧
      (∀ p < 4, (portOf s p).up = true → Output.link p 3 [myX t, myY t, regFld t Reg.SHAWM_MACHINE 3 0] ∈ t.out) ∧
      t.log = s.log ∧ SameMemory s t) ∧
  (∀ (dt : Nat) (p : Port) (o : PortObs) (s : State), Clocked s → (portOf s p).training = true →
    let ok := o.partner = true ∧ o.laneFail = [] ∧ o.partnerTxSpare.toNat = spareOf s p % 16 ∧
      o.partnerRxSpare.toNat = spareOf s p / 16
    ∃ t, exec (.shawmTrainingEnd dt p o) s = .next t ∧
      (ok → (portOf t p).up = true ∧ (portOf t p).delay = o.delay.toNat ∧ (portOf t p).txSeq = 0 ∧
        (portOf t p).rxSeq = 0 ∧ t.log = s.log ∧
        t.out = s.out ++ [.link p 3 [myX s, myY s, regFld s Reg.SHAWM_MACHINE 3 0]]) ∧
      (¬ ok → (portOf t p).up = false ∧ (portOf t p).trainFail = true) ∧ (portOf t p).training = false ∧
      SameRegsBut (pgShawm p) [] s t ∧ SameMemory s t) ∧
  (∀ (dt : Nat) (p : Port) (tx rx : BitVec 4) (s : State), HostMay (pgShawm p) s → s.seq.state = .stopped →
    ¬ (8 ≤ tx.toNat ∧ tx.toNat ≤ 14) → ¬ (8 ≤ rx.toNat ∧ rx.toNat ≤ 14) →
    ∃ t, exec (.shawmRetrain dt p tx rx) s = .next t ∧ spareOf t p = tx.toNat * 16 + rx.toNat ∧
      (portOf t p).up = false ∧
      (portOf t p).training = (flag (reg s (shawmReg p 0x104)) 0 && !portDisabled s p) ∧
      (∀ a, reg t a = reg s a) ∧ t.log = s.log ∧ SameMemory s t) ∧
  (∀ (dt : Nat) (p : Port) (cause : BitVec 2) (dir : Bool) (lane : BitVec 4) (s : State), Clocked s →
    (portOf s p).up = true → cause ≠ 0 → (cause = 1 → 8 < (portOf s p).replays) →
    ∃ t, exec (.shawmLinkDown dt p cause dir lane) s = .next t ∧ (portOf t p).up = false ∧
      (portOf t p).unacked = [] ∧ (portOf t p).waiting = [] ∧ t.seq.fatal.isSome = true ∧
      (s.fabric.routeOk = true → ∀ q < 4, q ≠ p.val → (portOf s q).up = true →
        Frame.control false (moduleId s) (moduleId s) 6 [Evt.SHAWM_LINK_DOWN, p, tick (advance dt s) % 2 ^ 32] ∈
          ((portOf t q).unacked ++ (portOf t q).waiting).map (·.frame)) ∧ SameMemory s t) ∧
  (∀ (dt : Nat) (f : FaultNotice) (s : State), Clocked s → (portOf s f.port).up = true →
    (f.src.toNat, f.linkPort.toNat, f.tick.toNat) ∉ s.fabric.notices →
    ∃ t, exec (.faultNotice dt f) s = .next t ∧
      (f.src.toNat, f.linkPort.toNat, f.tick.toNat) ∈ t.fabric.notices ∧ t.seq.fatal.isSome = true ∧
      (∀ e ∈ t.mem.threads, e.2.phase ≠ .waitReply) ∧ SameMemory s t)

/-- What the Drone synchroniser's commands do (R505, R506, R507, R508). The model's choices in it: log entries 3 and
69. -/
def Obligations.DroneCommands : Prop :=
  (∀ (dt : Nat) (s : State), Clocked s →
    let d := (advance dt s).drone
    d.corr ≠ 0 → d.lastCorr + d.every ≤ d.count → (0 < d.corr → d.count % 800 ≠ 0) →
    ∃ t, exec (.droneCorrection dt) s = .next t ∧
      t.drone.count = (if 0 < d.corr then d.count + 1 else d.count - 1) ∧
      t.drone.corr = (if 0 < d.corr then d.corr - 1 else d.corr + 1) ∧ t.drone.lastCorr = d.count ∧
      t.regs = s.regs ∧ t.log = s.log ∧ SameMemory s t) ∧
  (∀ (dt : Nat) (f : SyncFrame) (s : State), Clocked s → (portOf s f.port).up = true → f.src = 0 → isLead s = false →
    flag (reg s Reg.DRONE_CONFIG) 0 = true →
    let path := f.accum.toNat + (portOf s f.port).delay
    let theta : Int := (f.arrival : Int) - (f.master : Int) - (path : Int)
    ∃ t, exec (.sync dt f) s = .next t ∧ t.drone.theta = theta ∧ t.drone.path = path ∧ t.drone.synced = true ∧
      t.drone.missed = 0 ∧ reg t Reg.DRONE_SYNC_COUNT = satAdd (reg s Reg.DRONE_SYNC_COUNT) 1 ∧
      (s.seq.state = .stopped → (s.drone.state = .free ∨ s.drone.armed = true) →
        t.drone.state = .acquiring ∧ t.drone.count = ((tick (advance dt s) : Int) - Int.tdiv theta 16).toNat ∧
          t.breath.number = f.breathNumber ∧ t.drone.armed = false) ∧
      SameMemory s t) ∧
  (∀ (dt : Nat) (s : State), Clocked s → s.drone.state = .locked → 4 ≤ s.drone.missed →
    ∃ t, exec (.droneHoldover dt) s = .next t ∧ t.drone.state = .holdover ∧
      Logged 6 Evt.DRONE_HOLDOVER s.drone.missed s t ∧ SameRegsBut 6 [] s t ∧ SameMemory s t) ∧
  (∀ (dt : Nat) (s : State), HostMay 6 s → s.seq.state = .stopped → isLead s = false →
    ∃ t, exec (.resync dt) s = .next t ∧ t.drone.armed = true ∧
      reg t Reg.DRONE_CONFIG = word (fld (reg s Reg.DRONE_CONFIG) 0 0) ∧
      (∀ a, a ≠ Reg.DRONE_CONFIG → reg t a = reg s a) ∧ t.log = s.log ∧ SameMemory s t)

/-- What the lead's tunnel windows and tunnel frames do (R496, R498, R521, R522). The model's choices in it: log
entries 3 and 70. -/
def Obligations.TunnelCommands : Prop :=
  (∀ (dt : Nat) (w : Fin 3) (o : BitVec 24) (v : Word) (s : State), s.clk.powered = true → s.host.d3hot = false →
    isLead s = true → o.toNat % 4 = 0 → tunnelTarget s w = 0 →
    exec (.tunnelWindowWrite dt w o v) s =
      .next { localWrite o.toNat v (bump Reg.TUNNEL_WRITE_COUNT 1 (advance dt s)) with pending := s.pending }) ∧
  (∀ (dt : Nat) (w : Fin 3) (o : BitVec 24) (v : Word) (s : State), s.clk.powered = true → s.host.d3hot = false →
    isLead s = true → o.toNat % 4 = 0 → tunnelTarget s w ≠ 0 → tunnelLost s w = true →
    ∃ t, exec (.tunnelWindowWrite dt w o v) s = .next t ∧
      Logged 0xB Evt.TUNNEL_TARGET_INVALID (w + tunnelTarget s w * 2 ^ 2) s t ∧ SameMemory s t) ∧
  (∀ (dt : Nat) (w : Fin 3) (o : BitVec 24) (v : Word) (s : State) (p : Nat) (wrap : Bool), s.clk.powered = true →
    s.host.d3hot = false → isLead s = true → o.toNat % 4 = 0 → tunnelTarget s w ≠ 0 → tunnelLost s w = false →
    routePort s (tunnelTarget s w) = some (p, wrap) → (portOf s p).up = true →
    ∃ t, exec (.tunnelWindowWrite dt w o v) s = .next t ∧
      reg t Reg.TUNNEL_WRITE_COUNT = satAdd (reg s Reg.TUNNEL_WRITE_COUNT) 1 ∧ SameMemory s t ∧
      mget 0 t.fabric.tagNext w = (mget 0 s.fabric.tagNext w + 1) % 256 ∧
      Frame.control wrap (moduleId s) (tunnelTarget s w) 2 [o.toNat, v.toNat, w, mget 0 s.fabric.tagNext w] ∈
        ((portOf t p).unacked ++ (portOf t p).waiting).map (·.frame)) ∧
  (∀ (dt : Nat) (w : Fin 3) (o : BitVec 24) (s : State), s.clk.powered = true → s.host.d3hot = false →
    isLead s = true → o.toNat % 4 = 0 → tunnelTarget s w = 0 →
    ∃ t, exec (.tunnelWindowRead dt w o) s = .next t ∧ SameMemory s t ∧
      t.out = s.out ++ [.hostData (localRead o.toNat (bump Reg.TUNNEL_READ_COUNT 1 (advance dt s))).1]) ∧
  (∀ (dt : Nat) (w : Fin 3) (o : BitVec 24) (s : State), s.clk.powered = true → s.host.d3hot = false →
    isLead s = true → o.toNat % 4 = 0 → tunnelTarget s w ≠ 0 → tunnelLost s w = true →
    ∃ t, exec (.tunnelWindowRead dt w o) s = .next t ∧ Output.hostData 0xFFFFFFFF ∈ t.out ∧ SameMemory s t ∧
      Logged 0xB Evt.TUNNEL_TARGET_INVALID (w + tunnelTarget s w * 2 ^ 2) s t) ∧
  (∀ (dt : Nat) (w : Fin 3) (o : BitVec 24) (s : State) (p : Nat) (wrap : Bool), s.clk.powered = true →
    s.host.d3hot = false → isLead s = true → o.toNat % 4 = 0 → tunnelTarget s w ≠ 0 → tunnelLost s w = false →
    (readsOf s w).length < 16 → routePort s (tunnelTarget s w) = some (p, wrap) → (portOf s p).up = true →
    ∃ t, exec (.tunnelWindowRead dt w o) s = .next t ∧
      t.fabric.reads = s.fabric.reads ++ [
        { window := w, tag := mget 0 s.fabric.tagNext w, target := tunnelTarget s w, offset := o.toNat, sent := tick (advance dt s) }] ∧
      reg t Reg.TUNNEL_READ_COUNT = satAdd (reg s Reg.TUNNEL_READ_COUNT) 1 ∧ SameMemory s t ∧
      mget 0 t.fabric.tagNext w = (mget 0 s.fabric.tagNext w + 1) % 256 ∧
      Frame.control wrap (moduleId s) (tunnelTarget s w) 3 [o.toNat, 0, w, mget 0 s.fabric.tagNext w] ∈
        ((portOf t p).unacked ++ (portOf t p).waiting).map (·.frame)) ∧
  (∀ (dt : Nat) (f : TunnelFrame) (s : State), Clocked s → (portOf s f.port).up = true →
    f.dst.toNat = moduleId s → moduleId s < machineSize s → f.window ≠ 3 → f.offset.toNat % 4 = 0 →
    exec (.tunnelWr dt f) s =
      .next { localWrite f.offset.toNat f.data (accept f.port 0 (advance dt s)) with pending := s.pending }) ∧
  (∀ (dt : Nat) (f : TunnelFrame) (s : State) (p : Nat) (wrap : Bool), Clocked s →
    (portOf s f.port).up = true → f.dst.toNat = moduleId s → moduleId s < machineSize s → f.window ≠ 3 →
    f.offset.toNat % 4 = 0 → f.data = 0 → s.fabric.routeOk = true → routePort s f.src.toNat = some (p, wrap) →
    (portOf s p).up = true →
    ∃ t, exec (.tunnelRd dt f) s = .next t ∧ SameMemory s t ∧
      Frame.control wrap (moduleId s) f.src.toNat 4
        [0, (localRead f.offset.toNat (accept f.port 0 (advance dt s))).1.toNat, f.window.toNat, f.tag.toNat] ∈
          ((portOf t p).unacked ++ (portOf t p).waiting).map (·.frame)) ∧
  (∀ (dt : Nat) (f : TunnelFrame) (s : State) (r : TunnelRead), Clocked s → (portOf s f.port).up = true →
    f.dst.toNat = moduleId s → moduleId s < machineSize s → f.window ≠ 3 → f.offset = 0 →
    s.fabric.reads.find? (fun r => r.window == f.window.toNat && r.tag == f.tag.toNat) = some r →
    ∃ t, exec (.tunnelRsp dt f) s = .next t ∧ Output.hostData f.data ∈ t.out ∧
      t.fabric.reads = s.fabric.reads.erase r ∧ t.log = s.log ∧ SameMemory s t) ∧
  (∀ (dt : Nat) (w : Fin 3) (tag : BitVec 8) (s : State) (r : TunnelRead), Clocked s →
    s.fabric.reads.find? (fun r => r.window == w.val && r.tag == tag.toNat) = some r →
    r.sent + replyTimeout s ≤ tick (advance dt s) →
    ∃ t, exec (.shawmTunnelTimeout dt w tag) s = .next t ∧ Output.hostData 0xFFFFFFFF ∈ t.out ∧
      t.fabric.reads = s.fabric.reads.erase r ∧
      reg t Reg.TUNNEL_TIMEOUT_COUNT = satAdd (reg s Reg.TUNNEL_TIMEOUT_COUNT) 1 ∧
      Logged 0xB Evt.SHAWM_TUNNEL_TIMEOUT (w + r.target * 2 ^ 2 + r.offset * 2 ^ 8) s t ∧ SameMemory s t)

/-- What event notices and their clearing do (R13, R520). The model's choices in it: log entry 3. -/
def Obligations.RemoteNotices : Prop :=
  (∀ (dt : Nat) (src : BitVec 6) (code : BitVec 16) (sev : BitVec 3) (s : State), Clocked s → isLead s = true →
    (portOf s (arrivalPort s src.toNat)).up = true → sev.toNat < 5 →
    let a := Reg.PCIE_REMOTE_PENDING + 4 * (src.toNat / 32)
    ∃ t, exec (.eventNotice dt src code sev) s = .next t ∧ reg t a = reg s a ||| word (2 ^ (src.toNat % 32)) ∧
      reg t (Reg.PCIE_REMOTE_PENDING + 4 * (1 - src.toNat / 32)) =
        reg s (Reg.PCIE_REMOTE_PENDING + 4 * (1 - src.toNat / 32)) ∧ t.log = s.log ∧ SameMemory s t) ∧
  (∀ (dt : Nat) (high : Bool) (v : Word) (s : State), HostMay 0xA s →
    let a := Reg.PCIE_REMOTE_PENDING + (if high then 4 else 0)
    ∃ t, exec (.pcieRemotePendingClear dt high v) s = .next t ∧
      reg t a = reg s a &&& (~~~ v ||| mget 0 (freshCycle (advance dt s)).hwSet a) ∧
      (∀ b, b ≠ a → b ≠ 0xAC00 → reg t b = reg s b) ∧ t.log = s.log ∧ SameMemory s t)

/-- What a record of a broadcast stream does (R502, R503, R544, R545). The model's choices in it: log entries 3, 71
and 72. -/
def Obligations.BroadcastRecords : Prop :=
  (∀ (dt : Nat) (r : BcastRecord) (s : State), ¬ (r.body.length = 72 * r.length.toNat ∧ r.digest.length = 32) →
    exec (.bcastRecord dt r) s = .fault (.illFormed "BCAST_RECORD")) ∧
  (∀ (dt : Nat) (r : BcastRecord) (s : State), Clocked s → r.body.length = 72 * r.length.toNat → r.digest.length = 32 →
    flag (reg s Reg.BCAST_CONTROL) 0 = false →
    exec (.bcastRecord dt r) s = .next (advance dt s)) ∧
  (∀ (dt : Nat) (r : BcastRecord) (s : State), Clocked s → r.body.length = 72 * r.length.toNat → r.digest.length = 32 →
    flag (reg s Reg.BCAST_CONTROL) 0 = true → r.mask.getLsbD (moduleId s) = true → recordCause s r ≠ 0 →
    ∃ t, exec (.bcastRecord dt r) s = .next t ∧
      reg t Reg.BCAST_FAIL_COUNT = satAdd (reg s Reg.BCAST_FAIL_COUNT) 1 ∧ flag (reg t Reg.BCAST_STATUS) 31 = true) ∧
  (∀ (dt : Nat) (r : BcastRecord) (s : State), Clocked s → r.body.length = 72 * r.length.toNat → r.digest.length = 32 →
    flag (reg s Reg.BCAST_CONTROL) 0 = true → r.mask.getLsbD (moduleId s) = true → recordCause s r = 0 → r.number = 0 →
    ∃ t, exec (.bcastRecord dt r) s = .next t ∧ t.secure.stream.records = manCount r.body ∧
      t.secure.stream.stored = 1 ∧ t.secure.stream.root = (r.body.drop 24).take 32 ∧
      t.secure.shadowOk = (s.secure.shadowOk && manKind r.body == 2) ∧
      t.secure.storeOk = (s.secure.storeOk && manKind r.body != 2) ∧ t.mem.hbm = s.mem.hbm) ∧
  (∀ (dt : Nat) (r : BcastRecord) (s : State), Clocked s → r.body.length = 72 * r.length.toNat → r.digest.length = 32 →
    flag (reg s Reg.BCAST_CONTROL) 0 = true → r.mask.getLsbD (moduleId s) = true → recordCause s r = 0 → r.number ≠ 0 →
    s.secure.stream.result = 1 → r.number.toNat = s.secure.stream.passed + 1 →
    r.number.toNat < s.secure.stream.records → r.digest = s.secure.stream.leaves.getD (r.number.toNat - 1) [] →
    ∃ t, exec (.bcastRecord dt r) s = .next t ∧ t.secure.stream.passed = r.number.toNat ∧
      t.secure.stream.stored = s.secure.stream.stored + 1 ∧ t.secure.stream.result = 1 ∧ t.log = s.log ∧
      (∀ a, recordPlace r = some (.hbm a) → hbmRead t a r.body.length = r.body ∧ t.mem.spad = s.mem.spad))

/-- What STEP_COMMIT, COMMIT_DONE, GO and the commit timeout do (R389, R390, R391, R392). The model's choices in it:
log entries 3, 55, 57 and 58. -/
def Obligations.ServingCommits : Prop :=
  (∀ (dt : Nat) (s : State), Clocked s → commitDue (advance dt s) = true →
    ∃ t, exec (.stepCommit dt) s = .next t ∧ stepNumber t = (stepNumber s + 1) % 2 ^ 48 ∧ t.fmt.cmds = [] ∧
      t.adapt.cmd = none ∧ t.seq.ending = false ∧ t.boot.committed = true ∧
      (isLead s = false → t.serve.waiting = true ∧ t.serve.go = none)) ∧
  (∀ (dt : Nat) (s : State), Clocked s → commitDue (advance dt s) = false →
    exec (.stepCommit dt) s = .next (advance dt s)) ∧
  (∀ (dt : Nat) (m : CommitMsg) (s : State), Clocked s → isLead s = true → m.src ≠ 0 →
    m.src.toNat < machineSize s → (portOf s (arrivalPort s m.src.toNat)).up = true → messageOk m.items = true →
    m.step.toNat = awaited s → s.serve.lead.ownAt.isSome = true → s.seq.fatal = none → s.seq.state ≠ .halted →
    (∀ k < machineSize s, k ≠ m.src.toNat → (find? s.serve.lead.done k).isSome = true) →
    ∃ t, exec (.commitDone dt m) s = .next t ∧ t.serve.lead.done = [] ∧ t.serve.lead.ownAt = none ∧
      t.serve.waiting = false) ∧
  (∀ (dt : Nat) (m : CommitMsg) (s : State) (k : Nat), Clocked s → isLead s = true → m.src ≠ 0 →
    m.src.toNat < machineSize s → (portOf s (arrivalPort s m.src.toNat)).up = true → messageOk m.items = true →
    m.step.toNat = awaited s → k < machineSize s → k ≠ m.src.toNat → (find? s.serve.lead.done k).isNone = true →
    ∃ t, exec (.commitDone dt m) s = .next t ∧ t.serve.lead.done = mput s.serve.lead.done m.src.toNat m ∧
      t.serve.lead.ownAt = s.serve.lead.ownAt ∧ t.log = s.log ∧ SameMemory s t) ∧
  (∀ (dt : Nat) (s : State) (t0 k : Nat), Clocked s → isLead s = true → s.serve.lead.ownAt = some t0 →
    t0 + max 2400 (force s Reg.HAWK_COMMIT_TIMEOUT).toNat ≤ tick (advance dt s) →
    (List.range (machineSize s)).find? (fun m => (find? s.serve.lead.done m).isNone) = some k →
    ∃ t, exec (.serveCommitTimeout dt) s = .next t ∧ t.serve.lead.ownAt = none ∧
      Logged 2 Evt.SERVE_COMMIT_TIMEOUT (stepNumber s + k * 2 ^ 48) s t ∧ SameRegsBut 2 [] s t ∧ SameMemory s t) ∧
  (∀ (dt : Nat) (m : GoMsg) (s : State), Clocked s → isLead s = false → s.serve.waiting = true →
    m.step.toNat = stepNumber s + 1 → (portOf s (arrivalPort s 0)).up = true → messageOk m.items = true →
    ∃ t, exec (.go dt m) s = .next t ∧ t.serve.waiting = false ∧ reg64 t Reg.SEQ_STEP_START = m.start.toNat ∧
      fld (reg t Reg.HAWK_CONFIG) 1 0 = m.role.toNat % 4 ∧ t.serve.go = some m)

/-- What the Hawk cores' commands do (R384, R385, R387, R399, R518). The model's choices in it: log entries 3 and
59. -/
def Obligations.HawkCommands : Prop :=
  (∀ (dt : Nat) (core : Fin 8) (s : State), HostMay 2 s → s.seq.state = .stopped →
    regFld s Reg.HAWK_STATUS 15 12 = 15 →
    ∃ t, exec (.hawkSpare dt core) s = .next t ∧ regFld t Reg.HAWK_STATUS 15 12 = core.val ∧
      flag (reg t Reg.HAWK_STATUS) core = true ∧ (∀ a, a ≠ Reg.HAWK_STATUS → reg t a = reg s a) ∧ t.log = s.log ∧
      SameMemory s t) ∧
  (∀ (dt : Nat) (core : Fin 9) (cause : BitVec 2) (s : State), Clocked s → (cause = 1 ∨ cause = 2) →
    let c := if core.val = 8 then regFld s Reg.HAWK_STATUS 15 12 else core.val
    ∃ t, exec (.hawkCoreFault dt core cause) s = .next t ∧
      (c < 8 → reg t Reg.HAWK_STATUS = putFlag (reg s Reg.HAWK_STATUS) c false) ∧
      Logged 2 Evt.HAWK_CORE_FAULT (core + cause.toNat * 2 ^ 4) s t ∧ SameRegsBut 2 [Reg.HAWK_STATUS] s t ∧
      SameMemory s t) ∧
  (∀ (dt : Nat) (table : BitVec 2) (index : Word) (s : State), Clocked s → table ≠ 0 → table ≠ 1 →
    ∃ t, exec (.serveTableParity dt table index) s = .next t ∧ t.seq.fatal.isSome = true ∧ t.serve = s.serve ∧
      SameRegsBut 2 [] s t ∧ SameMemory s t) ∧
  (∀ (dt : Nat) (index : Word) (s : State), Clocked s → index.toNat < 2097152 →
    let id := tableReq s (index.toNat / 32)
    ∃ t, exec (.serveTableParity dt 1 index) s = .next t ∧ t.seq.fatal = s.seq.fatal ∧
      t.serve = { s.serve with parity := s.serve.parity ++ (if id = 0 then [] else [(id, 1, index.toNat)]) } ∧
      SameRegsBut 2 [] s t ∧ SameMemory s t) ∧
  (∀ (dt : Nat) (writes : List (Word × Bytes)) (tail : Word) (s : State), HostMay 2 s → s.host.d3hot = false →
    isLead s = true → (∀ w ∈ writes, bar2Valid s w.1.toNat w.2.length true = true) →
    (tail - reg s Reg.HAWK_SUB_HEAD).toNat ≤ 2 ^ ringLog2 s Reg.HAWK_SUB_RING →
    ∃ t, exec (.hawkSubTail dt writes tail) s = .next t ∧ reg t Reg.HAWK_SUB_TAIL = tail ∧
      (∀ o, (∀ w ∈ writes, o < w.1.toNat ∨ w.1.toNat + w.2.length ≤ o) →
        mget 0 t.host.bar2 o = mget 0 s.host.bar2 o) ∧
      (∀ ws w, writes = ws ++ [w] → ∀ k < w.2.length, mget 0 t.host.bar2 (w.1.toNat + k) = w.2.getD k 0) ∧
      (∀ a, a ≠ Reg.HAWK_SUB_TAIL → reg t a = reg s a) ∧ t.mem = s.mem ∧ t.log = s.log)

/-- What the PCIe link's commands do (R513, R514, R515, R516, R517). The model's choices in it: log entries 3, 14
and 19. -/
def Obligations.PcieCommands : Prop :=
  (∀ (dt : Nat) (kind : BitVec 2) (s : State), Clocked s → kind ≠ 0 →
    ∃ t, exec (.pcieReset dt kind) s = .next t ∧ t.host.busMaster = false ∧ t.host.d3hot = false ∧
      reg t Reg.PCIE_LINK_STATUS = 0 ∧ (∀ k < 256, reg t (0xA800 + 4 * k) = regReset (0xA800 + 4 * k)) ∧ reg t 0xAC04 = 0 ∧
      Logged 0xA Evt.PCIE_RESET kind.toNat s t ∧
      SameRegsBut 0xA ([Reg.PCIE_LINK_STATUS, 0xAC00, 0xAC04] ++ (List.range 256).map (fun k => 0xA800 + 4 * k)) s t ∧
      SameMemory s t) ∧
  (∀ (dt : Nat) (s : State), Clocked s → s.host.linkUp = true →
    ∃ t, exec (.pcieLinkDown dt) s = .next t ∧ t.host.linkUp = false ∧ regFld t Reg.PCIE_LINK_STATUS 9 9 = 0 ∧
      Logged 0xA Evt.PCIE_LINK_DOWN 0 s t ∧ SameRegsBut 0xA [Reg.PCIE_LINK_STATUS] s t ∧ SameMemory s t) ∧
  (∀ (dt : Nat) (speed : BitVec 4) (width : BitVec 3) (flit : Bool) (s : State), Clocked s →
    1 ≤ speed.toNat → speed.toNat ≤ 6 → (width = 1 ∨ width = 2 ∨ width = 4) → s.host.linkUp = false →
    s.host.refclk = true → s.clk.pwrGood = true →
    ∃ t, exec (.pcieLinkUp dt speed width flit) s = .next t ∧ t.host.linkUp = true ∧
      reg t Reg.PCIE_LINK_STATUS =
        word (speed.toNat + width.toNat * 2 ^ 4 + (if flit then 2 ^ 8 else 0) + 2 ^ 9) ∧
      (speed = 6 → width = 4 → t.log = s.log) ∧
      ((speed.toNat < 6 ∨ width.toNat < 4) →
        Logged 0xA Evt.PCIE_LINK_DEGRADED (speed.toNat + width.toNat * 2 ^ 4) s t) ∧
      SameRegsBut 0xA [Reg.PCIE_LINK_STATUS, 0xAC00, 0xAC04] s t ∧ SameMemory s t) ∧
  (∀ (dt : Nat) (s : State), Clocked s → s.host.linkUp = true →
    let sends := fun (v : Nat) => flag (reg s (0xAC00 + 4 * (v / 32))) (v % 32) = true ∧
      flag (reg s (0xA800 + 16 * v + 12)) 0 = false
    ∃ t, exec (.pcieConfigWrite dt true false) s = .next t ∧ t.host.busMaster = true ∧ t.host.d3hot = false ∧
      (∀ v < 64, sends v → Output.msix v ∈ t.out ∧ flag (reg t (0xAC00 + 4 * (v / 32))) (v % 32) = false) ∧
      (∀ v < 64, ¬ sends v →
        flag (reg t (0xAC00 + 4 * (v / 32))) (v % 32) = flag (reg s (0xAC00 + 4 * (v / 32))) (v % 32)) ∧
      (∀ a, a ≠ 0xAC00 → a ≠ 0xAC04 → reg t a = reg s a) ∧ t.log = s.log ∧ SameMemory s t) ∧
  (∀ (dt : Nat) (bm d3 : Bool) (s : State), Clocked s → (s.host.linkUp = false ∨ bm = false ∨ d3 = true) →
    ∃ t, exec (.pcieConfigWrite dt bm d3) s = .next t ∧ t.host.busMaster = bm ∧ t.host.d3hot = d3 ∧
      t.out = s.out ∧ t.regs = s.regs ∧ t.log = s.log ∧ SameMemory s t) ∧
  (∀ (dt : Nat) (bar : BitVec 2) (offset : Word) (bytes : BitVec 7) (write : Bool) (s : State), Clocked s →
    s.host.d3hot = false →
    (if bar = 2 then bar2Valid s offset.toNat bytes.toNat write = false else bytes ≠ 4 ∨ offset.toNat % 4 ≠ 0) →
    ∃ t, exec (.bar2AccessInvalid dt bar offset bytes write) s = .next t ∧
      reg t Reg.PCIE_ACCESS_INVALID_COUNT = satAdd (reg s Reg.PCIE_ACCESS_INVALID_COUNT) 1 ∧
      Logged 0xA Evt.PCIE_ACCESS_INVALID
        (bar.toNat + offset.toNat * 2 ^ 2 + bytes.toNat * 2 ^ 34 + (if write then 2 ^ 41 else 0)) s t ∧
      (write = false → Output.hostData 0xFFFFFFFF ∈ t.out) ∧
      SameRegsBut 0xA [Reg.PCIE_ACCESS_INVALID_COUNT] s t ∧ SameMemory s t) ∧
  (∀ (dt : Nat) (uncorrectable : Bool) (status : Word) (s : State), Clocked s →
    ∃ t, exec (.aerError dt uncorrectable status) s = .next t ∧
      (uncorrectable = true → reg t Reg.PCIE_UNCORR_COUNT = satAdd (reg s Reg.PCIE_UNCORR_COUNT) 1 ∧
        Logged 0xA Evt.PCIE_UNCORRECTABLE status.toNat s t) ∧
      (uncorrectable = false → reg t Reg.PCIE_CORR_COUNT = satAdd (reg s Reg.PCIE_CORR_COUNT) 1 ∧ t.log = s.log) ∧
      SameRegsBut 0xA [Reg.PCIE_UNCORR_COUNT, Reg.PCIE_CORR_COUNT] s t ∧ SameMemory s t) ∧
  (∀ (dt : Nat) (offset : Word) (s : State), Clocked s →
    ∃ t, exec (.pcieDataPoison dt offset) s = .next t ∧ Output.hostPoison ∈ t.out ∧
      Logged 0xA Evt.PCIE_DATA_POISON offset.toNat s t ∧ SameRegsBut 0xA [] s t ∧ SameMemory s t)

/-- What the Ethernet ports' commands do (R523, R524, R525, R526). The model's choices in it: log entries 3 and 75. -/
def Obligations.EthernetCommands : Prop :=
  (∀ (dt : Nat) (p : EthPort) (bytes : Nat) (f : EthFrame) (s : State), Clocked s → (ethOf s p).up = true →
    ∃ t, exec (.ethFrameReceive dt p bytes f) s = .next t ∧
      reg64 t (ethReg p 0x130) = (reg64 s (ethReg p 0x130) + bytes) % 2 ^ 64 ∧
      (f = .fcsError → reg t (ethReg p 0x11C) = satAdd (reg s (ethReg p 0x11C)) 1 ∧ SameMemory s t) ∧
      (f = .other → reg t (ethReg p 0x120) = satAdd (reg s (ethReg p 0x120)) 1 ∧ SameMemory s t) ∧
      (∀ qpn ce a prio fill, f = .roce qpn ce a prio fill → (qpn.toNat < 0x1000 ∨ 0x2000 ≤ qpn.toNat) →
        reg t (ethReg p 0x120) = satAdd (reg s (ethReg p 0x120)) 1 ∧ SameMemory s t) ∧
      (∀ mask, f = .pfc mask → reg t (ethReg p 0x124) = satAdd (reg s (ethReg p 0x124)) 1 ∧
        (∀ q < 8, (find? (ethOf t p).paused q).isSome = (mask.getLsbD q && pfcOn s p q)) ∧ SameMemory s t) ∧
      ((f = .pause ∨ f = .notOurs) → t.log = s.log ∧ t.out = s.out ∧ SameMemory s t)) ∧
  (∀ (dt : Nat) (p : EthPort) (bytes : Nat) (f : EthFrame) (s : State), Clocked s → (ethOf s p).up = false →
    exec (.ethFrameReceive dt p bytes f) s = .next (advance dt s)) ∧
  (∀ (dt : Nat) (p : EthPort) (s : State), Clocked s → (ethOf s p).up = true →
    ∃ t, exec (.ethLinkDown dt p) s = .next t ∧ ethOf t p = {} ∧ Logged (pgEth p) Evt.ETH_LINK_DOWN p s t ∧
      SameRegsBut (pgEth p) [] s t ∧ SameMemory s t) ∧
  (∀ (dt : Nat) (p : EthPort) (s : State), Clocked s → flag (reg s (ethReg p 0x104)) 0 = true →
    ∃ t, exec (.ethLinkUp dt p) s = .next t ∧ ethOf t p = { ethOf s p with
        up := true
        fecLock := true } ∧ t.regs = s.regs ∧ t.log = s.log ∧ SameMemory s t) ∧
  (∀ (dt : Nat) (p : EthPort) (prio : Fin 8) (s : State) (t0 : Nat), Clocked s →
    find? (ethOf s p).paused prio = some t0 → t0 + pauseLimit s p < s.clk.now + dt → prio.val ∉ (ethOf s p).storm →
    ∃ t, exec (.ethPauseStorm dt p prio) s = .next t ∧ prio.val ∈ (ethOf t p).storm ∧
      Logged (pgEth p) Evt.ETH_PAUSE_STORM (p + prio * 2) s t ∧ SameRegsBut (pgEth p) [] s t ∧ SameMemory s t)

/-- What the RoCE context commands do (R528, R529). The model's choices in it: log entries 3, 73 and 74. -/
def Obligations.RoceContext : Prop :=
  (∀ (dt : Nat) (s : State), HostMay 0xFA s →
    let k := regFld s Reg.ROCE_CTX_SEL 31 28
    let i := regFld s Reg.ROCE_CTX_SEL 11 0
    k < 4 → i < ctxEntries k →
    ∃ t, exec (.roceCtxRead dt) s = .next t ∧ reg t Reg.ROCE_CTX_STATUS = 0 ∧ t.host = s.host ∧
      (∀ j < ctxSize k / 4, reg t (Reg.ROCE_CTX_DATA j) = word (byteField (ctxEntry s k i) (4 * j) (4 * j + 3))) ∧
      (∀ a, a ≠ Reg.ROCE_CTX_STATUS → (∀ j < 16, a ≠ Reg.ROCE_CTX_DATA j) → reg t a = reg s a) ∧ SameMemory s t) ∧
  (∀ (dt : Nat) (s : State), HostMay 0xFA s →
    let k := regFld s Reg.ROCE_CTX_SEL 31 28
    let i := regFld s Reg.ROCE_CTX_SEL 11 0
    let b := ctxData s (ctxSize k)
    k < 4 → i < ctxEntries k → ctxWriteResult s k i b = 0 →
    ∃ t, exec (.roceCtxWrite dt) s = .next t ∧ reg t Reg.ROCE_CTX_STATUS = 0 ∧ ctxEntry t k i = b ∧
      (∀ k' < 4, ∀ j < ctxEntries k', (k' ≠ k ∨ j ≠ i) → ctxEntry t k' j = ctxEntry s k' j) ∧
      (∀ a, a ≠ Reg.ROCE_CTX_STATUS → reg t a = reg s a) ∧ t.log = s.log ∧ SameMemory s t) ∧
  (∀ (dt : Nat) (s : State), HostMay 0xFA s →
    let k := regFld s Reg.ROCE_CTX_SEL 31 28
    let i := regFld s Reg.ROCE_CTX_SEL 11 0
    let r := ctxWriteResult s k i (ctxData s (ctxSize k))
    k < 4 → i < ctxEntries k → r ≠ 0 →
    ∃ t, exec (.roceCtxWrite dt) s = .next t ∧ reg t Reg.ROCE_CTX_STATUS = word r ∧ t.host.ctx = s.host.ctx ∧
      Logged 0xFA Evt.ROCE_CMD_INVALID
        (Reg.ROCE_CTX_CMD / 0x1000 % 256 + Reg.ROCE_CTX_CMD % 0x1000 * 2 ^ 8 + 0x20000000 * 2 ^ 20) s t ∧
      SameRegsBut 0xFA [Reg.ROCE_CTX_STATUS] s t ∧ SameMemory s t) ∧
  (∀ (dt : Nat) (st : BitVec 3) (s : State), HostMay 0xFA s → regFld s Reg.ROCE_CTX_SEL 31 28 = 0 →
    let q := regFld s Reg.ROCE_CTX_SEL 11 0
    ctxModifyResult s 0 q st.toNat = 0 →
    ∃ t, exec (.roceCtxModify dt st) s = .next t ∧ qpStateOf t q = st.toNat ∧ reg t Reg.ROCE_CTX_STATUS = 0 ∧
      (st ≠ 0 → st ≠ 4 → SameMemory s t))

/-- What the RoCE timers and congestion commands do (R527, R531, R532). The model's choices in it: log entries 3 and
73. -/
def Obligations.RoceTimers : Prop :=
  (∀ (dt : Nat) (q : Qp) (s : State), Clocked s → qpSends s q = true → (qpOf s q).queue ≠ [] →
    (qpOf s q).rnrWait = false → (qpOf s q).sentAt + qpTimeout s q ≤ s.clk.now + dt →
    (qpOf s q).retries < qpRetry s q →
    ∃ t, exec (.roceAckTimeout dt q) s = .next t ∧ (qpOf t q).retries = (qpOf s q).retries + 1 ∧
      (qpOf t q).queue = (qpOf s q).queue ∧ (qpOf t q).sentAt = s.clk.now + dt ∧ qpStateOf t q = 3 ∧
      reg t Reg.ROCE_RETRANS_COUNT = satAdd (reg s Reg.ROCE_RETRANS_COUNT) 1 ∧
      t.out = s.out ++ (if qpPortUp s q then (qpOf s q).queue.map (fun w => Output.roce q w.msg) else []) ∧
      SameMemory s t) ∧
  (∀ (dt : Nat) (q : Qp) (s : State), Clocked s → qpSends s q = true → (qpOf s q).queue ≠ [] →
    (qpOf s q).rnrWait = false → (qpOf s q).sentAt + qpTimeout s q ≤ s.clk.now + dt →
    qpRetry s q ≤ (qpOf s q).retries →
    ∃ t, exec (.roceAckTimeout dt q) s = .next t ∧ qpStateOf t q = 4 ∧ t.mem.spad = s.mem.spad) ∧
  (∀ (dt : Nat) (q : Qp) (s : State), Clocked s → qpSends s q = true → (qpOf s q).queue ≠ [] →
    (qpOf s q).rnrWait = true → (qpOf s q).rnrRetries < qpRnrRetry s q →
    ∃ t, exec (.roceRnrTimeout dt q) s = .next t ∧ (qpOf t q).rnrRetries = (qpOf s q).rnrRetries + 1 ∧
      (qpOf t q).queue = (qpOf s q).queue ∧ (qpOf t q).rnrWait = false ∧
      reg t Reg.ROCE_RETRANS_COUNT = satAdd (reg s Reg.ROCE_RETRANS_COUNT) 1 ∧
      t.out = s.out ++ (if qpPortUp s q then (qpOf s q).queue.map (fun w => Output.roce q w.msg) else []) ∧
      SameMemory s t) ∧
  (∀ (dt : Nat) (q : Qp) (s : State), Clocked s → qpSends s q = true → (qpOf s q).queue ≠ [] →
    (qpOf s q).rnrWait = true → qpRnrRetry s q ≤ (qpOf s q).rnrRetries →
    ∃ t, exec (.roceRnrTimeout dt q) s = .next t ∧ qpStateOf t q = 4 ∧ t.mem.spad = s.mem.spad) ∧
  (∀ (dt : Nat) (q : Qp) (s : State), Clocked s →
    ∃ t, exec (.cnpReceive dt q) s = .next t ∧ reg t Reg.ROCE_CNP_RX_COUNT = satAdd (reg s Reg.ROCE_CNP_RX_COUNT) 1 ∧
      qpOf t q = (if flag (reg s Reg.ROCE_CONFIG) 2 then { qpOf s q with
        rate := max 1 ((qpOf s q).rate / 2)
        cnpAt := s.clk.now + dt } else qpOf s q) ∧
      (∀ a, a ≠ Reg.ROCE_CNP_RX_COUNT → reg t a = reg s a) ∧ t.log = s.log ∧ SameMemory s t) ∧
  (∀ (dt : Nat) (q : Qp) (s : State), Clocked s → flag (reg s Reg.ROCE_CONFIG) 2 = true →
    (qpOf s q).rate < 400 → (qpOf s q).cnpAt + ratePeriod s ≤ s.clk.now + dt →
    ∃ t, exec (.roceRateIncrease dt q) s = .next t ∧ qpOf t q = { qpOf s q with
        rate := min 400 ((qpOf s q).rate + rateStep s)
        cnpAt := s.clk.now + dt } ∧ t.regs = s.regs ∧ t.log = s.log ∧ SameMemory s t)

/-- What incoming RoCE requests do (R524, R530, R533). The model's choices in it: log entries 3, 73 and 74. -/
def Obligations.RoceRequests : Prop :=
  (∀ (dt : Nat) (q : Qp) (key : Word) (addr : DWord) (data : Bytes) (s : State), Clocked s → qpPortUp s q = true →
    qpTakes s q = false →
    ∃ t, exec (.rdmaWriteReceive dt q key addr data) s = .next t ∧ SameMemory s t ∧ t.out = s.out ∧ t.log = s.log ∧
      reg t (ra (pgEth (qpPort s q)) 0x120) = (if qpStateOf s q = 1 then reg s (ra (pgEth (qpPort s q)) 0x120)
        else satAdd (reg s (ra (pgEth (qpPort s q)) 0x120)) 1)) ∧
  (∀ (dt : Nat) (q : Qp) (key : Word) (addr : DWord) (data : Bytes) (s : State), Clocked s → qpPortUp s q = true →
    qpTakes s q = true → startOpen (advance dt s) 9 = false →
    exec (.rdmaWriteReceive dt q key addr data) s = .next (advance dt s)) ∧
  (∀ (dt : Nat) (q : Qp) (key : Word) (addr : DWord) (data : Bytes) (s : State), Clocked s → qpPortUp s q = true →
    qpTakes s q = true → startOpen (advance dt s) 9 = true → mrCause s key.toNat addr.toNat data.length 1 ≠ 0 →
    ∃ t, exec (.rdmaWriteReceive dt q key addr data) s = .next t ∧ Output.roceNak q 2 ∈ t.out ∧
      reg t Reg.ROCE_ACCESS_REJECT_COUNT = satAdd (reg s Reg.ROCE_ACCESS_REJECT_COUNT) 1 ∧
      Logged 0xFA Evt.ROCE_ACCESS_REJECT
        (q + key.toNat * 2 ^ 12 + mrCause s key.toNat addr.toNat data.length 1 * 2 ^ 44) s t ∧ SameMemory s t) ∧
  (∀ (dt : Nat) (q : Qp) (key : Word) (addr : DWord) (data : Bytes) (s : State), Clocked s → qpPortUp s q = true →
    qpTakes s q = true → startOpen (advance dt s) 9 = true → mrCause s key.toNat addr.toNat data.length 1 = 0 →
    ∃ t, exec (.rdmaWriteReceive dt q key addr data) s = .next t ∧ hbmRead t addr.toNat data.length = data ∧
      (∀ x, (x < addr.toNat ∨ addr.toNat + data.length ≤ x) → hbmByte t x = hbmByte s x) ∧
      t.mem.spad = s.mem.spad ∧ t.out = s.out ++ [.roceAck q] ∧ t.log = s.log) ∧
  (∀ (dt : Nat) (q : Qp) (key : Word) (addr : DWord) (len : Word) (s : State), Clocked s → qpPortUp s q = true →
    qpTakes s q = true → 2 ^ 31 < len.toNat →
    ∃ t, exec (.rdmaReadReceive dt q key addr len) s = .next t ∧ t.out = s.out ++ [.roceNak q 1] ∧ SameMemory s t) ∧
  (∀ (dt : Nat) (q : Qp) (key : Word) (addr : DWord) (len : Word) (s : State), Clocked s → qpPortUp s q = true →
    qpTakes s q = true → len.toNat ≤ 2 ^ 31 → startOpen (advance dt s) 9 = false →
    exec (.rdmaReadReceive dt q key addr len) s = .next (advance dt s)) ∧
  (∀ (dt : Nat) (q : Qp) (key : Word) (addr : DWord) (len : Word) (s : State), Clocked s → qpPortUp s q = true →
    qpTakes s q = true → len.toNat ≤ 2 ^ 31 → startOpen (advance dt s) 9 = true →
    mrCause s key.toNat addr.toNat len.toNat 2 ≠ 0 →
    ∃ t, exec (.rdmaReadReceive dt q key addr len) s = .next t ∧ Output.roceNak q 2 ∈ t.out ∧
      reg t Reg.ROCE_ACCESS_REJECT_COUNT = satAdd (reg s Reg.ROCE_ACCESS_REJECT_COUNT) 1 ∧
      Logged 0xFA Evt.ROCE_ACCESS_REJECT
        (q + key.toNat * 2 ^ 12 + mrCause s key.toNat addr.toNat len.toNat 2 * 2 ^ 44) s t ∧ SameMemory s t) ∧
  (∀ (dt : Nat) (q : Qp) (key : Word) (addr : DWord) (len : Word) (s : State), Clocked s → qpPortUp s q = true →
    qpTakes s q = true → len.toNat ≤ 2 ^ 31 → startOpen (advance dt s) 9 = true →
    mrCause s key.toNat addr.toNat len.toNat 2 = 0 → hbmPoisoned s addr.toNat len.toNat = false →
    ∃ t, exec (.rdmaReadReceive dt q key addr len) s = .next t ∧
      t.out = s.out ++ [.roceData q (hbmRead s addr.toNat len.toNat)] ∧ t.log = s.log ∧ SameMemory s t) ∧
  (∀ (dt : Nat) (q : Qp) (payload : Bytes) (s : State), Clocked s → qpPortUp s q = true → qpTakes s q = true →
    (qpKind s q = 0 ∨ qpKind s q = 3) →
    ∃ t, exec (.roceSendReceive dt q payload) s = .next t ∧ t.out = s.out ++ [.roceNak q 1] ∧ SameMemory s t) ∧
  (∀ (dt : Nat) (q : Qp) (payload : Bytes) (s : State), Clocked s → qpPortUp s q = true → qpTakes s q = true →
    qpKind s q = 2 →
    ∃ t, exec (.roceSendReceive dt q payload) s = .next t ∧ Output.roceAck q ∈ t.out ∧ SameMemory s t) ∧
  (∀ (dt : Nat) (q : Qp) (payload : Bytes) (s : State), Clocked s → qpPortUp s q = true → qpTakes s q = true →
    qpKind s q = 1 →
    let r := (shipReceive payload (advance dt s)).1
    ∃ t, exec (.roceSendReceive dt q payload) s = .next t ∧ (r = 0 → Output.roceAck q ∈ t.out) ∧
      (r ≠ 0 → Output.roceNak q (r - 1) ∈ t.out))

/-- What attestation and development mode do (R549, R552). The model's choices in it: log entries 3, 10 and 76. -/
def Obligations.SecureCommands : Prop :=
  (∀ (dt : Nat) (s : State), HostMay 9 s → s.secure.attestBusy = false →
    exec (.attest dt) s = .next { advance dt s with secure := { s.secure with
      attestBusy := true
      attestDone := false
      draft := reportBody (advance dt s) } }) ∧
  (∀ (dt : Nat) (s : State), Clocked s → s.secure.attestBusy = true →
    ∃ t, exec (.attestDone dt) s = .next t ∧ t.secure.attestBusy = false ∧ t.secure.attestDone = true ∧
      t.secure.report = padTo 2048 (s.secure.draft ++ padTo 1280 (Config.identitySign s.secure.draft)) ∧
      Logged 9 Evt.ATTEST_DONE (byteField s.secure.draft 4 7) s t ∧ SameRegsBut 9 [] s t ∧ SameMemory s t) ∧
  (∀ (dt : Nat) (arg : BitVec 16) (s : State), HostMay 9 s → s.secure.attestBusy = false → s.secure.devMode = false →
    s.seq.state = .stopped → arg = 0xDE71 →
    ∃ t, exec (.devEnter dt arg) s = .next t ∧ t.secure = { s.secure with devMode := true } ∧
      t.modLife.devCount = s.modLife.devCount + 1 ∧ t.nvm.modLife.devCount = s.modLife.devCount + 1 ∧
      Logged 9 Evt.DEV_MODE_ENTERED (s.modLife.devCount + 1) s t ∧ SameRegsBut 9 [] s t ∧ SameMemory s t) ∧
  (∀ (dt : Nat) (arg : BitVec 16) (s : State), HostMay 9 s →
    (s.secure.attestBusy = true ∨ arg ≠ 0xDE71 ∨ s.seq.state ≠ .stopped) →
    ∃ t, exec (.devEnter dt arg) s = .next t ∧ t.secure = s.secure ∧ t.modLife = s.modLife ∧
      Logged 9 Evt.SECURE_CMD_INVALID (Reg.SECURE_CMD % 0x1000 + (2 ^ 29 + arg.toNat) * 2 ^ 12) s t ∧
      SameRegsBut 9 [] s t ∧ SameMemory s t)

/-- What the widening and adapter commands do (R198, R204, R360, R380). The model's choices in it: log entries 3,
11, 45 and 54. -/
def Obligations.LatchedCommands : Prop :=
  (∀ (dt : Nat) (id : BitVec 12) (thresh : BitVec 16) (s : State), HostMay 0 s → id ≠ 0xFFF →
    (widenOfId s id.toNat).valid = true → s.fmt.commitAt ≠ some (sclk (advance dt s)) →
    ∀ c ∈ [(Instr.widenEnable dt id thresh, word (2 ^ 28 + thresh.toNat * 2 ^ 12 + id.toNat)),
           (Instr.widenDisable dt id, word (2 * 2 ^ 28 + id.toNat)),
           (Instr.widenReset dt id, word (3 * 2 ^ 28 + id.toNat)), (Instr.widenResetAll dt, word (4 * 2 ^ 28))],
      exec c.1 s = .next { advance dt s with fmt := { s.fmt with cmds := s.fmt.cmds ++ [c.2] } }) ∧
  (∀ (dt : Nat) (s : State), HostMay 0 s → s.fmt.commitAt ≠ some (sclk (advance dt s)) →
    exec (.widenResetAll dt) s =
      .next { advance dt s with fmt := { s.fmt with cmds := s.fmt.cmds ++ [word (4 * 2 ^ 28)] } }) ∧
  (∀ (dt : Nat) (id : BitVec 12) (thresh : BitVec 16) (s : State), HostMay 0 s → id ≠ 0xFFF →
    (widenOfId s id.toNat).valid = true → s.fmt.commitAt = some (sclk (advance dt s)) →
    ∀ c ∈ [(Instr.widenEnable dt id thresh, word (2 ^ 28 + thresh.toNat * 2 ^ 12 + id.toNat)),
           (Instr.widenDisable dt id, word (2 * 2 ^ 28 + id.toNat)),
           (Instr.widenReset dt id, word (3 * 2 ^ 28 + id.toNat)), (Instr.widenResetAll dt, word (4 * 2 ^ 28))],
      ∃ t, exec c.1 s = .next t ∧ t.fmt = (widenLate c.2 (advance dt s)).fmt ∧ t.fmt.cmds = s.fmt.cmds ∧
        SameMemory s t) ∧
  (∀ (dt : Nat) (id : BitVec 12) (thresh : BitVec 16) (s : State), HostMay 0 s →
    (id = 0xFFF ∨ (widenOfId s id.toNat).valid = false) →
    ∀ c ∈ [(Instr.widenEnable dt id thresh, word (2 ^ 28 + thresh.toNat * 2 ^ 12 + id.toNat)),
           (Instr.widenDisable dt id, word (2 * 2 ^ 28 + id.toNat)),
           (Instr.widenReset dt id, word (3 * 2 ^ 28 + id.toNat))],
      ∃ t, exec c.1 s = .next t ∧ t.fmt = s.fmt ∧ Logged 0 Evt.FMT_CMD_INVALID c.2.toNat s t ∧
        SameRegsBut 0 [] s t ∧ SameMemory s t) ∧
  (∀ (dt : Nat) (index : BitVec 12) (s : State), HostMay 0 s → s.adapt.cmd = none →
    ∀ c ∈ [(Instr.adapterLoad dt index, word (2 ^ 28 + index.toNat)),
           (Instr.adapterUnload dt index, word (2 * 2 ^ 28 + index.toNat))],
      exec c.1 s = .next { advance dt s with adapt := { s.adapt with cmd := some c.2 } }) ∧
  (∀ (dt : Nat) (index : BitVec 12) (s : State), HostMay 0 s → s.adapt.cmd.isSome = true →
    ∀ c ∈ [(Instr.adapterLoad dt index, word (2 ^ 28 + index.toNat)),
           (Instr.adapterUnload dt index, word (2 * 2 ^ 28 + index.toNat))],
      ∃ t, exec c.1 s = .next t ∧ t.adapt = s.adapt ∧ Logged 0 Evt.ADAPTER_CMD_INVALID c.2.toNat s t ∧
        SameRegsBut 0 [] s t ∧ SameMemory s t) ∧
  (∀ (dt : Nat) (s : State) (job a cause steps : Nat), Clocked s → s.adapt.ending = some (job, a, cause, steps) →
    (find? s.adapt.table a).isSome = true → (knownEntry s a).length = 64 → startOpen (advance dt s) 7 = true →
    ∃ t, exec (.trainJobEnd dt) s = .next t ∧ t.adapt.ending = none ∧
      adTraining (knownEntry t a) = false ∧ adDigest (knownEntry t a) =
        shake256 32 (hbmRead s (adWeights (knownEntry s a)) (weightBytes s (knownEntry s a))) ∧
      Logged 0 Evt.TRAIN_JOB_END (a + cause * 2 ^ 12 + steps % 2 ^ 32 * 2 ^ 16) s t ∧
      t.mem.spad = s.mem.spad ∧ SameRegsBut 0 [] s t) ∧
  (∀ (dt : Nat) (s : State), Clocked s → (s.adapt.ending = none ∨ startOpen (advance dt s) 7 = false) →
    exec (.trainJobEnd dt) s = .next (advance dt s))

/-- What host accesses of the register pages do (R10, R11, R12, R13, R14, R513, R586, R589). The model's choices in
it: log entries 3, 13, 14 and 16. -/
def Obligations.RegisterAccess : Prop :=
  (∀ (dt : Nat) (addr : BitVec 26) (v : Word) (s : State) (b : Blk) (i : Nat) (r : RegRow), HostMay (addr.toNat / 0x1000) s →
    s.host.d3hot = false → addr.toNat % 4 = 0 → addr.toNat < 0x400000 → pageBlk (addr.toNat / 0x1000) = some (b, i) →
    rowOf addr.toNat = some r → 0x100 ≤ addr.toNat % 0x1000 →
    ownWrite b i (addr.toNat % 0x1000) v (advance dt s) = none → (r.stop = true → s.seq.state = .stopped) → r.half = .one →
    ∃ t, exec (.registerWrite dt addr v) s = .next t ∧
      reg t addr.toNat = (let a := addr.toNat
        if r.ctr then (if r.rw = 0 then reg s a else satAdd v (mget 0 (freshCycle (advance dt s)).hwInc a))
        else if r.w1c ≠ 0 then
          reg s a &&& (~~~ (v &&& word r.w1c) ||| mget 0 (freshCycle (advance dt s)).hwSet a)
        else (reg s a &&& ~~~ (word r.rw)) ||| (v &&& word r.rw)) ∧
      (∀ x, x ≠ addr.toNat → reg t x = reg s x) ∧ t.log = s.log ∧ t.seq = s.seq ∧ SameMemory s t) ∧
  (∀ (dt : Nat) (addr : BitVec 26) (s : State) (r : RegRow), s.clk.powered = true → s.host.d3hot = false →
    addr.toNat % 4 = 0 → addr.toNat < 0x400000 → pageAnswers s (addr.toNat / 0x1000) = true →
    rowOf addr.toNat = some r → r.half = .one →
    exec (.reg64LowRead dt addr) s =
      .next { advance dt s with out := s.out ++ [.hostData (shownWord (advance dt s) addr.toNat)] }) ∧
  (∀ (dt : Nat) (addr : BitVec 26) (s : State) (r : RegRow), s.clk.powered = true → s.host.d3hot = false →
    addr.toNat % 4 = 0 → addr.toNat < 0x400000 → pageAnswers s (addr.toNat / 0x1000) = true →
    rowOf addr.toNat = some r → r.half = .low →
    ∃ t, exec (.reg64LowRead dt addr) s = .next t ∧ (∀ x, reg t x = reg s x) ∧ t.log = s.log ∧ SameMemory s t ∧
      t.out = s.out ++ [.hostData (shownWord (advance dt s) addr.toNat)] ∧
      find? t.regs.holdHigh addr.toNat = some (shownWord (advance dt s) (addr.toNat + 4))) ∧
  (∀ (dt : Nat) (addr : BitVec 26) (s : State) (r : RegRow) (w : Word), s.clk.powered = true → s.host.d3hot = false →
    addr.toNat % 4 = 0 → addr.toNat < 0x400000 → pageAnswers s (addr.toNat / 0x1000) = true →
    rowOf addr.toNat = some r → r.half = .high → find? s.regs.holdHigh (addr.toNat - 4) = some w →
    ∃ t, exec (.reg64LowRead dt addr) s = .next t ∧ (∀ x, reg t x = reg s x) ∧ t.log = s.log ∧ SameMemory s t ∧
      t.out = s.out ++ [.hostData w] ∧ find? t.regs.holdHigh (addr.toNat - 4) = none) ∧
  (∀ (dt : Nat) (addr : BitVec 26) (write : Bool) (s : State), s.clk.powered = true → s.host.d3hot = false →
    addr.toNat % 4 = 0 → addr.toNat < 0x400000 → pageBlk (addr.toNat / 0x1000) = none →
    ∃ t, exec (.unmappedAccess dt addr write) s = .next t ∧
      reg t Reg.GLOBAL_UNMAPPED_COUNT = satAdd (reg s Reg.GLOBAL_UNMAPPED_COUNT) 1 ∧
      (∀ x, x ≠ Reg.GLOBAL_UNMAPPED_COUNT → reg t x = reg s x) ∧
      t.out = s.out ++ (if write then [] else [.hostData 0]) ∧ t.log = s.log ∧ SameMemory s t) ∧
  (∀ (dt : Nat) (addr : BitVec 26) (v : Word) (s : State), s.clk.powered = true → s.host.d3hot = false →
    addr.toNat % 4 ≠ 0 →
    ∃ t, exec (.registerWrite dt addr v) s = .next t ∧
      reg t Reg.PCIE_ACCESS_INVALID_COUNT = satAdd (reg s Reg.PCIE_ACCESS_INVALID_COUNT) 1 ∧
      Logged 0xA Evt.PCIE_ACCESS_INVALID (addr.toNat * 2 ^ 2 + 4 * 2 ^ 34 + 2 ^ 41) s t ∧
      SameRegsBut 0xA [Reg.PCIE_ACCESS_INVALID_COUNT] s t ∧ SameMemory s t) ∧
  (∀ (dt : Nat) (addr : BitVec 26) (v : Word) (s : State), s.clk.powered = true → s.host.d3hot = true →
    exec (.registerWrite dt addr v) s = .next (advance dt s) ∧ exec (.reg64LowRead dt addr) s = .next (advance dt s))

/-- What FE_REARM and SNAPSHOT do (R594, R595). The model's choices in it: log entries 3, 13 and 15. -/
def Obligations.BlockControl : Prop :=
  (∀ (dt : Nat) (page : BitVec 10) (s : State), HostMay page.toNat s → s.host.d3hot = false →
    (pageBlk page.toNat).isSome = true →
    (∀ e, find? s.log.feNow page.toNat = some e → e.cycle ≠ sclk (advance dt s)) →
    ∃ t, exec (.feRearm dt page) s = .next t ∧ reg t (ra page.toNat 0x024) = 0 ∧ reg t (ra page.toNat 0x028) = 0 ∧
      reg t (ra page.toNat 0x02C) = 0 ∧
      (∀ a, a ≠ ra page.toNat 0x024 → a ≠ ra page.toNat 0x028 → a ≠ ra page.toNat 0x02C → reg t a = reg s a) ∧
      t.log = s.log ∧ SameMemory s t) ∧
  (∀ (dt : Nat) (page : BitVec 10) (on : Bool) (s : State), HostMay page.toNat s → s.host.d3hot = false →
    (pageBlk page.toNat).isSome = true →
    ∃ t, exec (.snapshot dt page on) s = .next t ∧ flag (reg t (ra page.toNat 0x00C)) 1 = on ∧
      (∀ a, a ≠ ra page.toNat 0x00C → reg t a = reg s a) ∧
      (on = true → flag (reg s (ra page.toNat 0x00C)) 1 = false →
        ∀ a ∈ pageCounters page.toNat, find? t.regs.snap a = some (liveWord (advance dt s) a)) ∧
      (on = false → ∀ a, a / 0x1000 = page.toNat → find? t.regs.snap a = none) ∧ t.log = s.log ∧ SameMemory s t)

/-- A step runs the command at the front of the queue; an empty queue idles (the model's choice, log entry 1)
(R588). -/
def Obligations.StepRunsFront : Prop :=
  (∀ (c : Instr) (rest : List Instr) (s : State), step { s with pending := c :: rest } = exec c { s with pending := rest }) ∧
  (∀ s : State, s.pending = [] → step s = .next s)

/-- Every step on well-formed commands completes, takes one command off the queue and leaves it well formed (R553,
R588). The model's choices in it: log entries 1 and 2. -/
def Obligations.QueueStaysWellFormed : Prop :=
  ∀ s : State, queueOk s = true → ∃ t, step s = .next t ∧ t.pending = s.pending.tail ∧ queueOk t = true

/-- Every step keeps the memories in canonical form (R275, R294, R299, R517). The model's choices in it: log entries
7 and 8. -/
def Obligations.MemoryStaysCanonical : Prop :=
  ∀ s t : State, Memory.wf s = true → step s = .next t → Memory.wf t = true

/-- At reset the memories are in canonical form and the queue is empty (R284, R571). The model's choices in it: log
entries 5, 7 and 8. -/
def Obligations.ResetMemoryCanonical : Prop :=
  Memory.wf State.reset = true ∧ queueOk State.reset = true ∧ State.reset.pending = []

/-- What registers read right after reset (R591, R592, R593, R594, R599, R430, R441). The model's choices in it: log
entries 5 and 6. -/
def Obligations.ResetRegisters : Prop :=
  State.reset.clk.powered = false ∧ State.reset.seq.state = .stopped ∧ State.reset.log.queue = [] ∧
  State.reset.mem.spad = [] ∧ State.reset.mem.hbm = [] ∧ State.reset.nvm.lanes = [] ∧
  (∀ a v, (a, v) ∈ ([(0x200, 4), (0x400, 0x20000), (0x414, 1024), (0x508, 800000), (0x630, 0), (0x1108, 20000000),
      (0x2100, 0x800), (0x2108, 10), (0x2120, 8000), (0x2124, 2400000), (0x3100, 1), (0x3104, 2150),
      (0x3128, 65536), (0x4100, 3), (0x4104, 800000), (0x4108, 0x238), (0x4200, 0xFFFFFFFF),
      (0x5100, 3), (0x5104, 0x6E645F), (0x5108, 60), (0x6110, 1), (0x7100, 0), (0xA104, 0x32),
      (0x40100, 1), (0x42108, 600), (0x43100, 0x140804B0), (0x45104, 1), (0x46104, 24), (0xC010C, 4),
      (0xF8108, 100000), (0xFA100, 6)] : List (Nat × Word)) → reg State.reset a = v) ∧
  (∀ p : Fin 1024, (pageBlk p.val).isSome = true → reg State.reset (ra p.val 0x014) = 0x18 ∧
    ∀ o ∈ [0x00C, 0x010, 0x018, 0x01C, 0x024, 0x028, 0x02C],
    reg State.reset (ra p.val o) = 0)

/-- Commands whose lists have an impossible shape fault by name; every other command completes (R563, R466, R291).
The model's choices in it: log entry 2. -/
def Obligations.IllFormedFaults : Prop :=
  ∀ (c : Instr) (s : State),
    (wellFormed c = true → ∃ t, exec c s = .next t ∧ t.pending = s.pending) ∧
    (wellFormed c = false → ∃ m, exec c s = .fault (.illFormed m)) ∧ (∀ r, exec c s ≠ .refused r)

/-- Without power only POWER_UP acts (R563, R571). The model's choices in it: log entries 1, 3 and 5. -/
def Obligations.NoPowerNoEffect : Prop :=
  ∀ (c : Instr) (s : State), s.clk.powered = false → wellFormed c = true →
    (∀ dt obs, c ≠ .powerUp dt obs) → ∃ dt, exec c s = .next (advance dt s)

/-- A replayed die-to-die flit is counted and otherwise invisible (R24). -/
def Obligations.FlitReplayInvisible : Prop :=
  ∀ (dt : Nat) (link : Fin 20) (s : State), Clocked s →
    ∃ t, exec (.d2dFlitReplay dt link) s = .next t ∧
      reg t (0x260 + 4 * link.val) = satAdd (reg s (0x260 + 4 * link.val)) 1 ∧
      (∀ a, a ≠ 0x260 + 4 * link.val → reg t a = reg s a) ∧ t.mem = s.mem ∧ t.seq = s.seq ∧ t.tensor = s.tensor ∧
      t.fabric = s.fabric ∧ t.host = s.host ∧ t.out = s.out ∧ t.log.queue = s.log.queue

/-- D2D_REPAIR_CMD with GO = 1 while issue is not stopped is ignored and raises D2D_CMD_INVALID (R28). -/
def Obligations.RepairOnlyWhileStopped : Prop :=
  (∀ (dt : Nat) (value : Word) (s : State), HostMay 0 s → flag value 8 = true → s.seq.state ≠ .stopped →
    ∃ t, exec (.d2dRepair dt value) s = .next t ∧ Logged 0 Evt.D2D_CMD_INVALID value.toNat s t ∧
      SameRegsBut 0 [] s t ∧ t.nvm = s.nvm ∧ t.boot = s.boot ∧ SameMemory s t) ∧
  (∀ (dt : Nat) (value : Word) (s : State), HostMay 0 s → fld value 4 0 < 20 → flag value 8 = true →
    s.seq.state = .stopped →
    lanesExhausted (s.nvm.lanes ++ (s.boot.lanesFailed.filter (·.link == fld value 4 0)).filter
      (fun x => !s.nvm.lanes.contains x)) (fld value 4 0) = false →
    ∃ t, exec (.d2dRepair dt value) s = .next t ∧ t.log = s.log ∧ fld (reg t (linkReg (fld value 4 0))) 2 0 = 4)

/-- Which page belongs to which block, and what an access to an unmapped page does (R586). -/
def Obligations.PageMap : Prop :=
  (∀ (p : Nat), (∀ n, p ≠ 0x010 + n ∨ 16 ≤ n) → (∀ h, p ≠ 0x020 + h ∨ 4 ≤ h) → (∀ n, p ≠ 0x040 + n ∨ 128 ≤ n) →
    (∀ n, p ≠ 0x0C0 + n ∨ 24 ≤ n) → (∀ h, p ≠ 0x0E0 + h ∨ 4 ≤ h) → (∀ h, p ≠ 0x0F0 + h ∨ 4 ≤ h) →
    (∀ h, p ≠ 0x0F8 + h ∨ 2 ≤ h) → 12 ≤ p → p ≠ 0x0FA → p ≠ 0x0FB → pageBlk p = none) ∧
  pageBlk 0 = some (.global, 0) ∧ pageBlk 1 = some (.seq, 0) ∧ pageBlk 2 = some (.hawk, 0) ∧
  pageBlk 3 = some (.atlas, 0) ∧ pageBlk 4 = some (.breath, 0) ∧ pageBlk 5 = some (.therm, 0) ∧
  pageBlk 6 = some (.drone, 0) ∧ pageBlk 7 = some (.evtlog, 0) ∧ pageBlk 8 = some (.nvrec, 0) ∧
  pageBlk 9 = some (.secure, 0) ∧ pageBlk 10 = some (.pcie, 0) ∧ pageBlk 11 = some (.tunnel, 0) ∧
  (∀ n < 16, pageBlk (0x010 + n) = some (.hkcLuna, n)) ∧ (∀ h < 4, pageBlk (0x020 + h) = some (.hkcHub, h)) ∧
  (∀ n < 16, pageBlk (0x040 + 8 * n) = some (.core, n) ∧ pageBlk (0x041 + 8 * n) = some (.map, n) ∧
    pageBlk (0x042 + 8 * n) = some (.piccolo, n) ∧ pageBlk (0x043 + 8 * n) = some (.refresh, n) ∧
    pageBlk (0x044 + 8 * n) = some (.colcal, n) ∧ pageBlk (0x045 + 8 * n) = some (.tensor, n) ∧
    pageBlk (0x046 + 8 * n) = some (.spad, n) ∧ pageBlk (0x047 + 8 * n) = some (.windows, n)) ∧
  (∀ k < 24, pageBlk (0x0C0 + k) = some (.hbm, k)) ∧ (∀ h < 4, pageBlk (0x0E0 + h) = some (.hubspad, h)) ∧
  (∀ p < 4, pageBlk (0x0F0 + p) = some (.shawm, p)) ∧ (∀ p < 2, pageBlk (0x0F8 + p) = some (.eth, p)) ∧
  pageBlk 0x0FA = some (.roce, 0) ∧ pageBlk 0x0FB = some (.shippark, 0) ∧
  (∀ (dt : Nat) (addr : BitVec 26) (write : Bool) (s : State), s.clk.powered = true → s.host.d3hot = false →
    addr.toNat % 4 = 0 → addr.toNat < 0x400000 → pageBlk (addr.toNat / 0x1000) = none →
    ∃ t, exec (.unmappedAccess dt addr write) s = .next t ∧
      t.out = s.out ++ (if write then [] else [.hostData 0]) ∧
      reg t Reg.GLOBAL_UNMAPPED_COUNT = satAdd (reg s Reg.GLOBAL_UNMAPPED_COUNT) 1 ∧
      (∀ x, x ≠ Reg.GLOBAL_UNMAPPED_COUNT → reg t x = reg s x) ∧ t.log = s.log ∧ SameMemory s t)

/-- A hardware set and a W1C write in one SCLK cycle leave the bit set (R13). -/
def Obligations.ClearRace : Prop :=
  ∀ (dt : Nat) (addr : BitVec 26) (v m : Word) (s : State) (r : RegRow), HostMay (addr.toNat / 0x1000) s →
    s.host.d3hot = false → addr.toNat % 4 = 0 → addr.toNat < 0x400000 → rowOf addr.toNat = some r →
    r.w1c ≠ 0 → sclk (advance dt s) = sclk s →
    (∃ t, exec (.registerWrite dt addr v) (hwSetBits addr.toNat m s) = .next t ∧ reg t addr.toNat &&& m = m) ∧
    (∃ t, exec (.registerWrite dt addr v) s = .next t ∧ reg (hwSetBits addr.toNat m t) addr.toNat &&& m = m)

/-- What raising an event records, counts and stops (R553, R554, R556, R272, R591, R593). The model's choices in it:
log entry 20. -/
def Obligations.EventRaised : Prop :=
  ∀ (page code cls req detail : Nat) (s : State), (pageBlk page).isSome = true → code < 0x10000 →
    let t := raiseFor page code cls req detail s; let sev := Evt.sevOf code
    (if s.log.queue.length < 1024 then
        t.log.queue = s.log.queue ++ [⟨tick s, recordStep s, page, code, sev, cls, req, detail % 2 ^ 64⟩]
      else t.log.queue = s.log.queue ∧ t.log.dropped = s.log.dropped + 1 ∧
        reg t Reg.EVTLOG_LOST_COUNT = satAdd (reg s Reg.EVTLOG_LOST_COUNT) 1) ∧
    reg t (ra page 0x010) = putFld (putFlag (reg s (ra page 0x010)) sev true) 31 16 code ∧
    reg t (ra page 0x018) = (if flag (reg s (ra page 0x014)) sev then reg s (ra page 0x018) ||| word (2 ^ sev)
      else reg s (ra page 0x018)) ∧
    reg t (ra page 0x01C) = satAdd (reg s (ra page 0x01C)) 1 ∧
    (∀ k < 5, reg t (Reg.EVTLOG_SEV_COUNT k) =
      (if k = sev then satAdd (reg s (Reg.EVTLOG_SEV_COUNT k)) 1 else reg s (Reg.EVTLOG_SEV_COUNT k))) ∧
    t.seq.fatal = (if sev = 4 ∧ s.seq.fatal = none then some code else s.seq.fatal) ∧
    SameRegsBut page [] s t ∧ SameMemory s t

/-- FIRST_ERR_INFO captures the first event of severity DEGRADED or above (R594). -/
def Obligations.FirstErrorCapture : Prop :=
  (∀ (page : Nat) (es : List (Nat × Nat)) (s : State), (pageBlk page).isSome = true → (∀ e ∈ es, e.1 < 0x10000) →
    reg s (ra page 0x024) = 0 → (∀ o, find? s.log.feNow page = some o → o.cycle ≠ sclk s) →
    (∀ c, find? s.log.feCycle page = some c → c ≠ sclk s) →
    let t := es.foldl (fun u e => raise page e.1 e.2 u) s; let qual := es.filter (fun e => decide (2 ≤ Evt.sevOf e.1))
    (qual = [] → reg t (ra page 0x024) = reg s (ra page 0x024) ∧ reg t (ra page 0x028) = reg s (ra page 0x028) ∧
      reg t (ra page 0x02C) = reg s (ra page 0x02C)) ∧
    (qual ≠ [] → ∃ e ∈ qual, (∀ x ∈ qual, Evt.sevOf x.1 < Evt.sevOf e.1 ∨ (Evt.sevOf x.1 = Evt.sevOf e.1 ∧ e.1 ≤ x.1)) ∧
      flag (reg t (ra page 0x024)) 31 = true ∧ flag (reg t (ra page 0x024)) 30 = decide (2 ≤ qual.length) ∧
      regFld t (ra page 0x024) 26 24 = Evt.sevOf e.1 ∧ regFld t (ra page 0x024) 15 0 = e.1 ∧
      reg64 t (ra page 0x028) = e.2 % 2 ^ 64)) ∧
  (∀ (page code detail : Nat) (s : State), (pageBlk page).isSome = true → code < 0x10000 →
    2 ≤ Evt.sevOf code → flag (reg s (ra page 0x024)) 31 = true →
    (∀ c, find? s.log.feCycle page = some c → c < sclk s) →
    let t := raise page code detail s
    reg t (ra page 0x024) = putFlag (reg s (ra page 0x024)) 30 true ∧
      reg t (ra page 0x028) = reg s (ra page 0x028) ∧ reg t (ra page 0x02C) = reg s (ra page 0x02C)) ∧
  (∀ (dt : Nat) (page : BitVec 10) (code detail : Nat) (s : State), HostMay page.toNat s → s.host.d3hot = false →
    (pageBlk page.toNat).isSome = true → code < 0x10000 → 2 ≤ Evt.sevOf code →
    (∀ o, find? s.log.feNow page.toNat = some o → o.cycle ≠ sclk s) →
    (∀ c, find? s.log.feCycle page.toNat = some c → c ≠ sclk s) →
    sclk (advance dt s) = sclk s →
    (∃ t, exec (.feRearm dt page) (raise page.toNat code detail s) = .next t ∧
      flag (reg t (ra page.toNat 0x024)) 31 = true ∧ regFld t (ra page.toNat 0x024) 15 0 = code) ∧
    (∃ t, exec (.feRearm dt page) s = .next t ∧
      flag (reg (raise page.toNat code detail t) (ra page.toNat 0x024)) 31 = true ∧
      regFld (raise page.toNat code detail t) (ra page.toNat 0x024) 15 0 = code))

/-- A read of a register changes nothing but the held high word (R590). -/
def Obligations.ReadsHaveNoEffect : Prop :=
  ∀ (dt : Nat) (addr : BitVec 26) (s : State) (r : RegRow), s.clk.powered = true → s.host.d3hot = false →
    addr.toNat % 4 = 0 → addr.toNat < 0x400000 → rowOf addr.toNat = some r →
    ∃ t, exec (.reg64LowRead dt addr) s = .next t ∧
      t = { advance dt s with out := t.out, regs := { s.regs with holdHigh := t.regs.holdHigh } } ∧
      ∃ w, t.out = s.out ++ [.hostData w]

/-- Registers accepted only while bundle issue is stopped ignore writes at any other time (R590). The model's
choices in it: log entries 3 and 18. -/
def Obligations.StoppedOnlyWrites : Prop :=
  ∀ (dt : Nat) (addr : BitVec 26) (v : Word) (s : State) (r : RegRow), HostMay (addr.toNat / 0x1000) s →
    s.host.d3hot = false → addr.toNat % 4 = 0 → addr.toNat < 0x400000 → rowOf addr.toNat = some r →
    r.stop = true → s.seq.state ≠ .stopped →
    ∃ t, exec (.registerWrite dt addr v) s = .next t ∧ SameRegsBut (addr.toNat / 0x1000) [] s t ∧ SameMemory s t
end

