-- ==== Sys2Proof/Laws/Map.lean ====
section
/-! SUPPORT. The laws of sparse maps: a read after a write, and the canonical form, which every operation keeps. -/

namespace Sys2Proof.Map

variable {α : Type}

@[simp] theorem find?_nil (k : Nat) : find? ([] : List (Nat × α)) k = none := rfl

@[simp] theorem find?_mput_same (m : List (Nat × α)) (k : Nat) (v : α) : find? (mput m k v) k = some v := by
  induction m with
  | nil => simp [mput, find?]
  | cons e m ih =>
    obtain ⟨k', v'⟩ := e
    by_cases h : k' = k
    · simp [mput, h, find?]
    · by_cases h2 : k < k'
      · simp [mput, h, h2, find?]
      · simp [mput, h, h2, find?, ih]

theorem find?_mput_other (m : List (Nat × α)) {k j : Nat} (v : α) (h : j ≠ k) : find? (mput m k v) j = find? m j := by
  induction m with
  | nil => simp [mput, find?, Ne.symm h]
  | cons e m ih =>
    obtain ⟨k', v'⟩ := e
    by_cases h1 : k' = k
    · subst h1; simp [mput, find?, Ne.symm h]
    · by_cases h2 : k < k'
      · simp [mput, h1, h2, find?, Ne.symm h]
      · simp [mput, h1, h2, find?, ih]

@[simp] theorem find?_mdel_same (m : List (Nat × α)) (k : Nat) : find? (mdel m k) k = none := by
  induction m with
  | nil => rfl
  | cons e m ih =>
    obtain ⟨k', v'⟩ := e
    by_cases h : k' = k <;> simp [mdel, find?, h, ih]

theorem find?_mdel_other (m : List (Nat × α)) {k j : Nat} (h : j ≠ k) : find? (mdel m k) j = find? m j := by
  induction m with
  | nil => rfl
  | cons e m ih =>
    obtain ⟨k', v'⟩ := e
    by_cases h1 : k' = k
    · subst h1; simp [mdel, find?, ih, Ne.symm h]
    · simp [mdel, find?, h1, ih]

@[simp] theorem mget_nil (d : α) (k : Nat) : mget d ([] : List (Nat × α)) k = d := rfl

@[simp] theorem mget_mput_same (d : α) (m : List (Nat × α)) (k : Nat) (v : α) : mget d (mput m k v) k = v := by
  simp [mget]

theorem mget_mput_other (d : α) (m : List (Nat × α)) {k j : Nat} (v : α) (h : j ≠ k) :
    mget d (mput m k v) j = mget d m j := by
  simp [mget, find?_mput_other m v h]

variable [DecidableEq α]

@[simp] theorem mget_mset_same (d : α) (m : List (Nat × α)) (k : Nat) (v : α) : mget d (mset d m k v) k = v := by
  by_cases h : v = d <;> simp [mset, mget, h]

theorem mget_mset_other (d : α) (m : List (Nat × α)) {k j : Nat} (v : α) (h : j ≠ k) :
    mget d (mset d m k v) j = mget d m j := by
  by_cases h1 : v = d
  · simp [mset, mget, h1, find?_mdel_other m h]
  · simp [mset, mget, h1, find?_mput_other m v h]

theorem find?_mset_other (d : α) (m : List (Nat × α)) {k j : Nat} (v : α) (h : j ≠ k) :
    find? (mset d m k v) j = find? m j := by
  by_cases h1 : v = d
  · simp [mset, h1, find?_mdel_other m h]
  · simp [mset, h1, find?_mput_other m v h]

@[simp] theorem mget_mupd_same (d : α) (m : List (Nat × α)) (k : Nat) (f : α → α) :
    mget d (mupd d m k f) k = f (mget d m k) := by simp [mupd]

theorem mget_mupd_other (d : α) (m : List (Nat × α)) {k j : Nat} (f : α → α) (h : j ≠ k) :
    mget d (mupd d m k f) j = mget d m j := by simp [mupd, mget_mset_other d m _ h]

/-! ## The canonical form -/

omit [DecidableEq α] in
theorem sortedFrom_mono {lo lo' : Nat} (m : List (Nat × α)) (h : lo' ≤ lo) (hs : sortedFrom lo m = true) :
    sortedFrom lo' m = true := by
  cases m with
  | nil => rfl
  | cons e m =>
    obtain ⟨k, v⟩ := e
    simp only [sortedFrom, Bool.and_eq_true, decide_eq_true_eq] at hs ⊢
    exact ⟨by omega, hs.2⟩

omit [DecidableEq α] in
theorem sortedFrom_filter (p : Nat × α → Bool) (m : List (Nat × α)) :
    ∀ lo, sortedFrom lo m = true → sortedFrom lo (m.filter p) = true := by
  induction m with
  | nil => intro lo _; rfl
  | cons e m ih =>
    obtain ⟨k, v⟩ := e
    intro lo hs
    simp only [sortedFrom, Bool.and_eq_true, decide_eq_true_eq] at hs
    by_cases hp : p (k, v) = true
    · simp only [List.filter_cons_of_pos hp, sortedFrom, Bool.and_eq_true, decide_eq_true_eq]
      exact ⟨hs.1, ih _ hs.2⟩
    · rw [List.filter_cons_of_neg hp]
      exact ih _ (sortedFrom_mono m (by omega) hs.2)

omit [DecidableEq α] in
theorem mdel_eq_filter (m : List (Nat × α)) (k : Nat) : mdel m k = m.filter (fun e => decide (e.1 ≠ k)) := by
  induction m with
  | nil => rfl
  | cons e m ih =>
    obtain ⟨k', v⟩ := e
    by_cases h : k' = k <;> simp [mdel, h, ih]

omit [DecidableEq α] in
theorem sortedFrom_mput (k : Nat) (v : α) (m : List (Nat × α)) :
    ∀ lo, lo ≤ k → sortedFrom lo m = true → sortedFrom lo (mput m k v) = true := by
  induction m with
  | nil => intro lo h _; simp [mput, sortedFrom, h]
  | cons e m ih =>
    obtain ⟨k', v'⟩ := e
    intro lo h hs
    simp only [sortedFrom, Bool.and_eq_true, decide_eq_true_eq] at hs
    by_cases h1 : k' = k
    · subst h1; simp [mput, sortedFrom, h, hs.2]
    · by_cases h2 : k < k'
      · simp only [mput, h1, h2, if_false, if_true, sortedFrom, Bool.and_eq_true, decide_eq_true_eq]
        exact ⟨h, by omega, hs.2⟩
      · simp only [mput, h1, h2, if_false, sortedFrom, Bool.and_eq_true, decide_eq_true_eq]
        exact ⟨hs.1, ih _ (by omega) hs.2⟩

omit [DecidableEq α] in
theorem mem_mput {k : Nat} {v : α} {m : List (Nat × α)} {e : Nat × α} (h : e ∈ mput m k v) : e = (k, v) ∨ e ∈ m := by
  induction m with
  | nil => simpa [mput] using h
  | cons x m ih =>
    obtain ⟨k', v'⟩ := x
    by_cases h1 : k' = k
    · simp only [mput, h1, if_true, List.mem_cons] at h ⊢; tauto
    · by_cases h2 : k < k'
      · simp only [mput, h1, h2, if_false, if_true, List.mem_cons] at h ⊢; tauto
      · simp only [mput, h1, h2, if_false, List.mem_cons] at h ⊢
        rcases h with h | h
        · tauto
        · rcases ih h with h | h <;> tauto

@[simp] theorem wf_nil (d : α) : wf d ([] : List (Nat × α)) = true := rfl

/-- Dropping entries keeps the canonical form. -/
theorem wf_filter (d : α) (p : Nat × α → Bool) {m : List (Nat × α)} (h : wf d m = true) : wf d (m.filter p) = true := by
  simp only [wf, Bool.and_eq_true, List.all_eq_true, decide_eq_true_eq] at h ⊢
  exact ⟨sortedFrom_filter p m 0 h.1, fun e he => h.2 e (List.mem_of_mem_filter he)⟩

/-- A write keeps the canonical form. -/
theorem wf_mset (d : α) {m : List (Nat × α)} (k : Nat) (v : α) (h : wf d m = true) : wf d (mset d m k v) = true := by
  by_cases hv : v = d
  · simp only [mset, hv, if_true, mdel_eq_filter]
    exact wf_filter d _ h
  · simp only [wf, Bool.and_eq_true, List.all_eq_true, decide_eq_true_eq] at h
    simp only [mset, hv, if_false, wf, Bool.and_eq_true, List.all_eq_true, decide_eq_true_eq]
    refine ⟨sortedFrom_mput k v m 0 (by omega) h.1, fun e he => ?_⟩
    rcases mem_mput he with rfl | he
    · exact hv
    · exact h.2 e he

theorem wf_mupd (d : α) {m : List (Nat × α)} (k : Nat) (f : α → α) (h : wf d m = true) : wf d (mupd d m k f) = true :=
  wf_mset d k _ h

end Sys2Proof.Map
end

