-- ==== Sys2Proof/Laws/State.lean ====
section
/-! SUPPORT. What each primitive update leaves of the state's other fields: one lemma a field and an update, true by
computation. -/

namespace Sys2Proof.Machine

/-! ## advance -/

@[simp] theorem advance_log (dt : Nat) (s : State) : (advance dt s).log = s.log := by
  simp only [advance]
@[simp] theorem advance_regs (dt : Nat) (s : State) : (advance dt s).regs = s.regs := by
  simp only [advance]
@[simp] theorem advance_seq (dt : Nat) (s : State) : (advance dt s).seq = s.seq := by
  simp only [advance]
@[simp] theorem advance_mem (dt : Nat) (s : State) : (advance dt s).mem = s.mem := by
  simp only [advance]
@[simp] theorem advance_breath (dt : Nat) (s : State) : (advance dt s).breath = s.breath := by
  simp only [advance]
@[simp] theorem advance_atlas (dt : Nat) (s : State) : (advance dt s).atlas = s.atlas := by
  simp only [advance]
@[simp] theorem advance_hkc (dt : Nat) (s : State) : (advance dt s).hkc = s.hkc := by
  simp only [advance]
@[simp] theorem advance_therm (dt : Nat) (s : State) : (advance dt s).therm = s.therm := by
  simp only [advance]
@[simp] theorem advance_fabric (dt : Nat) (s : State) : (advance dt s).fabric = s.fabric := by
  simp only [advance]
@[simp] theorem advance_host (dt : Nat) (s : State) : (advance dt s).host = s.host := by
  simp only [advance]
@[simp] theorem advance_secure (dt : Nat) (s : State) : (advance dt s).secure = s.secure := by
  simp only [advance]
@[simp] theorem advance_boot (dt : Nat) (s : State) : (advance dt s).boot = s.boot := by
  simp only [advance]
@[simp] theorem advance_nvm (dt : Nat) (s : State) : (advance dt s).nvm = s.nvm := by
  simp only [advance]
@[simp] theorem advance_life (dt : Nat) (s : State) : (advance dt s).life = s.life := by
  simp only [advance]
@[simp] theorem advance_modLife (dt : Nat) (s : State) : (advance dt s).modLife = s.modLife := by
  simp only [advance]
@[simp] theorem advance_tensor (dt : Nat) (s : State) : (advance dt s).tensor = s.tensor := by
  simp only [advance]
@[simp] theorem advance_fmt (dt : Nat) (s : State) : (advance dt s).fmt = s.fmt := by
  simp only [advance]
@[simp] theorem advance_kv (dt : Nat) (s : State) : (advance dt s).kv = s.kv := by
  simp only [advance]
@[simp] theorem advance_luna (dt : Nat) (s : State) : (advance dt s).luna = s.luna := by
  simp only [advance]
@[simp] theorem advance_adapt (dt : Nat) (s : State) : (advance dt s).adapt = s.adapt := by
  simp only [advance]
@[simp] theorem advance_serve (dt : Nat) (s : State) : (advance dt s).serve = s.serve := by
  simp only [advance]
@[simp] theorem advance_out (dt : Nat) (s : State) : (advance dt s).out = s.out := by
  simp only [advance]
@[simp] theorem advance_freeIdx (dt : Nat) (s : State) : (advance dt s).freeIdx = s.freeIdx := by
  simp only [advance]
@[simp] theorem advance_pending (dt : Nat) (s : State) : (advance dt s).pending = s.pending := by
  simp only [advance]

/-! ## emit -/

@[simp] theorem emit_clk (o : Output) (s : State) : (emit o s).clk = s.clk := by
  simp only [emit]
@[simp] theorem emit_log (o : Output) (s : State) : (emit o s).log = s.log := by
  simp only [emit]
@[simp] theorem emit_regs (o : Output) (s : State) : (emit o s).regs = s.regs := by
  simp only [emit]
@[simp] theorem emit_seq (o : Output) (s : State) : (emit o s).seq = s.seq := by
  simp only [emit]
@[simp] theorem emit_mem (o : Output) (s : State) : (emit o s).mem = s.mem := by
  simp only [emit]
@[simp] theorem emit_breath (o : Output) (s : State) : (emit o s).breath = s.breath := by
  simp only [emit]
@[simp] theorem emit_atlas (o : Output) (s : State) : (emit o s).atlas = s.atlas := by
  simp only [emit]
@[simp] theorem emit_hkc (o : Output) (s : State) : (emit o s).hkc = s.hkc := by
  simp only [emit]
@[simp] theorem emit_therm (o : Output) (s : State) : (emit o s).therm = s.therm := by
  simp only [emit]
@[simp] theorem emit_fabric (o : Output) (s : State) : (emit o s).fabric = s.fabric := by
  simp only [emit]
@[simp] theorem emit_drone (o : Output) (s : State) : (emit o s).drone = s.drone := by
  simp only [emit]
@[simp] theorem emit_host (o : Output) (s : State) : (emit o s).host = s.host := by
  simp only [emit]
@[simp] theorem emit_secure (o : Output) (s : State) : (emit o s).secure = s.secure := by
  simp only [emit]
@[simp] theorem emit_boot (o : Output) (s : State) : (emit o s).boot = s.boot := by
  simp only [emit]
@[simp] theorem emit_nvm (o : Output) (s : State) : (emit o s).nvm = s.nvm := by
  simp only [emit]
@[simp] theorem emit_life (o : Output) (s : State) : (emit o s).life = s.life := by
  simp only [emit]
@[simp] theorem emit_modLife (o : Output) (s : State) : (emit o s).modLife = s.modLife := by
  simp only [emit]
@[simp] theorem emit_tensor (o : Output) (s : State) : (emit o s).tensor = s.tensor := by
  simp only [emit]
@[simp] theorem emit_fmt (o : Output) (s : State) : (emit o s).fmt = s.fmt := by
  simp only [emit]
@[simp] theorem emit_kv (o : Output) (s : State) : (emit o s).kv = s.kv := by
  simp only [emit]
@[simp] theorem emit_luna (o : Output) (s : State) : (emit o s).luna = s.luna := by
  simp only [emit]
@[simp] theorem emit_adapt (o : Output) (s : State) : (emit o s).adapt = s.adapt := by
  simp only [emit]
@[simp] theorem emit_serve (o : Output) (s : State) : (emit o s).serve = s.serve := by
  simp only [emit]
@[simp] theorem emit_freeIdx (o : Output) (s : State) : (emit o s).freeIdx = s.freeIdx := by
  simp only [emit]
@[simp] theorem emit_pending (o : Output) (s : State) : (emit o s).pending = s.pending := by
  simp only [emit]

/-! ## setReg -/

@[simp] theorem setReg_clk (a : Nat) (v : Word) (s : State) : (setReg a v s).clk = s.clk := by
  simp only [setReg]
@[simp] theorem setReg_log (a : Nat) (v : Word) (s : State) : (setReg a v s).log = s.log := by
  simp only [setReg]
@[simp] theorem setReg_seq (a : Nat) (v : Word) (s : State) : (setReg a v s).seq = s.seq := by
  simp only [setReg]
@[simp] theorem setReg_mem (a : Nat) (v : Word) (s : State) : (setReg a v s).mem = s.mem := by
  simp only [setReg]
@[simp] theorem setReg_breath (a : Nat) (v : Word) (s : State) : (setReg a v s).breath = s.breath := by
  simp only [setReg]
@[simp] theorem setReg_atlas (a : Nat) (v : Word) (s : State) : (setReg a v s).atlas = s.atlas := by
  simp only [setReg]
@[simp] theorem setReg_hkc (a : Nat) (v : Word) (s : State) : (setReg a v s).hkc = s.hkc := by
  simp only [setReg]
@[simp] theorem setReg_therm (a : Nat) (v : Word) (s : State) : (setReg a v s).therm = s.therm := by
  simp only [setReg]
@[simp] theorem setReg_fabric (a : Nat) (v : Word) (s : State) : (setReg a v s).fabric = s.fabric := by
  simp only [setReg]
@[simp] theorem setReg_drone (a : Nat) (v : Word) (s : State) : (setReg a v s).drone = s.drone := by
  simp only [setReg]
@[simp] theorem setReg_host (a : Nat) (v : Word) (s : State) : (setReg a v s).host = s.host := by
  simp only [setReg]
@[simp] theorem setReg_secure (a : Nat) (v : Word) (s : State) : (setReg a v s).secure = s.secure := by
  simp only [setReg]
@[simp] theorem setReg_boot (a : Nat) (v : Word) (s : State) : (setReg a v s).boot = s.boot := by
  simp only [setReg]
@[simp] theorem setReg_nvm (a : Nat) (v : Word) (s : State) : (setReg a v s).nvm = s.nvm := by
  simp only [setReg]
@[simp] theorem setReg_life (a : Nat) (v : Word) (s : State) : (setReg a v s).life = s.life := by
  simp only [setReg]
@[simp] theorem setReg_modLife (a : Nat) (v : Word) (s : State) : (setReg a v s).modLife = s.modLife := by
  simp only [setReg]
@[simp] theorem setReg_tensor (a : Nat) (v : Word) (s : State) : (setReg a v s).tensor = s.tensor := by
  simp only [setReg]
@[simp] theorem setReg_fmt (a : Nat) (v : Word) (s : State) : (setReg a v s).fmt = s.fmt := by
  simp only [setReg]
@[simp] theorem setReg_kv (a : Nat) (v : Word) (s : State) : (setReg a v s).kv = s.kv := by
  simp only [setReg]
@[simp] theorem setReg_luna (a : Nat) (v : Word) (s : State) : (setReg a v s).luna = s.luna := by
  simp only [setReg]
@[simp] theorem setReg_adapt (a : Nat) (v : Word) (s : State) : (setReg a v s).adapt = s.adapt := by
  simp only [setReg]
@[simp] theorem setReg_serve (a : Nat) (v : Word) (s : State) : (setReg a v s).serve = s.serve := by
  simp only [setReg]
@[simp] theorem setReg_out (a : Nat) (v : Word) (s : State) : (setReg a v s).out = s.out := by
  simp only [setReg]
@[simp] theorem setReg_freeIdx (a : Nat) (v : Word) (s : State) : (setReg a v s).freeIdx = s.freeIdx := by
  simp only [setReg]
@[simp] theorem setReg_pending (a : Nat) (v : Word) (s : State) : (setReg a v s).pending = s.pending := by
  simp only [setReg]

/-! ## updReg -/

@[simp] theorem updReg_clk (a : Nat) (f : Word → Word) (s : State) : (updReg a f s).clk = s.clk := by
  simp only [updReg, setReg_clk]
@[simp] theorem updReg_log (a : Nat) (f : Word → Word) (s : State) : (updReg a f s).log = s.log := by
  simp only [updReg, setReg_log]
@[simp] theorem updReg_seq (a : Nat) (f : Word → Word) (s : State) : (updReg a f s).seq = s.seq := by
  simp only [updReg, setReg_seq]
@[simp] theorem updReg_mem (a : Nat) (f : Word → Word) (s : State) : (updReg a f s).mem = s.mem := by
  simp only [updReg, setReg_mem]
@[simp] theorem updReg_breath (a : Nat) (f : Word → Word) (s : State) : (updReg a f s).breath = s.breath := by
  simp only [updReg, setReg_breath]
@[simp] theorem updReg_atlas (a : Nat) (f : Word → Word) (s : State) : (updReg a f s).atlas = s.atlas := by
  simp only [updReg, setReg_atlas]
@[simp] theorem updReg_hkc (a : Nat) (f : Word → Word) (s : State) : (updReg a f s).hkc = s.hkc := by
  simp only [updReg, setReg_hkc]
@[simp] theorem updReg_therm (a : Nat) (f : Word → Word) (s : State) : (updReg a f s).therm = s.therm := by
  simp only [updReg, setReg_therm]
@[simp] theorem updReg_fabric (a : Nat) (f : Word → Word) (s : State) : (updReg a f s).fabric = s.fabric := by
  simp only [updReg, setReg_fabric]
@[simp] theorem updReg_drone (a : Nat) (f : Word → Word) (s : State) : (updReg a f s).drone = s.drone := by
  simp only [updReg, setReg_drone]
@[simp] theorem updReg_host (a : Nat) (f : Word → Word) (s : State) : (updReg a f s).host = s.host := by
  simp only [updReg, setReg_host]
@[simp] theorem updReg_secure (a : Nat) (f : Word → Word) (s : State) : (updReg a f s).secure = s.secure := by
  simp only [updReg, setReg_secure]
@[simp] theorem updReg_boot (a : Nat) (f : Word → Word) (s : State) : (updReg a f s).boot = s.boot := by
  simp only [updReg, setReg_boot]
@[simp] theorem updReg_nvm (a : Nat) (f : Word → Word) (s : State) : (updReg a f s).nvm = s.nvm := by
  simp only [updReg, setReg_nvm]
@[simp] theorem updReg_life (a : Nat) (f : Word → Word) (s : State) : (updReg a f s).life = s.life := by
  simp only [updReg, setReg_life]
@[simp] theorem updReg_modLife (a : Nat) (f : Word → Word) (s : State) : (updReg a f s).modLife = s.modLife := by
  simp only [updReg, setReg_modLife]
@[simp] theorem updReg_tensor (a : Nat) (f : Word → Word) (s : State) : (updReg a f s).tensor = s.tensor := by
  simp only [updReg, setReg_tensor]
@[simp] theorem updReg_fmt (a : Nat) (f : Word → Word) (s : State) : (updReg a f s).fmt = s.fmt := by
  simp only [updReg, setReg_fmt]
@[simp] theorem updReg_kv (a : Nat) (f : Word → Word) (s : State) : (updReg a f s).kv = s.kv := by
  simp only [updReg, setReg_kv]
@[simp] theorem updReg_luna (a : Nat) (f : Word → Word) (s : State) : (updReg a f s).luna = s.luna := by
  simp only [updReg, setReg_luna]
@[simp] theorem updReg_adapt (a : Nat) (f : Word → Word) (s : State) : (updReg a f s).adapt = s.adapt := by
  simp only [updReg, setReg_adapt]
@[simp] theorem updReg_serve (a : Nat) (f : Word → Word) (s : State) : (updReg a f s).serve = s.serve := by
  simp only [updReg, setReg_serve]
@[simp] theorem updReg_out (a : Nat) (f : Word → Word) (s : State) : (updReg a f s).out = s.out := by
  simp only [updReg, setReg_out]
@[simp] theorem updReg_freeIdx (a : Nat) (f : Word → Word) (s : State) : (updReg a f s).freeIdx = s.freeIdx := by
  simp only [updReg, setReg_freeIdx]
@[simp] theorem updReg_pending (a : Nat) (f : Word → Word) (s : State) : (updReg a f s).pending = s.pending := by
  simp only [updReg, setReg_pending]

/-! ## setFld -/

@[simp] theorem setFld_clk (a hi lo v : Nat) (s : State) : (setFld a hi lo v s).clk = s.clk := by
  simp only [setFld, updReg_clk]
@[simp] theorem setFld_log (a hi lo v : Nat) (s : State) : (setFld a hi lo v s).log = s.log := by
  simp only [setFld, updReg_log]
@[simp] theorem setFld_seq (a hi lo v : Nat) (s : State) : (setFld a hi lo v s).seq = s.seq := by
  simp only [setFld, updReg_seq]
@[simp] theorem setFld_mem (a hi lo v : Nat) (s : State) : (setFld a hi lo v s).mem = s.mem := by
  simp only [setFld, updReg_mem]
@[simp] theorem setFld_breath (a hi lo v : Nat) (s : State) : (setFld a hi lo v s).breath = s.breath := by
  simp only [setFld, updReg_breath]
@[simp] theorem setFld_atlas (a hi lo v : Nat) (s : State) : (setFld a hi lo v s).atlas = s.atlas := by
  simp only [setFld, updReg_atlas]
@[simp] theorem setFld_hkc (a hi lo v : Nat) (s : State) : (setFld a hi lo v s).hkc = s.hkc := by
  simp only [setFld, updReg_hkc]
@[simp] theorem setFld_therm (a hi lo v : Nat) (s : State) : (setFld a hi lo v s).therm = s.therm := by
  simp only [setFld, updReg_therm]
@[simp] theorem setFld_fabric (a hi lo v : Nat) (s : State) : (setFld a hi lo v s).fabric = s.fabric := by
  simp only [setFld, updReg_fabric]
@[simp] theorem setFld_drone (a hi lo v : Nat) (s : State) : (setFld a hi lo v s).drone = s.drone := by
  simp only [setFld, updReg_drone]
@[simp] theorem setFld_host (a hi lo v : Nat) (s : State) : (setFld a hi lo v s).host = s.host := by
  simp only [setFld, updReg_host]
@[simp] theorem setFld_secure (a hi lo v : Nat) (s : State) : (setFld a hi lo v s).secure = s.secure := by
  simp only [setFld, updReg_secure]
@[simp] theorem setFld_boot (a hi lo v : Nat) (s : State) : (setFld a hi lo v s).boot = s.boot := by
  simp only [setFld, updReg_boot]
@[simp] theorem setFld_nvm (a hi lo v : Nat) (s : State) : (setFld a hi lo v s).nvm = s.nvm := by
  simp only [setFld, updReg_nvm]
@[simp] theorem setFld_life (a hi lo v : Nat) (s : State) : (setFld a hi lo v s).life = s.life := by
  simp only [setFld, updReg_life]
@[simp] theorem setFld_modLife (a hi lo v : Nat) (s : State) : (setFld a hi lo v s).modLife = s.modLife := by
  simp only [setFld, updReg_modLife]
@[simp] theorem setFld_tensor (a hi lo v : Nat) (s : State) : (setFld a hi lo v s).tensor = s.tensor := by
  simp only [setFld, updReg_tensor]
@[simp] theorem setFld_fmt (a hi lo v : Nat) (s : State) : (setFld a hi lo v s).fmt = s.fmt := by
  simp only [setFld, updReg_fmt]
@[simp] theorem setFld_kv (a hi lo v : Nat) (s : State) : (setFld a hi lo v s).kv = s.kv := by
  simp only [setFld, updReg_kv]
@[simp] theorem setFld_luna (a hi lo v : Nat) (s : State) : (setFld a hi lo v s).luna = s.luna := by
  simp only [setFld, updReg_luna]
@[simp] theorem setFld_adapt (a hi lo v : Nat) (s : State) : (setFld a hi lo v s).adapt = s.adapt := by
  simp only [setFld, updReg_adapt]
@[simp] theorem setFld_serve (a hi lo v : Nat) (s : State) : (setFld a hi lo v s).serve = s.serve := by
  simp only [setFld, updReg_serve]
@[simp] theorem setFld_out (a hi lo v : Nat) (s : State) : (setFld a hi lo v s).out = s.out := by
  simp only [setFld, updReg_out]
@[simp] theorem setFld_freeIdx (a hi lo v : Nat) (s : State) : (setFld a hi lo v s).freeIdx = s.freeIdx := by
  simp only [setFld, updReg_freeIdx]
@[simp] theorem setFld_pending (a hi lo v : Nat) (s : State) : (setFld a hi lo v s).pending = s.pending := by
  simp only [setFld, updReg_pending]

/-! ## commitRegs -/

@[simp] theorem commitRegs_clk (w : When) (s : State) : (commitRegs w s).clk = s.clk := by
  simp only [commitRegs]
@[simp] theorem commitRegs_log (w : When) (s : State) : (commitRegs w s).log = s.log := by
  simp only [commitRegs]
@[simp] theorem commitRegs_seq (w : When) (s : State) : (commitRegs w s).seq = s.seq := by
  simp only [commitRegs]
@[simp] theorem commitRegs_mem (w : When) (s : State) : (commitRegs w s).mem = s.mem := by
  simp only [commitRegs]
@[simp] theorem commitRegs_breath (w : When) (s : State) : (commitRegs w s).breath = s.breath := by
  simp only [commitRegs]
@[simp] theorem commitRegs_atlas (w : When) (s : State) : (commitRegs w s).atlas = s.atlas := by
  simp only [commitRegs]
@[simp] theorem commitRegs_hkc (w : When) (s : State) : (commitRegs w s).hkc = s.hkc := by
  simp only [commitRegs]
@[simp] theorem commitRegs_therm (w : When) (s : State) : (commitRegs w s).therm = s.therm := by
  simp only [commitRegs]
@[simp] theorem commitRegs_fabric (w : When) (s : State) : (commitRegs w s).fabric = s.fabric := by
  simp only [commitRegs]
@[simp] theorem commitRegs_drone (w : When) (s : State) : (commitRegs w s).drone = s.drone := by
  simp only [commitRegs]
@[simp] theorem commitRegs_host (w : When) (s : State) : (commitRegs w s).host = s.host := by
  simp only [commitRegs]
@[simp] theorem commitRegs_secure (w : When) (s : State) : (commitRegs w s).secure = s.secure := by
  simp only [commitRegs]
@[simp] theorem commitRegs_boot (w : When) (s : State) : (commitRegs w s).boot = s.boot := by
  simp only [commitRegs]
@[simp] theorem commitRegs_nvm (w : When) (s : State) : (commitRegs w s).nvm = s.nvm := by
  simp only [commitRegs]
@[simp] theorem commitRegs_life (w : When) (s : State) : (commitRegs w s).life = s.life := by
  simp only [commitRegs]
@[simp] theorem commitRegs_modLife (w : When) (s : State) : (commitRegs w s).modLife = s.modLife := by
  simp only [commitRegs]
@[simp] theorem commitRegs_tensor (w : When) (s : State) : (commitRegs w s).tensor = s.tensor := by
  simp only [commitRegs]
@[simp] theorem commitRegs_fmt (w : When) (s : State) : (commitRegs w s).fmt = s.fmt := by
  simp only [commitRegs]
@[simp] theorem commitRegs_kv (w : When) (s : State) : (commitRegs w s).kv = s.kv := by
  simp only [commitRegs]
@[simp] theorem commitRegs_luna (w : When) (s : State) : (commitRegs w s).luna = s.luna := by
  simp only [commitRegs]
@[simp] theorem commitRegs_adapt (w : When) (s : State) : (commitRegs w s).adapt = s.adapt := by
  simp only [commitRegs]
@[simp] theorem commitRegs_serve (w : When) (s : State) : (commitRegs w s).serve = s.serve := by
  simp only [commitRegs]
@[simp] theorem commitRegs_out (w : When) (s : State) : (commitRegs w s).out = s.out := by
  simp only [commitRegs]
@[simp] theorem commitRegs_freeIdx (w : When) (s : State) : (commitRegs w s).freeIdx = s.freeIdx := by
  simp only [commitRegs]
@[simp] theorem commitRegs_pending (w : When) (s : State) : (commitRegs w s).pending = s.pending := by
  simp only [commitRegs]

/-! ## bump -/

@[simp] theorem bump_clk (a n : Nat) (s : State) : (bump a n s).clk = s.clk := by
  simp only [bump]
@[simp] theorem bump_log (a n : Nat) (s : State) : (bump a n s).log = s.log := by
  simp only [bump]
@[simp] theorem bump_seq (a n : Nat) (s : State) : (bump a n s).seq = s.seq := by
  simp only [bump]
@[simp] theorem bump_mem (a n : Nat) (s : State) : (bump a n s).mem = s.mem := by
  simp only [bump]
@[simp] theorem bump_breath (a n : Nat) (s : State) : (bump a n s).breath = s.breath := by
  simp only [bump]
@[simp] theorem bump_atlas (a n : Nat) (s : State) : (bump a n s).atlas = s.atlas := by
  simp only [bump]
@[simp] theorem bump_hkc (a n : Nat) (s : State) : (bump a n s).hkc = s.hkc := by
  simp only [bump]
@[simp] theorem bump_therm (a n : Nat) (s : State) : (bump a n s).therm = s.therm := by
  simp only [bump]
@[simp] theorem bump_fabric (a n : Nat) (s : State) : (bump a n s).fabric = s.fabric := by
  simp only [bump]
@[simp] theorem bump_drone (a n : Nat) (s : State) : (bump a n s).drone = s.drone := by
  simp only [bump]
@[simp] theorem bump_host (a n : Nat) (s : State) : (bump a n s).host = s.host := by
  simp only [bump]
@[simp] theorem bump_secure (a n : Nat) (s : State) : (bump a n s).secure = s.secure := by
  simp only [bump]
@[simp] theorem bump_boot (a n : Nat) (s : State) : (bump a n s).boot = s.boot := by
  simp only [bump]
@[simp] theorem bump_nvm (a n : Nat) (s : State) : (bump a n s).nvm = s.nvm := by
  simp only [bump]
@[simp] theorem bump_life (a n : Nat) (s : State) : (bump a n s).life = s.life := by
  simp only [bump]
@[simp] theorem bump_modLife (a n : Nat) (s : State) : (bump a n s).modLife = s.modLife := by
  simp only [bump]
@[simp] theorem bump_tensor (a n : Nat) (s : State) : (bump a n s).tensor = s.tensor := by
  simp only [bump]
@[simp] theorem bump_fmt (a n : Nat) (s : State) : (bump a n s).fmt = s.fmt := by
  simp only [bump]
@[simp] theorem bump_kv (a n : Nat) (s : State) : (bump a n s).kv = s.kv := by
  simp only [bump]
@[simp] theorem bump_luna (a n : Nat) (s : State) : (bump a n s).luna = s.luna := by
  simp only [bump]
@[simp] theorem bump_adapt (a n : Nat) (s : State) : (bump a n s).adapt = s.adapt := by
  simp only [bump]
@[simp] theorem bump_serve (a n : Nat) (s : State) : (bump a n s).serve = s.serve := by
  simp only [bump]
@[simp] theorem bump_out (a n : Nat) (s : State) : (bump a n s).out = s.out := by
  simp only [bump]
@[simp] theorem bump_freeIdx (a n : Nat) (s : State) : (bump a n s).freeIdx = s.freeIdx := by
  simp only [bump]
@[simp] theorem bump_pending (a n : Nat) (s : State) : (bump a n s).pending = s.pending := by
  simp only [bump]

/-! ## hwSetBits -/

@[simp] theorem hwSetBits_clk (a : Nat) (m : Word) (s : State) : (hwSetBits a m s).clk = s.clk := by
  simp only [hwSetBits]
@[simp] theorem hwSetBits_log (a : Nat) (m : Word) (s : State) : (hwSetBits a m s).log = s.log := by
  simp only [hwSetBits]
@[simp] theorem hwSetBits_seq (a : Nat) (m : Word) (s : State) : (hwSetBits a m s).seq = s.seq := by
  simp only [hwSetBits]
@[simp] theorem hwSetBits_mem (a : Nat) (m : Word) (s : State) : (hwSetBits a m s).mem = s.mem := by
  simp only [hwSetBits]
@[simp] theorem hwSetBits_breath (a : Nat) (m : Word) (s : State) : (hwSetBits a m s).breath = s.breath := by
  simp only [hwSetBits]
@[simp] theorem hwSetBits_atlas (a : Nat) (m : Word) (s : State) : (hwSetBits a m s).atlas = s.atlas := by
  simp only [hwSetBits]
@[simp] theorem hwSetBits_hkc (a : Nat) (m : Word) (s : State) : (hwSetBits a m s).hkc = s.hkc := by
  simp only [hwSetBits]
@[simp] theorem hwSetBits_therm (a : Nat) (m : Word) (s : State) : (hwSetBits a m s).therm = s.therm := by
  simp only [hwSetBits]
@[simp] theorem hwSetBits_fabric (a : Nat) (m : Word) (s : State) : (hwSetBits a m s).fabric = s.fabric := by
  simp only [hwSetBits]
@[simp] theorem hwSetBits_drone (a : Nat) (m : Word) (s : State) : (hwSetBits a m s).drone = s.drone := by
  simp only [hwSetBits]
@[simp] theorem hwSetBits_host (a : Nat) (m : Word) (s : State) : (hwSetBits a m s).host = s.host := by
  simp only [hwSetBits]
@[simp] theorem hwSetBits_secure (a : Nat) (m : Word) (s : State) : (hwSetBits a m s).secure = s.secure := by
  simp only [hwSetBits]
@[simp] theorem hwSetBits_boot (a : Nat) (m : Word) (s : State) : (hwSetBits a m s).boot = s.boot := by
  simp only [hwSetBits]
@[simp] theorem hwSetBits_nvm (a : Nat) (m : Word) (s : State) : (hwSetBits a m s).nvm = s.nvm := by
  simp only [hwSetBits]
@[simp] theorem hwSetBits_life (a : Nat) (m : Word) (s : State) : (hwSetBits a m s).life = s.life := by
  simp only [hwSetBits]
@[simp] theorem hwSetBits_modLife (a : Nat) (m : Word) (s : State) : (hwSetBits a m s).modLife = s.modLife := by
  simp only [hwSetBits]
@[simp] theorem hwSetBits_tensor (a : Nat) (m : Word) (s : State) : (hwSetBits a m s).tensor = s.tensor := by
  simp only [hwSetBits]
@[simp] theorem hwSetBits_fmt (a : Nat) (m : Word) (s : State) : (hwSetBits a m s).fmt = s.fmt := by
  simp only [hwSetBits]
@[simp] theorem hwSetBits_kv (a : Nat) (m : Word) (s : State) : (hwSetBits a m s).kv = s.kv := by
  simp only [hwSetBits]
@[simp] theorem hwSetBits_luna (a : Nat) (m : Word) (s : State) : (hwSetBits a m s).luna = s.luna := by
  simp only [hwSetBits]
@[simp] theorem hwSetBits_adapt (a : Nat) (m : Word) (s : State) : (hwSetBits a m s).adapt = s.adapt := by
  simp only [hwSetBits]
@[simp] theorem hwSetBits_serve (a : Nat) (m : Word) (s : State) : (hwSetBits a m s).serve = s.serve := by
  simp only [hwSetBits]
@[simp] theorem hwSetBits_out (a : Nat) (m : Word) (s : State) : (hwSetBits a m s).out = s.out := by
  simp only [hwSetBits]
@[simp] theorem hwSetBits_freeIdx (a : Nat) (m : Word) (s : State) : (hwSetBits a m s).freeIdx = s.freeIdx := by
  simp only [hwSetBits]
@[simp] theorem hwSetBits_pending (a : Nat) (m : Word) (s : State) : (hwSetBits a m s).pending = s.pending := by
  simp only [hwSetBits]

/-! ## setReg64 -/

@[simp] theorem setReg64_clk (a v : Nat) (s : State) : (setReg64 a v s).clk = s.clk := by
  simp only [setReg64, setReg_clk]
@[simp] theorem setReg64_log (a v : Nat) (s : State) : (setReg64 a v s).log = s.log := by
  simp only [setReg64, setReg_log]
@[simp] theorem setReg64_seq (a v : Nat) (s : State) : (setReg64 a v s).seq = s.seq := by
  simp only [setReg64, setReg_seq]
@[simp] theorem setReg64_mem (a v : Nat) (s : State) : (setReg64 a v s).mem = s.mem := by
  simp only [setReg64, setReg_mem]
@[simp] theorem setReg64_breath (a v : Nat) (s : State) : (setReg64 a v s).breath = s.breath := by
  simp only [setReg64, setReg_breath]
@[simp] theorem setReg64_atlas (a v : Nat) (s : State) : (setReg64 a v s).atlas = s.atlas := by
  simp only [setReg64, setReg_atlas]
@[simp] theorem setReg64_hkc (a v : Nat) (s : State) : (setReg64 a v s).hkc = s.hkc := by
  simp only [setReg64, setReg_hkc]
@[simp] theorem setReg64_therm (a v : Nat) (s : State) : (setReg64 a v s).therm = s.therm := by
  simp only [setReg64, setReg_therm]
@[simp] theorem setReg64_fabric (a v : Nat) (s : State) : (setReg64 a v s).fabric = s.fabric := by
  simp only [setReg64, setReg_fabric]
@[simp] theorem setReg64_drone (a v : Nat) (s : State) : (setReg64 a v s).drone = s.drone := by
  simp only [setReg64, setReg_drone]
@[simp] theorem setReg64_host (a v : Nat) (s : State) : (setReg64 a v s).host = s.host := by
  simp only [setReg64, setReg_host]
@[simp] theorem setReg64_secure (a v : Nat) (s : State) : (setReg64 a v s).secure = s.secure := by
  simp only [setReg64, setReg_secure]
@[simp] theorem setReg64_boot (a v : Nat) (s : State) : (setReg64 a v s).boot = s.boot := by
  simp only [setReg64, setReg_boot]
@[simp] theorem setReg64_nvm (a v : Nat) (s : State) : (setReg64 a v s).nvm = s.nvm := by
  simp only [setReg64, setReg_nvm]
@[simp] theorem setReg64_life (a v : Nat) (s : State) : (setReg64 a v s).life = s.life := by
  simp only [setReg64, setReg_life]
@[simp] theorem setReg64_modLife (a v : Nat) (s : State) : (setReg64 a v s).modLife = s.modLife := by
  simp only [setReg64, setReg_modLife]
@[simp] theorem setReg64_tensor (a v : Nat) (s : State) : (setReg64 a v s).tensor = s.tensor := by
  simp only [setReg64, setReg_tensor]
@[simp] theorem setReg64_fmt (a v : Nat) (s : State) : (setReg64 a v s).fmt = s.fmt := by
  simp only [setReg64, setReg_fmt]
@[simp] theorem setReg64_kv (a v : Nat) (s : State) : (setReg64 a v s).kv = s.kv := by
  simp only [setReg64, setReg_kv]
@[simp] theorem setReg64_luna (a v : Nat) (s : State) : (setReg64 a v s).luna = s.luna := by
  simp only [setReg64, setReg_luna]
@[simp] theorem setReg64_adapt (a v : Nat) (s : State) : (setReg64 a v s).adapt = s.adapt := by
  simp only [setReg64, setReg_adapt]
@[simp] theorem setReg64_serve (a v : Nat) (s : State) : (setReg64 a v s).serve = s.serve := by
  simp only [setReg64, setReg_serve]
@[simp] theorem setReg64_out (a v : Nat) (s : State) : (setReg64 a v s).out = s.out := by
  simp only [setReg64, setReg_out]
@[simp] theorem setReg64_freeIdx (a v : Nat) (s : State) : (setReg64 a v s).freeIdx = s.freeIdx := by
  simp only [setReg64, setReg_freeIdx]
@[simp] theorem setReg64_pending (a v : Nat) (s : State) : (setReg64 a v s).pending = s.pending := by
  simp only [setReg64, setReg_pending]

/-! ## bump64 -/

@[simp] theorem bump64_clk (a n : Nat) (s : State) : (bump64 a n s).clk = s.clk := by
  simp only [bump64, setReg64_clk]
@[simp] theorem bump64_log (a n : Nat) (s : State) : (bump64 a n s).log = s.log := by
  simp only [bump64, setReg64_log]
@[simp] theorem bump64_seq (a n : Nat) (s : State) : (bump64 a n s).seq = s.seq := by
  simp only [bump64, setReg64_seq]
@[simp] theorem bump64_mem (a n : Nat) (s : State) : (bump64 a n s).mem = s.mem := by
  simp only [bump64, setReg64_mem]
@[simp] theorem bump64_breath (a n : Nat) (s : State) : (bump64 a n s).breath = s.breath := by
  simp only [bump64, setReg64_breath]
@[simp] theorem bump64_atlas (a n : Nat) (s : State) : (bump64 a n s).atlas = s.atlas := by
  simp only [bump64, setReg64_atlas]
@[simp] theorem bump64_hkc (a n : Nat) (s : State) : (bump64 a n s).hkc = s.hkc := by
  simp only [bump64, setReg64_hkc]
@[simp] theorem bump64_therm (a n : Nat) (s : State) : (bump64 a n s).therm = s.therm := by
  simp only [bump64, setReg64_therm]
@[simp] theorem bump64_fabric (a n : Nat) (s : State) : (bump64 a n s).fabric = s.fabric := by
  simp only [bump64, setReg64_fabric]
@[simp] theorem bump64_drone (a n : Nat) (s : State) : (bump64 a n s).drone = s.drone := by
  simp only [bump64, setReg64_drone]
@[simp] theorem bump64_host (a n : Nat) (s : State) : (bump64 a n s).host = s.host := by
  simp only [bump64, setReg64_host]
@[simp] theorem bump64_secure (a n : Nat) (s : State) : (bump64 a n s).secure = s.secure := by
  simp only [bump64, setReg64_secure]
@[simp] theorem bump64_boot (a n : Nat) (s : State) : (bump64 a n s).boot = s.boot := by
  simp only [bump64, setReg64_boot]
@[simp] theorem bump64_nvm (a n : Nat) (s : State) : (bump64 a n s).nvm = s.nvm := by
  simp only [bump64, setReg64_nvm]
@[simp] theorem bump64_life (a n : Nat) (s : State) : (bump64 a n s).life = s.life := by
  simp only [bump64, setReg64_life]
@[simp] theorem bump64_modLife (a n : Nat) (s : State) : (bump64 a n s).modLife = s.modLife := by
  simp only [bump64, setReg64_modLife]
@[simp] theorem bump64_tensor (a n : Nat) (s : State) : (bump64 a n s).tensor = s.tensor := by
  simp only [bump64, setReg64_tensor]
@[simp] theorem bump64_fmt (a n : Nat) (s : State) : (bump64 a n s).fmt = s.fmt := by
  simp only [bump64, setReg64_fmt]
@[simp] theorem bump64_kv (a n : Nat) (s : State) : (bump64 a n s).kv = s.kv := by
  simp only [bump64, setReg64_kv]
@[simp] theorem bump64_luna (a n : Nat) (s : State) : (bump64 a n s).luna = s.luna := by
  simp only [bump64, setReg64_luna]
@[simp] theorem bump64_adapt (a n : Nat) (s : State) : (bump64 a n s).adapt = s.adapt := by
  simp only [bump64, setReg64_adapt]
@[simp] theorem bump64_serve (a n : Nat) (s : State) : (bump64 a n s).serve = s.serve := by
  simp only [bump64, setReg64_serve]
@[simp] theorem bump64_out (a n : Nat) (s : State) : (bump64 a n s).out = s.out := by
  simp only [bump64, setReg64_out]
@[simp] theorem bump64_freeIdx (a n : Nat) (s : State) : (bump64 a n s).freeIdx = s.freeIdx := by
  simp only [bump64, setReg64_freeIdx]
@[simp] theorem bump64_pending (a n : Nat) (s : State) : (bump64 a n s).pending = s.pending := by
  simp only [bump64, setReg64_pending]

/-! ## setPort -/

@[simp] theorem setPort_clk (p : Nat) (x : ShawmPort) (s : State) : (setPort p x s).clk = s.clk := by
  simp only [setPort]
@[simp] theorem setPort_log (p : Nat) (x : ShawmPort) (s : State) : (setPort p x s).log = s.log := by
  simp only [setPort]
@[simp] theorem setPort_regs (p : Nat) (x : ShawmPort) (s : State) : (setPort p x s).regs = s.regs := by
  simp only [setPort]
@[simp] theorem setPort_seq (p : Nat) (x : ShawmPort) (s : State) : (setPort p x s).seq = s.seq := by
  simp only [setPort]
@[simp] theorem setPort_mem (p : Nat) (x : ShawmPort) (s : State) : (setPort p x s).mem = s.mem := by
  simp only [setPort]
@[simp] theorem setPort_breath (p : Nat) (x : ShawmPort) (s : State) : (setPort p x s).breath = s.breath := by
  simp only [setPort]
@[simp] theorem setPort_atlas (p : Nat) (x : ShawmPort) (s : State) : (setPort p x s).atlas = s.atlas := by
  simp only [setPort]
@[simp] theorem setPort_hkc (p : Nat) (x : ShawmPort) (s : State) : (setPort p x s).hkc = s.hkc := by
  simp only [setPort]
@[simp] theorem setPort_therm (p : Nat) (x : ShawmPort) (s : State) : (setPort p x s).therm = s.therm := by
  simp only [setPort]
@[simp] theorem setPort_drone (p : Nat) (x : ShawmPort) (s : State) : (setPort p x s).drone = s.drone := by
  simp only [setPort]
@[simp] theorem setPort_host (p : Nat) (x : ShawmPort) (s : State) : (setPort p x s).host = s.host := by
  simp only [setPort]
@[simp] theorem setPort_secure (p : Nat) (x : ShawmPort) (s : State) : (setPort p x s).secure = s.secure := by
  simp only [setPort]
@[simp] theorem setPort_boot (p : Nat) (x : ShawmPort) (s : State) : (setPort p x s).boot = s.boot := by
  simp only [setPort]
@[simp] theorem setPort_nvm (p : Nat) (x : ShawmPort) (s : State) : (setPort p x s).nvm = s.nvm := by
  simp only [setPort]
@[simp] theorem setPort_life (p : Nat) (x : ShawmPort) (s : State) : (setPort p x s).life = s.life := by
  simp only [setPort]
@[simp] theorem setPort_modLife (p : Nat) (x : ShawmPort) (s : State) : (setPort p x s).modLife = s.modLife := by
  simp only [setPort]
@[simp] theorem setPort_tensor (p : Nat) (x : ShawmPort) (s : State) : (setPort p x s).tensor = s.tensor := by
  simp only [setPort]
@[simp] theorem setPort_fmt (p : Nat) (x : ShawmPort) (s : State) : (setPort p x s).fmt = s.fmt := by
  simp only [setPort]
@[simp] theorem setPort_kv (p : Nat) (x : ShawmPort) (s : State) : (setPort p x s).kv = s.kv := by
  simp only [setPort]
@[simp] theorem setPort_luna (p : Nat) (x : ShawmPort) (s : State) : (setPort p x s).luna = s.luna := by
  simp only [setPort]
@[simp] theorem setPort_adapt (p : Nat) (x : ShawmPort) (s : State) : (setPort p x s).adapt = s.adapt := by
  simp only [setPort]
@[simp] theorem setPort_serve (p : Nat) (x : ShawmPort) (s : State) : (setPort p x s).serve = s.serve := by
  simp only [setPort]
@[simp] theorem setPort_out (p : Nat) (x : ShawmPort) (s : State) : (setPort p x s).out = s.out := by
  simp only [setPort]
@[simp] theorem setPort_freeIdx (p : Nat) (x : ShawmPort) (s : State) : (setPort p x s).freeIdx = s.freeIdx := by
  simp only [setPort]
@[simp] theorem setPort_pending (p : Nat) (x : ShawmPort) (s : State) : (setPort p x s).pending = s.pending := by
  simp only [setPort]

/-! ## setSpad -/

@[simp] theorem setSpad_clk (d w : Nat) (x : SWord) (s : State) : (setSpad d w x s).clk = s.clk := by
  simp only [setSpad]
@[simp] theorem setSpad_log (d w : Nat) (x : SWord) (s : State) : (setSpad d w x s).log = s.log := by
  simp only [setSpad]
@[simp] theorem setSpad_regs (d w : Nat) (x : SWord) (s : State) : (setSpad d w x s).regs = s.regs := by
  simp only [setSpad]
@[simp] theorem setSpad_seq (d w : Nat) (x : SWord) (s : State) : (setSpad d w x s).seq = s.seq := by
  simp only [setSpad]
@[simp] theorem setSpad_breath (d w : Nat) (x : SWord) (s : State) : (setSpad d w x s).breath = s.breath := by
  simp only [setSpad]
@[simp] theorem setSpad_atlas (d w : Nat) (x : SWord) (s : State) : (setSpad d w x s).atlas = s.atlas := by
  simp only [setSpad]
@[simp] theorem setSpad_hkc (d w : Nat) (x : SWord) (s : State) : (setSpad d w x s).hkc = s.hkc := by
  simp only [setSpad]
@[simp] theorem setSpad_therm (d w : Nat) (x : SWord) (s : State) : (setSpad d w x s).therm = s.therm := by
  simp only [setSpad]
@[simp] theorem setSpad_fabric (d w : Nat) (x : SWord) (s : State) : (setSpad d w x s).fabric = s.fabric := by
  simp only [setSpad]
@[simp] theorem setSpad_drone (d w : Nat) (x : SWord) (s : State) : (setSpad d w x s).drone = s.drone := by
  simp only [setSpad]
@[simp] theorem setSpad_host (d w : Nat) (x : SWord) (s : State) : (setSpad d w x s).host = s.host := by
  simp only [setSpad]
@[simp] theorem setSpad_secure (d w : Nat) (x : SWord) (s : State) : (setSpad d w x s).secure = s.secure := by
  simp only [setSpad]
@[simp] theorem setSpad_boot (d w : Nat) (x : SWord) (s : State) : (setSpad d w x s).boot = s.boot := by
  simp only [setSpad]
@[simp] theorem setSpad_nvm (d w : Nat) (x : SWord) (s : State) : (setSpad d w x s).nvm = s.nvm := by
  simp only [setSpad]
@[simp] theorem setSpad_life (d w : Nat) (x : SWord) (s : State) : (setSpad d w x s).life = s.life := by
  simp only [setSpad]
@[simp] theorem setSpad_modLife (d w : Nat) (x : SWord) (s : State) : (setSpad d w x s).modLife = s.modLife := by
  simp only [setSpad]
@[simp] theorem setSpad_tensor (d w : Nat) (x : SWord) (s : State) : (setSpad d w x s).tensor = s.tensor := by
  simp only [setSpad]
@[simp] theorem setSpad_fmt (d w : Nat) (x : SWord) (s : State) : (setSpad d w x s).fmt = s.fmt := by
  simp only [setSpad]
@[simp] theorem setSpad_kv (d w : Nat) (x : SWord) (s : State) : (setSpad d w x s).kv = s.kv := by
  simp only [setSpad]
@[simp] theorem setSpad_luna (d w : Nat) (x : SWord) (s : State) : (setSpad d w x s).luna = s.luna := by
  simp only [setSpad]
@[simp] theorem setSpad_adapt (d w : Nat) (x : SWord) (s : State) : (setSpad d w x s).adapt = s.adapt := by
  simp only [setSpad]
@[simp] theorem setSpad_serve (d w : Nat) (x : SWord) (s : State) : (setSpad d w x s).serve = s.serve := by
  simp only [setSpad]
@[simp] theorem setSpad_out (d w : Nat) (x : SWord) (s : State) : (setSpad d w x s).out = s.out := by
  simp only [setSpad]
@[simp] theorem setSpad_freeIdx (d w : Nat) (x : SWord) (s : State) : (setSpad d w x s).freeIdx = s.freeIdx := by
  simp only [setSpad]
@[simp] theorem setSpad_pending (d w : Nat) (x : SWord) (s : State) : (setSpad d w x s).pending = s.pending := by
  simp only [setSpad]

/-! ## setHbmByte -/

@[simp] theorem setHbmByte_clk (a : Nat) (b : Byte) (s : State) : (setHbmByte a b s).clk = s.clk := by
  simp only [setHbmByte]
@[simp] theorem setHbmByte_log (a : Nat) (b : Byte) (s : State) : (setHbmByte a b s).log = s.log := by
  simp only [setHbmByte]
@[simp] theorem setHbmByte_regs (a : Nat) (b : Byte) (s : State) : (setHbmByte a b s).regs = s.regs := by
  simp only [setHbmByte]
@[simp] theorem setHbmByte_seq (a : Nat) (b : Byte) (s : State) : (setHbmByte a b s).seq = s.seq := by
  simp only [setHbmByte]
@[simp] theorem setHbmByte_breath (a : Nat) (b : Byte) (s : State) : (setHbmByte a b s).breath = s.breath := by
  simp only [setHbmByte]
@[simp] theorem setHbmByte_atlas (a : Nat) (b : Byte) (s : State) : (setHbmByte a b s).atlas = s.atlas := by
  simp only [setHbmByte]
@[simp] theorem setHbmByte_hkc (a : Nat) (b : Byte) (s : State) : (setHbmByte a b s).hkc = s.hkc := by
  simp only [setHbmByte]
@[simp] theorem setHbmByte_therm (a : Nat) (b : Byte) (s : State) : (setHbmByte a b s).therm = s.therm := by
  simp only [setHbmByte]
@[simp] theorem setHbmByte_fabric (a : Nat) (b : Byte) (s : State) : (setHbmByte a b s).fabric = s.fabric := by
  simp only [setHbmByte]
@[simp] theorem setHbmByte_drone (a : Nat) (b : Byte) (s : State) : (setHbmByte a b s).drone = s.drone := by
  simp only [setHbmByte]
@[simp] theorem setHbmByte_host (a : Nat) (b : Byte) (s : State) : (setHbmByte a b s).host = s.host := by
  simp only [setHbmByte]
@[simp] theorem setHbmByte_secure (a : Nat) (b : Byte) (s : State) : (setHbmByte a b s).secure = s.secure := by
  simp only [setHbmByte]
@[simp] theorem setHbmByte_boot (a : Nat) (b : Byte) (s : State) : (setHbmByte a b s).boot = s.boot := by
  simp only [setHbmByte]
@[simp] theorem setHbmByte_nvm (a : Nat) (b : Byte) (s : State) : (setHbmByte a b s).nvm = s.nvm := by
  simp only [setHbmByte]
@[simp] theorem setHbmByte_life (a : Nat) (b : Byte) (s : State) : (setHbmByte a b s).life = s.life := by
  simp only [setHbmByte]
@[simp] theorem setHbmByte_modLife (a : Nat) (b : Byte) (s : State) : (setHbmByte a b s).modLife = s.modLife := by
  simp only [setHbmByte]
@[simp] theorem setHbmByte_tensor (a : Nat) (b : Byte) (s : State) : (setHbmByte a b s).tensor = s.tensor := by
  simp only [setHbmByte]
@[simp] theorem setHbmByte_fmt (a : Nat) (b : Byte) (s : State) : (setHbmByte a b s).fmt = s.fmt := by
  simp only [setHbmByte]
@[simp] theorem setHbmByte_kv (a : Nat) (b : Byte) (s : State) : (setHbmByte a b s).kv = s.kv := by
  simp only [setHbmByte]
@[simp] theorem setHbmByte_luna (a : Nat) (b : Byte) (s : State) : (setHbmByte a b s).luna = s.luna := by
  simp only [setHbmByte]
@[simp] theorem setHbmByte_adapt (a : Nat) (b : Byte) (s : State) : (setHbmByte a b s).adapt = s.adapt := by
  simp only [setHbmByte]
@[simp] theorem setHbmByte_serve (a : Nat) (b : Byte) (s : State) : (setHbmByte a b s).serve = s.serve := by
  simp only [setHbmByte]
@[simp] theorem setHbmByte_out (a : Nat) (b : Byte) (s : State) : (setHbmByte a b s).out = s.out := by
  simp only [setHbmByte]
@[simp] theorem setHbmByte_freeIdx (a : Nat) (b : Byte) (s : State) : (setHbmByte a b s).freeIdx = s.freeIdx := by
  simp only [setHbmByte]
@[simp] theorem setHbmByte_pending (a : Nat) (b : Byte) (s : State) : (setHbmByte a b s).pending = s.pending := by
  simp only [setHbmByte]

/-! ## setBurstPoison -/

@[simp] theorem setBurstPoison_clk (b : Nat) (p : Bool) (s : State) : (setBurstPoison b p s).clk = s.clk := by
  simp only [setBurstPoison]
@[simp] theorem setBurstPoison_log (b : Nat) (p : Bool) (s : State) : (setBurstPoison b p s).log = s.log := by
  simp only [setBurstPoison]
@[simp] theorem setBurstPoison_regs (b : Nat) (p : Bool) (s : State) : (setBurstPoison b p s).regs = s.regs := by
  simp only [setBurstPoison]
@[simp] theorem setBurstPoison_seq (b : Nat) (p : Bool) (s : State) : (setBurstPoison b p s).seq = s.seq := by
  simp only [setBurstPoison]
@[simp] theorem setBurstPoison_breath (b : Nat) (p : Bool) (s : State) : (setBurstPoison b p s).breath = s.breath := by
  simp only [setBurstPoison]
@[simp] theorem setBurstPoison_atlas (b : Nat) (p : Bool) (s : State) : (setBurstPoison b p s).atlas = s.atlas := by
  simp only [setBurstPoison]
@[simp] theorem setBurstPoison_hkc (b : Nat) (p : Bool) (s : State) : (setBurstPoison b p s).hkc = s.hkc := by
  simp only [setBurstPoison]
@[simp] theorem setBurstPoison_therm (b : Nat) (p : Bool) (s : State) : (setBurstPoison b p s).therm = s.therm := by
  simp only [setBurstPoison]
@[simp] theorem setBurstPoison_fabric (b : Nat) (p : Bool) (s : State) : (setBurstPoison b p s).fabric = s.fabric := by
  simp only [setBurstPoison]
@[simp] theorem setBurstPoison_drone (b : Nat) (p : Bool) (s : State) : (setBurstPoison b p s).drone = s.drone := by
  simp only [setBurstPoison]
@[simp] theorem setBurstPoison_host (b : Nat) (p : Bool) (s : State) : (setBurstPoison b p s).host = s.host := by
  simp only [setBurstPoison]
@[simp] theorem setBurstPoison_secure (b : Nat) (p : Bool) (s : State) : (setBurstPoison b p s).secure = s.secure := by
  simp only [setBurstPoison]
@[simp] theorem setBurstPoison_boot (b : Nat) (p : Bool) (s : State) : (setBurstPoison b p s).boot = s.boot := by
  simp only [setBurstPoison]
@[simp] theorem setBurstPoison_nvm (b : Nat) (p : Bool) (s : State) : (setBurstPoison b p s).nvm = s.nvm := by
  simp only [setBurstPoison]
@[simp] theorem setBurstPoison_life (b : Nat) (p : Bool) (s : State) : (setBurstPoison b p s).life = s.life := by
  simp only [setBurstPoison]
@[simp] theorem setBurstPoison_modLife (b : Nat) (p : Bool) (s : State) : (setBurstPoison b p s).modLife = s.modLife := by
  simp only [setBurstPoison]
@[simp] theorem setBurstPoison_tensor (b : Nat) (p : Bool) (s : State) : (setBurstPoison b p s).tensor = s.tensor := by
  simp only [setBurstPoison]
@[simp] theorem setBurstPoison_fmt (b : Nat) (p : Bool) (s : State) : (setBurstPoison b p s).fmt = s.fmt := by
  simp only [setBurstPoison]
@[simp] theorem setBurstPoison_kv (b : Nat) (p : Bool) (s : State) : (setBurstPoison b p s).kv = s.kv := by
  simp only [setBurstPoison]
@[simp] theorem setBurstPoison_luna (b : Nat) (p : Bool) (s : State) : (setBurstPoison b p s).luna = s.luna := by
  simp only [setBurstPoison]
@[simp] theorem setBurstPoison_adapt (b : Nat) (p : Bool) (s : State) : (setBurstPoison b p s).adapt = s.adapt := by
  simp only [setBurstPoison]
@[simp] theorem setBurstPoison_serve (b : Nat) (p : Bool) (s : State) : (setBurstPoison b p s).serve = s.serve := by
  simp only [setBurstPoison]
@[simp] theorem setBurstPoison_out (b : Nat) (p : Bool) (s : State) : (setBurstPoison b p s).out = s.out := by
  simp only [setBurstPoison]
@[simp] theorem setBurstPoison_freeIdx (b : Nat) (p : Bool) (s : State) : (setBurstPoison b p s).freeIdx = s.freeIdx := by
  simp only [setBurstPoison]
@[simp] theorem setBurstPoison_pending (b : Nat) (p : Bool) (s : State) : (setBurstPoison b p s).pending = s.pending := by
  simp only [setBurstPoison]

/-! ## charge -/

@[simp] theorem charge_clk (die cls res amount cpj : Nat) (s : State) : (charge die cls res amount cpj s).clk = s.clk := by
  simp only [charge]
@[simp] theorem charge_log (die cls res amount cpj : Nat) (s : State) : (charge die cls res amount cpj s).log = s.log := by
  simp only [charge]
@[simp] theorem charge_regs (die cls res amount cpj : Nat) (s : State) : (charge die cls res amount cpj s).regs = s.regs := by
  simp only [charge]
@[simp] theorem charge_seq (die cls res amount cpj : Nat) (s : State) : (charge die cls res amount cpj s).seq = s.seq := by
  simp only [charge]
@[simp] theorem charge_mem (die cls res amount cpj : Nat) (s : State) : (charge die cls res amount cpj s).mem = s.mem := by
  simp only [charge]
@[simp] theorem charge_hkc (die cls res amount cpj : Nat) (s : State) : (charge die cls res amount cpj s).hkc = s.hkc := by
  simp only [charge]
@[simp] theorem charge_therm (die cls res amount cpj : Nat) (s : State) : (charge die cls res amount cpj s).therm = s.therm := by
  simp only [charge]
@[simp] theorem charge_fabric (die cls res amount cpj : Nat) (s : State) : (charge die cls res amount cpj s).fabric = s.fabric := by
  simp only [charge]
@[simp] theorem charge_drone (die cls res amount cpj : Nat) (s : State) : (charge die cls res amount cpj s).drone = s.drone := by
  simp only [charge]
@[simp] theorem charge_host (die cls res amount cpj : Nat) (s : State) : (charge die cls res amount cpj s).host = s.host := by
  simp only [charge]
@[simp] theorem charge_secure (die cls res amount cpj : Nat) (s : State) : (charge die cls res amount cpj s).secure = s.secure := by
  simp only [charge]
@[simp] theorem charge_boot (die cls res amount cpj : Nat) (s : State) : (charge die cls res amount cpj s).boot = s.boot := by
  simp only [charge]
@[simp] theorem charge_nvm (die cls res amount cpj : Nat) (s : State) : (charge die cls res amount cpj s).nvm = s.nvm := by
  simp only [charge]
@[simp] theorem charge_life (die cls res amount cpj : Nat) (s : State) : (charge die cls res amount cpj s).life = s.life := by
  simp only [charge]
@[simp] theorem charge_modLife (die cls res amount cpj : Nat) (s : State) : (charge die cls res amount cpj s).modLife = s.modLife := by
  simp only [charge]
@[simp] theorem charge_tensor (die cls res amount cpj : Nat) (s : State) : (charge die cls res amount cpj s).tensor = s.tensor := by
  simp only [charge]
@[simp] theorem charge_fmt (die cls res amount cpj : Nat) (s : State) : (charge die cls res amount cpj s).fmt = s.fmt := by
  simp only [charge]
@[simp] theorem charge_kv (die cls res amount cpj : Nat) (s : State) : (charge die cls res amount cpj s).kv = s.kv := by
  simp only [charge]
@[simp] theorem charge_luna (die cls res amount cpj : Nat) (s : State) : (charge die cls res amount cpj s).luna = s.luna := by
  simp only [charge]
@[simp] theorem charge_adapt (die cls res amount cpj : Nat) (s : State) : (charge die cls res amount cpj s).adapt = s.adapt := by
  simp only [charge]
@[simp] theorem charge_serve (die cls res amount cpj : Nat) (s : State) : (charge die cls res amount cpj s).serve = s.serve := by
  simp only [charge]
@[simp] theorem charge_out (die cls res amount cpj : Nat) (s : State) : (charge die cls res amount cpj s).out = s.out := by
  simp only [charge]
@[simp] theorem charge_freeIdx (die cls res amount cpj : Nat) (s : State) : (charge die cls res amount cpj s).freeIdx = s.freeIdx := by
  simp only [charge]
@[simp] theorem charge_pending (die cls res amount cpj : Nat) (s : State) : (charge die cls res amount cpj s).pending = s.pending := by
  simp only [charge]

/-! ## setTag -/

@[simp] theorem setTag_clk (k : Nat) (x : Tag) (s : State) : (setTag k x s).clk = s.clk := by
  simp only [setTag]
@[simp] theorem setTag_log (k : Nat) (x : Tag) (s : State) : (setTag k x s).log = s.log := by
  simp only [setTag]
@[simp] theorem setTag_regs (k : Nat) (x : Tag) (s : State) : (setTag k x s).regs = s.regs := by
  simp only [setTag]
@[simp] theorem setTag_mem (k : Nat) (x : Tag) (s : State) : (setTag k x s).mem = s.mem := by
  simp only [setTag]
@[simp] theorem setTag_breath (k : Nat) (x : Tag) (s : State) : (setTag k x s).breath = s.breath := by
  simp only [setTag]
@[simp] theorem setTag_atlas (k : Nat) (x : Tag) (s : State) : (setTag k x s).atlas = s.atlas := by
  simp only [setTag]
@[simp] theorem setTag_hkc (k : Nat) (x : Tag) (s : State) : (setTag k x s).hkc = s.hkc := by
  simp only [setTag]
@[simp] theorem setTag_therm (k : Nat) (x : Tag) (s : State) : (setTag k x s).therm = s.therm := by
  simp only [setTag]
@[simp] theorem setTag_fabric (k : Nat) (x : Tag) (s : State) : (setTag k x s).fabric = s.fabric := by
  simp only [setTag]
@[simp] theorem setTag_drone (k : Nat) (x : Tag) (s : State) : (setTag k x s).drone = s.drone := by
  simp only [setTag]
@[simp] theorem setTag_host (k : Nat) (x : Tag) (s : State) : (setTag k x s).host = s.host := by
  simp only [setTag]
@[simp] theorem setTag_secure (k : Nat) (x : Tag) (s : State) : (setTag k x s).secure = s.secure := by
  simp only [setTag]
@[simp] theorem setTag_boot (k : Nat) (x : Tag) (s : State) : (setTag k x s).boot = s.boot := by
  simp only [setTag]
@[simp] theorem setTag_nvm (k : Nat) (x : Tag) (s : State) : (setTag k x s).nvm = s.nvm := by
  simp only [setTag]
@[simp] theorem setTag_life (k : Nat) (x : Tag) (s : State) : (setTag k x s).life = s.life := by
  simp only [setTag]
@[simp] theorem setTag_modLife (k : Nat) (x : Tag) (s : State) : (setTag k x s).modLife = s.modLife := by
  simp only [setTag]
@[simp] theorem setTag_tensor (k : Nat) (x : Tag) (s : State) : (setTag k x s).tensor = s.tensor := by
  simp only [setTag]
@[simp] theorem setTag_fmt (k : Nat) (x : Tag) (s : State) : (setTag k x s).fmt = s.fmt := by
  simp only [setTag]
@[simp] theorem setTag_kv (k : Nat) (x : Tag) (s : State) : (setTag k x s).kv = s.kv := by
  simp only [setTag]
@[simp] theorem setTag_luna (k : Nat) (x : Tag) (s : State) : (setTag k x s).luna = s.luna := by
  simp only [setTag]
@[simp] theorem setTag_adapt (k : Nat) (x : Tag) (s : State) : (setTag k x s).adapt = s.adapt := by
  simp only [setTag]
@[simp] theorem setTag_serve (k : Nat) (x : Tag) (s : State) : (setTag k x s).serve = s.serve := by
  simp only [setTag]
@[simp] theorem setTag_out (k : Nat) (x : Tag) (s : State) : (setTag k x s).out = s.out := by
  simp only [setTag]
@[simp] theorem setTag_freeIdx (k : Nat) (x : Tag) (s : State) : (setTag k x s).freeIdx = s.freeIdx := by
  simp only [setTag]
@[simp] theorem setTag_pending (k : Nat) (x : Tag) (s : State) : (setTag k x s).pending = s.pending := by
  simp only [setTag]

/-! ## collect -/

@[simp] theorem collect_clk (code key n : Nat) (s : State) : (collect code key n s).clk = s.clk := by
  simp only [collect]
@[simp] theorem collect_regs (code key n : Nat) (s : State) : (collect code key n s).regs = s.regs := by
  simp only [collect]
@[simp] theorem collect_seq (code key n : Nat) (s : State) : (collect code key n s).seq = s.seq := by
  simp only [collect]
@[simp] theorem collect_mem (code key n : Nat) (s : State) : (collect code key n s).mem = s.mem := by
  simp only [collect]
@[simp] theorem collect_breath (code key n : Nat) (s : State) : (collect code key n s).breath = s.breath := by
  simp only [collect]
@[simp] theorem collect_atlas (code key n : Nat) (s : State) : (collect code key n s).atlas = s.atlas := by
  simp only [collect]
@[simp] theorem collect_hkc (code key n : Nat) (s : State) : (collect code key n s).hkc = s.hkc := by
  simp only [collect]
@[simp] theorem collect_therm (code key n : Nat) (s : State) : (collect code key n s).therm = s.therm := by
  simp only [collect]
@[simp] theorem collect_fabric (code key n : Nat) (s : State) : (collect code key n s).fabric = s.fabric := by
  simp only [collect]
@[simp] theorem collect_drone (code key n : Nat) (s : State) : (collect code key n s).drone = s.drone := by
  simp only [collect]
@[simp] theorem collect_host (code key n : Nat) (s : State) : (collect code key n s).host = s.host := by
  simp only [collect]
@[simp] theorem collect_secure (code key n : Nat) (s : State) : (collect code key n s).secure = s.secure := by
  simp only [collect]
@[simp] theorem collect_boot (code key n : Nat) (s : State) : (collect code key n s).boot = s.boot := by
  simp only [collect]
@[simp] theorem collect_nvm (code key n : Nat) (s : State) : (collect code key n s).nvm = s.nvm := by
  simp only [collect]
@[simp] theorem collect_life (code key n : Nat) (s : State) : (collect code key n s).life = s.life := by
  simp only [collect]
@[simp] theorem collect_modLife (code key n : Nat) (s : State) : (collect code key n s).modLife = s.modLife := by
  simp only [collect]
@[simp] theorem collect_tensor (code key n : Nat) (s : State) : (collect code key n s).tensor = s.tensor := by
  simp only [collect]
@[simp] theorem collect_fmt (code key n : Nat) (s : State) : (collect code key n s).fmt = s.fmt := by
  simp only [collect]
@[simp] theorem collect_kv (code key n : Nat) (s : State) : (collect code key n s).kv = s.kv := by
  simp only [collect]
@[simp] theorem collect_luna (code key n : Nat) (s : State) : (collect code key n s).luna = s.luna := by
  simp only [collect]
@[simp] theorem collect_adapt (code key n : Nat) (s : State) : (collect code key n s).adapt = s.adapt := by
  simp only [collect]
@[simp] theorem collect_serve (code key n : Nat) (s : State) : (collect code key n s).serve = s.serve := by
  simp only [collect]
@[simp] theorem collect_out (code key n : Nat) (s : State) : (collect code key n s).out = s.out := by
  simp only [collect]
@[simp] theorem collect_freeIdx (code key n : Nat) (s : State) : (collect code key n s).freeIdx = s.freeIdx := by
  simp only [collect]
@[simp] theorem collect_pending (code key n : Nat) (s : State) : (collect code key n s).pending = s.pending := by
  simp only [collect]

end Sys2Proof.Machine
end

