-- ==== Sys2Proof/Laws/Ops.lean ====
section
/-! SUPPORT. What the shared operations do: reads of registers and memories after writes, the fields that raising
an event, sending and charging leave alone, and the outcomes of the command wrappers. -/

namespace Sys2Proof.Machine

open Sys2Proof.Map

/-- A fold of updates that each leave something alone leaves it alone. -/
theorem foldl_keeps {α β : Type} (proj : State → β) {g : State → α → State} (l : List α)
    (h : ∀ s x, proj (g s x) = proj s) (s : State) : proj (l.foldl g s) = proj s := by
  induction l generalizing s with
  | nil => rfl
  | cons x l ih => rw [List.foldl_cons, ih, h]

/-- As `foldl_keeps`, for updates by the list's own members. -/
theorem foldl_keeps_mem {α β : Type} (proj : State → β) {g : State → α → State} (l : List α)
    (h : ∀ x ∈ l, ∀ s, proj (g s x) = proj s) (s : State) : proj (l.foldl g s) = proj s := by
  induction l generalizing s with
  | nil => rfl
  | cons x l ih =>
    rw [List.foldl_cons, ih (fun y hy => h y (List.mem_cons_of_mem _ hy)), h x (List.mem_cons_self ..)]

/-! ## Fields left alone -/

/-! ### highWater -/

@[simp] theorem highWater_clk (a hi lo v : Nat) (s : State) : (highWater a hi lo v s).clk = s.clk := by
  simp only [highWater]
  repeat' split
  all_goals simp
@[simp] theorem highWater_log (a hi lo v : Nat) (s : State) : (highWater a hi lo v s).log = s.log := by
  simp only [highWater]
  repeat' split
  all_goals simp
@[simp] theorem highWater_seq (a hi lo v : Nat) (s : State) : (highWater a hi lo v s).seq = s.seq := by
  simp only [highWater]
  repeat' split
  all_goals simp
@[simp] theorem highWater_mem (a hi lo v : Nat) (s : State) : (highWater a hi lo v s).mem = s.mem := by
  simp only [highWater]
  repeat' split
  all_goals simp
@[simp] theorem highWater_breath (a hi lo v : Nat) (s : State) : (highWater a hi lo v s).breath = s.breath := by
  simp only [highWater]
  repeat' split
  all_goals simp
@[simp] theorem highWater_atlas (a hi lo v : Nat) (s : State) : (highWater a hi lo v s).atlas = s.atlas := by
  simp only [highWater]
  repeat' split
  all_goals simp
@[simp] theorem highWater_hkc (a hi lo v : Nat) (s : State) : (highWater a hi lo v s).hkc = s.hkc := by
  simp only [highWater]
  repeat' split
  all_goals simp
@[simp] theorem highWater_therm (a hi lo v : Nat) (s : State) : (highWater a hi lo v s).therm = s.therm := by
  simp only [highWater]
  repeat' split
  all_goals simp
@[simp] theorem highWater_fabric (a hi lo v : Nat) (s : State) : (highWater a hi lo v s).fabric = s.fabric := by
  simp only [highWater]
  repeat' split
  all_goals simp
@[simp] theorem highWater_drone (a hi lo v : Nat) (s : State) : (highWater a hi lo v s).drone = s.drone := by
  simp only [highWater]
  repeat' split
  all_goals simp
@[simp] theorem highWater_host (a hi lo v : Nat) (s : State) : (highWater a hi lo v s).host = s.host := by
  simp only [highWater]
  repeat' split
  all_goals simp
@[simp] theorem highWater_secure (a hi lo v : Nat) (s : State) : (highWater a hi lo v s).secure = s.secure := by
  simp only [highWater]
  repeat' split
  all_goals simp
@[simp] theorem highWater_boot (a hi lo v : Nat) (s : State) : (highWater a hi lo v s).boot = s.boot := by
  simp only [highWater]
  repeat' split
  all_goals simp
@[simp] theorem highWater_nvm (a hi lo v : Nat) (s : State) : (highWater a hi lo v s).nvm = s.nvm := by
  simp only [highWater]
  repeat' split
  all_goals simp
@[simp] theorem highWater_life (a hi lo v : Nat) (s : State) : (highWater a hi lo v s).life = s.life := by
  simp only [highWater]
  repeat' split
  all_goals simp
@[simp] theorem highWater_modLife (a hi lo v : Nat) (s : State) : (highWater a hi lo v s).modLife = s.modLife := by
  simp only [highWater]
  repeat' split
  all_goals simp
@[simp] theorem highWater_tensor (a hi lo v : Nat) (s : State) : (highWater a hi lo v s).tensor = s.tensor := by
  simp only [highWater]
  repeat' split
  all_goals simp
@[simp] theorem highWater_fmt (a hi lo v : Nat) (s : State) : (highWater a hi lo v s).fmt = s.fmt := by
  simp only [highWater]
  repeat' split
  all_goals simp
@[simp] theorem highWater_kv (a hi lo v : Nat) (s : State) : (highWater a hi lo v s).kv = s.kv := by
  simp only [highWater]
  repeat' split
  all_goals simp
@[simp] theorem highWater_luna (a hi lo v : Nat) (s : State) : (highWater a hi lo v s).luna = s.luna := by
  simp only [highWater]
  repeat' split
  all_goals simp
@[simp] theorem highWater_adapt (a hi lo v : Nat) (s : State) : (highWater a hi lo v s).adapt = s.adapt := by
  simp only [highWater]
  repeat' split
  all_goals simp
@[simp] theorem highWater_serve (a hi lo v : Nat) (s : State) : (highWater a hi lo v s).serve = s.serve := by
  simp only [highWater]
  repeat' split
  all_goals simp
@[simp] theorem highWater_out (a hi lo v : Nat) (s : State) : (highWater a hi lo v s).out = s.out := by
  simp only [highWater]
  repeat' split
  all_goals simp
@[simp] theorem highWater_freeIdx (a hi lo v : Nat) (s : State) : (highWater a hi lo v s).freeIdx = s.freeIdx := by
  simp only [highWater]
  repeat' split
  all_goals simp
@[simp] theorem highWater_pending (a hi lo v : Nat) (s : State) : (highWater a hi lo v s).pending = s.pending := by
  simp only [highWater]
  repeat' split
  all_goals simp

/-! ### transmit -/

@[simp] theorem transmit_clk (p : Nat) (f : LinkFrame) (s : State) : (transmit p f s).clk = s.clk := by
  simp [transmit]
@[simp] theorem transmit_log (p : Nat) (f : LinkFrame) (s : State) : (transmit p f s).log = s.log := by
  simp [transmit]
@[simp] theorem transmit_seq (p : Nat) (f : LinkFrame) (s : State) : (transmit p f s).seq = s.seq := by
  simp [transmit]
@[simp] theorem transmit_mem (p : Nat) (f : LinkFrame) (s : State) : (transmit p f s).mem = s.mem := by
  simp [transmit]
@[simp] theorem transmit_breath (p : Nat) (f : LinkFrame) (s : State) : (transmit p f s).breath = s.breath := by
  simp [transmit]
@[simp] theorem transmit_atlas (p : Nat) (f : LinkFrame) (s : State) : (transmit p f s).atlas = s.atlas := by
  simp [transmit]
@[simp] theorem transmit_hkc (p : Nat) (f : LinkFrame) (s : State) : (transmit p f s).hkc = s.hkc := by
  simp [transmit]
@[simp] theorem transmit_therm (p : Nat) (f : LinkFrame) (s : State) : (transmit p f s).therm = s.therm := by
  simp [transmit]
@[simp] theorem transmit_drone (p : Nat) (f : LinkFrame) (s : State) : (transmit p f s).drone = s.drone := by
  simp [transmit]
@[simp] theorem transmit_host (p : Nat) (f : LinkFrame) (s : State) : (transmit p f s).host = s.host := by
  simp [transmit]
@[simp] theorem transmit_secure (p : Nat) (f : LinkFrame) (s : State) : (transmit p f s).secure = s.secure := by
  simp [transmit]
@[simp] theorem transmit_boot (p : Nat) (f : LinkFrame) (s : State) : (transmit p f s).boot = s.boot := by
  simp [transmit]
@[simp] theorem transmit_nvm (p : Nat) (f : LinkFrame) (s : State) : (transmit p f s).nvm = s.nvm := by
  simp [transmit]
@[simp] theorem transmit_life (p : Nat) (f : LinkFrame) (s : State) : (transmit p f s).life = s.life := by
  simp [transmit]
@[simp] theorem transmit_modLife (p : Nat) (f : LinkFrame) (s : State) : (transmit p f s).modLife = s.modLife := by
  simp [transmit]
@[simp] theorem transmit_tensor (p : Nat) (f : LinkFrame) (s : State) : (transmit p f s).tensor = s.tensor := by
  simp [transmit]
@[simp] theorem transmit_fmt (p : Nat) (f : LinkFrame) (s : State) : (transmit p f s).fmt = s.fmt := by
  simp [transmit]
@[simp] theorem transmit_kv (p : Nat) (f : LinkFrame) (s : State) : (transmit p f s).kv = s.kv := by
  simp [transmit]
@[simp] theorem transmit_luna (p : Nat) (f : LinkFrame) (s : State) : (transmit p f s).luna = s.luna := by
  simp [transmit]
@[simp] theorem transmit_adapt (p : Nat) (f : LinkFrame) (s : State) : (transmit p f s).adapt = s.adapt := by
  simp [transmit]
@[simp] theorem transmit_serve (p : Nat) (f : LinkFrame) (s : State) : (transmit p f s).serve = s.serve := by
  simp [transmit]
@[simp] theorem transmit_freeIdx (p : Nat) (f : LinkFrame) (s : State) : (transmit p f s).freeIdx = s.freeIdx := by
  simp [transmit]
@[simp] theorem transmit_pending (p : Nat) (f : LinkFrame) (s : State) : (transmit p f s).pending = s.pending := by
  simp [transmit]

/-! ### sendLink -/

@[simp] theorem sendLink_clk (p : Nat) (f : LinkFrame) (s : State) : (sendLink p f s).clk = s.clk := by
  simp only [sendLink]
  repeat' split
  all_goals simp
@[simp] theorem sendLink_log (p : Nat) (f : LinkFrame) (s : State) : (sendLink p f s).log = s.log := by
  simp only [sendLink]
  repeat' split
  all_goals simp
@[simp] theorem sendLink_seq (p : Nat) (f : LinkFrame) (s : State) : (sendLink p f s).seq = s.seq := by
  simp only [sendLink]
  repeat' split
  all_goals simp
@[simp] theorem sendLink_mem (p : Nat) (f : LinkFrame) (s : State) : (sendLink p f s).mem = s.mem := by
  simp only [sendLink]
  repeat' split
  all_goals simp
@[simp] theorem sendLink_breath (p : Nat) (f : LinkFrame) (s : State) : (sendLink p f s).breath = s.breath := by
  simp only [sendLink]
  repeat' split
  all_goals simp
@[simp] theorem sendLink_atlas (p : Nat) (f : LinkFrame) (s : State) : (sendLink p f s).atlas = s.atlas := by
  simp only [sendLink]
  repeat' split
  all_goals simp
@[simp] theorem sendLink_hkc (p : Nat) (f : LinkFrame) (s : State) : (sendLink p f s).hkc = s.hkc := by
  simp only [sendLink]
  repeat' split
  all_goals simp
@[simp] theorem sendLink_therm (p : Nat) (f : LinkFrame) (s : State) : (sendLink p f s).therm = s.therm := by
  simp only [sendLink]
  repeat' split
  all_goals simp
@[simp] theorem sendLink_drone (p : Nat) (f : LinkFrame) (s : State) : (sendLink p f s).drone = s.drone := by
  simp only [sendLink]
  repeat' split
  all_goals simp
@[simp] theorem sendLink_host (p : Nat) (f : LinkFrame) (s : State) : (sendLink p f s).host = s.host := by
  simp only [sendLink]
  repeat' split
  all_goals simp
@[simp] theorem sendLink_secure (p : Nat) (f : LinkFrame) (s : State) : (sendLink p f s).secure = s.secure := by
  simp only [sendLink]
  repeat' split
  all_goals simp
@[simp] theorem sendLink_boot (p : Nat) (f : LinkFrame) (s : State) : (sendLink p f s).boot = s.boot := by
  simp only [sendLink]
  repeat' split
  all_goals simp
@[simp] theorem sendLink_nvm (p : Nat) (f : LinkFrame) (s : State) : (sendLink p f s).nvm = s.nvm := by
  simp only [sendLink]
  repeat' split
  all_goals simp
@[simp] theorem sendLink_life (p : Nat) (f : LinkFrame) (s : State) : (sendLink p f s).life = s.life := by
  simp only [sendLink]
  repeat' split
  all_goals simp
@[simp] theorem sendLink_modLife (p : Nat) (f : LinkFrame) (s : State) : (sendLink p f s).modLife = s.modLife := by
  simp only [sendLink]
  repeat' split
  all_goals simp
@[simp] theorem sendLink_tensor (p : Nat) (f : LinkFrame) (s : State) : (sendLink p f s).tensor = s.tensor := by
  simp only [sendLink]
  repeat' split
  all_goals simp
@[simp] theorem sendLink_fmt (p : Nat) (f : LinkFrame) (s : State) : (sendLink p f s).fmt = s.fmt := by
  simp only [sendLink]
  repeat' split
  all_goals simp
@[simp] theorem sendLink_kv (p : Nat) (f : LinkFrame) (s : State) : (sendLink p f s).kv = s.kv := by
  simp only [sendLink]
  repeat' split
  all_goals simp
@[simp] theorem sendLink_luna (p : Nat) (f : LinkFrame) (s : State) : (sendLink p f s).luna = s.luna := by
  simp only [sendLink]
  repeat' split
  all_goals simp
@[simp] theorem sendLink_adapt (p : Nat) (f : LinkFrame) (s : State) : (sendLink p f s).adapt = s.adapt := by
  simp only [sendLink]
  repeat' split
  all_goals simp
@[simp] theorem sendLink_serve (p : Nat) (f : LinkFrame) (s : State) : (sendLink p f s).serve = s.serve := by
  simp only [sendLink]
  repeat' split
  all_goals simp
@[simp] theorem sendLink_freeIdx (p : Nat) (f : LinkFrame) (s : State) : (sendLink p f s).freeIdx = s.freeIdx := by
  simp only [sendLink]
  repeat' split
  all_goals simp
@[simp] theorem sendLink_pending (p : Nat) (f : LinkFrame) (s : State) : (sendLink p f s).pending = s.pending := by
  simp only [sendLink]
  repeat' split
  all_goals simp

/-! ### sendFrame -/

@[simp] theorem sendFrame_clk (p : Nat) (f : Frame) (s : State) : (sendFrame p f s).clk = s.clk := by
  simp [sendFrame]
@[simp] theorem sendFrame_log (p : Nat) (f : Frame) (s : State) : (sendFrame p f s).log = s.log := by
  simp [sendFrame]
@[simp] theorem sendFrame_seq (p : Nat) (f : Frame) (s : State) : (sendFrame p f s).seq = s.seq := by
  simp [sendFrame]
@[simp] theorem sendFrame_mem (p : Nat) (f : Frame) (s : State) : (sendFrame p f s).mem = s.mem := by
  simp [sendFrame]
@[simp] theorem sendFrame_breath (p : Nat) (f : Frame) (s : State) : (sendFrame p f s).breath = s.breath := by
  simp [sendFrame]
@[simp] theorem sendFrame_atlas (p : Nat) (f : Frame) (s : State) : (sendFrame p f s).atlas = s.atlas := by
  simp [sendFrame]
@[simp] theorem sendFrame_hkc (p : Nat) (f : Frame) (s : State) : (sendFrame p f s).hkc = s.hkc := by
  simp [sendFrame]
@[simp] theorem sendFrame_therm (p : Nat) (f : Frame) (s : State) : (sendFrame p f s).therm = s.therm := by
  simp [sendFrame]
@[simp] theorem sendFrame_drone (p : Nat) (f : Frame) (s : State) : (sendFrame p f s).drone = s.drone := by
  simp [sendFrame]
@[simp] theorem sendFrame_host (p : Nat) (f : Frame) (s : State) : (sendFrame p f s).host = s.host := by
  simp [sendFrame]
@[simp] theorem sendFrame_secure (p : Nat) (f : Frame) (s : State) : (sendFrame p f s).secure = s.secure := by
  simp [sendFrame]
@[simp] theorem sendFrame_boot (p : Nat) (f : Frame) (s : State) : (sendFrame p f s).boot = s.boot := by
  simp [sendFrame]
@[simp] theorem sendFrame_nvm (p : Nat) (f : Frame) (s : State) : (sendFrame p f s).nvm = s.nvm := by
  simp [sendFrame]
@[simp] theorem sendFrame_life (p : Nat) (f : Frame) (s : State) : (sendFrame p f s).life = s.life := by
  simp [sendFrame]
@[simp] theorem sendFrame_modLife (p : Nat) (f : Frame) (s : State) : (sendFrame p f s).modLife = s.modLife := by
  simp [sendFrame]
@[simp] theorem sendFrame_tensor (p : Nat) (f : Frame) (s : State) : (sendFrame p f s).tensor = s.tensor := by
  simp [sendFrame]
@[simp] theorem sendFrame_fmt (p : Nat) (f : Frame) (s : State) : (sendFrame p f s).fmt = s.fmt := by
  simp [sendFrame]
@[simp] theorem sendFrame_kv (p : Nat) (f : Frame) (s : State) : (sendFrame p f s).kv = s.kv := by
  simp [sendFrame]
@[simp] theorem sendFrame_luna (p : Nat) (f : Frame) (s : State) : (sendFrame p f s).luna = s.luna := by
  simp [sendFrame]
@[simp] theorem sendFrame_adapt (p : Nat) (f : Frame) (s : State) : (sendFrame p f s).adapt = s.adapt := by
  simp [sendFrame]
@[simp] theorem sendFrame_serve (p : Nat) (f : Frame) (s : State) : (sendFrame p f s).serve = s.serve := by
  simp [sendFrame]
@[simp] theorem sendFrame_freeIdx (p : Nat) (f : Frame) (s : State) : (sendFrame p f s).freeIdx = s.freeIdx := by
  simp [sendFrame]
@[simp] theorem sendFrame_pending (p : Nat) (f : Frame) (s : State) : (sendFrame p f s).pending = s.pending := by
  simp [sendFrame]

/-! ### sendOn -/

@[simp] theorem sendOn_clk (q p : Nat) (f g : Frame) (s : State) : (sendOn q p f g s).clk = s.clk := by
  simp [sendOn]
@[simp] theorem sendOn_log (q p : Nat) (f g : Frame) (s : State) : (sendOn q p f g s).log = s.log := by
  simp [sendOn]
@[simp] theorem sendOn_seq (q p : Nat) (f g : Frame) (s : State) : (sendOn q p f g s).seq = s.seq := by
  simp [sendOn]
@[simp] theorem sendOn_mem (q p : Nat) (f g : Frame) (s : State) : (sendOn q p f g s).mem = s.mem := by
  simp [sendOn]
@[simp] theorem sendOn_breath (q p : Nat) (f g : Frame) (s : State) : (sendOn q p f g s).breath = s.breath := by
  simp [sendOn]
@[simp] theorem sendOn_atlas (q p : Nat) (f g : Frame) (s : State) : (sendOn q p f g s).atlas = s.atlas := by
  simp [sendOn]
@[simp] theorem sendOn_hkc (q p : Nat) (f g : Frame) (s : State) : (sendOn q p f g s).hkc = s.hkc := by
  simp [sendOn]
@[simp] theorem sendOn_therm (q p : Nat) (f g : Frame) (s : State) : (sendOn q p f g s).therm = s.therm := by
  simp [sendOn]
@[simp] theorem sendOn_drone (q p : Nat) (f g : Frame) (s : State) : (sendOn q p f g s).drone = s.drone := by
  simp [sendOn]
@[simp] theorem sendOn_host (q p : Nat) (f g : Frame) (s : State) : (sendOn q p f g s).host = s.host := by
  simp [sendOn]
@[simp] theorem sendOn_secure (q p : Nat) (f g : Frame) (s : State) : (sendOn q p f g s).secure = s.secure := by
  simp [sendOn]
@[simp] theorem sendOn_boot (q p : Nat) (f g : Frame) (s : State) : (sendOn q p f g s).boot = s.boot := by
  simp [sendOn]
@[simp] theorem sendOn_nvm (q p : Nat) (f g : Frame) (s : State) : (sendOn q p f g s).nvm = s.nvm := by
  simp [sendOn]
@[simp] theorem sendOn_life (q p : Nat) (f g : Frame) (s : State) : (sendOn q p f g s).life = s.life := by
  simp [sendOn]
@[simp] theorem sendOn_modLife (q p : Nat) (f g : Frame) (s : State) : (sendOn q p f g s).modLife = s.modLife := by
  simp [sendOn]
@[simp] theorem sendOn_tensor (q p : Nat) (f g : Frame) (s : State) : (sendOn q p f g s).tensor = s.tensor := by
  simp [sendOn]
@[simp] theorem sendOn_fmt (q p : Nat) (f g : Frame) (s : State) : (sendOn q p f g s).fmt = s.fmt := by
  simp [sendOn]
@[simp] theorem sendOn_kv (q p : Nat) (f g : Frame) (s : State) : (sendOn q p f g s).kv = s.kv := by
  simp [sendOn]
@[simp] theorem sendOn_luna (q p : Nat) (f g : Frame) (s : State) : (sendOn q p f g s).luna = s.luna := by
  simp [sendOn]
@[simp] theorem sendOn_adapt (q p : Nat) (f g : Frame) (s : State) : (sendOn q p f g s).adapt = s.adapt := by
  simp [sendOn]
@[simp] theorem sendOn_serve (q p : Nat) (f g : Frame) (s : State) : (sendOn q p f g s).serve = s.serve := by
  simp [sendOn]
@[simp] theorem sendOn_freeIdx (q p : Nat) (f g : Frame) (s : State) : (sendOn q p f g s).freeIdx = s.freeIdx := by
  simp [sendOn]
@[simp] theorem sendOn_pending (q p : Nat) (f g : Frame) (s : State) : (sendOn q p f g s).pending = s.pending := by
  simp [sendOn]

/-! ### sendTo -/

@[simp] theorem sendTo_clk (dst : Nat) (f : Bool → Frame) (s : State) : (sendTo dst f s).clk = s.clk := by
  simp only [sendTo]
  repeat' split
  all_goals simp
@[simp] theorem sendTo_log (dst : Nat) (f : Bool → Frame) (s : State) : (sendTo dst f s).log = s.log := by
  simp only [sendTo]
  repeat' split
  all_goals simp
@[simp] theorem sendTo_seq (dst : Nat) (f : Bool → Frame) (s : State) : (sendTo dst f s).seq = s.seq := by
  simp only [sendTo]
  repeat' split
  all_goals simp
@[simp] theorem sendTo_mem (dst : Nat) (f : Bool → Frame) (s : State) : (sendTo dst f s).mem = s.mem := by
  simp only [sendTo]
  repeat' split
  all_goals simp
@[simp] theorem sendTo_breath (dst : Nat) (f : Bool → Frame) (s : State) : (sendTo dst f s).breath = s.breath := by
  simp only [sendTo]
  repeat' split
  all_goals simp
@[simp] theorem sendTo_atlas (dst : Nat) (f : Bool → Frame) (s : State) : (sendTo dst f s).atlas = s.atlas := by
  simp only [sendTo]
  repeat' split
  all_goals simp
@[simp] theorem sendTo_hkc (dst : Nat) (f : Bool → Frame) (s : State) : (sendTo dst f s).hkc = s.hkc := by
  simp only [sendTo]
  repeat' split
  all_goals simp
@[simp] theorem sendTo_therm (dst : Nat) (f : Bool → Frame) (s : State) : (sendTo dst f s).therm = s.therm := by
  simp only [sendTo]
  repeat' split
  all_goals simp
@[simp] theorem sendTo_drone (dst : Nat) (f : Bool → Frame) (s : State) : (sendTo dst f s).drone = s.drone := by
  simp only [sendTo]
  repeat' split
  all_goals simp
@[simp] theorem sendTo_host (dst : Nat) (f : Bool → Frame) (s : State) : (sendTo dst f s).host = s.host := by
  simp only [sendTo]
  repeat' split
  all_goals simp
@[simp] theorem sendTo_secure (dst : Nat) (f : Bool → Frame) (s : State) : (sendTo dst f s).secure = s.secure := by
  simp only [sendTo]
  repeat' split
  all_goals simp
@[simp] theorem sendTo_boot (dst : Nat) (f : Bool → Frame) (s : State) : (sendTo dst f s).boot = s.boot := by
  simp only [sendTo]
  repeat' split
  all_goals simp
@[simp] theorem sendTo_nvm (dst : Nat) (f : Bool → Frame) (s : State) : (sendTo dst f s).nvm = s.nvm := by
  simp only [sendTo]
  repeat' split
  all_goals simp
@[simp] theorem sendTo_life (dst : Nat) (f : Bool → Frame) (s : State) : (sendTo dst f s).life = s.life := by
  simp only [sendTo]
  repeat' split
  all_goals simp
@[simp] theorem sendTo_modLife (dst : Nat) (f : Bool → Frame) (s : State) : (sendTo dst f s).modLife = s.modLife := by
  simp only [sendTo]
  repeat' split
  all_goals simp
@[simp] theorem sendTo_tensor (dst : Nat) (f : Bool → Frame) (s : State) : (sendTo dst f s).tensor = s.tensor := by
  simp only [sendTo]
  repeat' split
  all_goals simp
@[simp] theorem sendTo_fmt (dst : Nat) (f : Bool → Frame) (s : State) : (sendTo dst f s).fmt = s.fmt := by
  simp only [sendTo]
  repeat' split
  all_goals simp
@[simp] theorem sendTo_kv (dst : Nat) (f : Bool → Frame) (s : State) : (sendTo dst f s).kv = s.kv := by
  simp only [sendTo]
  repeat' split
  all_goals simp
@[simp] theorem sendTo_luna (dst : Nat) (f : Bool → Frame) (s : State) : (sendTo dst f s).luna = s.luna := by
  simp only [sendTo]
  repeat' split
  all_goals simp
@[simp] theorem sendTo_adapt (dst : Nat) (f : Bool → Frame) (s : State) : (sendTo dst f s).adapt = s.adapt := by
  simp only [sendTo]
  repeat' split
  all_goals simp
@[simp] theorem sendTo_serve (dst : Nat) (f : Bool → Frame) (s : State) : (sendTo dst f s).serve = s.serve := by
  simp only [sendTo]
  repeat' split
  all_goals simp
@[simp] theorem sendTo_freeIdx (dst : Nat) (f : Bool → Frame) (s : State) : (sendTo dst f s).freeIdx = s.freeIdx := by
  simp only [sendTo]
  repeat' split
  all_goals simp
@[simp] theorem sendTo_pending (dst : Nat) (f : Bool → Frame) (s : State) : (sendTo dst f s).pending = s.pending := by
  simp only [sendTo]
  repeat' split
  all_goals simp

/-! ### msix -/

@[simp] theorem msix_clk (v : Nat) (s : State) : (msix v s).clk = s.clk := by
  simp only [msix]
  repeat' split
  all_goals simp
@[simp] theorem msix_log (v : Nat) (s : State) : (msix v s).log = s.log := by
  simp only [msix]
  repeat' split
  all_goals simp
@[simp] theorem msix_seq (v : Nat) (s : State) : (msix v s).seq = s.seq := by
  simp only [msix]
  repeat' split
  all_goals simp
@[simp] theorem msix_mem (v : Nat) (s : State) : (msix v s).mem = s.mem := by
  simp only [msix]
  repeat' split
  all_goals simp
@[simp] theorem msix_breath (v : Nat) (s : State) : (msix v s).breath = s.breath := by
  simp only [msix]
  repeat' split
  all_goals simp
@[simp] theorem msix_atlas (v : Nat) (s : State) : (msix v s).atlas = s.atlas := by
  simp only [msix]
  repeat' split
  all_goals simp
@[simp] theorem msix_hkc (v : Nat) (s : State) : (msix v s).hkc = s.hkc := by
  simp only [msix]
  repeat' split
  all_goals simp
@[simp] theorem msix_therm (v : Nat) (s : State) : (msix v s).therm = s.therm := by
  simp only [msix]
  repeat' split
  all_goals simp
@[simp] theorem msix_fabric (v : Nat) (s : State) : (msix v s).fabric = s.fabric := by
  simp only [msix]
  repeat' split
  all_goals simp
@[simp] theorem msix_drone (v : Nat) (s : State) : (msix v s).drone = s.drone := by
  simp only [msix]
  repeat' split
  all_goals simp
@[simp] theorem msix_host (v : Nat) (s : State) : (msix v s).host = s.host := by
  simp only [msix]
  repeat' split
  all_goals simp
@[simp] theorem msix_secure (v : Nat) (s : State) : (msix v s).secure = s.secure := by
  simp only [msix]
  repeat' split
  all_goals simp
@[simp] theorem msix_boot (v : Nat) (s : State) : (msix v s).boot = s.boot := by
  simp only [msix]
  repeat' split
  all_goals simp
@[simp] theorem msix_nvm (v : Nat) (s : State) : (msix v s).nvm = s.nvm := by
  simp only [msix]
  repeat' split
  all_goals simp
@[simp] theorem msix_life (v : Nat) (s : State) : (msix v s).life = s.life := by
  simp only [msix]
  repeat' split
  all_goals simp
@[simp] theorem msix_modLife (v : Nat) (s : State) : (msix v s).modLife = s.modLife := by
  simp only [msix]
  repeat' split
  all_goals simp
@[simp] theorem msix_tensor (v : Nat) (s : State) : (msix v s).tensor = s.tensor := by
  simp only [msix]
  repeat' split
  all_goals simp
@[simp] theorem msix_fmt (v : Nat) (s : State) : (msix v s).fmt = s.fmt := by
  simp only [msix]
  repeat' split
  all_goals simp
@[simp] theorem msix_kv (v : Nat) (s : State) : (msix v s).kv = s.kv := by
  simp only [msix]
  repeat' split
  all_goals simp
@[simp] theorem msix_luna (v : Nat) (s : State) : (msix v s).luna = s.luna := by
  simp only [msix]
  repeat' split
  all_goals simp
@[simp] theorem msix_adapt (v : Nat) (s : State) : (msix v s).adapt = s.adapt := by
  simp only [msix]
  repeat' split
  all_goals simp
@[simp] theorem msix_serve (v : Nat) (s : State) : (msix v s).serve = s.serve := by
  simp only [msix]
  repeat' split
  all_goals simp
@[simp] theorem msix_freeIdx (v : Nat) (s : State) : (msix v s).freeIdx = s.freeIdx := by
  simp only [msix]
  repeat' split
  all_goals simp
@[simp] theorem msix_pending (v : Nat) (s : State) : (msix v s).pending = s.pending := by
  simp only [msix]
  repeat' split
  all_goals simp

/-! ### captureFirst -/

@[simp] theorem captureFirst_clk (page sev code detail : Nat) (ovf : Bool) (s : State) : (captureFirst page sev code detail ovf s).clk = s.clk := by
  simp [captureFirst]
@[simp] theorem captureFirst_seq (page sev code detail : Nat) (ovf : Bool) (s : State) : (captureFirst page sev code detail ovf s).seq = s.seq := by
  simp [captureFirst]
@[simp] theorem captureFirst_mem (page sev code detail : Nat) (ovf : Bool) (s : State) : (captureFirst page sev code detail ovf s).mem = s.mem := by
  simp [captureFirst]
@[simp] theorem captureFirst_breath (page sev code detail : Nat) (ovf : Bool) (s : State) : (captureFirst page sev code detail ovf s).breath = s.breath := by
  simp [captureFirst]
@[simp] theorem captureFirst_atlas (page sev code detail : Nat) (ovf : Bool) (s : State) : (captureFirst page sev code detail ovf s).atlas = s.atlas := by
  simp [captureFirst]
@[simp] theorem captureFirst_hkc (page sev code detail : Nat) (ovf : Bool) (s : State) : (captureFirst page sev code detail ovf s).hkc = s.hkc := by
  simp [captureFirst]
@[simp] theorem captureFirst_therm (page sev code detail : Nat) (ovf : Bool) (s : State) : (captureFirst page sev code detail ovf s).therm = s.therm := by
  simp [captureFirst]
@[simp] theorem captureFirst_fabric (page sev code detail : Nat) (ovf : Bool) (s : State) : (captureFirst page sev code detail ovf s).fabric = s.fabric := by
  simp [captureFirst]
@[simp] theorem captureFirst_drone (page sev code detail : Nat) (ovf : Bool) (s : State) : (captureFirst page sev code detail ovf s).drone = s.drone := by
  simp [captureFirst]
@[simp] theorem captureFirst_host (page sev code detail : Nat) (ovf : Bool) (s : State) : (captureFirst page sev code detail ovf s).host = s.host := by
  simp [captureFirst]
@[simp] theorem captureFirst_secure (page sev code detail : Nat) (ovf : Bool) (s : State) : (captureFirst page sev code detail ovf s).secure = s.secure := by
  simp [captureFirst]
@[simp] theorem captureFirst_boot (page sev code detail : Nat) (ovf : Bool) (s : State) : (captureFirst page sev code detail ovf s).boot = s.boot := by
  simp [captureFirst]
@[simp] theorem captureFirst_nvm (page sev code detail : Nat) (ovf : Bool) (s : State) : (captureFirst page sev code detail ovf s).nvm = s.nvm := by
  simp [captureFirst]
@[simp] theorem captureFirst_life (page sev code detail : Nat) (ovf : Bool) (s : State) : (captureFirst page sev code detail ovf s).life = s.life := by
  simp [captureFirst]
@[simp] theorem captureFirst_modLife (page sev code detail : Nat) (ovf : Bool) (s : State) : (captureFirst page sev code detail ovf s).modLife = s.modLife := by
  simp [captureFirst]
@[simp] theorem captureFirst_tensor (page sev code detail : Nat) (ovf : Bool) (s : State) : (captureFirst page sev code detail ovf s).tensor = s.tensor := by
  simp [captureFirst]
@[simp] theorem captureFirst_fmt (page sev code detail : Nat) (ovf : Bool) (s : State) : (captureFirst page sev code detail ovf s).fmt = s.fmt := by
  simp [captureFirst]
@[simp] theorem captureFirst_kv (page sev code detail : Nat) (ovf : Bool) (s : State) : (captureFirst page sev code detail ovf s).kv = s.kv := by
  simp [captureFirst]
@[simp] theorem captureFirst_luna (page sev code detail : Nat) (ovf : Bool) (s : State) : (captureFirst page sev code detail ovf s).luna = s.luna := by
  simp [captureFirst]
@[simp] theorem captureFirst_adapt (page sev code detail : Nat) (ovf : Bool) (s : State) : (captureFirst page sev code detail ovf s).adapt = s.adapt := by
  simp [captureFirst]
@[simp] theorem captureFirst_serve (page sev code detail : Nat) (ovf : Bool) (s : State) : (captureFirst page sev code detail ovf s).serve = s.serve := by
  simp [captureFirst]
@[simp] theorem captureFirst_out (page sev code detail : Nat) (ovf : Bool) (s : State) : (captureFirst page sev code detail ovf s).out = s.out := by
  simp [captureFirst]
@[simp] theorem captureFirst_freeIdx (page sev code detail : Nat) (ovf : Bool) (s : State) : (captureFirst page sev code detail ovf s).freeIdx = s.freeIdx := by
  simp [captureFirst]
@[simp] theorem captureFirst_pending (page sev code detail : Nat) (ovf : Bool) (s : State) : (captureFirst page sev code detail ovf s).pending = s.pending := by
  simp [captureFirst]

/-! ### firstErr -/

@[simp] theorem firstErr_clk (page sev code detail : Nat) (s : State) : (firstErr page sev code detail s).clk = s.clk := by
  simp only [firstErr]
  repeat' split
  all_goals simp
@[simp] theorem firstErr_seq (page sev code detail : Nat) (s : State) : (firstErr page sev code detail s).seq = s.seq := by
  simp only [firstErr]
  repeat' split
  all_goals simp
@[simp] theorem firstErr_mem (page sev code detail : Nat) (s : State) : (firstErr page sev code detail s).mem = s.mem := by
  simp only [firstErr]
  repeat' split
  all_goals simp
@[simp] theorem firstErr_breath (page sev code detail : Nat) (s : State) : (firstErr page sev code detail s).breath = s.breath := by
  simp only [firstErr]
  repeat' split
  all_goals simp
@[simp] theorem firstErr_atlas (page sev code detail : Nat) (s : State) : (firstErr page sev code detail s).atlas = s.atlas := by
  simp only [firstErr]
  repeat' split
  all_goals simp
@[simp] theorem firstErr_hkc (page sev code detail : Nat) (s : State) : (firstErr page sev code detail s).hkc = s.hkc := by
  simp only [firstErr]
  repeat' split
  all_goals simp
@[simp] theorem firstErr_therm (page sev code detail : Nat) (s : State) : (firstErr page sev code detail s).therm = s.therm := by
  simp only [firstErr]
  repeat' split
  all_goals simp
@[simp] theorem firstErr_fabric (page sev code detail : Nat) (s : State) : (firstErr page sev code detail s).fabric = s.fabric := by
  simp only [firstErr]
  repeat' split
  all_goals simp
@[simp] theorem firstErr_drone (page sev code detail : Nat) (s : State) : (firstErr page sev code detail s).drone = s.drone := by
  simp only [firstErr]
  repeat' split
  all_goals simp
@[simp] theorem firstErr_host (page sev code detail : Nat) (s : State) : (firstErr page sev code detail s).host = s.host := by
  simp only [firstErr]
  repeat' split
  all_goals simp
@[simp] theorem firstErr_secure (page sev code detail : Nat) (s : State) : (firstErr page sev code detail s).secure = s.secure := by
  simp only [firstErr]
  repeat' split
  all_goals simp
@[simp] theorem firstErr_boot (page sev code detail : Nat) (s : State) : (firstErr page sev code detail s).boot = s.boot := by
  simp only [firstErr]
  repeat' split
  all_goals simp
@[simp] theorem firstErr_nvm (page sev code detail : Nat) (s : State) : (firstErr page sev code detail s).nvm = s.nvm := by
  simp only [firstErr]
  repeat' split
  all_goals simp
@[simp] theorem firstErr_life (page sev code detail : Nat) (s : State) : (firstErr page sev code detail s).life = s.life := by
  simp only [firstErr]
  repeat' split
  all_goals simp
@[simp] theorem firstErr_modLife (page sev code detail : Nat) (s : State) : (firstErr page sev code detail s).modLife = s.modLife := by
  simp only [firstErr]
  repeat' split
  all_goals simp
@[simp] theorem firstErr_tensor (page sev code detail : Nat) (s : State) : (firstErr page sev code detail s).tensor = s.tensor := by
  simp only [firstErr]
  repeat' split
  all_goals simp
@[simp] theorem firstErr_fmt (page sev code detail : Nat) (s : State) : (firstErr page sev code detail s).fmt = s.fmt := by
  simp only [firstErr]
  repeat' split
  all_goals simp
@[simp] theorem firstErr_kv (page sev code detail : Nat) (s : State) : (firstErr page sev code detail s).kv = s.kv := by
  simp only [firstErr]
  repeat' split
  all_goals simp
@[simp] theorem firstErr_luna (page sev code detail : Nat) (s : State) : (firstErr page sev code detail s).luna = s.luna := by
  simp only [firstErr]
  repeat' split
  all_goals simp
@[simp] theorem firstErr_adapt (page sev code detail : Nat) (s : State) : (firstErr page sev code detail s).adapt = s.adapt := by
  simp only [firstErr]
  repeat' split
  all_goals simp
@[simp] theorem firstErr_serve (page sev code detail : Nat) (s : State) : (firstErr page sev code detail s).serve = s.serve := by
  simp only [firstErr]
  repeat' split
  all_goals simp
@[simp] theorem firstErr_out (page sev code detail : Nat) (s : State) : (firstErr page sev code detail s).out = s.out := by
  simp only [firstErr]
  repeat' split
  all_goals simp
@[simp] theorem firstErr_freeIdx (page sev code detail : Nat) (s : State) : (firstErr page sev code detail s).freeIdx = s.freeIdx := by
  simp only [firstErr]
  repeat' split
  all_goals simp
@[simp] theorem firstErr_pending (page sev code detail : Nat) (s : State) : (firstErr page sev code detail s).pending = s.pending := by
  simp only [firstErr]
  repeat' split
  all_goals simp

/-! ### enqueueEvent -/

@[simp] theorem enqueueEvent_clk (e : Event) (s : State) : (enqueueEvent e s).clk = s.clk := by
  simp only [enqueueEvent]
  repeat' split
  all_goals simp
@[simp] theorem enqueueEvent_seq (e : Event) (s : State) : (enqueueEvent e s).seq = s.seq := by
  simp only [enqueueEvent]
  repeat' split
  all_goals simp
@[simp] theorem enqueueEvent_mem (e : Event) (s : State) : (enqueueEvent e s).mem = s.mem := by
  simp only [enqueueEvent]
  repeat' split
  all_goals simp
@[simp] theorem enqueueEvent_breath (e : Event) (s : State) : (enqueueEvent e s).breath = s.breath := by
  simp only [enqueueEvent]
  repeat' split
  all_goals simp
@[simp] theorem enqueueEvent_atlas (e : Event) (s : State) : (enqueueEvent e s).atlas = s.atlas := by
  simp only [enqueueEvent]
  repeat' split
  all_goals simp
@[simp] theorem enqueueEvent_hkc (e : Event) (s : State) : (enqueueEvent e s).hkc = s.hkc := by
  simp only [enqueueEvent]
  repeat' split
  all_goals simp
@[simp] theorem enqueueEvent_therm (e : Event) (s : State) : (enqueueEvent e s).therm = s.therm := by
  simp only [enqueueEvent]
  repeat' split
  all_goals simp
@[simp] theorem enqueueEvent_fabric (e : Event) (s : State) : (enqueueEvent e s).fabric = s.fabric := by
  simp only [enqueueEvent]
  repeat' split
  all_goals simp
@[simp] theorem enqueueEvent_drone (e : Event) (s : State) : (enqueueEvent e s).drone = s.drone := by
  simp only [enqueueEvent]
  repeat' split
  all_goals simp
@[simp] theorem enqueueEvent_host (e : Event) (s : State) : (enqueueEvent e s).host = s.host := by
  simp only [enqueueEvent]
  repeat' split
  all_goals simp
@[simp] theorem enqueueEvent_secure (e : Event) (s : State) : (enqueueEvent e s).secure = s.secure := by
  simp only [enqueueEvent]
  repeat' split
  all_goals simp
@[simp] theorem enqueueEvent_boot (e : Event) (s : State) : (enqueueEvent e s).boot = s.boot := by
  simp only [enqueueEvent]
  repeat' split
  all_goals simp
@[simp] theorem enqueueEvent_nvm (e : Event) (s : State) : (enqueueEvent e s).nvm = s.nvm := by
  simp only [enqueueEvent]
  repeat' split
  all_goals simp
@[simp] theorem enqueueEvent_life (e : Event) (s : State) : (enqueueEvent e s).life = s.life := by
  simp only [enqueueEvent]
  repeat' split
  all_goals simp
@[simp] theorem enqueueEvent_modLife (e : Event) (s : State) : (enqueueEvent e s).modLife = s.modLife := by
  simp only [enqueueEvent]
  repeat' split
  all_goals simp
@[simp] theorem enqueueEvent_tensor (e : Event) (s : State) : (enqueueEvent e s).tensor = s.tensor := by
  simp only [enqueueEvent]
  repeat' split
  all_goals simp
@[simp] theorem enqueueEvent_fmt (e : Event) (s : State) : (enqueueEvent e s).fmt = s.fmt := by
  simp only [enqueueEvent]
  repeat' split
  all_goals simp
@[simp] theorem enqueueEvent_kv (e : Event) (s : State) : (enqueueEvent e s).kv = s.kv := by
  simp only [enqueueEvent]
  repeat' split
  all_goals simp
@[simp] theorem enqueueEvent_luna (e : Event) (s : State) : (enqueueEvent e s).luna = s.luna := by
  simp only [enqueueEvent]
  repeat' split
  all_goals simp
@[simp] theorem enqueueEvent_adapt (e : Event) (s : State) : (enqueueEvent e s).adapt = s.adapt := by
  simp only [enqueueEvent]
  repeat' split
  all_goals simp
@[simp] theorem enqueueEvent_serve (e : Event) (s : State) : (enqueueEvent e s).serve = s.serve := by
  simp only [enqueueEvent]
  repeat' split
  all_goals simp
@[simp] theorem enqueueEvent_out (e : Event) (s : State) : (enqueueEvent e s).out = s.out := by
  simp only [enqueueEvent]
  repeat' split
  all_goals simp
@[simp] theorem enqueueEvent_freeIdx (e : Event) (s : State) : (enqueueEvent e s).freeIdx = s.freeIdx := by
  simp only [enqueueEvent]
  repeat' split
  all_goals simp
@[simp] theorem enqueueEvent_pending (e : Event) (s : State) : (enqueueEvent e s).pending = s.pending := by
  simp only [enqueueEvent]
  repeat' split
  all_goals simp

/-! ### keepFatal -/

@[simp] theorem keepFatal_clk (e : Event) (s : State) : (keepFatal e s).clk = s.clk := by
  unfold keepFatal; exact foldl_keeps (·.clk) _ (fun _ _ => by simp) _
@[simp] theorem keepFatal_log (e : Event) (s : State) : (keepFatal e s).log = s.log := by
  unfold keepFatal; exact foldl_keeps (·.log) _ (fun _ _ => by simp) _
@[simp] theorem keepFatal_seq (e : Event) (s : State) : (keepFatal e s).seq = s.seq := by
  unfold keepFatal; exact foldl_keeps (·.seq) _ (fun _ _ => by simp) _
@[simp] theorem keepFatal_mem (e : Event) (s : State) : (keepFatal e s).mem = s.mem := by
  unfold keepFatal; exact foldl_keeps (·.mem) _ (fun _ _ => by simp) _
@[simp] theorem keepFatal_breath (e : Event) (s : State) : (keepFatal e s).breath = s.breath := by
  unfold keepFatal; exact foldl_keeps (·.breath) _ (fun _ _ => by simp) _
@[simp] theorem keepFatal_atlas (e : Event) (s : State) : (keepFatal e s).atlas = s.atlas := by
  unfold keepFatal; exact foldl_keeps (·.atlas) _ (fun _ _ => by simp) _
@[simp] theorem keepFatal_hkc (e : Event) (s : State) : (keepFatal e s).hkc = s.hkc := by
  unfold keepFatal; exact foldl_keeps (·.hkc) _ (fun _ _ => by simp) _
@[simp] theorem keepFatal_therm (e : Event) (s : State) : (keepFatal e s).therm = s.therm := by
  unfold keepFatal; exact foldl_keeps (·.therm) _ (fun _ _ => by simp) _
@[simp] theorem keepFatal_fabric (e : Event) (s : State) : (keepFatal e s).fabric = s.fabric := by
  unfold keepFatal; exact foldl_keeps (·.fabric) _ (fun _ _ => by simp) _
@[simp] theorem keepFatal_drone (e : Event) (s : State) : (keepFatal e s).drone = s.drone := by
  unfold keepFatal; exact foldl_keeps (·.drone) _ (fun _ _ => by simp) _
@[simp] theorem keepFatal_host (e : Event) (s : State) : (keepFatal e s).host = s.host := by
  unfold keepFatal; exact foldl_keeps (·.host) _ (fun _ _ => by simp) _
@[simp] theorem keepFatal_secure (e : Event) (s : State) : (keepFatal e s).secure = s.secure := by
  unfold keepFatal; exact foldl_keeps (·.secure) _ (fun _ _ => by simp) _
@[simp] theorem keepFatal_boot (e : Event) (s : State) : (keepFatal e s).boot = s.boot := by
  unfold keepFatal; exact foldl_keeps (·.boot) _ (fun _ _ => by simp) _
@[simp] theorem keepFatal_nvm (e : Event) (s : State) : (keepFatal e s).nvm = s.nvm := by
  unfold keepFatal; exact foldl_keeps (·.nvm) _ (fun _ _ => by simp) _
@[simp] theorem keepFatal_life (e : Event) (s : State) : (keepFatal e s).life = s.life := by
  unfold keepFatal; exact foldl_keeps (·.life) _ (fun _ _ => by simp) _
@[simp] theorem keepFatal_modLife (e : Event) (s : State) : (keepFatal e s).modLife = s.modLife := by
  unfold keepFatal; exact foldl_keeps (·.modLife) _ (fun _ _ => by simp) _
@[simp] theorem keepFatal_tensor (e : Event) (s : State) : (keepFatal e s).tensor = s.tensor := by
  unfold keepFatal; exact foldl_keeps (·.tensor) _ (fun _ _ => by simp) _
@[simp] theorem keepFatal_fmt (e : Event) (s : State) : (keepFatal e s).fmt = s.fmt := by
  unfold keepFatal; exact foldl_keeps (·.fmt) _ (fun _ _ => by simp) _
@[simp] theorem keepFatal_kv (e : Event) (s : State) : (keepFatal e s).kv = s.kv := by
  unfold keepFatal; exact foldl_keeps (·.kv) _ (fun _ _ => by simp) _
@[simp] theorem keepFatal_luna (e : Event) (s : State) : (keepFatal e s).luna = s.luna := by
  unfold keepFatal; exact foldl_keeps (·.luna) _ (fun _ _ => by simp) _
@[simp] theorem keepFatal_adapt (e : Event) (s : State) : (keepFatal e s).adapt = s.adapt := by
  unfold keepFatal; exact foldl_keeps (·.adapt) _ (fun _ _ => by simp) _
@[simp] theorem keepFatal_serve (e : Event) (s : State) : (keepFatal e s).serve = s.serve := by
  unfold keepFatal; exact foldl_keeps (·.serve) _ (fun _ _ => by simp) _
@[simp] theorem keepFatal_out (e : Event) (s : State) : (keepFatal e s).out = s.out := by
  unfold keepFatal; exact foldl_keeps (·.out) _ (fun _ _ => by simp) _
@[simp] theorem keepFatal_freeIdx (e : Event) (s : State) : (keepFatal e s).freeIdx = s.freeIdx := by
  unfold keepFatal; exact foldl_keeps (·.freeIdx) _ (fun _ _ => by simp) _
@[simp] theorem keepFatal_pending (e : Event) (s : State) : (keepFatal e s).pending = s.pending := by
  unfold keepFatal; exact foldl_keeps (·.pending) _ (fun _ _ => by simp) _

/-! ### noticeEvent -/

@[simp] theorem noticeEvent_clk (sev code : Nat) (s : State) : (noticeEvent sev code s).clk = s.clk := by
  simp only [noticeEvent]
  repeat' split
  all_goals simp
@[simp] theorem noticeEvent_seq (sev code : Nat) (s : State) : (noticeEvent sev code s).seq = s.seq := by
  simp only [noticeEvent]
  repeat' split
  all_goals simp
@[simp] theorem noticeEvent_mem (sev code : Nat) (s : State) : (noticeEvent sev code s).mem = s.mem := by
  simp only [noticeEvent]
  repeat' split
  all_goals simp
@[simp] theorem noticeEvent_breath (sev code : Nat) (s : State) : (noticeEvent sev code s).breath = s.breath := by
  simp only [noticeEvent]
  repeat' split
  all_goals simp
@[simp] theorem noticeEvent_atlas (sev code : Nat) (s : State) : (noticeEvent sev code s).atlas = s.atlas := by
  simp only [noticeEvent]
  repeat' split
  all_goals simp
@[simp] theorem noticeEvent_hkc (sev code : Nat) (s : State) : (noticeEvent sev code s).hkc = s.hkc := by
  simp only [noticeEvent]
  repeat' split
  all_goals simp
@[simp] theorem noticeEvent_therm (sev code : Nat) (s : State) : (noticeEvent sev code s).therm = s.therm := by
  simp only [noticeEvent]
  repeat' split
  all_goals simp
@[simp] theorem noticeEvent_drone (sev code : Nat) (s : State) : (noticeEvent sev code s).drone = s.drone := by
  simp only [noticeEvent]
  repeat' split
  all_goals simp
@[simp] theorem noticeEvent_host (sev code : Nat) (s : State) : (noticeEvent sev code s).host = s.host := by
  simp only [noticeEvent]
  repeat' split
  all_goals simp
@[simp] theorem noticeEvent_secure (sev code : Nat) (s : State) : (noticeEvent sev code s).secure = s.secure := by
  simp only [noticeEvent]
  repeat' split
  all_goals simp
@[simp] theorem noticeEvent_boot (sev code : Nat) (s : State) : (noticeEvent sev code s).boot = s.boot := by
  simp only [noticeEvent]
  repeat' split
  all_goals simp
@[simp] theorem noticeEvent_nvm (sev code : Nat) (s : State) : (noticeEvent sev code s).nvm = s.nvm := by
  simp only [noticeEvent]
  repeat' split
  all_goals simp
@[simp] theorem noticeEvent_life (sev code : Nat) (s : State) : (noticeEvent sev code s).life = s.life := by
  simp only [noticeEvent]
  repeat' split
  all_goals simp
@[simp] theorem noticeEvent_modLife (sev code : Nat) (s : State) : (noticeEvent sev code s).modLife = s.modLife := by
  simp only [noticeEvent]
  repeat' split
  all_goals simp
@[simp] theorem noticeEvent_tensor (sev code : Nat) (s : State) : (noticeEvent sev code s).tensor = s.tensor := by
  simp only [noticeEvent]
  repeat' split
  all_goals simp
@[simp] theorem noticeEvent_fmt (sev code : Nat) (s : State) : (noticeEvent sev code s).fmt = s.fmt := by
  simp only [noticeEvent]
  repeat' split
  all_goals simp
@[simp] theorem noticeEvent_kv (sev code : Nat) (s : State) : (noticeEvent sev code s).kv = s.kv := by
  simp only [noticeEvent]
  repeat' split
  all_goals simp
@[simp] theorem noticeEvent_luna (sev code : Nat) (s : State) : (noticeEvent sev code s).luna = s.luna := by
  simp only [noticeEvent]
  repeat' split
  all_goals simp
@[simp] theorem noticeEvent_adapt (sev code : Nat) (s : State) : (noticeEvent sev code s).adapt = s.adapt := by
  simp only [noticeEvent]
  repeat' split
  all_goals simp
@[simp] theorem noticeEvent_serve (sev code : Nat) (s : State) : (noticeEvent sev code s).serve = s.serve := by
  simp only [noticeEvent]
  repeat' split
  all_goals simp
@[simp] theorem noticeEvent_freeIdx (sev code : Nat) (s : State) : (noticeEvent sev code s).freeIdx = s.freeIdx := by
  simp only [noticeEvent]
  repeat' split
  all_goals simp
@[simp] theorem noticeEvent_pending (sev code : Nat) (s : State) : (noticeEvent sev code s).pending = s.pending := by
  simp only [noticeEvent]
  repeat' split
  all_goals simp

/-! ### fatalStop -/

@[simp] theorem fatalStop_clk (sev code : Nat) (s : State) : (fatalStop sev code s).clk = s.clk := by
  simp only [fatalStop]
  repeat' split
  all_goals simp
@[simp] theorem fatalStop_log (sev code : Nat) (s : State) : (fatalStop sev code s).log = s.log := by
  simp only [fatalStop]
  repeat' split
  all_goals simp
@[simp] theorem fatalStop_regs (sev code : Nat) (s : State) : (fatalStop sev code s).regs = s.regs := by
  simp only [fatalStop]
  repeat' split
  all_goals simp
@[simp] theorem fatalStop_mem (sev code : Nat) (s : State) : (fatalStop sev code s).mem = s.mem := by
  simp only [fatalStop]
  repeat' split
  all_goals simp
@[simp] theorem fatalStop_breath (sev code : Nat) (s : State) : (fatalStop sev code s).breath = s.breath := by
  simp only [fatalStop]
  repeat' split
  all_goals simp
@[simp] theorem fatalStop_atlas (sev code : Nat) (s : State) : (fatalStop sev code s).atlas = s.atlas := by
  simp only [fatalStop]
  repeat' split
  all_goals simp
@[simp] theorem fatalStop_hkc (sev code : Nat) (s : State) : (fatalStop sev code s).hkc = s.hkc := by
  simp only [fatalStop]
  repeat' split
  all_goals simp
@[simp] theorem fatalStop_therm (sev code : Nat) (s : State) : (fatalStop sev code s).therm = s.therm := by
  simp only [fatalStop]
  repeat' split
  all_goals simp
@[simp] theorem fatalStop_fabric (sev code : Nat) (s : State) : (fatalStop sev code s).fabric = s.fabric := by
  simp only [fatalStop]
  repeat' split
  all_goals simp
@[simp] theorem fatalStop_drone (sev code : Nat) (s : State) : (fatalStop sev code s).drone = s.drone := by
  simp only [fatalStop]
  repeat' split
  all_goals simp
@[simp] theorem fatalStop_host (sev code : Nat) (s : State) : (fatalStop sev code s).host = s.host := by
  simp only [fatalStop]
  repeat' split
  all_goals simp
@[simp] theorem fatalStop_secure (sev code : Nat) (s : State) : (fatalStop sev code s).secure = s.secure := by
  simp only [fatalStop]
  repeat' split
  all_goals simp
@[simp] theorem fatalStop_boot (sev code : Nat) (s : State) : (fatalStop sev code s).boot = s.boot := by
  simp only [fatalStop]
  repeat' split
  all_goals simp
@[simp] theorem fatalStop_nvm (sev code : Nat) (s : State) : (fatalStop sev code s).nvm = s.nvm := by
  simp only [fatalStop]
  repeat' split
  all_goals simp
@[simp] theorem fatalStop_life (sev code : Nat) (s : State) : (fatalStop sev code s).life = s.life := by
  simp only [fatalStop]
  repeat' split
  all_goals simp
@[simp] theorem fatalStop_modLife (sev code : Nat) (s : State) : (fatalStop sev code s).modLife = s.modLife := by
  simp only [fatalStop]
  repeat' split
  all_goals simp
@[simp] theorem fatalStop_tensor (sev code : Nat) (s : State) : (fatalStop sev code s).tensor = s.tensor := by
  simp only [fatalStop]
  repeat' split
  all_goals simp
@[simp] theorem fatalStop_fmt (sev code : Nat) (s : State) : (fatalStop sev code s).fmt = s.fmt := by
  simp only [fatalStop]
  repeat' split
  all_goals simp
@[simp] theorem fatalStop_kv (sev code : Nat) (s : State) : (fatalStop sev code s).kv = s.kv := by
  simp only [fatalStop]
  repeat' split
  all_goals simp
@[simp] theorem fatalStop_luna (sev code : Nat) (s : State) : (fatalStop sev code s).luna = s.luna := by
  simp only [fatalStop]
  repeat' split
  all_goals simp
@[simp] theorem fatalStop_adapt (sev code : Nat) (s : State) : (fatalStop sev code s).adapt = s.adapt := by
  simp only [fatalStop]
  repeat' split
  all_goals simp
@[simp] theorem fatalStop_serve (sev code : Nat) (s : State) : (fatalStop sev code s).serve = s.serve := by
  simp only [fatalStop]
  repeat' split
  all_goals simp
@[simp] theorem fatalStop_out (sev code : Nat) (s : State) : (fatalStop sev code s).out = s.out := by
  simp only [fatalStop]
  repeat' split
  all_goals simp
@[simp] theorem fatalStop_freeIdx (sev code : Nat) (s : State) : (fatalStop sev code s).freeIdx = s.freeIdx := by
  simp only [fatalStop]
  repeat' split
  all_goals simp
@[simp] theorem fatalStop_pending (sev code : Nat) (s : State) : (fatalStop sev code s).pending = s.pending := by
  simp only [fatalStop]
  repeat' split
  all_goals simp

/-! ### signalEvent -/

@[simp] theorem signalEvent_clk (e : Event) (s : State) : (signalEvent e s).clk = s.clk := by
  simp only [signalEvent]
  repeat' split
  all_goals simp
@[simp] theorem signalEvent_mem (e : Event) (s : State) : (signalEvent e s).mem = s.mem := by
  simp only [signalEvent]
  repeat' split
  all_goals simp
@[simp] theorem signalEvent_breath (e : Event) (s : State) : (signalEvent e s).breath = s.breath := by
  simp only [signalEvent]
  repeat' split
  all_goals simp
@[simp] theorem signalEvent_atlas (e : Event) (s : State) : (signalEvent e s).atlas = s.atlas := by
  simp only [signalEvent]
  repeat' split
  all_goals simp
@[simp] theorem signalEvent_hkc (e : Event) (s : State) : (signalEvent e s).hkc = s.hkc := by
  simp only [signalEvent]
  repeat' split
  all_goals simp
@[simp] theorem signalEvent_therm (e : Event) (s : State) : (signalEvent e s).therm = s.therm := by
  simp only [signalEvent]
  repeat' split
  all_goals simp
@[simp] theorem signalEvent_drone (e : Event) (s : State) : (signalEvent e s).drone = s.drone := by
  simp only [signalEvent]
  repeat' split
  all_goals simp
@[simp] theorem signalEvent_host (e : Event) (s : State) : (signalEvent e s).host = s.host := by
  simp only [signalEvent]
  repeat' split
  all_goals simp
@[simp] theorem signalEvent_secure (e : Event) (s : State) : (signalEvent e s).secure = s.secure := by
  simp only [signalEvent]
  repeat' split
  all_goals simp
@[simp] theorem signalEvent_boot (e : Event) (s : State) : (signalEvent e s).boot = s.boot := by
  simp only [signalEvent]
  repeat' split
  all_goals simp
@[simp] theorem signalEvent_nvm (e : Event) (s : State) : (signalEvent e s).nvm = s.nvm := by
  simp only [signalEvent]
  repeat' split
  all_goals simp
@[simp] theorem signalEvent_life (e : Event) (s : State) : (signalEvent e s).life = s.life := by
  simp only [signalEvent]
  repeat' split
  all_goals simp
@[simp] theorem signalEvent_modLife (e : Event) (s : State) : (signalEvent e s).modLife = s.modLife := by
  simp only [signalEvent]
  repeat' split
  all_goals simp
@[simp] theorem signalEvent_tensor (e : Event) (s : State) : (signalEvent e s).tensor = s.tensor := by
  simp only [signalEvent]
  repeat' split
  all_goals simp
@[simp] theorem signalEvent_fmt (e : Event) (s : State) : (signalEvent e s).fmt = s.fmt := by
  simp only [signalEvent]
  repeat' split
  all_goals simp
@[simp] theorem signalEvent_kv (e : Event) (s : State) : (signalEvent e s).kv = s.kv := by
  simp only [signalEvent]
  repeat' split
  all_goals simp
@[simp] theorem signalEvent_luna (e : Event) (s : State) : (signalEvent e s).luna = s.luna := by
  simp only [signalEvent]
  repeat' split
  all_goals simp
@[simp] theorem signalEvent_adapt (e : Event) (s : State) : (signalEvent e s).adapt = s.adapt := by
  simp only [signalEvent]
  repeat' split
  all_goals simp
@[simp] theorem signalEvent_serve (e : Event) (s : State) : (signalEvent e s).serve = s.serve := by
  simp only [signalEvent]
  repeat' split
  all_goals simp
@[simp] theorem signalEvent_freeIdx (e : Event) (s : State) : (signalEvent e s).freeIdx = s.freeIdx := by
  simp only [signalEvent]
  repeat' split
  all_goals simp
@[simp] theorem signalEvent_pending (e : Event) (s : State) : (signalEvent e s).pending = s.pending := by
  simp only [signalEvent]
  repeat' split
  all_goals simp

/-! ### raiseAt -/

@[simp] theorem raiseAt_clk (t page code sev cls req detail : Nat) (s : State) : (raiseAt t page code sev cls req detail s).clk = s.clk := by
  simp [raiseAt]
@[simp] theorem raiseAt_mem (t page code sev cls req detail : Nat) (s : State) : (raiseAt t page code sev cls req detail s).mem = s.mem := by
  simp [raiseAt]
@[simp] theorem raiseAt_breath (t page code sev cls req detail : Nat) (s : State) : (raiseAt t page code sev cls req detail s).breath = s.breath := by
  simp [raiseAt]
@[simp] theorem raiseAt_atlas (t page code sev cls req detail : Nat) (s : State) : (raiseAt t page code sev cls req detail s).atlas = s.atlas := by
  simp [raiseAt]
@[simp] theorem raiseAt_hkc (t page code sev cls req detail : Nat) (s : State) : (raiseAt t page code sev cls req detail s).hkc = s.hkc := by
  simp [raiseAt]
@[simp] theorem raiseAt_therm (t page code sev cls req detail : Nat) (s : State) : (raiseAt t page code sev cls req detail s).therm = s.therm := by
  simp [raiseAt]
@[simp] theorem raiseAt_drone (t page code sev cls req detail : Nat) (s : State) : (raiseAt t page code sev cls req detail s).drone = s.drone := by
  simp [raiseAt]
@[simp] theorem raiseAt_host (t page code sev cls req detail : Nat) (s : State) : (raiseAt t page code sev cls req detail s).host = s.host := by
  simp [raiseAt]
@[simp] theorem raiseAt_secure (t page code sev cls req detail : Nat) (s : State) : (raiseAt t page code sev cls req detail s).secure = s.secure := by
  simp [raiseAt]
@[simp] theorem raiseAt_boot (t page code sev cls req detail : Nat) (s : State) : (raiseAt t page code sev cls req detail s).boot = s.boot := by
  simp [raiseAt]
@[simp] theorem raiseAt_nvm (t page code sev cls req detail : Nat) (s : State) : (raiseAt t page code sev cls req detail s).nvm = s.nvm := by
  simp [raiseAt]
@[simp] theorem raiseAt_life (t page code sev cls req detail : Nat) (s : State) : (raiseAt t page code sev cls req detail s).life = s.life := by
  simp [raiseAt]
@[simp] theorem raiseAt_modLife (t page code sev cls req detail : Nat) (s : State) : (raiseAt t page code sev cls req detail s).modLife = s.modLife := by
  simp [raiseAt]
@[simp] theorem raiseAt_tensor (t page code sev cls req detail : Nat) (s : State) : (raiseAt t page code sev cls req detail s).tensor = s.tensor := by
  simp [raiseAt]
@[simp] theorem raiseAt_fmt (t page code sev cls req detail : Nat) (s : State) : (raiseAt t page code sev cls req detail s).fmt = s.fmt := by
  simp [raiseAt]
@[simp] theorem raiseAt_kv (t page code sev cls req detail : Nat) (s : State) : (raiseAt t page code sev cls req detail s).kv = s.kv := by
  simp [raiseAt]
@[simp] theorem raiseAt_luna (t page code sev cls req detail : Nat) (s : State) : (raiseAt t page code sev cls req detail s).luna = s.luna := by
  simp [raiseAt]
@[simp] theorem raiseAt_adapt (t page code sev cls req detail : Nat) (s : State) : (raiseAt t page code sev cls req detail s).adapt = s.adapt := by
  simp [raiseAt]
@[simp] theorem raiseAt_serve (t page code sev cls req detail : Nat) (s : State) : (raiseAt t page code sev cls req detail s).serve = s.serve := by
  simp [raiseAt]
@[simp] theorem raiseAt_freeIdx (t page code sev cls req detail : Nat) (s : State) : (raiseAt t page code sev cls req detail s).freeIdx = s.freeIdx := by
  simp [raiseAt]
@[simp] theorem raiseAt_pending (t page code sev cls req detail : Nat) (s : State) : (raiseAt t page code sev cls req detail s).pending = s.pending := by
  simp [raiseAt]

/-! ### raiseFor -/

@[simp] theorem raiseFor_clk (page code cls req detail : Nat) (s : State) : (raiseFor page code cls req detail s).clk = s.clk := by
  simp [raiseFor]
@[simp] theorem raiseFor_mem (page code cls req detail : Nat) (s : State) : (raiseFor page code cls req detail s).mem = s.mem := by
  simp [raiseFor]
@[simp] theorem raiseFor_breath (page code cls req detail : Nat) (s : State) : (raiseFor page code cls req detail s).breath = s.breath := by
  simp [raiseFor]
@[simp] theorem raiseFor_atlas (page code cls req detail : Nat) (s : State) : (raiseFor page code cls req detail s).atlas = s.atlas := by
  simp [raiseFor]
@[simp] theorem raiseFor_hkc (page code cls req detail : Nat) (s : State) : (raiseFor page code cls req detail s).hkc = s.hkc := by
  simp [raiseFor]
@[simp] theorem raiseFor_therm (page code cls req detail : Nat) (s : State) : (raiseFor page code cls req detail s).therm = s.therm := by
  simp [raiseFor]
@[simp] theorem raiseFor_drone (page code cls req detail : Nat) (s : State) : (raiseFor page code cls req detail s).drone = s.drone := by
  simp [raiseFor]
@[simp] theorem raiseFor_host (page code cls req detail : Nat) (s : State) : (raiseFor page code cls req detail s).host = s.host := by
  simp [raiseFor]
@[simp] theorem raiseFor_secure (page code cls req detail : Nat) (s : State) : (raiseFor page code cls req detail s).secure = s.secure := by
  simp [raiseFor]
@[simp] theorem raiseFor_boot (page code cls req detail : Nat) (s : State) : (raiseFor page code cls req detail s).boot = s.boot := by
  simp [raiseFor]
@[simp] theorem raiseFor_nvm (page code cls req detail : Nat) (s : State) : (raiseFor page code cls req detail s).nvm = s.nvm := by
  simp [raiseFor]
@[simp] theorem raiseFor_life (page code cls req detail : Nat) (s : State) : (raiseFor page code cls req detail s).life = s.life := by
  simp [raiseFor]
@[simp] theorem raiseFor_modLife (page code cls req detail : Nat) (s : State) : (raiseFor page code cls req detail s).modLife = s.modLife := by
  simp [raiseFor]
@[simp] theorem raiseFor_tensor (page code cls req detail : Nat) (s : State) : (raiseFor page code cls req detail s).tensor = s.tensor := by
  simp [raiseFor]
@[simp] theorem raiseFor_fmt (page code cls req detail : Nat) (s : State) : (raiseFor page code cls req detail s).fmt = s.fmt := by
  simp [raiseFor]
@[simp] theorem raiseFor_kv (page code cls req detail : Nat) (s : State) : (raiseFor page code cls req detail s).kv = s.kv := by
  simp [raiseFor]
@[simp] theorem raiseFor_luna (page code cls req detail : Nat) (s : State) : (raiseFor page code cls req detail s).luna = s.luna := by
  simp [raiseFor]
@[simp] theorem raiseFor_adapt (page code cls req detail : Nat) (s : State) : (raiseFor page code cls req detail s).adapt = s.adapt := by
  simp [raiseFor]
@[simp] theorem raiseFor_serve (page code cls req detail : Nat) (s : State) : (raiseFor page code cls req detail s).serve = s.serve := by
  simp [raiseFor]
@[simp] theorem raiseFor_freeIdx (page code cls req detail : Nat) (s : State) : (raiseFor page code cls req detail s).freeIdx = s.freeIdx := by
  simp [raiseFor]
@[simp] theorem raiseFor_pending (page code cls req detail : Nat) (s : State) : (raiseFor page code cls req detail s).pending = s.pending := by
  simp [raiseFor]

/-! ### raise -/

@[simp] theorem raise_clk (page code detail : Nat) (s : State) : (raise page code detail s).clk = s.clk := by
  simp [raise]
@[simp] theorem raise_mem (page code detail : Nat) (s : State) : (raise page code detail s).mem = s.mem := by
  simp [raise]
@[simp] theorem raise_breath (page code detail : Nat) (s : State) : (raise page code detail s).breath = s.breath := by
  simp [raise]
@[simp] theorem raise_atlas (page code detail : Nat) (s : State) : (raise page code detail s).atlas = s.atlas := by
  simp [raise]
@[simp] theorem raise_hkc (page code detail : Nat) (s : State) : (raise page code detail s).hkc = s.hkc := by
  simp [raise]
@[simp] theorem raise_therm (page code detail : Nat) (s : State) : (raise page code detail s).therm = s.therm := by
  simp [raise]
@[simp] theorem raise_drone (page code detail : Nat) (s : State) : (raise page code detail s).drone = s.drone := by
  simp [raise]
@[simp] theorem raise_host (page code detail : Nat) (s : State) : (raise page code detail s).host = s.host := by
  simp [raise]
@[simp] theorem raise_secure (page code detail : Nat) (s : State) : (raise page code detail s).secure = s.secure := by
  simp [raise]
@[simp] theorem raise_boot (page code detail : Nat) (s : State) : (raise page code detail s).boot = s.boot := by
  simp [raise]
@[simp] theorem raise_nvm (page code detail : Nat) (s : State) : (raise page code detail s).nvm = s.nvm := by
  simp [raise]
@[simp] theorem raise_life (page code detail : Nat) (s : State) : (raise page code detail s).life = s.life := by
  simp [raise]
@[simp] theorem raise_modLife (page code detail : Nat) (s : State) : (raise page code detail s).modLife = s.modLife := by
  simp [raise]
@[simp] theorem raise_tensor (page code detail : Nat) (s : State) : (raise page code detail s).tensor = s.tensor := by
  simp [raise]
@[simp] theorem raise_fmt (page code detail : Nat) (s : State) : (raise page code detail s).fmt = s.fmt := by
  simp [raise]
@[simp] theorem raise_kv (page code detail : Nat) (s : State) : (raise page code detail s).kv = s.kv := by
  simp [raise]
@[simp] theorem raise_luna (page code detail : Nat) (s : State) : (raise page code detail s).luna = s.luna := by
  simp [raise]
@[simp] theorem raise_adapt (page code detail : Nat) (s : State) : (raise page code detail s).adapt = s.adapt := by
  simp [raise]
@[simp] theorem raise_serve (page code detail : Nat) (s : State) : (raise page code detail s).serve = s.serve := by
  simp [raise]
@[simp] theorem raise_freeIdx (page code detail : Nat) (s : State) : (raise page code detail s).freeIdx = s.freeIdx := by
  simp [raise]
@[simp] theorem raise_pending (page code detail : Nat) (s : State) : (raise page code detail s).pending = s.pending := by
  simp [raise]

/-! ### raiseOwn -/

@[simp] theorem raiseOwn_clk (page code detail : Nat) (s : State) : (raiseOwn page code detail s).clk = s.clk := by
  simp [raiseOwn]
@[simp] theorem raiseOwn_mem (page code detail : Nat) (s : State) : (raiseOwn page code detail s).mem = s.mem := by
  simp [raiseOwn]
@[simp] theorem raiseOwn_breath (page code detail : Nat) (s : State) : (raiseOwn page code detail s).breath = s.breath := by
  simp [raiseOwn]
@[simp] theorem raiseOwn_atlas (page code detail : Nat) (s : State) : (raiseOwn page code detail s).atlas = s.atlas := by
  simp [raiseOwn]
@[simp] theorem raiseOwn_hkc (page code detail : Nat) (s : State) : (raiseOwn page code detail s).hkc = s.hkc := by
  simp [raiseOwn]
@[simp] theorem raiseOwn_therm (page code detail : Nat) (s : State) : (raiseOwn page code detail s).therm = s.therm := by
  simp [raiseOwn]
@[simp] theorem raiseOwn_drone (page code detail : Nat) (s : State) : (raiseOwn page code detail s).drone = s.drone := by
  simp [raiseOwn]
@[simp] theorem raiseOwn_host (page code detail : Nat) (s : State) : (raiseOwn page code detail s).host = s.host := by
  simp [raiseOwn]
@[simp] theorem raiseOwn_secure (page code detail : Nat) (s : State) : (raiseOwn page code detail s).secure = s.secure := by
  simp [raiseOwn]
@[simp] theorem raiseOwn_boot (page code detail : Nat) (s : State) : (raiseOwn page code detail s).boot = s.boot := by
  simp [raiseOwn]
@[simp] theorem raiseOwn_nvm (page code detail : Nat) (s : State) : (raiseOwn page code detail s).nvm = s.nvm := by
  simp [raiseOwn]
@[simp] theorem raiseOwn_life (page code detail : Nat) (s : State) : (raiseOwn page code detail s).life = s.life := by
  simp [raiseOwn]
@[simp] theorem raiseOwn_modLife (page code detail : Nat) (s : State) : (raiseOwn page code detail s).modLife = s.modLife := by
  simp [raiseOwn]
@[simp] theorem raiseOwn_tensor (page code detail : Nat) (s : State) : (raiseOwn page code detail s).tensor = s.tensor := by
  simp [raiseOwn]
@[simp] theorem raiseOwn_fmt (page code detail : Nat) (s : State) : (raiseOwn page code detail s).fmt = s.fmt := by
  simp [raiseOwn]
@[simp] theorem raiseOwn_kv (page code detail : Nat) (s : State) : (raiseOwn page code detail s).kv = s.kv := by
  simp [raiseOwn]
@[simp] theorem raiseOwn_luna (page code detail : Nat) (s : State) : (raiseOwn page code detail s).luna = s.luna := by
  simp [raiseOwn]
@[simp] theorem raiseOwn_adapt (page code detail : Nat) (s : State) : (raiseOwn page code detail s).adapt = s.adapt := by
  simp [raiseOwn]
@[simp] theorem raiseOwn_serve (page code detail : Nat) (s : State) : (raiseOwn page code detail s).serve = s.serve := by
  simp [raiseOwn]
@[simp] theorem raiseOwn_freeIdx (page code detail : Nat) (s : State) : (raiseOwn page code detail s).freeIdx = s.freeIdx := by
  simp [raiseOwn]
@[simp] theorem raiseOwn_pending (page code detail : Nat) (s : State) : (raiseOwn page code detail s).pending = s.pending := by
  simp [raiseOwn]

/-! ### raiseOnce -/

@[simp] theorem raiseOnce_clk (page code key detail : Nat) (s : State) : (raiseOnce page code key detail s).clk = s.clk := by
  simp only [raiseOnce]
  repeat' split
  all_goals simp
@[simp] theorem raiseOnce_mem (page code key detail : Nat) (s : State) : (raiseOnce page code key detail s).mem = s.mem := by
  simp only [raiseOnce]
  repeat' split
  all_goals simp
@[simp] theorem raiseOnce_breath (page code key detail : Nat) (s : State) : (raiseOnce page code key detail s).breath = s.breath := by
  simp only [raiseOnce]
  repeat' split
  all_goals simp
@[simp] theorem raiseOnce_atlas (page code key detail : Nat) (s : State) : (raiseOnce page code key detail s).atlas = s.atlas := by
  simp only [raiseOnce]
  repeat' split
  all_goals simp
@[simp] theorem raiseOnce_hkc (page code key detail : Nat) (s : State) : (raiseOnce page code key detail s).hkc = s.hkc := by
  simp only [raiseOnce]
  repeat' split
  all_goals simp
@[simp] theorem raiseOnce_therm (page code key detail : Nat) (s : State) : (raiseOnce page code key detail s).therm = s.therm := by
  simp only [raiseOnce]
  repeat' split
  all_goals simp
@[simp] theorem raiseOnce_drone (page code key detail : Nat) (s : State) : (raiseOnce page code key detail s).drone = s.drone := by
  simp only [raiseOnce]
  repeat' split
  all_goals simp
@[simp] theorem raiseOnce_host (page code key detail : Nat) (s : State) : (raiseOnce page code key detail s).host = s.host := by
  simp only [raiseOnce]
  repeat' split
  all_goals simp
@[simp] theorem raiseOnce_secure (page code key detail : Nat) (s : State) : (raiseOnce page code key detail s).secure = s.secure := by
  simp only [raiseOnce]
  repeat' split
  all_goals simp
@[simp] theorem raiseOnce_boot (page code key detail : Nat) (s : State) : (raiseOnce page code key detail s).boot = s.boot := by
  simp only [raiseOnce]
  repeat' split
  all_goals simp
@[simp] theorem raiseOnce_nvm (page code key detail : Nat) (s : State) : (raiseOnce page code key detail s).nvm = s.nvm := by
  simp only [raiseOnce]
  repeat' split
  all_goals simp
@[simp] theorem raiseOnce_life (page code key detail : Nat) (s : State) : (raiseOnce page code key detail s).life = s.life := by
  simp only [raiseOnce]
  repeat' split
  all_goals simp
@[simp] theorem raiseOnce_modLife (page code key detail : Nat) (s : State) : (raiseOnce page code key detail s).modLife = s.modLife := by
  simp only [raiseOnce]
  repeat' split
  all_goals simp
@[simp] theorem raiseOnce_tensor (page code key detail : Nat) (s : State) : (raiseOnce page code key detail s).tensor = s.tensor := by
  simp only [raiseOnce]
  repeat' split
  all_goals simp
@[simp] theorem raiseOnce_fmt (page code key detail : Nat) (s : State) : (raiseOnce page code key detail s).fmt = s.fmt := by
  simp only [raiseOnce]
  repeat' split
  all_goals simp
@[simp] theorem raiseOnce_kv (page code key detail : Nat) (s : State) : (raiseOnce page code key detail s).kv = s.kv := by
  simp only [raiseOnce]
  repeat' split
  all_goals simp
@[simp] theorem raiseOnce_luna (page code key detail : Nat) (s : State) : (raiseOnce page code key detail s).luna = s.luna := by
  simp only [raiseOnce]
  repeat' split
  all_goals simp
@[simp] theorem raiseOnce_adapt (page code key detail : Nat) (s : State) : (raiseOnce page code key detail s).adapt = s.adapt := by
  simp only [raiseOnce]
  repeat' split
  all_goals simp
@[simp] theorem raiseOnce_serve (page code key detail : Nat) (s : State) : (raiseOnce page code key detail s).serve = s.serve := by
  simp only [raiseOnce]
  repeat' split
  all_goals simp
@[simp] theorem raiseOnce_freeIdx (page code key detail : Nat) (s : State) : (raiseOnce page code key detail s).freeIdx = s.freeIdx := by
  simp only [raiseOnce]
  repeat' split
  all_goals simp
@[simp] theorem raiseOnce_pending (page code key detail : Nat) (s : State) : (raiseOnce page code key detail s).pending = s.pending := by
  simp only [raiseOnce]
  repeat' split
  all_goals simp

/-! ### collectFirst -/

@[simp] theorem collectFirst_clk (code key n first : Nat) (s : State) : (collectFirst code key n first s).clk = s.clk := by
  simp only [collectFirst]
  repeat' split
  all_goals simp
@[simp] theorem collectFirst_regs (code key n first : Nat) (s : State) : (collectFirst code key n first s).regs = s.regs := by
  simp only [collectFirst]
  repeat' split
  all_goals simp
@[simp] theorem collectFirst_seq (code key n first : Nat) (s : State) : (collectFirst code key n first s).seq = s.seq := by
  simp only [collectFirst]
  repeat' split
  all_goals simp
@[simp] theorem collectFirst_mem (code key n first : Nat) (s : State) : (collectFirst code key n first s).mem = s.mem := by
  simp only [collectFirst]
  repeat' split
  all_goals simp
@[simp] theorem collectFirst_breath (code key n first : Nat) (s : State) : (collectFirst code key n first s).breath = s.breath := by
  simp only [collectFirst]
  repeat' split
  all_goals simp
@[simp] theorem collectFirst_atlas (code key n first : Nat) (s : State) : (collectFirst code key n first s).atlas = s.atlas := by
  simp only [collectFirst]
  repeat' split
  all_goals simp
@[simp] theorem collectFirst_hkc (code key n first : Nat) (s : State) : (collectFirst code key n first s).hkc = s.hkc := by
  simp only [collectFirst]
  repeat' split
  all_goals simp
@[simp] theorem collectFirst_therm (code key n first : Nat) (s : State) : (collectFirst code key n first s).therm = s.therm := by
  simp only [collectFirst]
  repeat' split
  all_goals simp
@[simp] theorem collectFirst_fabric (code key n first : Nat) (s : State) : (collectFirst code key n first s).fabric = s.fabric := by
  simp only [collectFirst]
  repeat' split
  all_goals simp
@[simp] theorem collectFirst_drone (code key n first : Nat) (s : State) : (collectFirst code key n first s).drone = s.drone := by
  simp only [collectFirst]
  repeat' split
  all_goals simp
@[simp] theorem collectFirst_host (code key n first : Nat) (s : State) : (collectFirst code key n first s).host = s.host := by
  simp only [collectFirst]
  repeat' split
  all_goals simp
@[simp] theorem collectFirst_secure (code key n first : Nat) (s : State) : (collectFirst code key n first s).secure = s.secure := by
  simp only [collectFirst]
  repeat' split
  all_goals simp
@[simp] theorem collectFirst_boot (code key n first : Nat) (s : State) : (collectFirst code key n first s).boot = s.boot := by
  simp only [collectFirst]
  repeat' split
  all_goals simp
@[simp] theorem collectFirst_nvm (code key n first : Nat) (s : State) : (collectFirst code key n first s).nvm = s.nvm := by
  simp only [collectFirst]
  repeat' split
  all_goals simp
@[simp] theorem collectFirst_life (code key n first : Nat) (s : State) : (collectFirst code key n first s).life = s.life := by
  simp only [collectFirst]
  repeat' split
  all_goals simp
@[simp] theorem collectFirst_modLife (code key n first : Nat) (s : State) : (collectFirst code key n first s).modLife = s.modLife := by
  simp only [collectFirst]
  repeat' split
  all_goals simp
@[simp] theorem collectFirst_tensor (code key n first : Nat) (s : State) : (collectFirst code key n first s).tensor = s.tensor := by
  simp only [collectFirst]
  repeat' split
  all_goals simp
@[simp] theorem collectFirst_fmt (code key n first : Nat) (s : State) : (collectFirst code key n first s).fmt = s.fmt := by
  simp only [collectFirst]
  repeat' split
  all_goals simp
@[simp] theorem collectFirst_kv (code key n first : Nat) (s : State) : (collectFirst code key n first s).kv = s.kv := by
  simp only [collectFirst]
  repeat' split
  all_goals simp
@[simp] theorem collectFirst_luna (code key n first : Nat) (s : State) : (collectFirst code key n first s).luna = s.luna := by
  simp only [collectFirst]
  repeat' split
  all_goals simp
@[simp] theorem collectFirst_adapt (code key n first : Nat) (s : State) : (collectFirst code key n first s).adapt = s.adapt := by
  simp only [collectFirst]
  repeat' split
  all_goals simp
@[simp] theorem collectFirst_serve (code key n first : Nat) (s : State) : (collectFirst code key n first s).serve = s.serve := by
  simp only [collectFirst]
  repeat' split
  all_goals simp
@[simp] theorem collectFirst_out (code key n first : Nat) (s : State) : (collectFirst code key n first s).out = s.out := by
  simp only [collectFirst]
  repeat' split
  all_goals simp
@[simp] theorem collectFirst_freeIdx (code key n first : Nat) (s : State) : (collectFirst code key n first s).freeIdx = s.freeIdx := by
  simp only [collectFirst]
  repeat' split
  all_goals simp
@[simp] theorem collectFirst_pending (code key n first : Nat) (s : State) : (collectFirst code key n first s).pending = s.pending := by
  simp only [collectFirst]
  repeat' split
  all_goals simp

/-! ### cmdInvalidPg -/

@[simp] theorem cmdInvalidPg_clk (code addr : Nat) (v : Word) (s : State) : (cmdInvalidPg code addr v s).clk = s.clk := by
  simp [cmdInvalidPg]
@[simp] theorem cmdInvalidPg_mem (code addr : Nat) (v : Word) (s : State) : (cmdInvalidPg code addr v s).mem = s.mem := by
  simp [cmdInvalidPg]
@[simp] theorem cmdInvalidPg_breath (code addr : Nat) (v : Word) (s : State) : (cmdInvalidPg code addr v s).breath = s.breath := by
  simp [cmdInvalidPg]
@[simp] theorem cmdInvalidPg_atlas (code addr : Nat) (v : Word) (s : State) : (cmdInvalidPg code addr v s).atlas = s.atlas := by
  simp [cmdInvalidPg]
@[simp] theorem cmdInvalidPg_hkc (code addr : Nat) (v : Word) (s : State) : (cmdInvalidPg code addr v s).hkc = s.hkc := by
  simp [cmdInvalidPg]
@[simp] theorem cmdInvalidPg_therm (code addr : Nat) (v : Word) (s : State) : (cmdInvalidPg code addr v s).therm = s.therm := by
  simp [cmdInvalidPg]
@[simp] theorem cmdInvalidPg_drone (code addr : Nat) (v : Word) (s : State) : (cmdInvalidPg code addr v s).drone = s.drone := by
  simp [cmdInvalidPg]
@[simp] theorem cmdInvalidPg_host (code addr : Nat) (v : Word) (s : State) : (cmdInvalidPg code addr v s).host = s.host := by
  simp [cmdInvalidPg]
@[simp] theorem cmdInvalidPg_secure (code addr : Nat) (v : Word) (s : State) : (cmdInvalidPg code addr v s).secure = s.secure := by
  simp [cmdInvalidPg]
@[simp] theorem cmdInvalidPg_boot (code addr : Nat) (v : Word) (s : State) : (cmdInvalidPg code addr v s).boot = s.boot := by
  simp [cmdInvalidPg]
@[simp] theorem cmdInvalidPg_nvm (code addr : Nat) (v : Word) (s : State) : (cmdInvalidPg code addr v s).nvm = s.nvm := by
  simp [cmdInvalidPg]
@[simp] theorem cmdInvalidPg_life (code addr : Nat) (v : Word) (s : State) : (cmdInvalidPg code addr v s).life = s.life := by
  simp [cmdInvalidPg]
@[simp] theorem cmdInvalidPg_modLife (code addr : Nat) (v : Word) (s : State) : (cmdInvalidPg code addr v s).modLife = s.modLife := by
  simp [cmdInvalidPg]
@[simp] theorem cmdInvalidPg_tensor (code addr : Nat) (v : Word) (s : State) : (cmdInvalidPg code addr v s).tensor = s.tensor := by
  simp [cmdInvalidPg]
@[simp] theorem cmdInvalidPg_fmt (code addr : Nat) (v : Word) (s : State) : (cmdInvalidPg code addr v s).fmt = s.fmt := by
  simp [cmdInvalidPg]
@[simp] theorem cmdInvalidPg_kv (code addr : Nat) (v : Word) (s : State) : (cmdInvalidPg code addr v s).kv = s.kv := by
  simp [cmdInvalidPg]
@[simp] theorem cmdInvalidPg_luna (code addr : Nat) (v : Word) (s : State) : (cmdInvalidPg code addr v s).luna = s.luna := by
  simp [cmdInvalidPg]
@[simp] theorem cmdInvalidPg_adapt (code addr : Nat) (v : Word) (s : State) : (cmdInvalidPg code addr v s).adapt = s.adapt := by
  simp [cmdInvalidPg]
@[simp] theorem cmdInvalidPg_serve (code addr : Nat) (v : Word) (s : State) : (cmdInvalidPg code addr v s).serve = s.serve := by
  simp [cmdInvalidPg]
@[simp] theorem cmdInvalidPg_freeIdx (code addr : Nat) (v : Word) (s : State) : (cmdInvalidPg code addr v s).freeIdx = s.freeIdx := by
  simp [cmdInvalidPg]
@[simp] theorem cmdInvalidPg_pending (code addr : Nat) (v : Word) (s : State) : (cmdInvalidPg code addr v s).pending = s.pending := by
  simp [cmdInvalidPg]

/-! ### cmdInvalid -/

@[simp] theorem cmdInvalid_clk (page code addr : Nat) (v : Word) (s : State) : (cmdInvalid page code addr v s).clk = s.clk := by
  simp [cmdInvalid]
@[simp] theorem cmdInvalid_mem (page code addr : Nat) (v : Word) (s : State) : (cmdInvalid page code addr v s).mem = s.mem := by
  simp [cmdInvalid]
@[simp] theorem cmdInvalid_breath (page code addr : Nat) (v : Word) (s : State) : (cmdInvalid page code addr v s).breath = s.breath := by
  simp [cmdInvalid]
@[simp] theorem cmdInvalid_atlas (page code addr : Nat) (v : Word) (s : State) : (cmdInvalid page code addr v s).atlas = s.atlas := by
  simp [cmdInvalid]
@[simp] theorem cmdInvalid_hkc (page code addr : Nat) (v : Word) (s : State) : (cmdInvalid page code addr v s).hkc = s.hkc := by
  simp [cmdInvalid]
@[simp] theorem cmdInvalid_therm (page code addr : Nat) (v : Word) (s : State) : (cmdInvalid page code addr v s).therm = s.therm := by
  simp [cmdInvalid]
@[simp] theorem cmdInvalid_drone (page code addr : Nat) (v : Word) (s : State) : (cmdInvalid page code addr v s).drone = s.drone := by
  simp [cmdInvalid]
@[simp] theorem cmdInvalid_host (page code addr : Nat) (v : Word) (s : State) : (cmdInvalid page code addr v s).host = s.host := by
  simp [cmdInvalid]
@[simp] theorem cmdInvalid_secure (page code addr : Nat) (v : Word) (s : State) : (cmdInvalid page code addr v s).secure = s.secure := by
  simp [cmdInvalid]
@[simp] theorem cmdInvalid_boot (page code addr : Nat) (v : Word) (s : State) : (cmdInvalid page code addr v s).boot = s.boot := by
  simp [cmdInvalid]
@[simp] theorem cmdInvalid_nvm (page code addr : Nat) (v : Word) (s : State) : (cmdInvalid page code addr v s).nvm = s.nvm := by
  simp [cmdInvalid]
@[simp] theorem cmdInvalid_life (page code addr : Nat) (v : Word) (s : State) : (cmdInvalid page code addr v s).life = s.life := by
  simp [cmdInvalid]
@[simp] theorem cmdInvalid_modLife (page code addr : Nat) (v : Word) (s : State) : (cmdInvalid page code addr v s).modLife = s.modLife := by
  simp [cmdInvalid]
@[simp] theorem cmdInvalid_tensor (page code addr : Nat) (v : Word) (s : State) : (cmdInvalid page code addr v s).tensor = s.tensor := by
  simp [cmdInvalid]
@[simp] theorem cmdInvalid_fmt (page code addr : Nat) (v : Word) (s : State) : (cmdInvalid page code addr v s).fmt = s.fmt := by
  simp [cmdInvalid]
@[simp] theorem cmdInvalid_kv (page code addr : Nat) (v : Word) (s : State) : (cmdInvalid page code addr v s).kv = s.kv := by
  simp [cmdInvalid]
@[simp] theorem cmdInvalid_luna (page code addr : Nat) (v : Word) (s : State) : (cmdInvalid page code addr v s).luna = s.luna := by
  simp [cmdInvalid]
@[simp] theorem cmdInvalid_adapt (page code addr : Nat) (v : Word) (s : State) : (cmdInvalid page code addr v s).adapt = s.adapt := by
  simp [cmdInvalid]
@[simp] theorem cmdInvalid_serve (page code addr : Nat) (v : Word) (s : State) : (cmdInvalid page code addr v s).serve = s.serve := by
  simp [cmdInvalid]
@[simp] theorem cmdInvalid_freeIdx (page code addr : Nat) (v : Word) (s : State) : (cmdInvalid page code addr v s).freeIdx = s.freeIdx := by
  simp [cmdInvalid]
@[simp] theorem cmdInvalid_pending (page code addr : Nat) (v : Word) (s : State) : (cmdInvalid page code addr v s).pending = s.pending := by
  simp [cmdInvalid]

/-! ### chargeHbm -/

@[simp] theorem chargeHbm_clk (die cls bursts : Nat) (s : State) : (chargeHbm die cls bursts s).clk = s.clk := by
  simp [chargeHbm]
@[simp] theorem chargeHbm_log (die cls bursts : Nat) (s : State) : (chargeHbm die cls bursts s).log = s.log := by
  simp [chargeHbm]
@[simp] theorem chargeHbm_regs (die cls bursts : Nat) (s : State) : (chargeHbm die cls bursts s).regs = s.regs := by
  simp [chargeHbm]
@[simp] theorem chargeHbm_seq (die cls bursts : Nat) (s : State) : (chargeHbm die cls bursts s).seq = s.seq := by
  simp [chargeHbm]
@[simp] theorem chargeHbm_mem (die cls bursts : Nat) (s : State) : (chargeHbm die cls bursts s).mem = s.mem := by
  simp [chargeHbm]
@[simp] theorem chargeHbm_hkc (die cls bursts : Nat) (s : State) : (chargeHbm die cls bursts s).hkc = s.hkc := by
  simp [chargeHbm]
@[simp] theorem chargeHbm_therm (die cls bursts : Nat) (s : State) : (chargeHbm die cls bursts s).therm = s.therm := by
  simp [chargeHbm]
@[simp] theorem chargeHbm_fabric (die cls bursts : Nat) (s : State) : (chargeHbm die cls bursts s).fabric = s.fabric := by
  simp [chargeHbm]
@[simp] theorem chargeHbm_drone (die cls bursts : Nat) (s : State) : (chargeHbm die cls bursts s).drone = s.drone := by
  simp [chargeHbm]
@[simp] theorem chargeHbm_host (die cls bursts : Nat) (s : State) : (chargeHbm die cls bursts s).host = s.host := by
  simp [chargeHbm]
@[simp] theorem chargeHbm_secure (die cls bursts : Nat) (s : State) : (chargeHbm die cls bursts s).secure = s.secure := by
  simp [chargeHbm]
@[simp] theorem chargeHbm_boot (die cls bursts : Nat) (s : State) : (chargeHbm die cls bursts s).boot = s.boot := by
  simp [chargeHbm]
@[simp] theorem chargeHbm_nvm (die cls bursts : Nat) (s : State) : (chargeHbm die cls bursts s).nvm = s.nvm := by
  simp [chargeHbm]
@[simp] theorem chargeHbm_life (die cls bursts : Nat) (s : State) : (chargeHbm die cls bursts s).life = s.life := by
  simp [chargeHbm]
@[simp] theorem chargeHbm_modLife (die cls bursts : Nat) (s : State) : (chargeHbm die cls bursts s).modLife = s.modLife := by
  simp [chargeHbm]
@[simp] theorem chargeHbm_tensor (die cls bursts : Nat) (s : State) : (chargeHbm die cls bursts s).tensor = s.tensor := by
  simp [chargeHbm]
@[simp] theorem chargeHbm_fmt (die cls bursts : Nat) (s : State) : (chargeHbm die cls bursts s).fmt = s.fmt := by
  simp [chargeHbm]
@[simp] theorem chargeHbm_kv (die cls bursts : Nat) (s : State) : (chargeHbm die cls bursts s).kv = s.kv := by
  simp [chargeHbm]
@[simp] theorem chargeHbm_luna (die cls bursts : Nat) (s : State) : (chargeHbm die cls bursts s).luna = s.luna := by
  simp [chargeHbm]
@[simp] theorem chargeHbm_adapt (die cls bursts : Nat) (s : State) : (chargeHbm die cls bursts s).adapt = s.adapt := by
  simp [chargeHbm]
@[simp] theorem chargeHbm_serve (die cls bursts : Nat) (s : State) : (chargeHbm die cls bursts s).serve = s.serve := by
  simp [chargeHbm]
@[simp] theorem chargeHbm_out (die cls bursts : Nat) (s : State) : (chargeHbm die cls bursts s).out = s.out := by
  simp [chargeHbm]
@[simp] theorem chargeHbm_freeIdx (die cls bursts : Nat) (s : State) : (chargeHbm die cls bursts s).freeIdx = s.freeIdx := by
  simp [chargeHbm]
@[simp] theorem chargeHbm_pending (die cls bursts : Nat) (s : State) : (chargeHbm die cls bursts s).pending = s.pending := by
  simp [chargeHbm]

/-! ### chargeShawm -/

@[simp] theorem chargeShawm_clk (die cls n : Nat) (s : State) : (chargeShawm die cls n s).clk = s.clk := by
  simp [chargeShawm]
@[simp] theorem chargeShawm_log (die cls n : Nat) (s : State) : (chargeShawm die cls n s).log = s.log := by
  simp [chargeShawm]
@[simp] theorem chargeShawm_regs (die cls n : Nat) (s : State) : (chargeShawm die cls n s).regs = s.regs := by
  simp [chargeShawm]
@[simp] theorem chargeShawm_seq (die cls n : Nat) (s : State) : (chargeShawm die cls n s).seq = s.seq := by
  simp [chargeShawm]
@[simp] theorem chargeShawm_mem (die cls n : Nat) (s : State) : (chargeShawm die cls n s).mem = s.mem := by
  simp [chargeShawm]
@[simp] theorem chargeShawm_hkc (die cls n : Nat) (s : State) : (chargeShawm die cls n s).hkc = s.hkc := by
  simp [chargeShawm]
@[simp] theorem chargeShawm_therm (die cls n : Nat) (s : State) : (chargeShawm die cls n s).therm = s.therm := by
  simp [chargeShawm]
@[simp] theorem chargeShawm_fabric (die cls n : Nat) (s : State) : (chargeShawm die cls n s).fabric = s.fabric := by
  simp [chargeShawm]
@[simp] theorem chargeShawm_drone (die cls n : Nat) (s : State) : (chargeShawm die cls n s).drone = s.drone := by
  simp [chargeShawm]
@[simp] theorem chargeShawm_host (die cls n : Nat) (s : State) : (chargeShawm die cls n s).host = s.host := by
  simp [chargeShawm]
@[simp] theorem chargeShawm_secure (die cls n : Nat) (s : State) : (chargeShawm die cls n s).secure = s.secure := by
  simp [chargeShawm]
@[simp] theorem chargeShawm_boot (die cls n : Nat) (s : State) : (chargeShawm die cls n s).boot = s.boot := by
  simp [chargeShawm]
@[simp] theorem chargeShawm_nvm (die cls n : Nat) (s : State) : (chargeShawm die cls n s).nvm = s.nvm := by
  simp [chargeShawm]
@[simp] theorem chargeShawm_life (die cls n : Nat) (s : State) : (chargeShawm die cls n s).life = s.life := by
  simp [chargeShawm]
@[simp] theorem chargeShawm_modLife (die cls n : Nat) (s : State) : (chargeShawm die cls n s).modLife = s.modLife := by
  simp [chargeShawm]
@[simp] theorem chargeShawm_tensor (die cls n : Nat) (s : State) : (chargeShawm die cls n s).tensor = s.tensor := by
  simp [chargeShawm]
@[simp] theorem chargeShawm_fmt (die cls n : Nat) (s : State) : (chargeShawm die cls n s).fmt = s.fmt := by
  simp [chargeShawm]
@[simp] theorem chargeShawm_kv (die cls n : Nat) (s : State) : (chargeShawm die cls n s).kv = s.kv := by
  simp [chargeShawm]
@[simp] theorem chargeShawm_luna (die cls n : Nat) (s : State) : (chargeShawm die cls n s).luna = s.luna := by
  simp [chargeShawm]
@[simp] theorem chargeShawm_adapt (die cls n : Nat) (s : State) : (chargeShawm die cls n s).adapt = s.adapt := by
  simp [chargeShawm]
@[simp] theorem chargeShawm_serve (die cls n : Nat) (s : State) : (chargeShawm die cls n s).serve = s.serve := by
  simp [chargeShawm]
@[simp] theorem chargeShawm_out (die cls n : Nat) (s : State) : (chargeShawm die cls n s).out = s.out := by
  simp [chargeShawm]
@[simp] theorem chargeShawm_freeIdx (die cls n : Nat) (s : State) : (chargeShawm die cls n s).freeIdx = s.freeIdx := by
  simp [chargeShawm]
@[simp] theorem chargeShawm_pending (die cls n : Nat) (s : State) : (chargeShawm die cls n s).pending = s.pending := by
  simp [chargeShawm]

/-! ### chargeEth -/

@[simp] theorem chargeEth_clk (cls n : Nat) (s : State) : (chargeEth cls n s).clk = s.clk := by
  simp [chargeEth]
@[simp] theorem chargeEth_log (cls n : Nat) (s : State) : (chargeEth cls n s).log = s.log := by
  simp [chargeEth]
@[simp] theorem chargeEth_regs (cls n : Nat) (s : State) : (chargeEth cls n s).regs = s.regs := by
  simp [chargeEth]
@[simp] theorem chargeEth_seq (cls n : Nat) (s : State) : (chargeEth cls n s).seq = s.seq := by
  simp [chargeEth]
@[simp] theorem chargeEth_mem (cls n : Nat) (s : State) : (chargeEth cls n s).mem = s.mem := by
  simp [chargeEth]
@[simp] theorem chargeEth_hkc (cls n : Nat) (s : State) : (chargeEth cls n s).hkc = s.hkc := by
  simp [chargeEth]
@[simp] theorem chargeEth_therm (cls n : Nat) (s : State) : (chargeEth cls n s).therm = s.therm := by
  simp [chargeEth]
@[simp] theorem chargeEth_fabric (cls n : Nat) (s : State) : (chargeEth cls n s).fabric = s.fabric := by
  simp [chargeEth]
@[simp] theorem chargeEth_drone (cls n : Nat) (s : State) : (chargeEth cls n s).drone = s.drone := by
  simp [chargeEth]
@[simp] theorem chargeEth_host (cls n : Nat) (s : State) : (chargeEth cls n s).host = s.host := by
  simp [chargeEth]
@[simp] theorem chargeEth_secure (cls n : Nat) (s : State) : (chargeEth cls n s).secure = s.secure := by
  simp [chargeEth]
@[simp] theorem chargeEth_boot (cls n : Nat) (s : State) : (chargeEth cls n s).boot = s.boot := by
  simp [chargeEth]
@[simp] theorem chargeEth_nvm (cls n : Nat) (s : State) : (chargeEth cls n s).nvm = s.nvm := by
  simp [chargeEth]
@[simp] theorem chargeEth_life (cls n : Nat) (s : State) : (chargeEth cls n s).life = s.life := by
  simp [chargeEth]
@[simp] theorem chargeEth_modLife (cls n : Nat) (s : State) : (chargeEth cls n s).modLife = s.modLife := by
  simp [chargeEth]
@[simp] theorem chargeEth_tensor (cls n : Nat) (s : State) : (chargeEth cls n s).tensor = s.tensor := by
  simp [chargeEth]
@[simp] theorem chargeEth_fmt (cls n : Nat) (s : State) : (chargeEth cls n s).fmt = s.fmt := by
  simp [chargeEth]
@[simp] theorem chargeEth_kv (cls n : Nat) (s : State) : (chargeEth cls n s).kv = s.kv := by
  simp [chargeEth]
@[simp] theorem chargeEth_luna (cls n : Nat) (s : State) : (chargeEth cls n s).luna = s.luna := by
  simp [chargeEth]
@[simp] theorem chargeEth_adapt (cls n : Nat) (s : State) : (chargeEth cls n s).adapt = s.adapt := by
  simp [chargeEth]
@[simp] theorem chargeEth_serve (cls n : Nat) (s : State) : (chargeEth cls n s).serve = s.serve := by
  simp [chargeEth]
@[simp] theorem chargeEth_out (cls n : Nat) (s : State) : (chargeEth cls n s).out = s.out := by
  simp [chargeEth]
@[simp] theorem chargeEth_freeIdx (cls n : Nat) (s : State) : (chargeEth cls n s).freeIdx = s.freeIdx := by
  simp [chargeEth]
@[simp] theorem chargeEth_pending (cls n : Nat) (s : State) : (chargeEth cls n s).pending = s.pending := by
  simp [chargeEth]

/-! ### tagAdvance -/

@[simp] theorem tagAdvance_clk (k : Nat) (s : State) : (tagAdvance k s).clk = s.clk := by
  simp [tagAdvance]
@[simp] theorem tagAdvance_log (k : Nat) (s : State) : (tagAdvance k s).log = s.log := by
  simp [tagAdvance]
@[simp] theorem tagAdvance_regs (k : Nat) (s : State) : (tagAdvance k s).regs = s.regs := by
  simp [tagAdvance]
@[simp] theorem tagAdvance_mem (k : Nat) (s : State) : (tagAdvance k s).mem = s.mem := by
  simp [tagAdvance]
@[simp] theorem tagAdvance_breath (k : Nat) (s : State) : (tagAdvance k s).breath = s.breath := by
  simp [tagAdvance]
@[simp] theorem tagAdvance_atlas (k : Nat) (s : State) : (tagAdvance k s).atlas = s.atlas := by
  simp [tagAdvance]
@[simp] theorem tagAdvance_hkc (k : Nat) (s : State) : (tagAdvance k s).hkc = s.hkc := by
  simp [tagAdvance]
@[simp] theorem tagAdvance_therm (k : Nat) (s : State) : (tagAdvance k s).therm = s.therm := by
  simp [tagAdvance]
@[simp] theorem tagAdvance_fabric (k : Nat) (s : State) : (tagAdvance k s).fabric = s.fabric := by
  simp [tagAdvance]
@[simp] theorem tagAdvance_drone (k : Nat) (s : State) : (tagAdvance k s).drone = s.drone := by
  simp [tagAdvance]
@[simp] theorem tagAdvance_host (k : Nat) (s : State) : (tagAdvance k s).host = s.host := by
  simp [tagAdvance]
@[simp] theorem tagAdvance_secure (k : Nat) (s : State) : (tagAdvance k s).secure = s.secure := by
  simp [tagAdvance]
@[simp] theorem tagAdvance_boot (k : Nat) (s : State) : (tagAdvance k s).boot = s.boot := by
  simp [tagAdvance]
@[simp] theorem tagAdvance_nvm (k : Nat) (s : State) : (tagAdvance k s).nvm = s.nvm := by
  simp [tagAdvance]
@[simp] theorem tagAdvance_life (k : Nat) (s : State) : (tagAdvance k s).life = s.life := by
  simp [tagAdvance]
@[simp] theorem tagAdvance_modLife (k : Nat) (s : State) : (tagAdvance k s).modLife = s.modLife := by
  simp [tagAdvance]
@[simp] theorem tagAdvance_tensor (k : Nat) (s : State) : (tagAdvance k s).tensor = s.tensor := by
  simp [tagAdvance]
@[simp] theorem tagAdvance_fmt (k : Nat) (s : State) : (tagAdvance k s).fmt = s.fmt := by
  simp [tagAdvance]
@[simp] theorem tagAdvance_kv (k : Nat) (s : State) : (tagAdvance k s).kv = s.kv := by
  simp [tagAdvance]
@[simp] theorem tagAdvance_luna (k : Nat) (s : State) : (tagAdvance k s).luna = s.luna := by
  simp [tagAdvance]
@[simp] theorem tagAdvance_adapt (k : Nat) (s : State) : (tagAdvance k s).adapt = s.adapt := by
  simp [tagAdvance]
@[simp] theorem tagAdvance_serve (k : Nat) (s : State) : (tagAdvance k s).serve = s.serve := by
  simp [tagAdvance]
@[simp] theorem tagAdvance_out (k : Nat) (s : State) : (tagAdvance k s).out = s.out := by
  simp [tagAdvance]
@[simp] theorem tagAdvance_freeIdx (k : Nat) (s : State) : (tagAdvance k s).freeIdx = s.freeIdx := by
  simp [tagAdvance]
@[simp] theorem tagAdvance_pending (k : Nat) (s : State) : (tagAdvance k s).pending = s.pending := by
  simp [tagAdvance]

/-! ## Registers -/

theorem reg_of_regs {s t : State} (h : t.regs = s.regs) (a : Nat) : reg t a = reg s a := by
  simp only [reg, h]

@[simp] theorem reg_advance (dt : Nat) (s : State) (a : Nat) : reg (advance dt s) a = reg s a :=
  reg_of_regs (by simp) a
@[simp] theorem reg_emit (o : Output) (s : State) (a : Nat) : reg (emit o s) a = reg s a :=
  reg_of_regs (by simp) a
@[simp] theorem reg_setPort (p : Nat) (x : ShawmPort) (s : State) (a : Nat) : reg (setPort p x s) a = reg s a :=
  reg_of_regs (by simp) a
@[simp] theorem reg_setSpad (d w : Nat) (x : SWord) (s : State) (a : Nat) : reg (setSpad d w x s) a = reg s a :=
  reg_of_regs (by simp) a
@[simp] theorem reg_setHbmByte (k : Nat) (b : Byte) (s : State) (a : Nat) : reg (setHbmByte k b s) a = reg s a :=
  reg_of_regs (by simp) a
@[simp] theorem reg_setBurstPoison (b : Nat) (p : Bool) (s : State) (a : Nat) : reg (setBurstPoison b p s) a = reg s a :=
  reg_of_regs (by simp) a
@[simp] theorem reg_charge (die cls res amount cpj : Nat) (s : State) (a : Nat) : reg (charge die cls res amount cpj s) a = reg s a :=
  reg_of_regs (by simp) a
@[simp] theorem reg_setTag (k : Nat) (x : Tag) (s : State) (a : Nat) : reg (setTag k x s) a = reg s a :=
  reg_of_regs (by simp) a
@[simp] theorem reg_collect (code key n : Nat) (s : State) (a : Nat) : reg (collect code key n s) a = reg s a :=
  reg_of_regs (by simp) a
@[simp] theorem reg_collectFirst (code key n first : Nat) (s : State) (a : Nat) : reg (collectFirst code key n first s) a = reg s a :=
  reg_of_regs (by simp) a
@[simp] theorem reg_fatalStop (sev code : Nat) (s : State) (a : Nat) : reg (fatalStop sev code s) a = reg s a :=
  reg_of_regs (by simp) a
@[simp] theorem reg_tagAdvance (k : Nat) (s : State) (a : Nat) : reg (tagAdvance k s) a = reg s a :=
  reg_of_regs (by simp) a

/-- A register file's word. -/
def readReg (r : RegFile) (a : Nat) : Word := mget (regReset a) r.words a

/-- A register of a state written out field by field. -/
@[simp] theorem reg_mk (clk log regs seq mem breath atlas hkc therm fabric drone host secure boot nvm life modLife tensor
    fmt kv luna adapt serve out freeIdx pending) (a : Nat) :
    reg (State.mk clk log regs seq mem breath atlas hkc therm fabric drone host secure boot nvm life modLife tensor fmt kv
      luna adapt serve out freeIdx pending) a = readReg regs a := Eq.trans rfl rfl

@[simp] theorem readReg_regs (s : State) (a : Nat) : readReg s.regs a = reg s a := Eq.trans rfl rfl


@[simp] theorem reg_setReg_same (a : Nat) (v : Word) (s : State) : reg (setReg a v s) a = v := by
  simp [reg, setReg]

theorem reg_setReg_other {a b : Nat} (h : b ≠ a) (v : Word) (s : State) : reg (setReg a v s) b = reg s b := by
  simp only [reg, setReg]; simp only [mget, find?_mset_other _ _ _ h]

@[simp] theorem reg_updReg_same (a : Nat) (f : Word → Word) (s : State) : reg (updReg a f s) a = f (reg s a) := by
  simp [updReg]

theorem reg_updReg_other {a b : Nat} (h : b ≠ a) (f : Word → Word) (s : State) : reg (updReg a f s) b = reg s b :=
  reg_setReg_other h _ s

@[simp] theorem reg_setFld_same (a hi lo v : Nat) (s : State) :
    reg (setFld a hi lo v s) a = putFld (reg s a) hi lo v := by simp [setFld]

theorem reg_setFld_other {a b : Nat} (h : b ≠ a) (hi lo v : Nat) (s : State) :
    reg (setFld a hi lo v s) b = reg s b := reg_updReg_other h _ s

theorem freshCycle_words (s : State) : (freshCycle s).words = s.regs.words := by
  simp only [freshCycle]; split <;> rfl

@[simp] theorem reg_bump_same (a n : Nat) (s : State) : reg (bump a n s) a = satAdd (reg s a) n := by
  simp [reg, bump, freshCycle_words]

theorem reg_bump_other {a b : Nat} (h : b ≠ a) (n : Nat) (s : State) : reg (bump a n s) b = reg s b := by
  simp only [reg, bump, freshCycle_words]; simp only [mget, find?_mset_other _ _ _ h]

@[simp] theorem reg_hwSetBits_same (a : Nat) (m : Word) (s : State) :
    reg (hwSetBits a m s) a = reg s a ||| m := by simp [reg, hwSetBits, freshCycle_words]

theorem reg_hwSetBits_other {a b : Nat} (h : b ≠ a) (m : Word) (s : State) :
    reg (hwSetBits a m s) b = reg s b := by
  simp only [reg, hwSetBits, freshCycle_words]; simp only [mget, find?_mset_other _ _ _ h]

theorem reg_setReg64_other {a b : Nat} (h : b ≠ a) (h' : b ≠ a + 4) (v : Nat) (s : State) :
    reg (setReg64 a v s) b = reg s b := by
  simp only [setReg64]; rw [reg_setReg_other h', reg_setReg_other h]

theorem reg_bump64_other {a b : Nat} (h : b ≠ a) (h' : b ≠ a + 4) (n : Nat) (s : State) :
    reg (bump64 a n s) b = reg s b := reg_setReg64_other h h' _ s

/-- A 64-bit register pair reads as what was written to it. -/
theorem reg64_setReg64 (a v : Nat) (s : State) (h : v < 2 ^ 64) : reg64 (setReg64 a v s) a = v := by
  have ne : a ≠ a + 4 := by omega
  simp only [reg64, setReg64, reg_setReg_same, reg_setReg_other ne, word, BitVec.toNat_ofNat]
  omega

/-! ## Raising an event (R553 to R558) -/

theorem routePort_lt {s : State} {dst p : Nat} {w : Bool} (h : routePort s dst = some (p, w)) : p < 4 := by
  simp only [routePort] at h
  split at h
  · cases h
  · split at h
    · cases h; omega
    · cases h; omega
    · split at h
      · cases h; omega
      · cases h; omega
      · cases h

theorem reg_transmit {p b : Nat} (h : b ≠ ra (pgShawm p) 0x11C) (h' : b ≠ ra (pgShawm p) 0x11C + 4) (f : LinkFrame)
    (s : State) : reg (transmit p f s) b = reg s b := by
  simp only [transmit]; rw [reg_bump64_other h h']; simp

theorem reg_sendLink {p b : Nat} (h : b ≠ ra (pgShawm p) 0x11C) (h' : b ≠ ra (pgShawm p) 0x11C + 4) (f : LinkFrame)
    (s : State) : reg (sendLink p f s) b = reg s b := by
  simp only [sendLink]
  split
  · rfl
  · split
    · exact reg_transmit h h' f s
    · simp

theorem reg_sendFrame {p b : Nat} (h : b ≠ ra (pgShawm p) 0x11C) (h' : b ≠ ra (pgShawm p) 0x11C + 4) (f : Frame)
    (s : State) : reg (sendFrame p f s) b = reg s b := reg_sendLink h h' _ s

theorem reg_sendTo {b : Nat} (h : ∀ p < 4, b ≠ ra (pgShawm p) 0x11C ∧ b ≠ ra (pgShawm p) 0x11C + 4) (dst : Nat)
    (f : Bool → Frame) (s : State) : reg (sendTo dst f s) b = reg s b := by
  simp only [sendTo]
  split
  · rfl
  · split
    · rfl
    · rename_i hp
      exact reg_sendFrame (h _ (routePort_lt hp)).1 (h _ (routePort_lt hp)).2 _ _

theorem reg_captureFirst {page b : Nat} (h : b ≠ ra page 0x024) (h' : b ≠ ra page 0x028) (h'' : b ≠ ra page 0x02C)
    (sev code detail : Nat) (ovf : Bool) (s : State) : reg (captureFirst page sev code detail ovf s) b = reg s b := by
  simp only [captureFirst, reg_mk, readReg_regs, reg_setReg_other h'', reg_setReg_other h', reg_setReg_other h]

theorem reg_keepFatal {b : Nat} (h : ∀ k < 8, b ≠ Reg.EVTLOG_LAST_FATAL k) (e : Event) (s : State) :
    reg (keepFatal e s) b = reg s b := by
  unfold keepFatal
  refine foldl_keeps_mem (fun s => reg s b) _ ?_ s
  intro k hk s
  have hk' : k < 8 := List.mem_range.mp hk
  exact reg_setReg_other (h k hk') _ s

end Sys2Proof.Machine
end

