-- ==== Sys2Proof/Laws/Events.lean ====
section
/-! SUPPORT. What raising an event does: every field and register it leaves alone, and what it counts and logs. -/

namespace Sys2Proof.Machine

open Sys2Proof.Map

theorem Evt.sevOf_lt (code : Nat) : Evt.sevOf code < 5 := by
  simp only [Evt.sevOf]; repeat' split
  all_goals omega

/-- The registers outside `signalReg`, by name. -/
theorem signalReg_false {page a : Nat} (h : signalReg page a = false) :
    (a ≠ ra page 0x010 ∧ a ≠ ra page 0x018 ∧ a ≠ ra page 0x01C ∧ a ≠ ra page 0x024 ∧ a ≠ ra page 0x028 ∧
      a ≠ ra page 0x02C) ∧ (∀ k < 8, a ≠ Reg.EVTLOG_LAST_FATAL k) ∧
    (∀ v < 5, a ≠ Reg.EVTLOG_SEV_COUNT v) ∧ a ≠ 0xAC00 ∧
    (∀ p < 4, a ≠ ra (pgShawm p) 0x11C ∧ a ≠ ra (pgShawm p) 0x11C + 4) := by
  simp only [signalReg, Bool.or_eq_false_iff, List.any_eq_false, List.mem_range, beq_iff_eq, List.mem_cons,
    List.not_mem_nil, or_false, forall_eq_or_imp, forall_eq, Bool.not_eq_true, beq_eq_false_iff_ne] at h
  obtain ⟨⟨⟨⟨h1, h3⟩, h4⟩, h5⟩, h6⟩ := h
  refine ⟨h1, h3, h4, h5, fun p hp => ?_⟩
  simpa using h6 p hp

theorem eventReg_false {page a : Nat} (h : eventReg page a = false) :
    signalReg page a = false ∧ a ≠ Reg.EVTLOG_LOST_COUNT := by
  simpa [eventReg] using h

/-- EVTLOG_LOST_COUNT is no register of an event's signals. -/
theorem signalReg_lost (page : Nat) : signalReg page Reg.EVTLOG_LOST_COUNT = false := by
  simp only [signalReg, Bool.or_eq_false_iff, List.any_eq_false, List.mem_range, beq_iff_eq, List.mem_cons,
    List.not_mem_nil, or_false, forall_eq_or_imp, forall_eq, beq_eq_false_iff_ne, ra, pgShawm, ne_eq,
    Reg.EVTLOG_LOST_COUNT, Reg.EVTLOG_LAST_FATAL, Reg.EVTLOG_SEV_COUNT]
  refine ⟨⟨⟨⟨?_, ?_⟩, ?_⟩, ?_⟩, ?_⟩
  · omega
  · intro k hk; omega
  · intro k hk; omega
  · omega
  · intro p hp
    simp only [Bool.or_eq_true, beq_iff_eq, not_or]
    omega

theorem reg_msix {b v : Nat} (hv : v < 32) (h : b ≠ 0xAC00) (s : State) : reg (msix v s) b = reg s b := by
  simp only [msix]
  split
  · rfl
  · split
    · simp
    · rw [show v / 32 = 0 by omega]; exact reg_updReg_other h _ s

theorem reg_noticeEvent {page b sev code : Nat} (hc : code < 0x10000) (h : signalReg page b = false) (s : State) :
    reg (noticeEvent sev code s) b = reg s b := by
  obtain ⟨-, -, -, h5, h6⟩ := signalReg_false h
  simp only [noticeEvent]
  repeat' split
  · rw [reg_msix (by omega) h5]; rfl
  · rfl
  · rw [reg_sendTo h6]; rfl
  · rfl

theorem reg_firstErr {page b sev code detail : Nat} (h : signalReg page b = false) (s : State) :
    reg (firstErr page sev code detail s) b = reg s b := by
  obtain ⟨⟨-, -, -, h4, h5, h6⟩, -⟩ := signalReg_false h
  simp only [firstErr]
  repeat' split
  · rfl
  · rw [reg_captureFirst h4 h5 h6]; rfl
  · rw [reg_setReg_other h4]; rfl

theorem reg_enqueueEvent {page b : Nat} (h : eventReg page b = false) (e : Event) (s : State) :
    reg (enqueueEvent e s) b = reg s b := by
  obtain ⟨-, h2⟩ := eventReg_false h
  simp only [enqueueEvent]
  split
  · rfl
  · rw [reg_bump_other h2]; rfl

theorem reg_signalEvent {b : Nat} (e : Event) (hc : e.code < 0x10000) (hs : e.sev < 5)
    (h : signalReg e.block b = false) (s : State) : reg (signalEvent e s) b = reg s b := by
  obtain ⟨⟨h1, h2, h3, -⟩, h8, h9, -⟩ := signalReg_false h
  simp only [signalEvent, reg_fatalStop]
  rw [reg_noticeEvent hc h]
  repeat' split
  all_goals simp only [reg_keepFatal h8, reg_bump_other (h9 _ hs), reg_firstErr h, reg_bump_other h3,
    reg_hwSetBits_other h2, reg_updReg_other h1]

/-- Raising an event changes no register outside `eventReg`. -/
theorem reg_raiseFor {page code b : Nat} (hc : code < 0x10000) (h : eventReg page b = false)
    (cls req detail : Nat) (s : State) : reg (raiseFor page code cls req detail s) b = reg s b := by
  simp only [raiseFor, raiseAt]
  refine (reg_signalEvent _ ?_ ?_ ?_ _).trans (reg_enqueueEvent h _ _)
  · simpa only [recordOf] using hc
  · simpa only [recordOf] using Evt.sevOf_lt code
  · simpa only [recordOf] using (eventReg_false h).1

theorem reg_raise {page code b : Nat} (hc : code < 0x10000) (h : eventReg page b = false) (detail : Nat) (s : State) :
    reg (raise page code detail s) b = reg s b := reg_raiseFor hc h _ _ _ s

theorem reg_raiseOwn {page code b : Nat} (hc : code < 0x10000) (h : eventReg page b = false) (detail : Nat)
    (s : State) : reg (raiseOwn page code detail s) b = reg s b := reg_raiseFor hc h _ _ _ s

theorem reg_raiseOnce {page code b : Nat} (hc : code < 0x10000) (h : eventReg page b = false) (key detail : Nat)
    (s : State) : reg (raiseOnce page code key detail s) b = reg s b := by
  simp only [raiseOnce]
  split
  · rfl
  · rw [reg_raise hc h]; rfl

/-- Raising an event changes of the sequencer only the code that stops issue (R272). -/
theorem raiseFor_seq (page code cls req detail : Nat) (s : State) :
    (raiseFor page code cls req detail s).seq = { s.seq with fatal := (raiseFor page code cls req detail s).seq.fatal } := by
  have key : ∀ (sev c : Nat) (u : State), u.seq = s.seq →
      (fatalStop sev c u).seq = { s.seq with fatal := (fatalStop sev c u).seq.fatal } := by
    intro sev c u hu
    simp only [fatalStop]
    split <;> simp [hu]
  simp only [raiseFor, raiseAt, signalEvent]
  apply key
  rw [noticeEvent_seq]
  repeat' split
  all_goals simp

/-- Raising an event leaves everything alone but the log, the registers, the frames sent and the stop of issue. -/
theorem raiseFor_only (page code cls req detail : Nat) (s : State) :
    let t := raiseFor page code cls req detail s
    t = { s with log := t.log, regs := t.regs, fabric := t.fabric, out := t.out, seq := { s.seq with fatal := t.seq.fatal } } := by
  intro t
  have hs := raiseFor_seq page code cls req detail s
  rw [← hs]
  apply State.ext <;> simp [t]

end Sys2Proof.Machine
end

