-- ==== Sys2Proof/Laws/Act.lean ====
section
/-! SUPPORT. The outcomes of commands: with power, without it, with the root clock, from the host. -/

namespace Sys2Proof.Machine

open Sys2Proof.Map

theorem hostActs_advance (dt page : Nat) (s : State) : hostActs (advance dt s) page = hostActs s page := by
  simp [hostActs, advance]

@[simp] theorem advance_powered (dt : Nat) (s : State) : (advance dt s).clk.powered = s.clk.powered := by
  simp [advance]

@[simp] theorem advance_rootLost (dt : Nat) (s : State) : (advance dt s).clk.rootLost = s.clk.rootLost := by
  simp [advance]

@[simp] theorem advance_now (dt : Nat) (s : State) : (advance dt s).clk.now = s.clk.now + dt := by
  simp [advance]

theorem advance_keeps_queue (dt : Nat) (s : State) :
    ({ advance dt s with pending := s.pending } : State) = advance dt s := by
  apply State.ext <;> simp

/-- With power and the root clock a command acts after time has passed. -/
theorem act_on {s : State} (h : Clocked s) (dt : Nat) (f : State → State) :
    act dt f s = .next { f (advance dt s) with pending := s.pending } := by
  simp [act, actPowered, h.1, h.2]

/-- Without power only time passes. -/
theorem act_off {s : State} (h : s.clk.powered = false) (dt : Nat) (f : State → State) :
    act dt f s = .next (advance dt s) := by
  simp only [act, actPowered, advance_powered, h, Bool.false_eq_true, if_false, advance_keeps_queue]

/-- With the root clock lost the module only holds (R34). -/
theorem act_lost {s : State} (h : s.clk.rootLost = true) (dt : Nat) (f : State → State) :
    act dt f s = .next (advance dt s) := by
  simp only [act, actPowered, advance_rootLost, h, if_true, ite_self, advance_keeps_queue]

/-- With power a command that the root clock does not drive acts. -/
theorem actPowered_on {s : State} (h : s.clk.powered = true) (dt : Nat) (f : State → State) :
    actPowered dt f s = .next { f (advance dt s) with pending := s.pending } := by
  simp [actPowered, h]

theorem actPowered_off {s : State} (h : s.clk.powered = false) (dt : Nat) (f : State → State) :
    actPowered dt f s = .next (advance dt s) := by
  simp only [actPowered, advance_powered, h, Bool.false_eq_true, if_false, advance_keeps_queue]

theorem actHost_on {page : Nat} {s : State} (h : HostMay page s) (dt : Nat) (f : State → State) :
    actHost dt page f s = .next { f (advance dt s) with pending := s.pending } := by
  simp [actHost, actPowered_on h.1, hostActs_advance, h.2]

/-- A host command that may not act does nothing. -/
theorem actHost_off {page : Nat} {s : State} (h : hostActs s page = false) (dt : Nat) (f : State → State) :
    actHost dt page f s = .next (advance dt s) := by
  simp only [actHost, actPowered, hostActs_advance, h, Bool.false_eq_true, if_false, ite_self, advance_keeps_queue]

/-- A command answers a next state with the queue as it was. -/
theorem act_next (dt : Nat) (f : State → State) (s : State) : ∃ t, act dt f s = .next t ∧ t.pending = s.pending :=
  ⟨_, rfl, rfl⟩

theorem actPowered_next (dt : Nat) (f : State → State) (s : State) :
    ∃ t, actPowered dt f s = .next t ∧ t.pending = s.pending := ⟨_, rfl, rfl⟩

theorem actHost_next (dt page : Nat) (f : State → State) (s : State) :
    ∃ t, actHost dt page f s = .next t ∧ t.pending = s.pending := ⟨_, rfl, rfl⟩

theorem always_next (dt : Nat) (f : State → State) (s : State) :
    ∃ t, always dt f s = .next t ∧ t.pending = s.pending := ⟨_, rfl, rfl⟩

/-! ## Memory -/

theorem SameMemory.of_eq {s t : State} (h : t.mem = s.mem) (h' : t.host.bar2 = s.host.bar2) : SameMemory s t := by
  simp [SameMemory, spadWord, hbmByte, burstPoison, h, h']

theorem SameMemory.refl (s : State) : SameMemory s s := .of_eq rfl rfl

theorem SameMemory.trans {s t u : State} (h : SameMemory s t) (h' : SameMemory t u) : SameMemory s u := by
  obtain ⟨a, b, c, d⟩ := h
  obtain ⟨a', b', c', d'⟩ := h'
  exact ⟨fun x y => (a' x y).trans (a x y), fun x => (b' x).trans (b x), fun x => (c' x).trans (c x),
    fun x => (d' x).trans (d x)⟩

/-! ## Raising -/

theorem signalEvent_queue (e : Event) (s : State) : (signalEvent e s).log.queue = s.log.queue := by
  have hf : ∀ page sev code detail (u : State), (firstErr page sev code detail u).log.queue = u.log.queue := by
    intro page sev code detail u
    simp only [firstErr]
    repeat' split
    all_goals simp [captureFirst]
  have hn : ∀ sev code (u : State), (noticeEvent sev code u).log.queue = u.log.queue := by
    intro sev code u
    simp only [noticeEvent]
    repeat' split
    all_goals simp
  simp only [signalEvent, fatalStop_log, hn]
  repeat' split
  all_goals simp [hf]

/-- Raising an event logs it, or counts it as lost. -/
theorem raiseFor_logged {page code : Nat} (hc : code < 0x10000) (cls req detail : Nat) (s : State) :
    Logged page code detail s (raiseFor page code cls req detail s) := by
  simp only [Logged, raiseFor, raiseAt, signalEvent_queue, enqueueEvent]
  by_cases h : s.log.queue.length < 1024
  · simp [h, recordOf]
  · simp only [h, if_false]
    refine ⟨by simp, ?_⟩
    refine (reg_signalEvent _ ?_ ?_ ?_ _).trans ?_
    · simpa only [recordOf] using hc
    · simpa only [recordOf] using Evt.sevOf_lt code
    · exact signalReg_lost _
    · simp

theorem raise_logged {page code : Nat} (hc : code < 0x10000) (detail : Nat) (s : State) :
    Logged page code detail s (raise page code detail s) := raiseFor_logged hc _ _ _ s

theorem raiseOwn_logged {page code : Nat} (hc : code < 0x10000) (detail : Nat) (s : State) :
    Logged page code detail s (raiseOwn page code detail s) := raiseFor_logged hc _ _ _ s

/-- What is logged depends on the log's queue and its count of lost records. -/
theorem Logged.congr {page code detail : Nat} {s s' t t' : State} (h : Logged page code detail s t)
    (hq : s'.log.queue = s.log.queue) (hl : reg s' Reg.EVTLOG_LOST_COUNT = reg s Reg.EVTLOG_LOST_COUNT)
    (hq' : t'.log.queue = t.log.queue) (hl' : reg t' Reg.EVTLOG_LOST_COUNT = reg t Reg.EVTLOG_LOST_COUNT) :
    Logged page code detail s' t' := by
  simpa only [Logged, hq, hl, hq', hl'] using h

/-- A command that raises an event in a state whose log is as before it logs that event. -/
theorem logged_raiseFor {page code : Nat} (hc : code < 0x10000) {cls req detail : Nat} {s0 s t : State}
    (hq : s.log.queue = s0.log.queue) (hl : reg s Reg.EVTLOG_LOST_COUNT = reg s0 Reg.EVTLOG_LOST_COUNT)
    (ht : t.log = (raiseFor page code cls req detail s).log) (hr : t.regs = (raiseFor page code cls req detail s).regs) :
    Logged page code detail s0 t :=
  (raiseFor_logged hc cls req detail s).congr hq.symm hl.symm (by rw [ht]) (reg_of_regs hr _)

/-- As `logged_raiseFor`, for a command that goes on after the event without touching the log's queue. -/
theorem logged_raiseFor' {page code : Nat} (hc : code < 0x10000) {cls req detail : Nat} {s0 s t : State}
    (hq : s.log.queue = s0.log.queue) (hl : reg s Reg.EVTLOG_LOST_COUNT = reg s0 Reg.EVTLOG_LOST_COUNT)
    (ht : t.log.queue = (raiseFor page code cls req detail s).log.queue)
    (hr : reg t Reg.EVTLOG_LOST_COUNT = reg (raiseFor page code cls req detail s) Reg.EVTLOG_LOST_COUNT) :
    Logged page code detail s0 t :=
  (raiseFor_logged hc cls req detail s).congr hq.symm hl.symm ht hr

/-- A FATAL event stops issue with its code (R272). -/
theorem raiseFor_fatal (page code cls req detail : Nat) (s : State) :
    (raiseFor page code cls req detail s).seq.fatal =
      if Evt.sevOf code = 4 ∧ s.seq.fatal = none then some code else s.seq.fatal := by
  have key : ∀ u : State, u.seq = s.seq → (fatalStop (Evt.sevOf code) code u).seq.fatal =
      if Evt.sevOf code = 4 ∧ s.seq.fatal = none then some code else s.seq.fatal := by
    intro u hu
    simp only [fatalStop, hu]
    split <;> simp [hu]
  simp only [raiseFor, raiseAt, signalEvent]
  apply key
  rw [noticeEvent_seq]
  repeat' split
  all_goals simp

/-! ## Sub-slots of the issued bundle -/

/-- Executing a carried operation. -/
theorem withSub_carries {i : Issued} {die sub op : Nat} {s : State} (h : Carries i die sub op s)
    (f : SubCtx → State → State) :
    withSub die sub op f s = inClass (bClass i.bundle)
      (f ⟨die, sub, dieSlot i.bundle die sub, i.rep, bClass i.bundle, i.cycle⟩)
      { s with seq := { s.seq with issued := some { i with done := i.done ++ [die * 4 + sub] } } } := by
  obtain ⟨h1, h2, h3, h4⟩ := h
  simp only [withSub, h1, h2, h3, h4]
  simp

end Sys2Proof.Machine
end

