-- ==== Sys2Proof/Laws/Bits.lean ====
section
/-! SUPPORT. Fields of register words after a field or a bit of them was written. -/

namespace Sys2Proof

theorem bits_testBit (w hi lo i : Nat) : (bits w hi lo).testBit i = (decide (i < hi + 1 - lo) && w.testBit (lo + i)) := by
  simp only [bits, Nat.testBit_mod_two_pow, Nat.testBit_shiftRight]

theorem putFld_bit {w : Word} {hi lo v i : Nat} (hi' : i < 32) :
    (putFld w hi lo v).getLsbD i =
      if lo ≤ i ∧ i < hi + 1 then v.testBit (i - lo) else w.getLsbD i := by
  simp only [putFld, BitVec.getLsbD_or, BitVec.getLsbD_and, BitVec.getLsbD_not, BitVec.getLsbD_ofNat,
    Nat.testBit_shiftLeft, Nat.testBit_two_pow_sub_one, Nat.testBit_mod_two_pow, hi']
  by_cases h1 : lo ≤ i
  · by_cases h2 : i < hi + 1
    · have h3 : i - lo < hi + 1 - lo := by omega
      simp [h1, h2, h3]
    · have h3 : ¬ (i - lo < hi + 1 - lo) := by omega
      simp [h1, h2, h3]
  · simp [h1]

/-- A field reads as what was written to it. -/
theorem fld_putFld {hi lo : Nat} (h : hi < 32) (w : Word) (v : Nat) :
    fld (putFld w hi lo v) hi lo = v % 2 ^ (hi + 1 - lo) := by
  apply Nat.eq_of_testBit_eq
  intro i
  simp only [fld, bits_testBit, Nat.testBit_mod_two_pow]
  by_cases hi' : i < hi + 1 - lo
  · have := putFld_bit (w := w) (hi := hi) (lo := lo) (v := v) (i := lo + i) (by omega)
    simp only [BitVec.getLsbD] at this
    rw [this, if_pos (by omega)]
    simp [hi']
  · simp [hi']

/-- Another field keeps its value. -/
theorem fld_putFld_other {hi lo hi' lo' : Nat} (h' : hi' < 32) (hd : hi < lo' ∨ hi' < lo) (w : Word)
    (v : Nat) : fld (putFld w hi lo v) hi' lo' = fld w hi' lo' := by
  apply Nat.eq_of_testBit_eq
  intro i
  simp only [fld, bits_testBit]
  by_cases hi2 : i < hi' + 1 - lo'
  · have := putFld_bit (w := w) (hi := hi) (lo := lo) (v := v) (i := lo' + i) (by omega)
    simp only [BitVec.getLsbD] at this
    rw [this, if_neg (by omega)]
  · simp [hi2]

/-- A bit reads as what was written to it. -/
theorem flag_putFlag {i : Nat} (h : i < 32) (w : Word) (b : Bool) : flag (putFlag w i b) i = b := by
  simp only [flag, putFlag, putFld_bit h]
  cases b <;> simp

/-- Another bit keeps its value. -/
theorem flag_putFlag_other {i j : Nat} (hj : j < 32) (hd : j ≠ i) (w : Word) (b : Bool) :
    flag (putFlag w i b) j = flag w j := by
  simp only [flag, putFlag, putFld_bit hj]
  rw [if_neg (by omega)]

/-- A bit inside a written field. -/
theorem flag_putFld {hi lo j : Nat} (h : hi < 32) (hl : lo ≤ j) (hh : j ≤ hi) (w : Word) (v : Nat) :
    flag (putFld w hi lo v) j = v.testBit (j - lo) := by
  simp only [flag]
  rw [putFld_bit (by omega), if_pos (by omega)]

/-- A bit outside a written field. -/
theorem flag_putFld_other {hi lo j : Nat} (hj : j < 32) (hd : j < lo ∨ hi < j) (w : Word) (v : Nat) :
    flag (putFld w hi lo v) j = flag w j := by
  simp only [flag]
  rw [putFld_bit hj, if_neg (by omega)]

/-- A field after a bit outside it was written. -/
theorem fld_putFlag_other {i hi lo : Nat} (h' : hi < 32) (hd : i < lo ∨ hi < i) (w : Word) (b : Bool) :
    fld (putFlag w i b) hi lo = fld w hi lo := fld_putFld_other h' (by omega) w _

/-- A field is smaller than its width allows. -/
theorem fld_lt (w : Word) (hi lo : Nat) : fld w hi lo < 2 ^ (hi + 1 - lo) := Nat.mod_lt _ (by positivity)

end Sys2Proof
end

