-- ==== Sys2Proof/Laws/Luna.lean ====
section
/-! SUPPORT. The passes that the module runs by itself: what they leave alone, whatever their segments. -/

namespace Sys2Proof.Machine

open Sys2Proof.Map

theorem inForce_freshCycle (s : State) : (freshCycle s).inForce = s.regs.inForce := by
  simp only [freshCycle]; split <;> rfl

@[simp] theorem inForce_bump (a n : Nat) (s : State) : (bump a n s).regs.inForce = s.regs.inForce := by
  simp [bump, inForce_freshCycle]

@[simp] theorem inForce_setReg (a : Nat) (v : Word) (s : State) : (setReg a v s).regs.inForce = s.regs.inForce := rfl

@[simp] theorem inForce_setReg64 (a v : Nat) (s : State) : (setReg64 a v s).regs.inForce = s.regs.inForce := by
  simp only [setReg64, inForce_setReg]

@[simp] theorem inForce_bump64 (a n : Nat) (s : State) : (bump64 a n s).regs.inForce = s.regs.inForce := by
  simp only [bump64, inForce_setReg64]

@[simp] theorem inForce_highWater (a hi lo v : Nat) (s : State) :
    (highWater a hi lo v s).regs.inForce = s.regs.inForce := by
  simp only [highWater]
  split <;> simp [setFld, updReg, inForce_freshCycle]

theorem reg_highWater_other {a b : Nat} (h : b ≠ a) (hi lo v : Nat) (s : State) :
    reg (highWater a hi lo v s) b = reg s b := by
  have e : ∀ m : SMap Nat, reg { s with regs := { freshCycle s with hwInc := m } } b = reg s b := by
    intro m; simp [reg, freshCycle_words]
  simp only [highWater]
  split
  · rw [reg_setFld_other h, e]
  · rw [e]

/-- What the module's own passes leave as it was (R63, R79, R435): all but the breath's charges, the log's counts and
the die's core counters. -/
theorem ownPasses_frame (d cls full splits : Nat) (s : State) :
    let t := ownPasses d cls full splits s
    t.luna = s.luna ∧ t.nvm = s.nvm ∧ t.mem = s.mem ∧ t.therm = s.therm ∧ t.regs.inForce = s.regs.inForce ∧
      ∀ a, a ∉ [coreReg d 0x108, coreReg d 0x110, coreReg d 0x110 + 4, coreReg d 0x11C] → reg t a = reg s a := by
  simp only [ownPasses]
  generalize full * 83900 + 4 * splits * 21000 = cpj
  generalize full + 4 * splits = n
  split
  · exact ⟨rfl, rfl, rfl, rfl, rfl, fun _ _ => rfl⟩
  · have hc : ∀ (u : State) (a : Nat), reg (charge d cls 0 n cpj u) a = reg u a := fun u a => by simp only [reg, charge_regs]
    split
    · refine ⟨by simp, by simp, by simp,
        by simp, by simp, fun a h => ?_⟩
      simp only [List.mem_cons, List.not_mem_nil, or_false, not_or] at h
      rw [hc, reg_highWater_other h.1, reg_bump64_other h.2.1 h.2.2.1]
    · refine ⟨by simp, by simp, by simp,
        by simp, by simp, fun a h => ?_⟩
      simp only [List.mem_cons, List.not_mem_nil, or_false, not_or] at h
      have c : ∀ u : State, reg (collect Evt.ARRAY_SPLIT d splits u) a = reg u a := fun u => reg_collect _ _ _ u a
      rw [hc, c, reg_bump_other h.2.2.2, reg_highWater_other h.1, reg_bump64_other h.2.1 h.2.2.1]

/-- The same of a list of passes with their skips (R58). -/
theorem runPlans_frame (d cls : Nat) (ps : List PassPlan) (s : State) :
    let t := runPlans d cls ps s
    t.luna = s.luna ∧ t.nvm = s.nvm ∧ t.mem = s.mem ∧ t.therm = s.therm ∧ t.regs.inForce = s.regs.inForce ∧
      ∀ a, a ∉ [coreReg d 0x108, coreReg d 0x110, coreReg d 0x110 + 4, coreReg d 0x11C, coreReg d 0x118] →
        reg t a = reg s a := by
  simp only [runPlans]
  obtain ⟨h1, h2, h3, h4, h5, h6⟩ := ownPasses_frame d cls (ps.filter (fun p => !p.skip && !p.split)).length
    (ps.filter (·.split)).length (bump (coreReg d 0x118) (ps.filter (·.skip)).length s)
  refine ⟨by rw [h1]; simp, by rw [h2]; simp, by rw [h3]; simp, by rw [h4]; simp, by rw [h5]; simp, fun a h => ?_⟩
  simp only [List.mem_cons, List.not_mem_nil, or_false, not_or] at h
  rw [h6 a (by simp [h]), reg_bump_other h.2.2.2.2]

/-- What a state keeps of another across the passes that a die runs by itself. -/
def PassesKeep (d : Nat) (s t : State) : Prop :=
  t.luna = s.luna ∧ t.nvm = s.nvm ∧ t.mem.hbm = s.mem.hbm ∧ t.therm = s.therm ∧ t.regs.inForce = s.regs.inForce ∧
    ∀ a, a ∉ [coreReg d 0x108, coreReg d 0x110, coreReg d 0x110 + 4, coreReg d 0x11C, coreReg d 0x118] →
      reg t a = reg s a

theorem PassesKeep.trans {d : Nat} {s t u : State} (h : PassesKeep d s t) (k : PassesKeep d t u) : PassesKeep d s u :=
  ⟨k.1.trans h.1, k.2.1.trans h.2.1, k.2.2.1.trans h.2.2.1, k.2.2.2.1.trans h.2.2.2.1,
    k.2.2.2.2.1.trans h.2.2.2.2.1, fun a m => (k.2.2.2.2.2 a m).trans (h.2.2.2.2.2 a m)⟩

theorem runPlans_keeps (d cls : Nat) (ps : List PassPlan) (s : State) : PassesKeep d s (runPlans d cls ps s) := by
  obtain ⟨h1, h2, h3, h4, h5, h6⟩ := runPlans_frame d cls ps s
  exact ⟨h1, h2, by rw [h3], h4, h5, h6⟩

theorem spadPuts_keeps (d e : Nat) (xs : List SWord) : ∀ (w : Nat) (s : State), PassesKeep d s (spadPuts e w xs s) := by
  induction xs with
  | nil => intro w s; exact ⟨rfl, rfl, rfl, rfl, rfl, fun _ _ => rfl⟩
  | cons x xs ih =>
    intro w s
    refine PassesKeep.trans ?_ (ih _ _)
    simp only [spadPut]
    split
    · exact ⟨by simp, by simp, by simp [setSpad], by simp, by simp, fun a _ => by simp [reg]⟩
    · exact ⟨rfl, rfl, rfl, rfl, rfl, fun _ _ => rfl⟩

/-- A register of another place than the core counters is in force as before. -/
theorem PassesKeep.force {d : Nat} {s t : State} (h : PassesKeep d s t) {a : Nat}
    (ha : a ∉ [coreReg d 0x108, coreReg d 0x110, coreReg d 0x110 + 4, coreReg d 0x11C, coreReg d 0x118]) :
    force t a = force s a := by
  simp only [Machine.force, h.2.2.2.2.1, h.2.2.2.2.2 a ha]

theorem PassesKeep.shadowDir {d : Nat} {s t : State} (h : PassesKeep d s t) (a : Nat) :
    shadowDir t d a = shadowDir s d a := by
  have e : shadowBase t d = shadowBase s d := by
    simp only [shadowBase, reg64]
    rw [h.2.2.2.2.2 _ (by simp [refReg, coreReg, Reg.luna]; omega),
      h.2.2.2.2.2 _ (by simp [refReg, coreReg, Reg.luna]; omega)]
  simp only [Machine.shadowDir, e, hbmRead, hbmByte, h.2.2.1]

theorem PassesKeep.planPass {d : Nat} {s t : State} (h : PassesKeep d s t) (l : Nat) (trn : Bool) (ns : List Int) :
    planPass t d l trn ns = planPass s d l trn ns := by
  simp only [Machine.planPass, h.force (a := coreReg d 0x100) (by simp [coreReg, Reg.luna])]

/-- ĝ and ô of a baseline pass rest on the codes, the temperature, β and CORRECT_EN in force (R98, R101). -/
theorem PassesKeep.baselineValues {d : Nat} {s t : State} (h : PassesKeep d s t) (p : Nat) (refs : List PassCodes) :
    baselineValues t d p refs = baselineValues s d p refs := by
  have hk : ktOf t d p (Machine.force t (picReg d 0x100)) = ktOf s d p (Machine.force s (picReg d 0x100)) := by
    rw [h.force (a := picReg d 0x100) (by simp [picReg, coreReg, Reg.luna]; omega)]
    simp only [ktOf, betaInForce, betaOf, est, h.1, h.2.1, h.2.2.2.1]; rfl
  simp only [Machine.baselineValues, hk]

/-- A program succeeds whose cells all pass, with no acceptance result and no gain code to the contrary, a staging area
in place, and a seeding pass of one set whose codes give ĝ and ô in range (R138 to R141). -/
theorem runProgram_done {d : Nat} {c : Channel} {o : ProgObs} {s : State} {v : Word × Int}
    (h1 : (runCells d c o s).1 = none) (ha : o.accept = []) (hf : o.gainFwd = []) (ht : o.gainTrn = [])
    (hr : regFld (runCells d c o s).2 (refReg d 0x11C) 25 0 % 4 = 0)
    (hp : planPass (runCells d c o s).2 d (shadowDir (runCells d c o s).2 d c.logical).level false
      (List.replicate 1024 4) = ⟨false, false, List.replicate 1024 4⟩)
    (hc : ∀ t : State, codeSetsOf d c.phys c.logical false false (baselineSets 1 o.refs) t = t)
    (hv : baselineSeed (baselineValues (runCells d c o s).2 d c.phys (baselineSets 1 o.refs)) = some v) :
    (runProgram d c o s).1 = .inl v := by
  generalize hu : runCells d c o s = q at *
  obtain ⟨f, u⟩ := q
  simp only at h1 hr hp hv
  subst h1
  simp only [runProgram, hu, runAccept, ha, List.filter_nil, List.isEmpty_nil, if_true]
  generalize hw : runPlans d 6 _ u = w
  have kw : PassesKeep d u w := hw ▸ runPlans_keeps d 6 _ u
  simp only [runGains, hf, ht, List.zip_nil_right, List.foldl_nil]
  generalize hx : runPlans d 6 _ w = x
  have kx : PassesKeep d u x := kw.trans (hx ▸ runPlans_keeps d 6 _ w)
  have hr' : (regFld x (refReg d 0x11C) 25 0 % 4 != 0) = false := by
    simp only [regFld, kx.2.2.2.2.2 (refReg d 0x11C) (by simp [refReg, coreReg, Reg.luna]; omega)]
    simpa [regFld] using hr
  simp only [hr', Bool.false_eq_true, if_false]
  generalize hy : spadPuts d c.stage _ _ = y
  have ky : PassesKeep d u y := by
    refine kx.trans (PassesKeep.trans ?_ (hy ▸ spadPuts_keeps d d _ _ _))
    exact ⟨rfl, rfl, rfl, rfl, rfl, fun _ _ => rfl⟩
  simp only [runSeed, ky.shadowDir, ky.planPass, hp, codeSets, Bool.false_eq_true, if_false, hc]
  rw [(ky.trans (runPlans_keeps d 6 _ y)).baselineValues, hv]

end Sys2Proof.Machine
end

