-- ==== Sys2Proof/Laws/Memory.lean ====
section
/-! SUPPORT. The memory operations: a read after a write, and that each keeps the memories in canonical form. -/

namespace Sys2Proof.Machine

open Sys2Proof.Map

/-! ## A read after a write -/

theorem spadKey_inj {d e w x : Nat} (hw : w < 2 ^ 26) (hx : x < 2 ^ 26) (h : spadKey d w = spadKey e x) :
    d = e ∧ w = x := by
  simp only [spadKey] at h; omega

theorem spadWord_setSpad (d w : Nat) (x : SWord) (s : State) : spadWord (setSpad d w x s) d w = x := by
  simp [spadWord, setSpad]

theorem spadWord_setSpad_other {d w e v : Nat} (h : spadKey e v ≠ spadKey d w) (x : SWord) (s : State) :
    spadWord (setSpad d w x s) e v = spadWord s e v := by
  simp only [spadWord, setSpad]; exact mget_mset_other _ _ _ h

theorem hbmByte_setHbmByte (a : Nat) (b : Byte) (s : State) : hbmByte (setHbmByte a b s) a = b := by
  simp [hbmByte, setHbmByte]

theorem hbmByte_setHbmByte_other {a c : Nat} (h : c ≠ a) (b : Byte) (s : State) :
    hbmByte (setHbmByte a b s) c = hbmByte s c := by
  simp only [hbmByte, setHbmByte]; exact mget_mset_other _ _ _ h

/-- Bytes outside the written range read as before. -/
theorem hbmByte_hbmWrite_other {c : Nat} (bs : Bytes) : ∀ (a : Nat) (s : State), c < a ∨ a + bs.length ≤ c →
    hbmByte (hbmWrite a bs s) c = hbmByte s c := by
  induction bs with
  | nil => intro a s _; rfl
  | cons b bs ih =>
    intro a s h
    simp only [List.length_cons] at h
    rw [hbmWrite, ih (a + 1) _ (by omega), hbmByte_setHbmByte_other (by omega)]

/-- Byte i of what was written reads back. -/
theorem hbmByte_hbmWrite (bs : Bytes) : ∀ (a i : Nat) (s : State) (h : i < bs.length),
    hbmByte (hbmWrite a bs s) (a + i) = bs[i] := by
  induction bs with
  | nil => intro a i s h; cases h
  | cons b bs ih =>
    intro a i s h
    cases i with
    | zero => rw [hbmWrite, hbmByte_hbmWrite_other _ _ _ (by omega)]; simp [hbmByte_setHbmByte]
    | succ i =>
      have := ih (a + 1) i (setHbmByte a b s) (by simpa using h)
      simpa [hbmWrite, Nat.add_assoc, Nat.add_comm 1 i] using this

/-! ## The canonical form -/

theorem Memory.wf_iff (s : State) : Memory.wf s = true ↔
    Map.wf ({} : SWord) s.mem.spad = true ∧ Map.wf 0 s.mem.hbm = true ∧ Map.wf false s.mem.hbmPoison = true ∧
      Map.wf 0 s.host.bar2 = true := by
  simp [Memory.wf, and_assoc]

/-- The canonical form rests on the four memories alone. -/
theorem Memory.wf_of_eq {s t : State} (hm : t.mem = s.mem) (hb : t.host.bar2 = s.host.bar2) (h : Memory.wf s = true) :
    Memory.wf t = true := by
  simpa [Memory.wf, hm, hb] using h

theorem wf_setSpad (d w : Nat) (x : SWord) {s : State} (h : Memory.wf s = true) : Memory.wf (setSpad d w x s) = true := by
  rw [Memory.wf_iff] at h ⊢
  exact ⟨wf_mset _ _ _ h.1, h.2.1, h.2.2.1, h.2.2.2⟩

theorem wf_setSpadWords (xs : List SWord) : ∀ (d w : Nat) {s : State}, Memory.wf s = true →
    Memory.wf (setSpadWords d w xs s) = true := by
  induction xs with
  | nil => intro d w s h; exact h
  | cons x xs ih => intro d w s h; exact ih d (w + 1) (wf_setSpad d w x h)

theorem wf_setHbmByte (a : Nat) (b : Byte) {s : State} (h : Memory.wf s = true) : Memory.wf (setHbmByte a b s) = true := by
  rw [Memory.wf_iff] at h ⊢
  exact ⟨h.1, wf_mset _ _ _ h.2.1, h.2.2.1, h.2.2.2⟩

theorem wf_hbmWrite (bs : Bytes) : ∀ (a : Nat) {s : State}, Memory.wf s = true → Memory.wf (hbmWrite a bs s) = true := by
  induction bs with
  | nil => intro a s h; exact h
  | cons b bs ih => intro a s h; exact ih (a + 1) (wf_setHbmByte a b h)

theorem wf_setBurstPoison (b : Nat) (p : Bool) {s : State} (h : Memory.wf s = true) :
    Memory.wf (setBurstPoison b p s) = true := by
  rw [Memory.wf_iff] at h ⊢
  exact ⟨h.1, h.2.1, wf_mset _ _ _ h.2.2.1, h.2.2.2⟩

/-- Folding steps that each keep the form keeps it. -/
theorem wf_foldl {α : Type} {g : State → α → State} (hg : ∀ s x, Memory.wf s = true → Memory.wf (g s x) = true)
    (l : List α) : ∀ {s : State}, Memory.wf s = true → Memory.wf (l.foldl g s) = true := by
  induction l with
  | nil => intro s h; exact h
  | cons x l ih => intro s h; exact ih (hg s x h)

theorem wf_setBar2 (bs : Bytes) : ∀ (o : Nat) {s : State}, Memory.wf s = true → Memory.wf (setBar2 o bs s) = true := by
  induction bs with
  | nil => intro o s h; exact h
  | cons b bs ih =>
    intro o s h
    refine ih (o + 1) ?_
    rw [Memory.wf_iff] at h ⊢
    exact ⟨h.1, h.2.1, h.2.2.1, wf_mset _ _ _ h.2.2.2⟩

theorem wf_hbmStore (a : Nat) (bs : Bytes) (poison : Bool) {s : State} (h : Memory.wf s = true) :
    Memory.wf (hbmStore a bs poison s).2 = true := by
  refine wf_foldl (fun s b hs => ?_) _ (wf_hbmWrite bs a h)
  split
  · exact wf_setBurstPoison b true hs
  · split
    · exact wf_setBurstPoison b false hs
    · exact hs

theorem wf_hbmStoreParts (a size : Nat) (ps : List Bytes) {s : State} (h : Memory.wf s = true) :
    Memory.wf (hbmStoreParts a size ps s).2 = true := by
  refine wf_foldl (fun s e hs => ?_) _ (wf_hbmStore a _ false h)
  split
  · exact wf_foldl (fun s b hs => wf_setBurstPoison b true hs) _ hs
  · exact hs

/-- Stepping down to the store's words that are not general space or resident keeps the form (R287). -/
theorem wf_spad_filter (p : Nat × SWord → Bool) {s : State} (h : Memory.wf s = true) :
    Memory.wf { s with mem := { s.mem with spad := s.mem.spad.filter p } } = true := by
  rw [Memory.wf_iff] at h ⊢
  exact ⟨wf_filter _ _ h.1, h.2.1, h.2.2.1, h.2.2.2⟩

/-- Right after reset, and without power, the memories list nothing. -/
theorem wf_unpowered (s : State) : Memory.wf (unpowered s) = true := rfl

end Sys2Proof.Machine
end

