-- ==== Sys2Proof/Tests/Slice0.lean ====
section
/-! SUPPORT. Tests: ill-formed commands are refused, states that meet the hypotheses of every statement, and single
steps whose results are worked out by hand from the spec. -/

namespace Sys2Proof.Tests

open Sys2Proof Sys2Proof.Machine Sys2Proof.Map Sys2Proof.Fp

set_option Elab.async false

/-! ## Small states -/

/-- A module that is powered and READY, with nothing else set up. -/
def on : State :=
  { State.reset with
    clk := { powered := true, pwrGood := true }
    boot := { state := .ready, step := 9 } }

/-- A state with issue idle. -/
def idle : State := { on with seq := { state := .idle } }

/-- A state with one register set. -/
def withReg (a : Nat) (v : Word) (s : State) : State := setReg a v s

/-- Shawm port `p` is up. -/
def withPort (p : Nat) (x : ShawmPort) (s : State) : State := setPort p x s

/-- Module 1 of a 4 × 4 machine. -/
def one4 : State := setReg Reg.SHAWM_MACHINE 0x0100 on

/-- A die's state. -/
def withDie (d : Nat) (x : LunaDie) (s : State) : State := setLunaDie d x s

/-- A scratchpad of data words, from a list of word addresses and contents in rising order. -/
def words (d : Nat) (l : List (Nat × Nat)) : SMap SWord :=
  l.map (fun e => (spadKey d e.1, { data := BitVec.ofNat 64 e.2, poison := false }))

/-- Descriptor tables of a die: array-group, tensor and transfer descriptors at words 32, 16 and 48, with one block
in each tensor descriptor, FUNC 1 in the second, and one array in the group. -/
def tables : List (Nat × Nat) :=
  [(0, 32 + 2 ^ 32), (1, 16 + 2 * 2 ^ 32), (2, 48 + 2 ^ 32), (16, 0), (17, 0), (18, 0), (19, 0), (20, 0), (21, 0), (22, 0),
   (23, 2 ^ 32), (24, 0), (25, 0), (26, 0), (27, 2 ^ 56), (28, 0), (29, 0), (30, 0), (31, 2 ^ 32),
   (32, 1 + 56 * 2 ^ 32), (33, 0), (34, 0), (35, 0), (36, 0), (37, 0), (38, 0), (39, 0), (48, 0), (49, 0), (50, 0), (51, 0),
   (56, 0)]

/-- An issued bundle of a class with the sub-slots of LUNA[0]. -/
def bundle (cls ag tensor move sync : Nat) : Issued :=
  { bundle := { header := cls * 2 ^ 16, hub := [], luna := [{ agroup := ag, tensor := tensor, move := move, sync := sync }] }
    rep := 0, cycle := 100 }

/-- That bundle is issued, with the descriptor tables of LUNA[0]. -/
def issuing (i : Issued) : State :=
  { on with seq := { state := .running, issued := some i }, mem := { spad := words 0 tables } }

/-- A state with that bundle issued whose tensor operation has a valid descriptor. -/
def tensorOk (cls op i : Nat) : Bool :=
  let b := bundle cls 0 (op + 32 * i) 0 0
  decide (opOf 0 1 (dieSlot b.bundle 0 1) = op) && !b.done.contains 1 && subRuns b 0 1 &&
    (match tensorDesc (issuing b) 0 op i with | .inl _ => false | .inr _ => true) && tDesc (dieSlot b.bundle 0 1) == i

/-- Start-up observations of nine steps in which everything passes but the firmware. -/
def obs0 : StartupObs :=
  { stepCycles := List.replicate 9 1, supplyMv := 40000, straps := 0, pcieRefclk := true, fwOk := (false, false), laneFail := []
    bankFail := [], hawkFail := [], hbmFail := [], nvm := [], hkc := List.replicate 20 ⟨0, 0, 0⟩, diode := List.replicate 20 ⟨0, 0⟩
    colcal := [], baseline := [], ports := List.replicate 4 ⟨false, [], 0, 0, 0, none⟩ }

/-- The right side of an answer. -/
def rightOr {α : Type} (d : α) (x : Nat ⊕ α) : α := match x with | .inr a => a | .inl _ => d

/-- The answer, where there is one. -/
def someOr {α : Type} (d : α) (x : Option α) : α := match x with | some a => a | none => d

/-- LUNA[0]'s bundle with a tensor operation, its state and descriptor. -/
def opBundle (cls op i : Nat) : Issued := bundle cls 0 (op + 32 * i) 0 0
def opState (cls op i : Nat) : State := issuing (opBundle cls op i)
def opDesc (cls op i : Nat) : TDesc := rightOr (tdescOf []) (tensorDesc (opState cls op i) 0 op i)

/-- A hub's bundle. -/
def hubBundle (v : Nat) : Issued :=
  { bundle := { header := 0, hub := [v, 0, 0, 0], luna := [] }, rep := 0, cycle := 100 }

/-- The array group of `tables`. -/
def groupBits : Bytes := rightOr [] (descWords (issuing (bundle 0 1 0 0 0)) 0 0 0 8)
def theGroup : AGroup := rightOr ⟨0, 0, 0, 0, 0, false, 0, 0, 0, 0, 0, 0, 0⟩ (agroupOf groupBits)
def groupList : List ListEntry := rightOr [] (arrayList (issuing (bundle 0 1 0 0 0)) 0 theGroup.list theGroup.count)

/-- A valid ring 0 of a die of one slot of nine words, at word 64. -/
def withRing (d : Nat) (s : State) : State :=
  setReg (spadReg d 0x184) 200 (setReg (spadReg d 0x110) 8 (setReg (spadReg d 0x114) 1 { s with
    mem := { s.mem with spad := words d [(8, 64 + 9 * 2 ^ 32), (9, 1)] } }))
def theRing : RingInfo := someOr ⟨0, 0, 0, false, false⟩ (ringInfo (withRing 0 on) 0 0)

/-- A program of one bundle in the store: its directory entry at the store's base. -/
def withStore (s : State) : State :=
  setReg Reg.SEQ_STORE_INFO 1 { s with
    secure := { s.secure with storeOk := true }
    mem := { s.mem with spad := words 16 [(storeBase, 0), (storeBase + 1, 0), (storeBase + 2, 0)] } }

/-- A read of logical array 0 with no passes, poisoned. -/
def deadRead : ArrRead := ⟨0, 0, 0, false, false, 0, 0, 0, 0, false, 0, 0, true, 0, 0, 0, 0, 0, [], 0, [], [], [], [], [], 0, 0, [], []⟩

/-- A transfer of nothing but zeros, and one copying a packet within LUNA[0]'s scratchpad. -/
def zeroDesc : Desc := ⟨0, List.replicate 32 0, 0, 0⟩
def copyBytes : Bytes :=
  [1, 0, 0, 0, 1, 0, 0, 0] ++ toBytes 8 (2 ^ 60) ++ toBytes 8 (2 ^ 60 + 64) ++ List.replicate 8 0
def withThread (d th : Nat) (x : Xfer) (s : State) : State := { s with mem := { s.mem with threads := [(threadKey d th, x)] } }

/-- Codes of a seeding pass without drift, and a program that shows nothing else. -/
def seedCodes : PassCodes := ⟨[], [32, 0xE0, 30, 0xE2, 51, 0xCD, 0, 0], [], []⟩
def soundProgram : ProgObs := { beta := 0, refs := [seedCodes] }

/-- An event, and a log with it waiting. -/
def anEvent : Event := { tick := 0, step := 0, block := 0, code := 0x10, sev := 1, cls := 0, request := 0, detail := 0 }
def logging : State := { on with log := { queue := [anEvent], baseSet := true } }

/-! ## Ill-formed commands are refused -/

theorem test_ill_powerUp : wellFormed (.powerUp 0 { obs0 with ports := [] }) = false ∧
    wellFormed (.ackShutdown 0 0 { obs0 with hkc := [] }) = false ∧ wellFormed (.retry 0 { obs0 with diode := [] }) = false ∧
    wellFormed (.bootReset 0 0 { obs0 with stepCycles := [] }) = false ∧ wellFormed (.powerUp 0 obs0) = true := by decide

theorem test_ill_frames :
    wellFormed (.tensorFrame 0 ⟨0, false, 0, 0, true, true, 0, 0, 0, 0, 0, [[1]]⟩) = false ∧
    wellFormed (.tensorFrame 0 ⟨0, false, 0, 0, true, true, 0, 0, 0, 0, 0, List.replicate 9 []⟩) = false ∧
    wellFormed (.broadcastFrame 0 0 0 (List.replicate 9 [])) = false ∧
    wellFormed (.bcastRecord 0 ⟨0, 0, 1, 0, List.replicate 32 0, true, []⟩) = false := by decide

theorem test_ill_scans : wellFormed (.hkcScanEnd 0 [⟨0, []⟩]) = false ∧ wellFormed (.thermSeed 0 []) = false ∧
    wellFormed (.hkcScanEnd 0 [⟨0, List.replicate 12 0⟩]) = true := by decide

/-- The machine refuses what the check refuses. -/
theorem test_ill_exec : exec (.thermSeed 0 []) on = .fault (.illFormed "THERM_SEED") ∧
    exec (.hkcScanEnd 0 [⟨0, []⟩]) on = .fault (.illFormed "HKC_SCAN_END") ∧
    exec (.broadcastFrame 0 0 0 (List.replicate 9 [])) on = .fault (.illFormed "BROADCAST_FRAME") :=
  ⟨rfl, rfl, rfl⟩

/-! ## An empty shadow is well formed -/

/-- HBM that nothing has written reads as zeros. -/
theorem hbmRead_empty {s : State} (h : s.mem.hbm = []) (a n : Nat) : hbmRead s a n = List.replicate n 0 := by
  simp [hbmRead, hbmByte, h, mget]

theorem foldl_max_zero (l : List Rat) (h : ∀ x ∈ l, x = 0) : l.foldl (fun m x => max m (mag x)) 0 = 0 := by
  induction l with
  | nil => rfl
  | cons x l ih =>
    have hx : x = 0 := h x (List.mem_cons_self ..)
    subst hx
    simpa [mag] using ih (fun y hy => h y (List.mem_cons_of_mem _ hy))

theorem shadowFormed_empty {s : State} (h : s.mem.hbm = []) (d a : Nat) : shadowFormed s d a = true := by
  have hd : shadowDir s d a = ⟨0, 0, 0, 0, 0, 0, false⟩ := by
    simp only [shadowDir, hbmRead_empty h]; rfl
  have ht : shadowTables s ⟨0, 0, 0, 0, 0, 0, false⟩ = some (List.replicate 512 [], []) := by
    simp only [shadowTables, hbmRead_empty h]; decide +kernel
  have hc : ∀ j, ∀ x ∈ shadowColumn s ⟨0, 0, 0, 0, 0, 0, false⟩ j, x = 0 := by
    intro j
    simp only [shadowColumn, hbmRead_empty h]
    decide +kernel
  have hp : packetFormed (List.replicate 72 0) = true := by decide +kernel
  have h0 : ((List.range 512).map (shadowColumn s ⟨0, 0, 0, 0, 0, 0, false⟩)).foldl
      (fun m c => c.foldl (fun m x => max m (mag x)) m) 0 = 0 := by
    have : ∀ l : List (List Rat), (∀ c ∈ l, ∀ x ∈ c, x = 0) → l.foldl (fun m c => c.foldl (fun m x => max m (mag x)) m) 0 = 0 := by
      intro l
      induction l with
      | nil => intro _; rfl
      | cons c l ih =>
        intro hl
        rw [List.foldl_cons, foldl_max_zero c (hl c (List.mem_cons_self ..))]
        exact ih (fun y hy => hl y (List.mem_cons_of_mem _ hy))
    apply this
    intro c hcm
    obtain ⟨j, -, rfl⟩ := List.mem_map.1 hcm
    exact hc j
  simp only [shadowFormed, hd, ht, h0, hbmRead_empty h, hp]
  simp

/-! ## What meets the hypotheses of the statements -/

theorem wit_DieLinkCommands :
    (let s : State := on;
      Clocked s) ∧
    (let link : Fin 20 := 19;
      let s : State := withReg (linkReg 19) 1 on;
      Clocked s ∧ flag (reg s (linkReg link)) 0 = true) ∧
    (let link : Fin 20 := 19;
      let s : State := withReg (linkReg 19) 4 on;
      Clocked s ∧ flag (reg s (linkReg link)) 2 = true) ∧
    (let value : Word := 0x113;
      let s : State := on;
      let link := fld value 4 0;
      let new := (s.boot.lanesFailed.filter (·.link == link)).filter (fun x => !s.nvm.lanes.contains x);
      HostMay 0 s ∧ fld value 4 0 < 20 ∧ flag value 8 = true ∧ s.seq.state = .stopped ∧ lanesExhausted (s.nvm.lanes ++ new) link = false) :=
  ⟨by simp only [Clocked]; decide +kernel,
   by simp only [Clocked]; decide +kernel,
   by simp only [Clocked]; decide +kernel,
   by simp only [HostMay]; decide +kernel⟩

theorem wit_PowerPins :
    (let s : State := on;
      s.clk.powered = true) ∧
    (let mv : Nat := 37999;
      let s : State := on;
      s.clk.powered = true ∧ ((mv < 38000 ∨ 62000 < mv))) ∧
    (let mv : Nat := 38000;
      let s : State := on;
      s.clk.powered = true ∧ 38000 ≤ mv ∧ mv ≤ 62000) ∧
    (let s : State := on;
      s.clk.powered = true ∧ s.clk.pwrGood = true) ∧
    (let s : State := { on with therm := { tripped := true } };
      s.clk.powered = true ∧ s.therm.tripped = true ∧ s.clk.thermtrip = false) :=
  ⟨by decide +kernel,
   by decide +kernel,
   by decide +kernel,
   by decide +kernel,
   by decide +kernel⟩

theorem wit_ClockFaultAndOff :
    (let s : State := on;
      Clocked s) ∧
    (let s : State := on;
      Clocked s) ∧
    (let s : State := on;
      Clocked s) ∧
    (let s : State := on;
      HostMay 0 s ∧ s.seq.state ≠ .running) :=
  ⟨by simp only [Clocked]; decide +kernel,
   by simp only [Clocked]; decide +kernel,
   by simp only [Clocked]; decide +kernel,
   by simp only [HostMay]; decide +kernel⟩

theorem wit_StartUpCommands :
    (let dt : Nat := 0;
      let obs : StartupObs := obs0;
      let s : State := State.reset;
      startupFormed obs = true ∧ s.clk.powered = false ∧ ((s.clk.offHold = false ∨ 1600000000 ≤ s.clk.now + dt)) ∧ 40000 ≤ obs.supplyMv ∧ obs.supplyMv ≤ 62000) ∧
    (let s : State := { on with boot := { state := .readyLocal }, fabric := { routeOk := true }, secure := { wingsetOk := true, wingset := [7] }, nvm := { installs := [⟨1, [7], 0, 0, 0, 0, 0⟩] } };
      Clocked s ∧ readyHolds s = true) ∧
    (let arg : BitVec 16 := 5;
      let obs : StartupObs := obs0;
      let s : State := { on with boot := { state := .held }, nvm := { shutdown := some [5, 0] } };
      let r : Bytes := [5, 0];
      startupFormed obs = true ∧ HostMay 0 s ∧ s.boot.state = .held ∧ s.nvm.shutdown = some r ∧ byteField r 0 1 = arg.toNat) ∧
    (let obs : StartupObs := obs0;
      let s : State := { on with boot := { state := .failed } };
      startupFormed obs = true ∧ HostMay 0 s ∧ s.boot.fwNone = false ∧ s.boot.state = .failed) ∧
    (let obs : StartupObs := obs0;
      let s : State := on;
      startupFormed obs = true ∧ HostMay 0 s ∧ s.clk.rootLost = false) ∧
    (let arg : BitVec 16 := 0x5EC6;
      let obs : StartupObs := obs0;
      let s : State := on;
      startupFormed obs = true ∧ HostMay 0 s ∧ arg ≠ 0x5EC7) :=
  ⟨by decide +kernel,
   by simp only [Clocked]; decide +kernel,
   by simp only [HostMay]; decide +kernel,
   by simp only [HostMay]; decide +kernel,
   by simp only [HostMay]; decide +kernel,
   by simp only [HostMay]; decide +kernel⟩

theorem wit_IssueAndEnd :
    (let dt : Nat := 0;
      let obs : IssueObs := ⟨[], false, false, [], []⟩;
      let s : State := { on with seq := { state := .running, held := some ({ bundle := (bundle 0 0 0 0 0).bundle, offset := 0 } : Held), arrival := some 0 } };
      let h : Held := ({ bundle := (bundle 0 0 0 0 0).bundle, offset := 0 } : Held);
      let len : Nat := 0;
      let k : Nat := 0;
      let v := reachPoint k (advance dt s);
      Clocked s ∧ mayIssue (advance dt s) = true ∧ pointNow (advance dt s) = some k ∧ v.seq.fatal = none ∧ atPoint v obs = some (some (h, len)) ∧ ((obs.decompBad = false ∨ v.seq.held.isSome = true))) ∧
    (let dt : Nat := 0;
      let obs : IssueObs := ⟨[], false, false, [], []⟩;
      let s : State := { on with seq := { state := .running, arrival := some 0 } };
      let k : Nat := 0;
      Clocked s ∧ mayIssue (advance dt s) = true ∧ pointNow (advance dt s) = some k ∧ atPoint (reachPoint k (advance dt s)) obs = none) ∧
    (let dt : Nat := 0;
      let s : State := on;
      Clocked s ∧ ((mayIssue (advance dt s) = false ∨ pointNow (advance dt s) = none))) ∧
    (let s : State := issuing (hubBundle 6);
      let i : Issued := hubBundle 6;
      Clocked s ∧ Carries i 16 0 6 s) ∧
    (let s : State := { on with seq := { state := .running, held := some { bundle := (bundle 0 0 0 0 0).bundle, offset := 0 }, timeoutDue := some (2, 0) } };
      let c : Nat := 2;
      let x : Nat := 0;
      let h : Held := ({ bundle := (bundle 0 0 0 0 0).bundle, offset := 0 } : Held);
      Clocked s ∧ s.seq.timeoutDue = some (c, x) ∧ s.seq.held = some h) :=
  ⟨by simp only [Clocked]; decide +kernel,
   by simp only [Clocked]; decide +kernel,
   by simp only [Clocked]; decide +kernel,
   by simp only [Clocked, Carries]; decide +kernel,
   by simp only [Clocked]; decide +kernel⟩

theorem wit_RunAndHalt :
    (let s : State := on;
      HostMay 1 s) ∧
    (let s : State := on;
      HostMay 1 s ∧ s.seq.state = .stopped ∧ s.boot.state = .ready ∧ s.seq.chosen = none) ∧
    (let s : State := { withStore on with seq := { chosen := some 0 } };
      let p : Nat := 0;
      let d : Program := ⟨0, 0, 0, 0, 0, 0⟩;
      HostMay 1 s ∧ s.seq.state = .stopped ∧ s.boot.state = .ready ∧ s.seq.chosen = some p ∧ programOf s p = some d) ∧
    (let s : State := idle;
      HostMay 1 s ∧ ((s.seq.state ≠ .stopped ∨ s.boot.state ≠ .ready))) ∧
    (let s : State := { on with seq := { state := .halted } };
      HostMay 1 s ∧ s.seq.state = .halted) ∧
    (let s : State := idle;
      HostMay 1 s ∧ s.seq.state ≠ .halted) ∧
    (let s : State := { on with seq := { state := .running, fatal := some 0x12 } };
      let code : Nat := 0x12;
      s.clk.powered = true ∧ s.seq.fatal = some code ∧ s.seq.state ≠ .halted ∧ beforeReadyLocal s = false ∧ (s.clk.rootLost || s.therm.tripped || (subsDone s && arraysIdle s)) = true) ∧
    (let s : State := on;
      s.clk.powered = true ∧ s.seq.fatal = none) :=
  ⟨by simp only [HostMay]; decide +kernel,
   by simp only [HostMay]; decide +kernel,
   by simp only [HostMay]; decide +kernel,
   by simp only [HostMay]; decide +kernel,
   by simp only [HostMay]; decide +kernel,
   by simp only [HostMay]; decide +kernel,
   by decide +kernel,
   by decide +kernel⟩

theorem wit_TensorOperandIssue :
    (let die : Luna := 0;
      let s : State := opState 0 1 0;
      let i : Issued := opBundle 0 1 0;
      let d : TDesc := opDesc 0 1 0;
      Clocked s ∧ CarriesTensor i die 1 d s) ∧
    (let die : Luna := 0;
      let s : State := opState 0 3 0;
      let i : Issued := opBundle 0 3 0;
      let d : TDesc := opDesc 0 3 0;
      Clocked s ∧ CarriesTensor i die 3 d s) ∧
    (let die : Luna := 0;
      let s : State := opState 0 4 0;
      let i : Issued := opBundle 0 4 0;
      let d : TDesc := opDesc 0 4 0;
      Clocked s ∧ CarriesTensor i die 4 d s) ∧
    (let die : Luna := 0;
      let s : State := opState 0 10 0;
      let i : Issued := opBundle 0 10 0;
      let d : TDesc := opDesc 0 10 0;
      Clocked s ∧ CarriesTensor i die 10 d s) ∧
    (let die : Luna := 0;
      let s : State := opState 0 8 0;
      let i : Issued := opBundle 0 8 0;
      let d : TDesc := opDesc 0 8 0;
      Clocked s ∧ CarriesTensor i die 8 d s) ∧
    (let dt : Nat := 0;
      let die : Luna := 0;
      let obs : AccObs := {};
      let s : State := { opState 0 1 0 with mem := { spad := words 0 (tables.map (fun e => if e.1 = 16 then (16, 0x53) else e)) }, fmt := { entries := [(5, { valid := true })] } };
      let i : Issued := opBundle 0 1 0;
      let op : Nat := 1;
      let c : Instr := Instr.matmul 0 0 {};
      let d : TDesc := { opDesc 0 1 0 with fmtA := 0x53 };
      Clocked s ∧ Carries i die 1 op s ∧ tensorDesc s die op (tDesc (dieSlot i.bundle die 1)) = .inr d ∧ unselected s op d = true ∧ (op, c) ∈ [(1, Instr.matmul dt die obs), (3, .preload dt die obs), (4, .add dt die obs), (10, .extChunk dt die obs)]) :=
  ⟨by simp only [Clocked, CarriesTensor, Carries]; decide +kernel,
   by simp only [Clocked, CarriesTensor, Carries]; decide +kernel,
   by simp only [Clocked, CarriesTensor, Carries]; decide +kernel,
   by simp only [Clocked, CarriesTensor, Carries]; decide +kernel,
   by simp only [Clocked, CarriesTensor, Carries]; decide +kernel,
   by simp only [Clocked, Carries]; decide +kernel⟩

theorem wit_TensorClearIssue :
    (let die : Luna := 0;
      let s : State := opState 0 2 0;
      let i : Issued := opBundle 0 2 0;
      let d : TDesc := opDesc 0 2 0;
      Clocked s ∧ CarriesTensor i die 2 d s) ∧
    (let die : Luna := 0;
      let s : State := opState 0 9 1;
      let i : Issued := opBundle 0 9 1;
      let d : TDesc := opDesc 0 9 1;
      Clocked s ∧ CarriesTensor i die 9 d s) ∧
    (let die : Luna := 0;
      let s : State := opState 0 11 0;
      let i : Issued := opBundle 0 11 0;
      let d : TDesc := opDesc 0 11 0;
      Clocked s ∧ CarriesTensor i die 11 d s) :=
  ⟨by simp only [Clocked, CarriesTensor, Carries]; decide +kernel,
   by simp only [Clocked, CarriesTensor, Carries]; decide +kernel,
   by simp only [Clocked, CarriesTensor, Carries]; decide +kernel⟩

theorem wit_TensorResultIssue :
    (let die : Luna := 0;
      let s : State := opState 0 5 0;
      let i : Issued := opBundle 0 5 0;
      let d : TDesc := opDesc 0 5 0;
      Clocked s ∧ CarriesTensor i die 5 d s) ∧
    (let die : Luna := 0;
      let s : State := opState 0 6 0;
      let i : Issued := opBundle 0 6 0;
      let d : TDesc := opDesc 0 6 0;
      Clocked s ∧ CarriesTensor i die 6 d s) ∧
    (let die : Luna := 0;
      let s : State := opState 0 12 0;
      let i : Issued := opBundle 0 12 0;
      let d : TDesc := opDesc 0 12 0;
      Clocked s ∧ CarriesTensor i die 12 d s) ∧
    (let die : Luna := 0;
      let s : State := opState 0 7 0;
      let i : Issued := opBundle 0 7 0;
      let d : TDesc := opDesc 0 7 0;
      Clocked s ∧ CarriesTensor i die 7 d s) :=
  ⟨by simp only [Clocked, CarriesTensor, Carries]; decide +kernel,
   by simp only [Clocked, CarriesTensor, Carries]; decide +kernel,
   by simp only [Clocked, CarriesTensor, Carries]; decide +kernel,
   by simp only [Clocked, CarriesTensor, Carries]; decide +kernel⟩

theorem wit_SegmentAndMarkIssue :
    (let die : Luna := 0;
      let s : State := opState 0 13 0;
      let i : Issued := opBundle 0 13 0;
      let d : TDesc := opDesc 0 13 0;
      Clocked s ∧ CarriesTensor i die 13 d s) ∧
    (let die : Luna := 0;
      let s : State := withDie 0 { shadow := [⟨0, 0, 0, 0, 0, [], [], [], 0, [], 0, 0⟩] } (opState 7 14 0);
      let i : Issued := opBundle 7 14 0;
      let d : TDesc := opDesc 7 14 0;
      let e : ShadowSample := ⟨0, 0, 0, 0, 0, [], [], [], 0, [], 0, 0⟩;
      let es : List ShadowSample := [];
      Clocked s ∧ CarriesTensor i die 14 d s ∧ (lunaDie s die).shadow = e :: es) ∧
    (let die : Luna := 0;
      let s : State := opState 7 14 0;
      let i : Issued := opBundle 7 14 0;
      let d : TDesc := opDesc 7 14 0;
      Clocked s ∧ CarriesTensor i die 14 d s ∧ (lunaDie s die).shadow = []) ∧
    (let die : Luna := 0;
      let s : State := issuing (bundle 0 0 0 2 0);
      let i : Issued := bundle 0 0 0 2 0;
      let b : Bytes := rightOr [] (descWords (issuing (bundle 0 0 0 2 0)) 0 1 0 8);
      Clocked s ∧ Carries i die 2 2 s ∧ descWords s die 1 (moveIndex (dieSlot i.bundle die 2) i.rep) 8 = .inr b ∧ blocksOk (tdescOf b) = true) ∧
    (let die : Luna := 0;
      let s : State := issuing (bundle 0 0 0 0 0xFFF1);
      let i : Issued := bundle 0 0 0 0 0xFFF1;
      Clocked s ∧ Carries i die 3 1 s) :=
  ⟨by simp only [Clocked, CarriesTensor, Carries]; decide +kernel,
   by simp only [Clocked, CarriesTensor, Carries]; decide +kernel,
   by simp only [Clocked, CarriesTensor, Carries]; decide +kernel,
   by simp only [Clocked, Carries]; decide +kernel,
   by simp only [Clocked, Carries]; decide +kernel⟩

theorem wit_RingAndWindowIssue :
    (let die : Die := 0;
      let s : State := { withRing 0 (issuing (bundle 0 0 0 3 0)) with pending := [] };
      let i : Issued := bundle 0 0 0 3 0;
      let info : RingInfo := theRing;
      let sub := if die.val < 16 then 2 else 0;
      let v := dieSlot i.bundle die sub;
      let r := if die.val < 16 then moveIndex v i.rep else hubIndex v i.rep;
      Clocked s ∧ Carries i die sub (if die.val < 16 then 3 else 4) s ∧ ringInfo s die r = some info) ∧
    (let die : Die := 0;
      let s : State := { withRing 0 (issuing (bundle 0 0 0 4 0)) with pending := [] };
      let i : Issued := bundle 0 0 0 4 0;
      let info : RingInfo := theRing;
      let sub := if die.val < 16 then 2 else 0;
      let v := dieSlot i.bundle die sub;
      let r := if die.val < 16 then moveIndex v i.rep else hubIndex v i.rep;
      Clocked s ∧ Carries i die sub (if die.val < 16 then 4 else 5) s ∧ ringInfo s die r = some info) ∧
    (let die : Die := 0;
      let s : State := issuing (bundle 0 0 0 0 (2 + 16 * 191));
      let i : Issued := bundle 0 0 0 0 (2 + 16 * 191);
      let sub := if die.val < 16 then 3 else 0;
      let v := dieSlot i.bundle die sub;
      let w := if die.val < 16 then bits v 15 4 else hubIndex v i.rep;
      Clocked s ∧ Carries i die sub 2 s ∧ (winOwner w).map (·.1) = some die.val) ∧
    (let die : Die := 0;
      let s : State := issuing (bundle 0 0 0 0 3);
      let i : Issued := bundle 0 0 0 0 3;
      let sub := if die.val < 16 then 3 else 0;
      let v := dieSlot i.bundle die sub;
      let w := if die.val < 16 then bits v 15 4 else hubIndex v i.rep;
      Clocked s ∧ Carries i die sub 3 s ∧ (winOwner w).map (·.1) = some die.val) :=
  ⟨by simp only [Clocked, Carries]; decide +kernel,
   by simp only [Clocked, Carries]; decide +kernel,
   by simp only [Clocked, Carries]; decide +kernel,
   by simp only [Clocked, Carries]; decide +kernel⟩

theorem wit_ArrayOperations :
    (let die : Luna := 0;
      let s : State := issuing (bundle 0 1 0 0 0);
      let i : Issued := bundle 0 1 0 0 0;
      let b : Bytes := groupBits;
      let g : AGroup := theGroup;
      let es : List ListEntry := groupList;
      Clocked s ∧ Carries i die 0 1 s ∧ descWords s die 0 (agGroup (dieSlot i.bundle die 0)) 8 = .inr b ∧ agroupOf b = .inr g ∧ arrayList s die g.list g.count = .inr es) ∧
    (let die : Luna := 0;
      let s : State := issuing (bundle 0 2 0 0 0);
      let i : Issued := bundle 0 2 0 0 0;
      let b : Bytes := groupBits;
      let g : AGroup := theGroup;
      let es : List ListEntry := groupList;
      Clocked s ∧ Carries i die 0 2 s ∧ descWords s die 0 (agGroup (dieSlot i.bundle die 0)) 8 = .inr b ∧ agroupOf b = .inr g ∧ arrayList s die g.list g.count = .inr es) ∧
    (let dt : Nat := 16;
      let die : Luna := 0;
      let s : State := withDie 0 { scheduled := [⟨0, 0, 0, 16, false, false, 0, groupBits, [0]⟩] } on;
      let op : ArrOp := ⟨0, 0, 0, 16, false, false, 0, groupBits, [0]⟩;
      let rest : List ArrOp := [];
      let g : AGroup := theGroup;
      Clocked s ∧ (lunaDie s die).scheduled = op :: rest ∧ op.edge ≤ s.clk.now + dt ∧ streamPast s op = true ∧ agroupOf op.desc = .inr g) ∧
    (let dt : Nat := 1000000;
      let die : Luna := 0;
      let obs : ReadObs := ⟨[], [], [], false, {}⟩;
      let s : State := withDie 0 { reads := [deadRead] } on;
      let r : ArrRead := deadRead;
      let rest : List ArrRead := [];
      Clocked s ∧ (lunaDie s die).reads = r :: rest ∧ deliverAt r ≤ s.clk.now + dt ∧ obsFits r obs = true) :=
  ⟨by simp only [Clocked, Carries]; decide +kernel,
   by simp only [Clocked, Carries]; decide +kernel,
   by simp only [Clocked]; decide +kernel,
   by simp only [Clocked]; decide +kernel⟩

theorem wit_TransferCommands :
    (let die : Die := 0;
      let s : State := issuing (bundle 0 0 0 1 0);
      let i : Issued := bundle 0 0 0 1 0;
      let b : Bytes := rightOr [] (descWords (issuing (bundle 0 0 0 1 0)) 0 2 0 4);
      let sub := if die.val < 16 then 2 else 0;
      let v := dieSlot i.bundle die sub;
      let n := if die.val < 16 then moveIndex v i.rep else hubIndex v i.rep;
      Clocked s ∧ Carries i die sub 1 s ∧ descWords s die 2 n 4 = .inr b) ∧
    (let dt : Nat := 0;
      let die : Die := 19;
      let thread : BitVec 10 := 0;
      let s : State := { on with mem := { queue := [(19, [zeroDesc])] } };
      let d : Desc := zeroDesc;
      let q : List Desc := [];
      let u := fenced (advance dt s);
      Clocked s ∧ threadOf u die thread.toNat = none ∧ queueOf u die = d :: q ∧ thread.toNat < threadCount die ∧ anyHold u die (startBreaks u die d.bytes) = false) ∧
    (let dt : Nat := 0;
      let die : Die := 0;
      let thread : BitVec 10 := 0;
      let s : State := withThread 0 0 { desc := { zeroDesc with bytes := copyBytes }, phase := .gated } on;
      let x : Xfer := { desc := { zeroDesc with bytes := copyBytes }, phase := .gated };
      let sd : Nat := 0;
      let sw : Nat := 0;
      let dd : Nat := 0;
      let dw : Nat := 64;
      let n : Nat := 1;
      let u := fenced (advance dt s);
      Clocked s ∧ threadOf u die thread.toNat = some x ∧ ((x.phase = .gated ∨ x.phase = .ringHold)) ∧ mayMove u x.desc = true ∧ runBreaks u die (listRun u die x.desc.bytes) = [] ∧ xferPlan u die x.desc.bytes [] = .copy (.spad sd sw) (.spad dd dw) n ∧ diePath u sd dd = true ∧ ringBreaks u sd sw (9 * n) false = [] ∧ ringBreaks u dd dw (9 * n) true = []) ∧
    (let dt : Nat := 0;
      let die : Die := 0;
      let thread : BitVec 10 := 0;
      let s : State := withThread 0 0 { desc := zeroDesc, phase := .finished, status := 6 } on;
      let x : Xfer := { desc := zeroDesc, phase := .finished, status := 6 };
      Clocked s ∧ threadOf s die thread.toNat = some x ∧ completes (advance dt s) x = true) :=
  ⟨by simp only [Clocked, Carries]; decide +kernel,
   by simp only [Clocked]; decide +kernel,
   by simp only [Clocked]; decide +kernel,
   by simp only [Clocked]; decide +kernel⟩

theorem wit_WindowFrames :
    (let dt : Nat := 0;
      let f : WriteFrame := ⟨0, false, 2, 1, false, true, 0, 0, 1, 3, 4, [[]]⟩;
      let s : State := withPort 0 { up := true } { one4 with mem := { wins := [(0, { flight := [({ src := 2, die := 3, thread := 4, base := 0, packets := 1 } : Flight)] })] } };
      let d : Nat := 0;
      let j : Nat := 0;
      let base : Nat := 0;
      let u := fenced (advance dt s);
      let x := winOf u f.window.toNat;
      Clocked s ∧ f.wellFormed = true ∧ (portOf u f.port).up = true ∧ f.dst.toNat = moduleId u ∧ moduleId u < machineSize u ∧ winOwner f.window.toNat = some (d, j) ∧ (if f.first then x.flight.find? (isFlight f.src.toNat f.die.toNat f.thread.toNat) = none ∧ x.state = .opened ∧
      x.mask.getLsbD f.src.toNat = true ∧ f.offset.toNat + 9 * f.length.toNat ≤ x.len ∧ base = x.base
      else (x.flight.find? (isFlight f.src.toNat f.die.toNat f.thread.toNat)).map (·.base) = some base)) ∧
    (let window : BitVec 12 := 0;
      let src : BitVec 6 := 2;
      let die : BitVec 5 := 3;
      let thread : BitVec 10 := 4;
      let s : State := { on with mem := { wins := [(0, { flight := [({ src := 2, die := 3, thread := 4, base := 0, packets := 1, got := 1 } : Flight)] })] } };
      let d : Nat := 0;
      let j : Nat := 0;
      let fl : Flight := ({ src := 2, die := 3, thread := 4, base := 0, packets := 1, got := 1 } : Flight);
      Clocked s ∧ winOwner window.toNat = some (d, j) ∧ (winOf s window.toNat).flight.find? (isFlight src.toNat die.toNat thread.toNat) = some fl ∧ fl.packets ≤ fl.got) ∧
    (let port : Port := 0;
      let die : BitVec 5 := 0;
      let thread : BitVec 10 := 0;
      let status : BitVec 3 := 6;
      let s : State := withPort 0 { up := true } (withThread 0 0 ({ desc := zeroDesc, phase := .waitReply } : Xfer) on);
      let x : Xfer := ({ desc := zeroDesc, phase := .waitReply } : Xfer);
      Clocked s ∧ (portOf s port).up = true ∧ threadOf s die.toNat thread.toNat = some x ∧ x.phase = .waitReply ∧ status.toNat < 7) ∧
    (let dt : Nat := 1600000;
      let die : Die := 0;
      let thread : BitVec 10 := 0;
      let s : State := withThread 0 0 ({ desc := zeroDesc, phase := .waitReply } : Xfer) { on with drone := { running := true } };
      let x : Xfer := ({ desc := zeroDesc, phase := .waitReply } : Xfer);
      Clocked s ∧ threadOf s die.val thread.toNat = some x ∧ x.phase = .waitReply ∧ x.sentAt + replyTimeout s ≤ tick (advance dt s)) ∧
    (let port : Port := 0;
      let ps : List Bytes := [];
      let s : State := withPort 0 { up := true } on;
      Clocked s ∧ ps.length ≤ 8 ∧ (portOf s port).up = true) :=
  ⟨by simp only [Clocked]; decide +kernel,
   by simp only [Clocked]; decide +kernel,
   by simp only [Clocked]; decide +kernel,
   by simp only [Clocked]; decide +kernel,
   by simp only [Clocked]; decide +kernel⟩

theorem wit_BreathBoundary :
    (let dt : Nat := 1600000;
      let b : Nat := 800000;
      let s : State := { on with drone := { running := true } };
      Clocked s ∧ boundaryDue (advance dt s) = some b) ∧
    (let dt : Nat := 0;
      let s : State := { on with drone := { running := true } };
      Clocked s ∧ boundaryDue (advance dt s) = none) ∧
    (let s : State := on;
      HostMay 4 s ∧ s.seq.state = .stopped) ∧
    (let s : State := idle;
      HostMay 4 s ∧ s.seq.state ≠ .stopped) :=
  ⟨by simp only [Clocked]; decide +kernel,
   by simp only [Clocked]; decide +kernel,
   by simp only [HostMay]; decide +kernel,
   by simp only [HostMay]; decide +kernel⟩

theorem wit_HousekeepingScans :
    (let dt : Nat := 0;
      let s : State := { on with drone := { running := true } };
      Clocked s ∧ tick (advance dt s) % 80000 < 4 ∧ s.drone.running = true) ∧
    (let dt : Nat := 16000;
      let scans : List ScanObs := [⟨0, List.replicate 12 0⟩];
      let s : State := { on with drone := { running := true }, hkc := [(0, { scanning := true, calDone := true })] };
      let o : ScanObs := ⟨0, List.replicate 12 0⟩;
      Clocked s ∧ ((∀ x ∈ scans, x.raw.length = 12)) ∧ (scans.map (·.die)).Nodup ∧ o ∈ scans ∧ (hkcOf s o.die).scanning = true ∧ (hkcOf s o.die).scanTick + 4800 ≤ tick (advance dt s)) ∧
    (let dt : Nat := 16000;
      let die : Die := 0;
      let s : State := { on with drone := { running := true }, hkc := [(0, { scanning := true, calDone := true })] };
      Clocked s ∧ (hkcOf s die).scanning = true ∧ (hkcOf s die).calDone = true ∧ (hkcOf s die).scanTick + 8000 ≤ tick (advance dt s)) :=
  ⟨by simp only [Clocked]; decide +kernel,
   by simp only [Clocked]; decide +kernel,
   by simp only [Clocked]; decide +kernel⟩

theorem wit_ConverterCommands :
    (let die : Die := 19;
      let s : State := on;
      HostMay (pgHkc die) s ∧ beforeReadyLocal s = false ∧ (hkcOf s die).calBusy = false ∧ (hkcOf s die).conv = none ∧ (hkcOf s die).diode = false) ∧
    (let die : Die := 19;
      let ch : BitVec 5 := 23;
      let s : State := on;
      HostMay (pgHkc die) s ∧ beforeReadyLocal s = false ∧ (hkcOf s die).calBusy = false ∧ (hkcOf s die).conv = none ∧ (hkcOf s die).diode = false ∧ ch.toNat ≠ 14 ∧ ch.toNat < 24) ∧
    (let dt : Nat := 0;
      let die : Die := 0;
      let s : State := { on with hkc := [(0, { conv := some 15 })] };
      let ch : Nat := 15;
      Clocked s ∧ (hkcOf s die).conv = some ch ∧ (hkcOf s die).convAt ≤ s.clk.now + dt) ∧
    (let dt : Nat := 10 ^ 9;
      let die : Die := 0;
      let s : State := { on with hkc := [(0, { calBusy := true })] };
      Clocked s ∧ (hkcOf s die).calBusy = true ∧ (hkcOf s die).calAt + hkcCalCycles ≤ s.clk.now + dt) :=
  ⟨by simp only [HostMay]; decide +kernel,
   by simp only [HostMay]; decide +kernel,
   by simp only [Clocked]; decide +kernel,
   by simp only [Clocked]; decide +kernel⟩

theorem wit_ThermalCommands :
    (let rs : List DiodeObs := List.replicate 20 ⟨0, 0⟩;
      let s : State := on;
      HostMay 5 s ∧ beforeReadyLocal s = false ∧ rs.length = 20) ∧
    (let s : State := on;
      HostMay 5 s ∧ beforeReadyLocal s = false ∧ ((∀ d < 20, (hkcOf s d).diode = false))) ∧
    (let dt : Nat := 0;
      let die : Die := 0;
      let o : DiodeObs := ⟨0, -640⟩;
      let s : State := { on with hkc := [(0, { diode := true })] };
      Clocked s ∧ (hkcOf s die).diode = true ∧ (hkcOf s die).diodeAt ≤ s.clk.now + dt ∧ -640 ≤ o.temp ∧ o.temp ≤ 2400) ∧
    (let dt : Nat := 0;
      let die : Die := 0;
      let o : DiodeObs := ⟨0, 2401⟩;
      let s : State := { on with hkc := [(0, { diode := true })] };
      Clocked s ∧ (hkcOf s die).diode = true ∧ (hkcOf s die).diodeAt ≤ s.clk.now + dt ∧ ((o.temp < -640 ∨ 2400 < o.temp))) ∧
    (let s : State := on;
      HostMay 5 s ∧ s.host.d3hot = false) :=
  ⟨by simp only [HostMay]; decide +kernel,
   by simp only [HostMay]; decide +kernel,
   by simp only [Clocked]; decide +kernel,
   by simp only [Clocked]; decide +kernel,
   by simp only [HostMay]; decide +kernel⟩

theorem wit_CalibrationCommands :
    (let die : Luna := 15;
      let all : Bool := true;
      let s : State := on;
      HostMay (pgLuna die 4) s ∧ beforeReadyLocal s = false ∧ s.seq.state = .stopped ∧ ((∀ d < 16, (d = die.val ∨ all = true) → calibrating s d = false))) ∧
    (let dt : Nat := 608000000;
      let die : Luna := 0;
      let s : State := withDie 0 { colSince := some 0 } on;
      let t0 : Nat := 0;
      Clocked s ∧ (lunaDie s die).colSince = some t0 ∧ t0 + 608000000 ≤ s.clk.now + dt) ∧
    (let dt : Nat := 0;
      let die : Luna := 0;
      let obs : List BaselineObs := [];
      let s : State := withDie 0 { checking := true } on;
      Clocked s ∧ (lunaDie s die).checking = true ∧ baselineShape (advance dt s) die obs = true) :=
  ⟨by simp only [HostMay]; decide +kernel,
   by simp only [Clocked]; decide +kernel,
   by simp only [Clocked]; decide +kernel⟩

theorem wit_RefreshCommands :
    (let die : Luna := 0;
      let s : State := { on with secure := { shadowOk := true } };
      HostMay (pgLuna die 3) s ∧ (lunaDie s die).cmd.busy = false ∧ s.seq.state = .stopped ∧ s.secure.shadowOk = true) ∧
    (let die : Luna := 0;
      let logical : BitVec 12 := 4095;
      let phys : BitVec 13 := 4415;
      let s : State := { on with therm := { seeded := true, est := [(0, 320)] } };
      let k : Nat := 0;
      HostMay (pgLuna die 3) s ∧ (lunaDie s die).cmd.busy = false ∧ phys.toNat < physCount ∧ (physOf s die phys.toNat).state = 0 ∧ ((∀ w ∈ (lunaDie s die).pending, w.logical ≠ logical.toNat)) ∧ ((∀ e ∈ (lunaDie s die).channels, e.2.kind = .rotate → e.2.logical ≠ logical.toNat)) ∧ progWindow s die = true ∧ shadowFormed s die logical.toNat = true ∧ freeChannel s die = some k ∧ (lunaDie s die).stages ≠ []) ∧
    (let die : Luna := 0;
      let s : State := on;
      HostMay (pgLuna die 3) s ∧ (lunaDie s die).cmd.busy = false ∧ s.seq.state = .stopped ∧ (lunaDie s die).pending.length ≤ 16 ∧ ((lunaDie s die).pending.map (·.logical)).Nodup) ∧
    (let die : Luna := 0;
      let s : State := withDie 0 { cmd := { busy := true } } on;
      HostMay (pgLuna die 3) s ∧ (lunaDie s die).cmd.busy = true) ∧
    (let die : Luna := 0;
      let phys : BitVec 13 := 4415;
      let s : State := on;
      HostMay (pgLuna die 3) s ∧ (lunaDie s die).cmd.busy = false ∧ phys.toNat < physCount ∧ (physOf s die phys.toNat).state = 0) ∧
    (let die : Luna := 0;
      let s : State := on;
      HostMay (pgLuna die 3) s ∧ s.boot.committed = false ∧ die.val ∉ s.boot.offHours) :=
  ⟨by simp only [HostMay]; decide +kernel,
   by
    simp only [HostMay]
    exact ⟨by decide +kernel, rfl, by decide, rfl, by decide +kernel, by decide +kernel, by decide +kernel,
      shadowFormed_empty rfl 0 4095, by decide +kernel, by decide +kernel⟩,
   by simp only [HostMay]; decide +kernel,
   by simp only [HostMay]; decide +kernel,
   by simp only [HostMay]; decide +kernel,
   by simp only [HostMay]; decide +kernel⟩

theorem wit_ProgrammingEnds :
    (let dt : Nat := 0;
      let die : Luna := 0;
      let k : Fin 16 := 15;
      let o : ProgObs := soundProgram;
      let s : State := withDie 0 { channels := [(15, ({ kind := .install, phys := 4096, logical := 5, since := 0, order := 0 } : Channel))] } on;
      let c : Channel := ({ kind := .install, phys := 4096, logical := 5, since := 0, order := 0 } : Channel);
      let v : Word × Int := (0x3F6A3C7E, 0);
      Clocked s ∧ find? (lunaDie s die).channels k = some c ∧ ((c.kind = .install ∨ c.kind = .rotate)) ∧ (lunaDie s die).cmd.cancelAt = none ∧ countedAt (s.clk.now + dt) c < timeoutPast ∧ (((lunaDie s die).cmd.busy = true → (lunaDie s die).cmd.op = 1)) ∧ (runProgram die c o (advance dt s)).1 = .inl v) ∧
    (let dt : Nat := 0;
      let die : Luna := 0;
      let k : Fin 16 := 15;
      let o : ProgObs := { soundProgram with cells := [⟨0, 0, []⟩] };
      let s : State := withDie 0 { channels := [(15, ({ kind := .rotate, phys := 4096, logical := 5, since := 0, order := 0 } : Channel))] } on;
      let c : Channel := ({ kind := .rotate, phys := 4096, logical := 5, since := 0, order := 0 } : Channel);
      let f : Nat × Nat := (3, 1);
      Clocked s ∧ find? (lunaDie s die).channels k = some c ∧ c.kind = .rotate ∧ (lunaDie s die).cmd.cancelAt = none ∧ (lunaDie s die).cmd.busy = false ∧ countedAt (s.clk.now + dt) c < timeoutPast ∧ (runProgram die c o (advance dt s)).1 = .inr f) ∧
    (let dt : Nat := 1600000008;
      let die : Luna := 0;
      let k : Fin 16 := 15;
      let s : State := withDie 0 { channels := [(15, ({ kind := .rotate, phys := 4096, logical := 5, since := 0, order := 0 } : Channel))] } on;
      let c : Channel := ({ kind := .rotate, phys := 4096, logical := 5, since := 0, order := 0 } : Channel);
      Clocked s ∧ find? (lunaDie s die).channels k = some c ∧ c.kind ≠ .audit ∧ c.kind ≠ .erase ∧ timeoutPast ≤ countedAt (s.clk.now + dt) c ∧ (lunaDie s die).cmd.cancelAt = none ∧ (lunaDie s die).cmd.busy = false) ∧
    (let dt : Nat := 0;
      let die : Luna := 0;
      let k : Fin 16 := 15;
      let s : State := withDie 0 { channels := [(15, ({ kind := .install, phys := 4096, logical := 5, since := 0, order := 0, aborted := true } : Channel))] } on;
      let c : Channel := ({ kind := .install, phys := 4096, logical := 5, since := 0, order := 0, aborted := true } : Channel);
      Clocked s ∧ find? (lunaDie s die).channels k = some c ∧ c.aborted = true ∧ slotsAt (lunaDie s die).slots (s.clk.now + dt) + bgSlots die (s.clk.now + dt) (lunaDie s die) < 1152) ∧
    (let die : Luna := 0;
      let phys : BitVec 13 := 4096;
      let s : State := withDie 0 { channels := [(15, ({ kind := .audit, phys := 4096, logical := 5, since := 0, order := 0 } : Channel))] } on;
      let k : Nat := 15;
      Clocked s ∧ auditChannel s die phys.toNat = some k ∧ (lunaDie s die).cmd.busy = false) ∧
    (let die : Luna := 0;
      let s : State := withDie 0 { cmd := { busy := true, op := 1 } } on;
      Clocked s ∧ (lunaDie s die).cmd.busy = true ∧ (lunaDie s die).cmd.op = 1 ∧ (lunaDie s die).cmd.cancelAt = none ∧ (lunaDie s die).cmd.todo = [] ∧ (lunaDie s die).cmd.erase = [] ∧ cmdChannels s die = []) ∧
    (let dt : Nat := 1600000000 * 86401;
      let die : Luna := 0;
      let logical : BitVec 12 := 4095;
      let s : State := withDie 0 { pending := [⟨4095, 4096, 0, 0, 3, false⟩] } on;
      let w : Swap := ⟨4095, 4096, 0, 0, 3, false⟩;
      Clocked s ∧ (lunaDie s die).pending.find? (·.logical == logical.toNat) = some w ∧ (lunaDie s die).cmd.busy = false ∧ staleLimit s die < diePowered (advance dt s) die - w.seededAt) ∧
    (let dt : Nat := 1600000000 * 86401;
      let die : Luna := 0;
      let phys : BitVec 13 := 7;
      let s : State := { on with luna := { trackers := [(7, { state := 1 })] } };
      Clocked s ∧ (trkOf s die phys.toNat).state = 1 ∧ trkOverdue (advance dt s) die phys.toNat = true) :=
  ⟨by
    refine ⟨⟨rfl, rfl⟩, rfl, Or.inl rfl, rfl, by decide +kernel, by decide +kernel, ?_⟩
    exact runProgram_done (by decide +kernel) rfl rfl rfl (by decide +kernel) (by decide +kernel) (fun _ => rfl)
      (by decide +kernel),
   by simp only [Clocked]; decide +kernel,
   by simp only [Clocked]; decide +kernel,
   by simp only [Clocked]; decide +kernel,
   by simp only [Clocked]; decide +kernel,
   by simp only [Clocked]; decide +kernel,
   by simp only [Clocked]; decide +kernel,
   by simp only [Clocked]; decide +kernel⟩

theorem wit_PiccoloSnapshot :
    (let die : Luna := 15;
      let s : State := on;
      HostMay (pgLuna die 2) s) := by
  simp only [HostMay]; decide +kernel

theorem wit_KvClocks :
    (let dt : Nat := 0;
      let entry : BitVec 24 := 5;
      let s : State := setReg Reg.KV_PT_BASE 0x1000 { on with kv := { crcDue := [5] }, mem := { hbm := [(0x105C, 1)] } };
      let a := pageAddr s (pte s entry.toNat).phys;
      Clocked s ∧ entry.toNat ∈ s.kv.crcDue ∧ startOpen (advance dt s) 7 = true ∧ (pte s entry.toNat).valid = true ∧ (pte s entry.toNat).parked = false ∧ ((a + 512 ≤ pteAddr s entry.toNat ∨ pteAddr s entry.toNat + 16 ≤ a))) ∧
    (let dt : Nat := 1600000000;
      let s : State := on;
      Clocked s ∧ s.kv.aged < poweredNow (advance dt s)) :=
  ⟨by simp only [Clocked]; decide +kernel,
   by simp only [Clocked]; decide +kernel⟩

theorem wit_MemoryCommands :
    (let dt : Nat := 0;
      let die : Die := 19;
      let w : BitVec 26 := 67108863;
      let s : State := on;
      Clocked s ∧ w.toNat < spadWords die ∧ regFld s (spadReg die 0x104) 7 0 ≠ 0 ∧ startOpen (advance dt s) 7 = true ∧ scrubNext (advance dt s) die ≤ w.toNat) ∧
    (let die : Die := 0;
      let s : State := { on with mem := { selfTest := [(0, true)] } };
      Clocked s ∧ mget false s.mem.selfTest die = true) ∧
    (let die : Die := 19;
      let s : State := on;
      HostMay (pgSpad die) s ∧ s.seq.state = .stopped) ∧
    (let stack : Stack := 23;
      let row : BitVec 27 := 75497471;
      let s : State := on;
      HostMay (pgHbm stack) s ∧ s.seq.state = .stopped ∧ flag (reg s (ra (pgHbm stack) 0x114)) 31 = false ∧ row.toNat < 75497472 ∧ rowsRetired s stack < 1024) ∧
    (let stack : Stack := 23;
      let s : State := { on with mem := { retiring := [(23, 9)] } };
      let row : Nat := 9;
      Clocked s ∧ find? s.mem.retiring stack = some row) :=
  ⟨by simp only [Clocked]; decide +kernel,
   by simp only [Clocked]; decide +kernel,
   by simp only [HostMay]; decide +kernel,
   by simp only [HostMay]; decide +kernel,
   by simp only [Clocked]; decide +kernel⟩

theorem wit_NvmCommands :
    (let dt : Nat := (1600000000 * 3600);
      let s : State := on;
      Clocked s ∧ s.boot.hour < modulePowered (advance dt s) / 3600) ∧
    (let s : State := on;
      HostMay 8 s ∧ s.boot.hostTimeSet = false) ∧
    (let s : State := on;
      HostMay 8 s ∧ s.boot.hostTimeSet = false) ∧
    (let s : State := on;
      HostMay 8 s ∧ s.boot.fwBusy = none ∧ s.seq.state = .stopped) ∧
    (let s : State := idle;
      HostMay 8 s ∧ s.boot.fwBusy = none ∧ s.seq.state ≠ .stopped) ∧
    (let s : State := on;
      HostMay 8 s ∧ s.boot.fwBusy = none) ∧
    (let s : State := { on with boot := { fwBusy := some (2, 1) } };
      let op : Nat := 2;
      let arg : Nat := 1;
      Clocked s ∧ s.boot.fwBusy = some (op, arg)) :=
  ⟨by simp only [Clocked]; decide +kernel,
   by simp only [HostMay]; decide +kernel,
   by simp only [HostMay]; decide +kernel,
   by simp only [HostMay]; decide +kernel,
   by simp only [HostMay]; decide +kernel,
   by simp only [HostMay]; decide +kernel,
   by simp only [Clocked]; decide +kernel⟩

theorem wit_EventLogCommands :
    (let dt : Nat := 0;
      let s : State := logging;
      let e : Event := anEvent;
      let q : List Event := [];
      Clocked s ∧ writerDue (advance dt s) = true ∧ s.log.dropped = 0 ∧ s.log.queue = e :: q ∧ ((logFull s = false ∨ stopMode s = false))) ∧
    (let s : State := on;
      HostMay 7 s) ∧
    (let s : State := { on with log := { fetching := some 0 } };
      let i : Nat := 0;
      Clocked s ∧ s.log.fetching = some i ∧ hbmPoisoned s (recordAddr s i) 32 = false) ∧
    (let dt : Nat := 0;
      let index : Word := 0;
      let s : State := on;
      HostMay 7 s ∧ (logWriteIx s + 2 ^ 32 - index.toNat) % 2 ^ 32 < 2 ^ 31 ∧ mget 0 (freshCycle (advance dt s)).hwInc Reg.EVTLOG_READ = 0) ∧
    (let index : Word := 1;
      let s : State := on;
      HostMay 7 s ∧ 2 ^ 31 ≤ (logWriteIx s + 2 ^ 32 - index.toNat) % 2 ^ 32) :=
  ⟨by simp only [Clocked]; decide +kernel,
   by simp only [HostMay]; decide +kernel,
   by simp only [Clocked]; decide +kernel,
   by simp only [HostMay]; decide +kernel,
   by simp only [HostMay]; decide +kernel⟩

theorem wit_LinkLayer :
    (let p : Port := 3;
      let seq : BitVec 20 := 0;
      let s : State := withPort 3 { up := true, unacked := [{ frame := .broadcast [] }], txSeq := 1 } on;
      Clocked s ∧ (portOf s p).up = true ∧ (seq - oldestSeq (portOf s p)).toNat < (portOf s p).unacked.length) ∧
    (let p : Port := 3;
      let seq : BitVec 20 := 0;
      let s : State := withPort 3 { up := true, unacked := [{ frame := .broadcast [] }], txSeq := 1 } on;
      let x := portOf s p;
      let k := (seq - oldestSeq x).toNat;
      Clocked s ∧ (portOf s p).up = true ∧ k < x.unacked.length) ∧
    (let dt : Nat := 3200;
      let p : Port := 3;
      let s : State := withPort 3 { up := true, unacked := [{ frame := .broadcast [] }], txSeq := 1 } on;
      Clocked s ∧ (portOf s p).up = true ∧ (portOf s p).unacked ≠ [] ∧ (portOf s p).oldestAt + 3200 ≤ s.clk.now + dt) ∧
    (let p : Port := 3;
      let crcBad : Bool := false;
      let seq : BitVec 20 := 1;
      let s : State := withPort 3 { up := true, unacked := [{ frame := .broadcast [] }], txSeq := 1 } on;
      Clocked s ∧ (portOf s p).up = true ∧ ((crcBad = true ∨ seq ≠ (portOf s p).rxSeq))) ∧
    (let p : Port := 3;
      let s : State := withPort 3 { up := true, unacked := [{ frame := .broadcast [] }], txSeq := 1 } on;
      Clocked s ∧ (portOf s p).up = true) ∧
    (let f : AnyFrame := ⟨3, 15, 0, 0, true, 0, 0⟩;
      let s : State := withPort 3 { up := true, unacked := [{ frame := .broadcast [] }], txSeq := 1 } on;
      Clocked s ∧ (portOf s f.port).up = true ∧ frameCause s f ≠ 0) :=
  ⟨by simp only [Clocked]; decide +kernel,
   by simp only [Clocked]; decide +kernel,
   by simp only [Clocked]; decide +kernel,
   by simp only [Clocked]; decide +kernel,
   by simp only [Clocked]; decide +kernel,
   by simp only [Clocked]; decide +kernel⟩

theorem wit_LinkTraining :
    (let p : Port := 0;
      let s : State := withPort 0 { up := true } on;
      Clocked s ∧ (portOf s p).up = true) ∧
    (let v : Word := 0;
      let s : State := on;
      HostMay 0 s ∧ s.seq.state = .stopped ∧ machineValid v = true) ∧
    (let p : Port := 0;
      let s : State := withPort 0 { training := true } on;
      Clocked s ∧ (portOf s p).training = true) ∧
    (let p : Port := 3;
      let tx : BitVec 4 := 15;
      let rx : BitVec 4 := 7;
      let s : State := on;
      HostMay (pgShawm p) s ∧ s.seq.state = .stopped ∧ ¬ (8 ≤ tx.toNat ∧ tx.toNat ≤ 14) ∧ ¬ (8 ≤ rx.toNat ∧ rx.toNat ≤ 14)) ∧
    (let p : Port := 0;
      let cause : BitVec 2 := 1;
      let s : State := withPort 0 { up := true, replays := 9 } on;
      Clocked s ∧ (portOf s p).up = true ∧ cause ≠ 0 ∧ ((cause = 1 → 8 < (portOf s p).replays))) ∧
    (let f : FaultNotice := ⟨0, 63, 0, 0, 0⟩;
      let s : State := withPort 0 { up := true } on;
      Clocked s ∧ (portOf s f.port).up = true ∧ (f.src.toNat, f.linkPort.toNat, f.tick.toNat) ∉ s.fabric.notices) :=
  ⟨by simp only [Clocked]; decide +kernel,
   by simp only [HostMay]; decide +kernel,
   by simp only [Clocked]; decide +kernel,
   by simp only [HostMay]; decide +kernel,
   by simp only [Clocked]; decide +kernel,
   by simp only [Clocked]; decide +kernel⟩

theorem wit_DroneCommands :
    (let dt : Nat := 2048;
      let s : State := { on with drone := { running := true, corr := 1 } };
      let d := (advance dt s).drone;
      Clocked s ∧ d.corr ≠ 0 ∧ d.lastCorr + d.every ≤ d.count ∧ ((0 < d.corr → d.count % 800 ≠ 0))) ∧
    (let f : SyncFrame := ⟨1, 0, 0, 0, 800000, 5, 0, 0, 0⟩;
      let s : State := withPort 1 { up := true } one4;
      Clocked s ∧ (portOf s f.port).up = true ∧ f.src = 0 ∧ isLead s = false ∧ flag (reg s Reg.DRONE_CONFIG) 0 = true) ∧
    (let s : State := { on with drone := { state := .locked, missed := 4 } };
      Clocked s ∧ s.drone.state = .locked ∧ 4 ≤ s.drone.missed) ∧
    (let s : State := one4;
      HostMay 6 s ∧ s.seq.state = .stopped ∧ isLead s = false) :=
  ⟨by simp only [Clocked]; decide +kernel,
   by simp only [Clocked]; decide +kernel,
   by simp only [Clocked]; decide +kernel,
   by simp only [HostMay]; decide +kernel⟩

theorem wit_TunnelCommands :
    (let w : Fin 3 := 2;
      let o : BitVec 24 := 0xFFFFFC;
      let s : State := on;
      s.clk.powered = true ∧ s.host.d3hot = false ∧ isLead s = true ∧ o.toNat % 4 = 0 ∧ tunnelTarget s w = 0) ∧
    (let w : Fin 3 := 0;
      let o : BitVec 24 := 0xFFFFFC;
      let s : State := setReg 0xB100 63 on;
      s.clk.powered = true ∧ s.host.d3hot = false ∧ isLead s = true ∧ o.toNat % 4 = 0 ∧ tunnelTarget s w ≠ 0 ∧ tunnelLost s w = true) ∧
    (let w : Fin 3 := 0;
      let o : BitVec 24 := 0;
      let s : State := setReg 0xB100 1 (withPort 0 { up := true } { on with fabric := { routeOk := true } });
      let p : Nat := 0;
      let wrap : Bool := false;
      s.clk.powered = true ∧ s.host.d3hot = false ∧ isLead s = true ∧ o.toNat % 4 = 0 ∧ tunnelTarget s w ≠ 0 ∧ tunnelLost s w = false ∧ routePort s (tunnelTarget s w) = some (p, wrap) ∧ (portOf s p).up = true) ∧
    (let w : Fin 3 := 2;
      let o : BitVec 24 := 0xFFFFFC;
      let s : State := on;
      s.clk.powered = true ∧ s.host.d3hot = false ∧ isLead s = true ∧ o.toNat % 4 = 0 ∧ tunnelTarget s w = 0) ∧
    (let w : Fin 3 := 0;
      let o : BitVec 24 := 0;
      let s : State := setReg 0xB100 63 on;
      s.clk.powered = true ∧ s.host.d3hot = false ∧ isLead s = true ∧ o.toNat % 4 = 0 ∧ tunnelTarget s w ≠ 0 ∧ tunnelLost s w = true) ∧
    (let w : Fin 3 := 0;
      let o : BitVec 24 := 0xFFFFFC;
      let s : State := setReg 0xB100 1 (withPort 0 { up := true } { on with fabric := { routeOk := true } });
      let p : Nat := 0;
      let wrap : Bool := false;
      s.clk.powered = true ∧ s.host.d3hot = false ∧ isLead s = true ∧ o.toNat % 4 = 0 ∧ tunnelTarget s w ≠ 0 ∧ tunnelLost s w = false ∧ (readsOf s w).length < 16 ∧ routePort s (tunnelTarget s w) = some (p, wrap) ∧ (portOf s p).up = true) ∧
    (let f : TunnelFrame := ⟨1, false, 0, 1, 0x630, 7, 2, 255⟩;
      let s : State := withPort 1 { up := true } { one4 with fabric := { routeOk := true } };
      Clocked s ∧ (portOf s f.port).up = true ∧ f.dst.toNat = moduleId s ∧ moduleId s < machineSize s ∧ f.window ≠ 3 ∧ f.offset.toNat % 4 = 0) ∧
    (let f : TunnelFrame := ⟨1, false, 0, 1, 0x630, 0, 2, 255⟩;
      let s : State := withPort 1 { up := true } { one4 with fabric := { routeOk := true } };
      let p : Nat := 1;
      let wrap : Bool := false;
      Clocked s ∧ (portOf s f.port).up = true ∧ f.dst.toNat = moduleId s ∧ moduleId s < machineSize s ∧ f.window ≠ 3 ∧ f.offset.toNat % 4 = 0 ∧ f.data = 0 ∧ s.fabric.routeOk = true ∧ routePort s f.src.toNat = some (p, wrap) ∧ (portOf s p).up = true) ∧
    (let f : TunnelFrame := ⟨1, false, 0, 1, 0, 7, 2, 255⟩;
      let s : State := withPort 1 { up := true } { one4 with fabric := { reads := [({ window := 2, tag := 255, target := 1, offset := 0, sent := 0 } : TunnelRead)] } };
      let r : TunnelRead := ({ window := 2, tag := 255, target := 1, offset := 0, sent := 0 } : TunnelRead);
      Clocked s ∧ (portOf s f.port).up = true ∧ f.dst.toNat = moduleId s ∧ moduleId s < machineSize s ∧ f.window ≠ 3 ∧ f.offset = 0 ∧ s.fabric.reads.find? (fun r => r.window == f.window.toNat && r.tag == f.tag.toNat) = some r) ∧
    (let dt : Nat := 1600000;
      let w : Fin 3 := 2;
      let tag : BitVec 8 := 255;
      let s : State := { on with fabric := { reads := [({ window := 2, tag := 255, target := 1, offset := 0, sent := 0 } : TunnelRead)] }, drone := { running := true } };
      let r : TunnelRead := ({ window := 2, tag := 255, target := 1, offset := 0, sent := 0 } : TunnelRead);
      Clocked s ∧ s.fabric.reads.find? (fun r => r.window == w.val && r.tag == tag.toNat) = some r ∧ r.sent + replyTimeout s ≤ tick (advance dt s)) :=
  ⟨by decide +kernel,
   by decide +kernel,
   by decide +kernel,
   by decide +kernel,
   by decide +kernel,
   by decide +kernel,
   by simp only [Clocked]; decide +kernel,
   by simp only [Clocked]; decide +kernel,
   by simp only [Clocked]; decide +kernel,
   by simp only [Clocked]; decide +kernel⟩

theorem wit_RemoteNotices :
    (let src : BitVec 6 := 3;
      let sev : BitVec 3 := 4;
      let s : State := withPort 0 { up := true } on;
      Clocked s ∧ isLead s = true ∧ (portOf s (arrivalPort s src.toNat)).up = true ∧ sev.toNat < 5) ∧
    (let s : State := on;
      HostMay 0xA s) :=
  ⟨by simp only [Clocked]; decide +kernel,
   by simp only [HostMay]; decide +kernel⟩

theorem wit_BroadcastRecords :
    (let r : BcastRecord := ⟨1, 0, 1, 0, List.replicate 32 0, true, []⟩;
      ¬ (r.body.length = 72 * r.length.toNat ∧ r.digest.length = 32)) ∧
    (let r : BcastRecord := ⟨1, 0, 0, 0, List.replicate 32 0, true, []⟩;
      let s : State := on;
      Clocked s ∧ r.body.length = 72 * r.length.toNat ∧ r.digest.length = 32 ∧ flag (reg s Reg.BCAST_CONTROL) 0 = false) ∧
    (let r : BcastRecord := ⟨1, 0, 0, 0, List.replicate 32 0, true, []⟩;
      let s : State := setReg Reg.BCAST_CONTROL 1 on;
      Clocked s ∧ r.body.length = 72 * r.length.toNat ∧ r.digest.length = 32 ∧ flag (reg s Reg.BCAST_CONTROL) 0 = true ∧ r.mask.getLsbD (moduleId s) = true ∧ recordCause s r ≠ 0) ∧
    (let r : BcastRecord := ⟨1, 2 ^ 60 * 1, 1, 0, shake256 32 (List.replicate 72 0), true, List.replicate 72 0⟩;
      let s : State := setReg Reg.BCAST_CONTROL 1 on;
      Clocked s ∧ r.body.length = 72 * r.length.toNat ∧ r.digest.length = 32 ∧ flag (reg s Reg.BCAST_CONTROL) 0 = true ∧ r.mask.getLsbD (moduleId s) = true ∧ recordCause s r = 0 ∧ r.number = 0) ∧
    (let r : BcastRecord := ⟨1, 2 ^ 60 * 1, 1, 1, shake256 32 (List.replicate 72 0), true, List.replicate 72 0⟩;
      let s : State := setReg Reg.BCAST_CONTROL 1 { on with secure := { stream := { result := 1, records := 2, leaves := [shake256 32 (List.replicate 72 0), []] } } };
      Clocked s ∧ r.body.length = 72 * r.length.toNat ∧ r.digest.length = 32 ∧ flag (reg s Reg.BCAST_CONTROL) 0 = true ∧ r.mask.getLsbD (moduleId s) = true ∧ recordCause s r = 0 ∧ r.number ≠ 0 ∧ s.secure.stream.result = 1 ∧ r.number.toNat = s.secure.stream.passed + 1 ∧ r.number.toNat < s.secure.stream.records ∧ r.digest = s.secure.stream.leaves.getD (r.number.toNat - 1) []) :=
  ⟨by decide +kernel,
   by simp only [Clocked]; decide +kernel,
   by simp only [Clocked]; decide +kernel,
   by simp only [Clocked]; decide +kernel,
   by simp only [Clocked]; decide +kernel⟩

theorem wit_ServingCommits :
    (let dt : Nat := 0;
      let s : State := idle;
      Clocked s ∧ commitDue (advance dt s) = true) ∧
    (let dt : Nat := 0;
      let s : State := on;
      Clocked s ∧ commitDue (advance dt s) = false) ∧
    (let m : CommitMsg := ⟨1, 0, false, 0, [], []⟩;
      let s : State := withPort 0 { up := true } { on with serve := { lead := { ownAt := some 0, done := ((List.range 16).filter (· != 1)).map (fun k => (k, (⟨BitVec.ofNat 6 k, 0, false, 0, [], []⟩ : CommitMsg))) } } };
      Clocked s ∧ isLead s = true ∧ m.src ≠ 0 ∧ m.src.toNat < machineSize s ∧ (portOf s (arrivalPort s m.src.toNat)).up = true ∧ messageOk m.items = true ∧ m.step.toNat = awaited s ∧ s.serve.lead.ownAt.isSome = true ∧ s.seq.fatal = none ∧ s.seq.state ≠ .halted ∧ ((∀ k < machineSize s, k ≠ m.src.toNat → (find? s.serve.lead.done k).isSome = true))) ∧
    (let m : CommitMsg := ⟨1, 0, false, 0, [], []⟩;
      let s : State := withPort 0 { up := true } { on with serve := { lead := { ownAt := some 0 } }, drone := { running := true } };
      let k : Nat := 0;
      Clocked s ∧ isLead s = true ∧ m.src ≠ 0 ∧ m.src.toNat < machineSize s ∧ (portOf s (arrivalPort s m.src.toNat)).up = true ∧ messageOk m.items = true ∧ m.step.toNat = awaited s ∧ k < machineSize s ∧ k ≠ m.src.toNat ∧ (find? s.serve.lead.done k).isNone = true) ∧
    (let dt : Nat := 4800000;
      let s : State := withPort 0 { up := true } { on with serve := { lead := { ownAt := some 0 } }, drone := { running := true } };
      let t0 : Nat := 0;
      let k : Nat := 0;
      Clocked s ∧ isLead s = true ∧ s.serve.lead.ownAt = some t0 ∧ t0 + max 2400 (force s Reg.HAWK_COMMIT_TIMEOUT).toNat ≤ tick (advance dt s) ∧ (List.range (machineSize s)).find? (fun m => (find? s.serve.lead.done m).isNone) = some k) ∧
    (let m : GoMsg := ⟨1, 5, 0, 2, false, 0, []⟩;
      let s : State := withPort 1 { up := true } { one4 with serve := { waiting := true } };
      Clocked s ∧ isLead s = false ∧ s.serve.waiting = true ∧ m.step.toNat = stepNumber s + 1 ∧ (portOf s (arrivalPort s 0)).up = true ∧ messageOk m.items = true) :=
  ⟨by simp only [Clocked]; decide +kernel,
   by simp only [Clocked]; decide +kernel,
   by simp only [Clocked]; decide +kernel,
   by simp only [Clocked]; decide +kernel,
   by simp only [Clocked]; decide +kernel,
   by simp only [Clocked]; decide +kernel⟩

theorem wit_HawkCommands :
    (let s : State := setReg Reg.HAWK_STATUS 0xF000 on;
      HostMay 2 s ∧ s.seq.state = .stopped ∧ regFld s Reg.HAWK_STATUS 15 12 = 15) ∧
    (let cause : BitVec 2 := 2;
      let s : State := on;
      Clocked s ∧ ((cause = 1 ∨ cause = 2))) ∧
    (let table : BitVec 2 := 3;
      let s : State := on;
      Clocked s ∧ table ≠ 0 ∧ table ≠ 1) ∧
    (let index : Word := 2097151;
      let s : State := on;
      Clocked s ∧ index.toNat < 2097152) ∧
    (let writes : List (Word × Bytes) := [(0x01000000, List.replicate 64 7)];
      let tail : Word := 4;
      let s : State := on;
      HostMay 2 s ∧ s.host.d3hot = false ∧ isLead s = true ∧ ((∀ w ∈ writes, bar2Valid s w.1.toNat w.2.length true = true)) ∧ (tail - reg s Reg.HAWK_SUB_HEAD).toNat ≤ 2 ^ ringLog2 s Reg.HAWK_SUB_RING) :=
  ⟨by simp only [HostMay]; decide +kernel,
   by simp only [Clocked]; decide +kernel,
   by simp only [Clocked]; decide +kernel,
   by simp only [Clocked]; decide +kernel,
   by simp only [HostMay]; decide +kernel⟩

theorem wit_PcieCommands :
    (let kind : BitVec 2 := 3;
      let s : State := { on with host := { linkUp := true } };
      Clocked s ∧ kind ≠ 0) ∧
    (let s : State := { on with host := { linkUp := true } };
      Clocked s ∧ s.host.linkUp = true) ∧
    (let speed : BitVec 4 := 6;
      let width : BitVec 3 := 4;
      let s : State := { on with host := { refclk := true } };
      Clocked s ∧ 1 ≤ speed.toNat ∧ speed.toNat ≤ 6 ∧ ((width = 1 ∨ width = 2 ∨ width = 4)) ∧ s.host.linkUp = false ∧ s.host.refclk = true ∧ s.clk.pwrGood = true) ∧
    (let s : State := setReg 0xAC00 0xF (setReg (0xA800 + 16 * 2 + 12) 1 { on with host := { linkUp := true } });
      Clocked s ∧ s.host.linkUp = true) ∧
    (let bm : Bool := true;
      let d3 : Bool := true;
      let s : State := { on with host := { linkUp := true } };
      Clocked s ∧ ((s.host.linkUp = false ∨ bm = false ∨ d3 = true))) ∧
    (let bar : BitVec 2 := 2;
      let offset : Word := 0xFFFFFFFF;
      let bytes : BitVec 7 := 8;
      let write : Bool := true;
      let s : State := on;
      Clocked s ∧ s.host.d3hot = false ∧ ((if bar = 2 then bar2Valid s offset.toNat bytes.toNat write = false else bytes ≠ 4 ∨ offset.toNat % 4 ≠ 0))) ∧
    (let s : State := on;
      Clocked s) ∧
    (let s : State := on;
      Clocked s) :=
  ⟨by simp only [Clocked]; decide +kernel,
   by simp only [Clocked]; decide +kernel,
   by simp only [Clocked]; decide +kernel,
   by simp only [Clocked]; decide +kernel,
   by simp only [Clocked]; decide +kernel,
   by simp only [Clocked]; decide +kernel,
   by simp only [Clocked]; decide +kernel,
   by simp only [Clocked]; decide +kernel⟩

theorem wit_EthernetCommands :
    (let p : EthPort := 1;
      let s : State := { on with host := { eth := [(1, { up := true, paused := [(7, 0)] })] } };
      Clocked s ∧ (ethOf s p).up = true) ∧
    (let p : EthPort := 1;
      let s : State := on;
      Clocked s ∧ (ethOf s p).up = false) ∧
    (let p : EthPort := 1;
      let s : State := { on with host := { eth := [(1, { up := true, paused := [(7, 0)] })] } };
      Clocked s ∧ (ethOf s p).up = true) ∧
    (let p : EthPort := 1;
      let s : State := on;
      Clocked s ∧ flag (reg s (ethReg p 0x104)) 0 = true) ∧
    (let dt : Nat := 10 ^ 12;
      let p : EthPort := 1;
      let prio : Fin 8 := 7;
      let s : State := { on with host := { eth := [(1, { up := true, paused := [(7, 0)] })] } };
      let t0 : Nat := 0;
      Clocked s ∧ find? (ethOf s p).paused prio = some t0 ∧ t0 + pauseLimit s p < s.clk.now + dt ∧ prio.val ∉ (ethOf s p).storm) :=
  ⟨by simp only [Clocked]; decide +kernel,
   by simp only [Clocked]; decide +kernel,
   by simp only [Clocked]; decide +kernel,
   by simp only [Clocked]; decide +kernel,
   by simp only [Clocked]; decide +kernel⟩

theorem wit_RoceContext :
    (let s : State := on;
      let k := regFld s Reg.ROCE_CTX_SEL 31 28;
      let i := regFld s Reg.ROCE_CTX_SEL 11 0;
      HostMay 0xFA s ∧ k < 4 ∧ i < ctxEntries k) ∧
    (let s : State := setReg (Reg.ROCE_CTX_DATA 1) 0x00080300 on;
      let k := regFld s Reg.ROCE_CTX_SEL 31 28;
      let i := regFld s Reg.ROCE_CTX_SEL 11 0;
      let b := ctxData s (ctxSize k);
      HostMay 0xFA s ∧ k < 4 ∧ i < ctxEntries k ∧ ctxWriteResult s k i b = 0) ∧
    (let s : State := { on with host := { ctx := [(0, [3])] } };
      let k := regFld s Reg.ROCE_CTX_SEL 31 28;
      let i := regFld s Reg.ROCE_CTX_SEL 11 0;
      let r := ctxWriteResult s k i (ctxData s (ctxSize k));
      HostMay 0xFA s ∧ k < 4 ∧ i < ctxEntries k ∧ r ≠ 0) ∧
    (let st : BitVec 3 := 0;
      let s : State := on;
      let q := regFld s Reg.ROCE_CTX_SEL 11 0;
      HostMay 0xFA s ∧ regFld s Reg.ROCE_CTX_SEL 31 28 = 0 ∧ ctxModifyResult s 0 q st.toNat = 0) :=
  ⟨by simp only [HostMay]; decide +kernel,
   by simp only [HostMay]; decide +kernel,
   by simp only [HostMay]; decide +kernel,
   by simp only [HostMay]; decide +kernel⟩

theorem wit_RoceTimers :
    (let dt : Nat := 10 ^ 12;
      let q : Qp := 0;
      let s : State := setReg Reg.ROCE_CONFIG 7 { on with host := { eth := [(0, { up := true })], qps := [(0, { queue := [(⟨.egress 0, .send []⟩ : Work)] })], ctx := [(0, [3, 0, 0, 0, 0, 0, 0, 0x77])] } };
      Clocked s ∧ qpSends s q = true ∧ (qpOf s q).queue ≠ [] ∧ (qpOf s q).rnrWait = false ∧ (qpOf s q).sentAt + qpTimeout s q ≤ s.clk.now + dt ∧ (qpOf s q).retries < qpRetry s q) ∧
    (let dt : Nat := 10 ^ 12;
      let q : Qp := 0;
      let s : State := setReg Reg.ROCE_CONFIG 7 { on with host := { eth := [(0, { up := true })], qps := [(0, { queue := [(⟨.egress 0, .send []⟩ : Work)], retries := 7 })], ctx := [(0, [3, 0, 0, 0, 0, 0, 0, 0x77])] } };
      Clocked s ∧ qpSends s q = true ∧ (qpOf s q).queue ≠ [] ∧ (qpOf s q).rnrWait = false ∧ (qpOf s q).sentAt + qpTimeout s q ≤ s.clk.now + dt ∧ qpRetry s q ≤ (qpOf s q).retries) ∧
    (let q : Qp := 0;
      let s : State := setReg Reg.ROCE_CONFIG 7 { on with host := { eth := [(0, { up := true })], qps := [(0, { queue := [(⟨.egress 0, .send []⟩ : Work)], rnrWait := true })], ctx := [(0, [3, 0, 0, 0, 0, 0, 0, 0x77])] } };
      Clocked s ∧ qpSends s q = true ∧ (qpOf s q).queue ≠ [] ∧ (qpOf s q).rnrWait = true ∧ (qpOf s q).rnrRetries < qpRnrRetry s q) ∧
    (let q : Qp := 0;
      let s : State := setReg Reg.ROCE_CONFIG 7 { on with host := { eth := [(0, { up := true })], qps := [(0, { queue := [(⟨.egress 0, .send []⟩ : Work)], rnrWait := true })], ctx := [(0, [3, 0, 0, 0, 0, 0, 0, 0])] } };
      Clocked s ∧ qpSends s q = true ∧ (qpOf s q).queue ≠ [] ∧ (qpOf s q).rnrWait = true ∧ qpRnrRetry s q ≤ (qpOf s q).rnrRetries) ∧
    (let s : State := on;
      Clocked s) ∧
    (let dt : Nat := 10 ^ 12;
      let q : Qp := 4095;
      let s : State := setReg Reg.ROCE_CONFIG 7 { on with host := { qps := [(4095, { rate := 399 })] } };
      Clocked s ∧ flag (reg s Reg.ROCE_CONFIG) 2 = true ∧ (qpOf s q).rate < 400 ∧ (qpOf s q).cnpAt + ratePeriod s ≤ s.clk.now + dt) :=
  ⟨by simp only [Clocked]; decide +kernel,
   by simp only [Clocked]; decide +kernel,
   by simp only [Clocked]; decide +kernel,
   by simp only [Clocked]; decide +kernel,
   by simp only [Clocked]; decide +kernel,
   by simp only [Clocked]; decide +kernel⟩

theorem wit_RoceRequests :
    (let q : Qp := 0;
      let s : State := { on with host := { eth := [(0, { up := true })] } };
      Clocked s ∧ qpPortUp s q = true ∧ qpTakes s q = false) ∧
    (let dt : Nat := 0;
      let q : Qp := 0;
      let s : State := { (setReg Reg.ROCE_CONFIG 7 { on with host := { eth := [(0, { up := true })], ctx := [(0, [3])] } }) with therm := { tripped := true } };
      Clocked s ∧ qpPortUp s q = true ∧ qpTakes s q = true ∧ startOpen (advance dt s) 9 = false) ∧
    (let dt : Nat := 0;
      let q : Qp := 0;
      let key : Word := 5;
      let addr : DWord := 0;
      let data : Bytes := [1];
      let s : State := setReg Reg.ROCE_CONFIG 7 { on with host := { eth := [(0, { up := true })], ctx := [(0, [3])] } };
      Clocked s ∧ qpPortUp s q = true ∧ qpTakes s q = true ∧ startOpen (advance dt s) 9 = true ∧ mrCause s key.toNat addr.toNat data.length 1 ≠ 0) ∧
    (let dt : Nat := 0;
      let q : Qp := 0;
      let key : Word := 5;
      let addr : DWord := 255;
      let data : Bytes := [1];
      let s : State := setReg Reg.ROCE_CONFIG 7 { on with host := { eth := [(0, { up := true })], ctx := [(0, [3]), (4096, [0,0,0,0,0,0,0,0, 0,1,0,0,0,0,0,0, 5,0,0,0, 7])] } };
      Clocked s ∧ qpPortUp s q = true ∧ qpTakes s q = true ∧ startOpen (advance dt s) 9 = true ∧ mrCause s key.toNat addr.toNat data.length 1 = 0) ∧
    (let q : Qp := 0;
      let len : Word := 0x80000001;
      let s : State := setReg Reg.ROCE_CONFIG 7 { on with host := { eth := [(0, { up := true })], ctx := [(0, [3])] } };
      Clocked s ∧ qpPortUp s q = true ∧ qpTakes s q = true ∧ 2 ^ 31 < len.toNat) ∧
    (let dt : Nat := 0;
      let q : Qp := 0;
      let len : Word := 256;
      let s : State := { (setReg Reg.ROCE_CONFIG 7 { on with host := { eth := [(0, { up := true })], ctx := [(0, [3])] } }) with therm := { tripped := true } };
      Clocked s ∧ qpPortUp s q = true ∧ qpTakes s q = true ∧ len.toNat ≤ 2 ^ 31 ∧ startOpen (advance dt s) 9 = false) ∧
    (let dt : Nat := 0;
      let q : Qp := 0;
      let key : Word := 5;
      let addr : DWord := 0;
      let len : Word := 0x80000000;
      let s : State := setReg Reg.ROCE_CONFIG 7 { on with host := { eth := [(0, { up := true })], ctx := [(0, [3])] } };
      Clocked s ∧ qpPortUp s q = true ∧ qpTakes s q = true ∧ len.toNat ≤ 2 ^ 31 ∧ startOpen (advance dt s) 9 = true ∧ mrCause s key.toNat addr.toNat len.toNat 2 ≠ 0) ∧
    (let dt : Nat := 0;
      let q : Qp := 0;
      let key : Word := 5;
      let addr : DWord := 0;
      let len : Word := 256;
      let s : State := setReg Reg.ROCE_CONFIG 7 { on with host := { eth := [(0, { up := true })], ctx := [(0, [3]), (4096, [0,0,0,0,0,0,0,0, 0,1,0,0,0,0,0,0, 5,0,0,0, 7])] } };
      Clocked s ∧ qpPortUp s q = true ∧ qpTakes s q = true ∧ len.toNat ≤ 2 ^ 31 ∧ startOpen (advance dt s) 9 = true ∧ mrCause s key.toNat addr.toNat len.toNat 2 = 0 ∧ hbmPoisoned s addr.toNat len.toNat = false) ∧
    (let q : Qp := 0;
      let s : State := setReg Reg.ROCE_CONFIG 7 { on with host := { eth := [(0, { up := true })], ctx := [(0, [3, 0x18])] } };
      Clocked s ∧ qpPortUp s q = true ∧ qpTakes s q = true ∧ ((qpKind s q = 0 ∨ qpKind s q = 3))) ∧
    (let q : Qp := 0;
      let s : State := setReg Reg.ROCE_CONFIG 7 { on with host := { eth := [(0, { up := true })], ctx := [(0, [3, 0x10])] } };
      Clocked s ∧ qpPortUp s q = true ∧ qpTakes s q = true ∧ qpKind s q = 2) ∧
    (let q : Qp := 0;
      let s : State := setReg Reg.ROCE_CONFIG 7 { on with host := { eth := [(0, { up := true })], ctx := [(0, [3, 0x08])] } };
      Clocked s ∧ qpPortUp s q = true ∧ qpTakes s q = true ∧ qpKind s q = 1) :=
  ⟨by simp only [Clocked]; decide +kernel,
   by simp only [Clocked]; decide +kernel,
   by simp only [Clocked]; decide +kernel,
   by simp only [Clocked]; decide +kernel,
   by simp only [Clocked]; decide +kernel,
   by simp only [Clocked]; decide +kernel,
   by simp only [Clocked]; decide +kernel,
   by simp only [Clocked]; decide +kernel,
   by simp only [Clocked]; decide +kernel,
   by simp only [Clocked]; decide +kernel,
   by simp only [Clocked]; decide +kernel⟩

theorem wit_SecureCommands :
    (let s : State := on;
      HostMay 9 s ∧ s.secure.attestBusy = false) ∧
    (let s : State := { on with secure := { attestBusy := true } };
      Clocked s ∧ s.secure.attestBusy = true) ∧
    (let arg : BitVec 16 := 0xDE71;
      let s : State := on;
      HostMay 9 s ∧ s.secure.attestBusy = false ∧ s.secure.devMode = false ∧ s.seq.state = .stopped ∧ arg = 0xDE71) ∧
    (let arg : BitVec 16 := 0xDE70;
      let s : State := on;
      HostMay 9 s ∧ ((s.secure.attestBusy = true ∨ arg ≠ 0xDE71 ∨ s.seq.state ≠ .stopped))) :=
  ⟨by simp only [HostMay]; decide +kernel,
   by simp only [Clocked]; decide +kernel,
   by simp only [HostMay]; decide +kernel,
   by simp only [HostMay]; decide +kernel⟩

theorem wit_LatchedCommands :
    (let dt : Nat := 0;
      let id : BitVec 12 := 0xFFE;
      let s : State := { on with fmt := { entries := [(0xFFE, { valid := true })] } };
      HostMay 0 s ∧ id ≠ 0xFFF ∧ (widenOfId s id.toNat).valid = true ∧ s.fmt.commitAt ≠ some (sclk (advance dt s))) ∧
    (let dt : Nat := 0;
      let s : State := on;
      HostMay 0 s ∧ s.fmt.commitAt ≠ some (sclk (advance dt s))) ∧
    (let dt : Nat := 0;
      let id : BitVec 12 := 0xFFE;
      let s : State := { on with fmt := { entries := [(0xFFE, { valid := true })], commitAt := some 0 } };
      HostMay 0 s ∧ id ≠ 0xFFF ∧ (widenOfId s id.toNat).valid = true ∧ s.fmt.commitAt = some (sclk (advance dt s))) ∧
    (let id : BitVec 12 := 0xFFF;
      let s : State := on;
      HostMay 0 s ∧ ((id = 0xFFF ∨ (widenOfId s id.toNat).valid = false))) ∧
    (let s : State := on;
      HostMay 0 s ∧ s.adapt.cmd = none) ∧
    (let s : State := { on with adapt := { cmd := some 0 } };
      HostMay 0 s ∧ s.adapt.cmd.isSome = true) ∧
    (let dt : Nat := 0;
      let s : State := { on with adapt := { ending := some (1, 4095, 1, 2), table := [(4095, List.replicate 64 0)] } };
      let job : Nat := 1;
      let a : Nat := 4095;
      let cause : Nat := 1;
      let steps : Nat := 2;
      Clocked s ∧ s.adapt.ending = some (job, a, cause, steps) ∧ (find? s.adapt.table a).isSome = true ∧ (knownEntry s a).length = 64 ∧ startOpen (advance dt s) 7 = true) ∧
    (let dt : Nat := 0;
      let s : State := on;
      Clocked s ∧ ((s.adapt.ending = none ∨ startOpen (advance dt s) 7 = false))) :=
  ⟨by simp only [HostMay]; decide +kernel,
   by simp only [HostMay]; decide +kernel,
   by simp only [HostMay]; decide +kernel,
   by simp only [HostMay]; decide +kernel,
   by simp only [HostMay]; decide +kernel,
   by simp only [HostMay]; decide +kernel,
   by simp only [Clocked]; decide +kernel,
   by simp only [Clocked]; decide +kernel⟩

theorem wit_RegisterAccess :
    (let dt : Nat := 0;
      let addr : BitVec 26 := 0x630;
      let v : Word := 7;
      let s : State := on;
      let b : Blk := .global;
      let i : Nat := 0;
      let r : RegRow := (someOr ({ off := 0 } : RegRow) (rowOf 0x630));
      HostMay (addr.toNat / 0x1000) s ∧ s.host.d3hot = false ∧ addr.toNat % 4 = 0 ∧ addr.toNat < 0x400000 ∧ pageBlk (addr.toNat / 0x1000) = some (b, i) ∧ rowOf addr.toNat = some r ∧ 0x100 ≤ addr.toNat % 0x1000 ∧ ownWrite b i (addr.toNat % 0x1000) v (advance dt s) = none ∧ ((r.stop = true → s.seq.state = .stopped)) ∧ r.half = .one) ∧
    (let addr : BitVec 26 := 0x630;
      let s : State := on;
      let r : RegRow := (someOr ({ off := 0 } : RegRow) (rowOf 0x630));
      s.clk.powered = true ∧ s.host.d3hot = false ∧ addr.toNat % 4 = 0 ∧ addr.toNat < 0x400000 ∧ pageAnswers s (addr.toNat / 0x1000) = true ∧ rowOf addr.toNat = some r ∧ r.half = .one) ∧
    (let addr : BitVec 26 := 0x1114;
      let s : State := on;
      let r : RegRow := (someOr ({ off := 0 } : RegRow) (rowOf 0x1114));
      s.clk.powered = true ∧ s.host.d3hot = false ∧ addr.toNat % 4 = 0 ∧ addr.toNat < 0x400000 ∧ pageAnswers s (addr.toNat / 0x1000) = true ∧ rowOf addr.toNat = some r ∧ r.half = .low) ∧
    (let addr : BitVec 26 := 0x1118;
      let s : State := { on with regs := { holdHigh := [(0x1114, 9)] } };
      let r : RegRow := (someOr ({ off := 0 } : RegRow) (rowOf 0x1118));
      let w : Word := 9;
      s.clk.powered = true ∧ s.host.d3hot = false ∧ addr.toNat % 4 = 0 ∧ addr.toNat < 0x400000 ∧ pageAnswers s (addr.toNat / 0x1000) = true ∧ rowOf addr.toNat = some r ∧ r.half = .high ∧ find? s.regs.holdHigh (addr.toNat - 4) = some w) ∧
    (let addr : BitVec 26 := 0x3FFFFC;
      let s : State := on;
      s.clk.powered = true ∧ s.host.d3hot = false ∧ addr.toNat % 4 = 0 ∧ addr.toNat < 0x400000 ∧ pageBlk (addr.toNat / 0x1000) = none) ∧
    (let addr : BitVec 26 := 0x631;
      let s : State := on;
      s.clk.powered = true ∧ s.host.d3hot = false ∧ addr.toNat % 4 ≠ 0) ∧
    (let s : State := { on with host := { d3hot := true } };
      s.clk.powered = true ∧ s.host.d3hot = true) :=
  ⟨by simp only [HostMay]; decide +kernel,
   by decide +kernel,
   by decide +kernel,
   by decide +kernel,
   by decide +kernel,
   by decide +kernel,
   by decide +kernel⟩

theorem wit_BlockControl :
    (let dt : Nat := 0;
      let page : BitVec 10 := 0xFB;
      let s : State := on;
      HostMay page.toNat s ∧ s.host.d3hot = false ∧ (pageBlk page.toNat).isSome = true ∧ ((∀ e, find? s.log.feNow page.toNat = some e → e.cycle ≠ sclk (advance dt s)))) ∧
    (let page : BitVec 10 := 0xFB;
      let s : State := Tests.on;
      HostMay page.toNat s ∧ s.host.d3hot = false ∧ (pageBlk page.toNat).isSome = true) :=
  ⟨by simp only [HostMay]; decide +kernel,
   by simp only [HostMay]; decide +kernel⟩

theorem wit_StepRunsFront :
    (let s : State := on;
      s.pending = []) := by
  decide +kernel

theorem wit_QueueStaysWellFormed :
    (let s : State := { on with pending := [.powerUp 0 obs0] };
      queueOk s = true) := by
  decide +kernel

theorem wit_MemoryStaysCanonical :
    (let s : State := idle;
      let t : State := idle;
      Memory.wf s = true ∧ step s = .next t) := by
  exact ⟨rfl, rfl⟩

theorem wit_NoPowerNoEffect :
    (let c : Instr := .enterReady 0;
      let s : State := State.reset;
      s.clk.powered = false ∧ wellFormed c = true ∧ ((∀ dt obs, c ≠ .powerUp dt obs))) := by
  exact ⟨rfl, rfl, fun _ _ h => by cases h⟩

theorem wit_FlitReplayInvisible :
    (let s : State := on;
      Clocked s) := by
  simp only [Clocked]; decide +kernel

theorem wit_RepairOnlyWhileStopped :
    (let value : Word := 0x100;
      let s : State := idle;
      HostMay 0 s ∧ flag value 8 = true ∧ s.seq.state ≠ .stopped) ∧
    (let value : Word := 0x113;
      let s : State := on;
      HostMay 0 s ∧ fld value 4 0 < 20 ∧ flag value 8 = true ∧ s.seq.state = .stopped ∧ lanesExhausted (s.nvm.lanes ++ (s.boot.lanesFailed.filter (·.link == fld value 4 0)).filter
      (fun x => !s.nvm.lanes.contains x)) (fld value 4 0) = false) :=
  ⟨by simp only [HostMay]; decide +kernel,
   by simp only [HostMay]; decide +kernel⟩

theorem wit_PageMap :
    (let p : Nat := 0x3FF;
      ((∀ n, p ≠ 0x010 + n ∨ 16 ≤ n)) ∧ ((∀ h, p ≠ 0x020 + h ∨ 4 ≤ h)) ∧ ((∀ n, p ≠ 0x040 + n ∨ 128 ≤ n)) ∧ ((∀ n, p ≠ 0x0C0 + n ∨ 24 ≤ n)) ∧ ((∀ h, p ≠ 0x0E0 + h ∨ 4 ≤ h)) ∧ ((∀ h, p ≠ 0x0F0 + h ∨ 4 ≤ h)) ∧ ((∀ h, p ≠ 0x0F8 + h ∨ 2 ≤ h)) ∧ 12 ≤ p ∧ p ≠ 0x0FA ∧ p ≠ 0x0FB) ∧
    (let addr : BitVec 26 := 0x3FFFFC;
      let s : State := on;
      s.clk.powered = true ∧ s.host.d3hot = false ∧ addr.toNat % 4 = 0 ∧ addr.toNat < 0x400000 ∧ pageBlk (addr.toNat / 0x1000) = none) :=
  ⟨by refine ⟨fun n => ?_, fun n => ?_, fun n => ?_, fun n => ?_, fun n => ?_, fun n => ?_, fun n => ?_, by omega, by omega, by omega⟩ <;> omega,
   by decide +kernel⟩

theorem wit_ClearRace :
    (let dt : Nat := 0;
      let addr : BitVec 26 := 0x510;
      let s : State := on;
      let r : RegRow := (someOr ({ off := 0 } : RegRow) (rowOf 0x510));
      HostMay (addr.toNat / 0x1000) s ∧ s.host.d3hot = false ∧ addr.toNat % 4 = 0 ∧ addr.toNat < 0x400000 ∧ rowOf addr.toNat = some r ∧ r.w1c ≠ 0 ∧ sclk (advance dt s) = sclk s) := by
  simp only [HostMay]; decide +kernel

theorem wit_EventRaised :
    (let page : Nat := 0;
      let code : Nat := Evt.D2D_LINK_DOWN;
      (pageBlk page).isSome = true ∧ code < 0x10000) := by
  decide +kernel

theorem wit_FirstErrorCapture :
    (let page : Nat := 0;
      let es : List (Nat × Nat) := [(Evt.D2D_LINK_DOWN, 5), (Evt.D2D_LANE_FAIL, 6)];
      let s : State := on;
      (pageBlk page).isSome = true ∧ ((∀ e ∈ es, e.1 < 0x10000)) ∧ reg s (ra page 0x024) = 0 ∧ ((∀ o, find? s.log.feNow page = some o → o.cycle ≠ sclk s)) ∧ ((∀ c, find? s.log.feCycle page = some c → c ≠ sclk s))) ∧
    (let page : Nat := 0;
      let code : Nat := Evt.D2D_LINK_DOWN;
      let s : State := { raise 0 Evt.D2D_LANE_FAIL 0 on with clk := { (raise 0 Evt.D2D_LANE_FAIL 0 on).clk with now := 8 } };
      (pageBlk page).isSome = true ∧ code < 0x10000 ∧ 2 ≤ Evt.sevOf code ∧ flag (reg s (ra page 0x024)) 31 = true ∧ ((∀ c, find? s.log.feCycle page = some c → c < sclk s))) ∧
    (let dt : Nat := 0;
      let page : BitVec 10 := 0;
      let code : Nat := Evt.D2D_LINK_DOWN;
      let s : State := on;
      HostMay page.toNat s ∧ s.host.d3hot = false ∧ (pageBlk page.toNat).isSome = true ∧ code < 0x10000 ∧ 2 ≤ Evt.sevOf code ∧ ((∀ o, find? s.log.feNow page.toNat = some o → o.cycle ≠ sclk s)) ∧ ((∀ c, find? s.log.feCycle page.toNat = some c → c ≠ sclk s)) ∧ sclk (advance dt s) = sclk s) :=
  ⟨by decide +kernel,
   by decide +kernel,
   by simp only [HostMay]; decide +kernel⟩

theorem wit_ReadsHaveNoEffect :
    (let addr : BitVec 26 := 0x1114;
      let s : State := on;
      let r : RegRow := (someOr ({ off := 0 } : RegRow) (rowOf 0x1114));
      s.clk.powered = true ∧ s.host.d3hot = false ∧ addr.toNat % 4 = 0 ∧ addr.toNat < 0x400000 ∧ rowOf addr.toNat = some r) := by
  decide +kernel

theorem wit_StoppedOnlyWrites :
    (let addr : BitVec 26 := 0x4104;
      let s : State := idle;
      let r : RegRow := (someOr ({ off := 0 } : RegRow) (rowOf 0x4104));
      HostMay (addr.toNat / 0x1000) s ∧ s.host.d3hot = false ∧ addr.toNat % 4 = 0 ∧ addr.toNat < 0x400000 ∧ rowOf addr.toNat = some r ∧ r.stop = true ∧ s.seq.state ≠ .stopped) := by
  simp only [HostMay]; decide +kernel


/-! ## Worked examples of the spec -/

/-- Chapter 2's example: the map window entry of logical array 1,234 on LUNA[6]. -/
theorem test_mapWindow :
    windowWord (setMap 6 1234 { valid := true, level := 11, phys := 2871 } on) 0x00701348 = 0x800B0B37 := by decide

/-- Chapter 5's example: a block of largest magnitude 5.3 at TSCALE 0.125 in F4B and in Q4B. -/
def stageBlock : List Elem :=
  ([53 / 10, -19 / 10, 234375 / 100000] ++ List.replicate 29 0 : List Rat).map (fun x => some { x := x })

theorem test_quant_f4b : (quantBlock fF4B stageBlock (1 / 8) false).1.scale = 0x8F ∧
    (quantBlock fF4B stageBlock (1 / 8) false).1.codes.take 3 = [7, 0xC, 4] := by decide +kernel

theorem test_quant_q4b : (quantBlock fQ4B stageBlock (1 / 8) false).1.scale = 0x8D ∧
    (quantBlock fQ4B stageBlock (1 / 8) false).1.codes.head? = some 7 := by decide +kernel

/-- Chapter 5's example: the first packet of the gate segment in SEG4 with CLIP 0.4375 and static row 17. -/
def gateSegment : SegOut :=
  quantSegment fSEG4 ((List.range 128).map (fun i =>
    some { x := if i = 77 then 61 / 100 else if i = 118 then 31 / 100 else if i = 17 then 146875 / 100000 else 0 }))
    [17, 233, 512, 1000] 0x3EE00000

theorem test_segment : gateSegment.clipped.length = 1 ∧ (gateSegment.bytes.drop 64).take 4 = [0, 0, 0x80, 0x3D] ∧
    gateSegment.bytes.getD 38 0 = 0x70 ∧ gateSegment.bytes.getD 59 0 = 5 ∧
    (gateSegment.bytes.drop 72).take 2 = [0xBC, 0x3F] := by
  decide +kernel

/-- Chapter 3's example: K_T at 62 °C with β −2,000, and y = 3.5578 of gate column 37. -/
theorem test_piccolo :
    let s : State := { on with therm := { seeded := true, est := [(6, 62 * 16)] }, nvm := { beta := [(6 * 8192 + 2871, -2000)] } }
    let kt := ktOf s 6 2871 0xC0A1F
    let r : ArrRead := ⟨0, 0, 0, false, false, 0, 0, 0, 0, false, 0, 0, false, 0xC0A1F, round32 (9962 / 10000), 102, kt,
      0x3D800000, [], 0, [], [], [], [], [], 0, 0, [], []⟩
    let y := val (fwdResult r ⟨round32 (41 / 10000), round32 (10125 / 10000), round32 (89 / 2), round32 (190125 / 1000), 0⟩ 55 1)
    (val kt * 100000).floor = 102459 ∧ (y * 10000 + 1 / 2).floor = 35578 := by decide +kernel

/-- Chapter 12's example: the projection after the sample at tick 560,000. -/
theorem test_projection :
    projection { on with
      breath := { ticks := 800000 }, atlas := { meas := 1250000 * 1024, lastSample := 560000, k := 66847 }
      regs := { inForce := [(Reg.ATLAS_INPUT_FACTOR, 72018), (Reg.ATLAS_BASE_POWER, 330)] } } = 1349000 * fineUj := by
  decide +kernel

/-- Chapter 13's example: at 100.0625 °C the throttle condition takes f from 100 to 96. -/
theorem test_throttle :
    (throttleUpdate { on with
      therm := { seeded := true, est := [(6, 1601)] }
      regs := { inForce := [(Reg.THERM_CONFIG, 3), (Reg.THERM_LIMITS, 0x6E645F)] } }).therm.f = 96 := by decide +kernel

/-- Chapter 14's example: module 3 sends to module 4 over the wrap link of port 0, module 0 turns it to port 2, and
module 4 receives it on port 3. -/
theorem test_route : routePort (setReg Reg.SHAWM_MACHINE 0x030C on) 4 = some (0, true) ∧
    routePort (setReg Reg.SHAWM_MACHINE 0x000C on) 4 = some (2, false) ∧
    arrivalPort (setReg Reg.SHAWM_MACHINE 0x100C on) 3 = 3 := by decide

/-- Chapter 14's example: ρ = −4 and θ = 33 give two holds and a carry of −5. -/
theorem test_drone : (droneCorrect (-4) 33 on).drone.next = -2 ∧ (droneCorrect (-4) 33 on).drone.carry = -5 := by decide

/-- Chapter 16's example: bytes 14 to 31 of the record of the rejected SEND. -/
theorem test_record :
    (eventBytes { tick := 0, step := 0, block := 0xE3, code := 0x7006, sev := 3, cls := 0xFF, request := 0
                  detail := 3840 + 3 * 2 ^ 12 + 2 ^ 19 + 19 * 2 ^ 21 }).drop 14 =
      [0xE3, 0, 0x06, 0x70, 3, 0xFF, 0, 0, 0, 0, 0, 0x3F, 0x68, 0x02, 0, 0, 0, 0] := by decide

/-! ## Single steps -/

/-- A command waits at the front of the queue and is taken by the step. -/
theorem test_step_front : (match step { on with pending := [.enterReady 3, .endProgram 0] } with
    | .next t => decide (t.pending = [.endProgram 0] ∧ t.clk.now = 3)
    | _ => false) = true := by decide +kernel

/-- A saturated counter stays at its largest value. -/
theorem test_counter_saturates :
    reg (bump 0x260 5 (setReg 0x260 0xFFFFFFFF on)) 0x260 = 0xFFFFFFFF := by decide

end Sys2Proof.Tests
end

/-! PROOFS of the family 00_scope. Host accesses of the module's own register pages (R10 to R15, R513, R586 to R590):
which function of the model serves an access, what a write of a register without a rule of its own does, and what event
notices do (R520). -/

namespace Sys2Proof.Machine

open Sys2Proof.Map

/-! ## From the command to the register -/

/-- With power, REGISTER_WRITE is a host write. -/
theorem exec_registerWrite {s : State} (hp : s.clk.powered = true) (dt : Nat) (addr : BitVec 26) (v : Word) :
    exec (.registerWrite dt addr v) s = .next { hostWrite addr.toNat v (advance dt s) with pending := s.pending } :=
  actPowered_on hp dt _

/-- With power, REG64_LOW_READ is a host read. -/
theorem exec_reg64LowRead {s : State} (hp : s.clk.powered = true) (dt : Nat) (addr : BitVec 26) :
    exec (.reg64LowRead dt addr) s = .next { hostRead addr.toNat (advance dt s) with pending := s.pending } :=
  actPowered_on hp dt _

/-- With power, UNMAPPED_ACCESS of an unmapped page is a host access of its direction. -/
theorem exec_unmappedAccess {s : State} (hp : s.clk.powered = true) {addr : BitVec 26} (h4 : addr.toNat % 4 = 0)
    (hlt : addr.toNat < 0x400000) (hu : pageBlk (addr.toNat / 0x1000) = none) (dt : Nat) (write : Bool) :
    exec (.unmappedAccess dt addr write) s = .next
      { (if write then hostWrite addr.toNat 0 (advance dt s) else hostRead addr.toNat (advance dt s)) with
        pending := s.pending } := by
  refine (actPowered_on hp dt _).trans ?_
  simp only [h4, hlt, hu, and_self, if_true]

/-- In D3hot no BAR is decoded for a write (R513). -/
theorem hostWrite_d3hot {s : State} (h : s.host.d3hot = true) (a : Nat) (v : Word) : hostWrite a v s = s := by
  simp [hostWrite, h]

/-- In D3hot no BAR is decoded for a read (R513). -/
theorem hostRead_d3hot {s : State} (h : s.host.d3hot = true) (a : Nat) : hostRead a s = s := by
  simp [hostRead, h]

theorem hostWrite_unaligned {s : State} {a : Nat} (h : s.host.d3hot = false) (h4 : a % 4 ≠ 0) (v : Word) :
    hostWrite a v s = accessInvalid 0 a 4 true s := by
  simp [hostWrite, h, h4]

theorem hostWrite_local {s : State} {a : Nat} (h : s.host.d3hot = false) (h4 : a % 4 = 0) (hlt : a < 0x400000)
    (v : Word) : hostWrite a v s = localWrite a v s := by
  have hlt' : a < 0x1000000 := by omega
  simp [hostWrite, h, h4, hlt']

theorem hostRead_local {s : State} {a : Nat} (h : s.host.d3hot = false) (h4 : a % 4 = 0) (hlt : a < 0x400000) :
    hostRead a s = answer (localRead a s) := by
  have hlt' : a < 0x1000000 := by omega
  simp [hostRead, h, h4, hlt']

theorem localWrite_mapped {s : State} {a i : Nat} {b : Blk} (hlt : a < 0x400000)
    (hb : pageBlk (a / 0x1000) = some (b, i)) (hact : hostActs s (a / 0x1000) = true) (v : Word) :
    localWrite a v s = regWrite b i a v s := by
  simp [localWrite, Nat.not_le.mpr hlt, hb, hact]

theorem localWrite_unmapped {a : Nat} (hlt : a < 0x400000) (hu : pageBlk (a / 0x1000) = none) (v : Word) (s : State) :
    localWrite a v s = bump Reg.GLOBAL_UNMAPPED_COUNT 1 s := by
  simp [localWrite, Nat.not_le.mpr hlt, hu]

theorem localRead_unmapped {a : Nat} (hlt : a < 0x400000) (hu : pageBlk (a / 0x1000) = none) (s : State) :
    localRead a s = (0, bump Reg.GLOBAL_UNMAPPED_COUNT 1 s) := by
  simp [localRead, Nat.not_le.mpr hlt, hu]

/-- A register's page is mapped. -/
theorem pageBlk_of_rowOf {a : Nat} {r : RegRow} (h : rowOf a = some r) : ∃ b i, pageBlk (a / 0x1000) = some (b, i) := by
  cases hp : pageBlk (a / 0x1000) with
  | none => simp [rowOf, hp] at h
  | some x => exact ⟨x.1, x.2, rfl⟩

/-- A write of a register of a page that acts on the host's writes reaches the register. -/
theorem exec_registerWrite_regWrite {s : State} {addr : BitVec 26} {b : Blk} {i : Nat}
    (hm : HostMay (addr.toNat / 0x1000) s) (hd : s.host.d3hot = false) (h4 : addr.toNat % 4 = 0)
    (hlt : addr.toNat < 0x400000) (hb : pageBlk (addr.toNat / 0x1000) = some (b, i)) (dt : Nat) (v : Word) :
    exec (.registerWrite dt addr v) s =
      .next { regWrite b i addr.toNat v (advance dt s) with pending := s.pending } := by
  obtain ⟨hp, hact⟩ := hm
  rw [exec_registerWrite hp, hostWrite_local (by simpa using hd) h4 hlt,
    localWrite_mapped hlt hb (by rwa [hostActs_advance])]

/-! ## Reads -/

section Reads

variable {s : State} {a : Nat} {r : RegRow} (hlt : a < 0x400000) (hans : pageAnswers s (a / 0x1000) = true)
  (hr : rowOf a = some r)
include hlt hans hr

/-- A 32-bit register answers its word. -/
theorem localRead_one (hh : r.half = .one) : localRead a s = (shownWord s a, s) := by
  obtain ⟨b, i, hb⟩ := pageBlk_of_rowOf hr
  simp [localRead, Nat.not_le.mpr hlt, hb, hans, hr, hh]

/-- The low word of a 64-bit register answers its word and holds the high one (R14). -/
theorem localRead_low (hh : r.half = .low) : localRead a s =
    (shownWord s a,
      { s with regs := { s.regs with holdHigh := mput s.regs.holdHigh a (shownWord s (a + 4)) } }) := by
  obtain ⟨b, i, hb⟩ := pageBlk_of_rowOf hr
  simp [localRead, Nat.not_le.mpr hlt, hb, hans, hr, hh]

/-- The high word of a 64-bit register answers the held word and drops it (R14). -/
theorem localRead_high_held {w : Word} (hh : r.half = .high) (hw : find? s.regs.holdHigh (a - 4) = some w) :
    localRead a s = (w, { s with regs := { s.regs with holdHigh := mdel s.regs.holdHigh (a - 4) } }) := by
  obtain ⟨b, i, hb⟩ := pageBlk_of_rowOf hr
  simp [localRead, Nat.not_le.mpr hlt, hb, hans, hr, hh, hw]

end Reads

/-! ## The record of an SCLK cycle's hardware updates (R13, R589) -/

theorem freshCycle_hwCycle (s : State) : (freshCycle s).hwCycle = sclk s := by
  simp only [freshCycle]
  split
  · assumption
  · rfl

/-- Starting a cycle's record changes no register. -/
@[simp] theorem readReg_freshCycle (s : State) (a : Nat) : readReg (freshCycle s) a = reg s a := by
  simp only [readReg, freshCycle_words, reg]

/-- A hardware set is on record for the rest of its SCLK cycle. -/
theorem hwSet_freshCycle_hwSetBits {dt : Nat} {s : State} (h : sclk (advance dt s) = sclk s) (a : Nat) (m : Word) :
    mget 0 (freshCycle (advance dt (hwSetBits a m s))).hwSet a = mget 0 (freshCycle s).hwSet a ||| m := by
  have hnow : sclk (advance dt (hwSetBits a m s)) = sclk s := by simpa [sclk] using h
  have hrec : (hwSetBits a m s).regs.hwCycle = sclk s := freshCycle_hwCycle s
  have hset : (hwSetBits a m s).regs.hwSet = mset 0 (freshCycle s).hwSet a (mget 0 (freshCycle s).hwSet a ||| m) := rfl
  rw [freshCycle, advance_regs, if_pos (hrec.trans hnow.symm), hset, mget_mset_same]

/-! ## Writes of registers without a rule of their own (R10 to R13, R590) -/

/-- What a W1C write by the host leaves of a word: the bits not written with 1, and those that the hardware set in
the same SCLK cycle (R13). -/
def afterClear (s : State) (a : Nat) (v : Word) : Word := reg s a &&& (~~~ v ||| mget 0 (freshCycle s).hwSet a)

theorem clearWrite_eq (a : Nat) (v : Word) (s : State) :
    clearWrite a v s = setReg a (afterClear s a v) { s with regs := freshCycle s } := rfl

/-- What a host write leaves of a 32-bit register without a rule of its own: a counter is loaded with the value and the
increments of the same SCLK cycle, W1C bits are cleared, RW bits take the value and reserved bits stay. -/
def afterPlain (r : RegRow) (a : Nat) (v : Word) (s : State) : Word :=
  if r.ctr then (if r.rw = 0 then reg s a else satAdd v (mget 0 (freshCycle s).hwInc a))
  else if r.w1c ≠ 0 then afterClear s a (v &&& word r.w1c)
  else (reg s a &&& ~~~ (word r.rw)) ||| (v &&& word r.rw)

/-- Such a write does nothing to the state but to its registers, and of these only to the one written. -/
structure WritesOnly (a : Nat) (w : Word) (s t : State) : Prop where
  same : reg t a = w
  other : ∀ x, x ≠ a → reg t x = reg s x
  frame : t = { s with regs := t.regs }

theorem writesOnly_self (a : Nat) (s : State) : WritesOnly a (reg s a) s s := ⟨rfl, fun _ _ => rfl, rfl⟩

theorem writesOnly_setReg (a : Nat) (w : Word) (s : State) : WritesOnly a w s (setReg a w s) :=
  ⟨reg_setReg_same .., fun _ h => reg_setReg_other h .., rfl⟩

/-- Setting a register as a new SCLK cycle's record starts. -/
theorem writesOnly_setReg_freshCycle (a : Nat) (w : Word) (s : State) :
    WritesOnly a w s (setReg a w { s with regs := freshCycle s }) :=
  ⟨reg_setReg_same .., fun _ h => by simp [reg_setReg_other h], rfl⟩

theorem writesOnly_clearWrite (a : Nat) (v : Word) (s : State) :
    WritesOnly a (afterClear s a v) s (clearWrite a v s) := writesOnly_setReg_freshCycle a _ s

/-- Without RW bits a write merges nothing into a word. -/
theorem merge_none (w v : Word) : (w &&& ~~~ word 0) ||| (v &&& word 0) = w := by
  rw [show word 0 = 0#32 from rfl, BitVec.not_zero, BitVec.and_allOnes, BitVec.and_zero, BitVec.or_zero]

section PlainWrite

variable {r : RegRow} {s : State} (hh : r.half = .one) (hstop : r.stop = true → s.seq.state = .stopped)
include hh hstop

/-- The kinds of 32-bit register: counters, W1C words, read-only words and RW words. -/
theorem plainWrite_one (b : Blk) (i a : Nat) (v : Word) : plainWrite b i a r v s =
    if r.ctr then (if r.rw = 0 then s else counterWrite a v s)
    else if r.w1c ≠ 0 then clearWrite a (v &&& word r.w1c) s
    else if r.rw = 0 then s
    else setReg a ((reg s a &&& ~~~ (word r.rw)) ||| (v &&& word r.rw)) s := by
  have hopen : (r.stop && !isStopped s) = false := by
    cases hs : r.stop with
    | false => rfl
    | true => simp [isStopped, hstop hs]
  simp only [plainWrite, hh, hopen, reduceCtorEq, false_and, if_false, Bool.false_eq_true]

theorem writesOnly_plainWrite (b : Blk) (i a : Nat) (v : Word) :
    WritesOnly a (afterPlain r a v s) s (plainWrite b i a r v s) := by
  rw [plainWrite_one hh hstop, afterPlain]
  split_ifs with hctr hrw hw hrw
  · exact writesOnly_self a s
  · exact writesOnly_setReg_freshCycle a _ s
  · exact writesOnly_clearWrite a _ s
  · rw [hrw, merge_none]
    exact writesOnly_self a s
  · exact writesOnly_setReg a _ s

end PlainWrite

section RegWrite

variable {a i : Nat} {b : Blk} {r : RegRow} {v : Word} {s : State} (hr : rowOf a = some r)
include hr

/-- A register of the common header beside BLK_CONTROL has no rule of its own. -/
theorem regWrite_header (hoff : a % 0x1000 < 0x100) (hctl : a % 0x1000 ≠ 0x00C) :
    regWrite b i a v s = plainWrite b i a r v s := by
  simp only [regWrite, hr, hctl, hoff, if_true, if_false]

theorem regWrite_plain (hoff : 0x100 ≤ a % 0x1000) (hown : ownWrite b i (a % 0x1000) v s = none) :
    regWrite b i a v s = plainWrite b i a r v s := by
  have hctl : a % 0x1000 ≠ 0x00C := by omega
  simp only [regWrite, hr, hctl, Nat.not_lt.mpr hoff, hown, if_false, Option.getD_none]

theorem regWrite_own {t : State} (hoff : 0x100 ≤ a % 0x1000) (hown : ownWrite b i (a % 0x1000) v s = some t) :
    regWrite b i a v s = t := by
  have hctl : a % 0x1000 ≠ 0x00C := by omega
  simp only [regWrite, hr, hctl, Nat.not_lt.mpr hoff, hown, if_false, Option.getD_some]

end RegWrite

/-! ## PCIE_REMOTE_PENDING (R519, R520) -/

/-- A clearing write is a W1C write, and vector 4 is signalled when bits are left (R519). -/
theorem remoteClear_cases (high : Bool) (v : Word) (s : State) :
    let t := clearWrite (Reg.PCIE_REMOTE_PENDING + (if high then 4 else 0)) v s
    remoteClear high v s = t ∨ remoteClear high v s = msix 4 t := ite_eq_or_eq ..

/-- Beside its W1C write a clearing write changes no register but the pending bits of the MSI-X vectors. -/
theorem reg_remoteClear {x : Nat} (h : x ≠ 0xAC00) (high : Bool) (v : Word) (s : State) :
    reg (remoteClear high v s) x = reg (clearWrite (Reg.PCIE_REMOTE_PENDING + (if high then 4 else 0)) v s) x := by
  obtain hc | hc := remoteClear_cases high v s
  · rw [hc]
  · rw [hc, reg_msix (by decide) h]

/-- A clearing write leaves the log, the memories and the host interface alone. -/
theorem remoteClear_frame (high : Bool) (v : Word) (s : State) :
    (remoteClear high v s).log = s.log ∧ (remoteClear high v s).mem = s.mem ∧
      (remoteClear high v s).host = s.host := by
  obtain hc | hc := remoteClear_cases high v s <;> simp [hc, clearWrite_eq]

/-- No word of PCIE_REMOTE_PENDING is the word of MSI-X pending bits that vector 4 has. -/
theorem remotePending_ne_msix (k : Nat) (h : k ≤ 1) : Reg.PCIE_REMOTE_PENDING + 4 * k ≠ 0xAC00 := by
  show 0xA108 + 4 * k ≠ 0xAC00
  omega

/-- A notice sets the sender's bit in its word (R520). -/
theorem reg_remoteNotice_same (m : Nat) (hm : m < 64) (s : State) :
    reg (remoteNotice m s) (Reg.PCIE_REMOTE_PENDING + 4 * (m / 32)) =
      reg s (Reg.PCIE_REMOTE_PENDING + 4 * (m / 32)) ||| word (2 ^ (m % 32)) := by
  simp only [remoteNotice]
  split
  · rw [reg_hwSetBits_same]
  · rw [reg_msix (by decide) (remotePending_ne_msix _ (by omega)), reg_hwSetBits_same]

/-- A notice changes no other register but the pending bits of the MSI-X vectors. -/
theorem reg_remoteNotice_other {m x : Nat} (h : x ≠ Reg.PCIE_REMOTE_PENDING + 4 * (m / 32)) (h' : x ≠ 0xAC00)
    (s : State) : reg (remoteNotice m s) x = reg s x := by
  simp only [remoteNotice]
  split
  · rw [reg_hwSetBits_other h]
  · rw [reg_msix (by decide) h', reg_hwSetBits_other h]

theorem remoteNotice_frame (m : Nat) (s : State) :
    (remoteNotice m s).log = s.log ∧ (remoteNotice m s).mem = s.mem ∧ (remoteNotice m s).host = s.host := by
  simp only [remoteNotice]
  split <;> simp

/-! ## Accepting a numbered frame (R486) -/

/-- Of the registers, accepting a frame counts its bytes on its port. -/
theorem reg_accept {p x : Nat} (h : x ≠ shawmReg p 0x124) (h' : x ≠ shawmReg p 0x124 + 4) (n : Nat) (s : State) :
    reg (accept p n s) x = reg s x := by
  simp only [accept, sendAck]
  split
  · rw [reg_emit, reg_setPort, reg_bump64_other h h', reg_setPort]
  · rw [reg_bump64_other h h', reg_setPort]

theorem accept_frame (p n : Nat) (s : State) :
    (accept p n s).log = s.log ∧ (accept p n s).mem = s.mem ∧ (accept p n s).host = s.host := by
  simp only [accept, sendAck]
  split <;> simp

/-! ## The registers with W1C bits -/

theorem covers_word {r : RegRow} (hc : r.count = 1) (hs : r.stride = 4) {off : Nat} (h : r.covers off = true) :
    off = r.off := by
  simp only [RegRow.covers, hc, hs, Bool.and_eq_true, decide_eq_true_eq, beq_iff_eq] at h
  omega

/-- The row of EVT_PENDING in the common header. -/
def evtPendingRow : RegRow := { off := 0x018, w1c := 0x1F }

/-- The row of BCAST_STATUS. -/
def bcastStatusRow : RegRow := { off := 0x510, w1c := 0x80000000 }

/-- The row of a word of PCIE_REMOTE_PENDING. -/
def remotePendingRow (high : Bool) : RegRow :=
  { off := if high then 0x10C else 0x108, w1c := 0xFFFFFFFF, half := if high then .high else .low }

theorem headerRows_w1c : ∀ r ∈ headerRows, r.w1c ≠ 0 → r = evtPendingRow := by decide

theorem blkRows_w1c (b : Blk) : ∀ r ∈ blkRows b, r.w1c ≠ 0 →
    (b = .global ∧ r = bcastStatusRow) ∨ (b = .pcie ∧ ∃ high, r = remotePendingRow high) := by
  cases b <;> decide +kernel

/-- EVT_PENDING of every page, BCAST_STATUS and PCIE_REMOTE_PENDING are the registers with W1C bits. -/
theorem rowOf_w1c {a i : Nat} {b : Blk} {r : RegRow} (hb : pageBlk (a / 0x1000) = some (b, i)) (hr : rowOf a = some r)
    (hw : r.w1c ≠ 0) :
    (a % 0x1000 = 0x018 ∧ r = evtPendingRow) ∨ (b = .global ∧ a % 0x1000 = 0x510 ∧ r = bcastStatusRow) ∨
      (b = .pcie ∧ ∃ high, a % 0x1000 = (if high then 0x10C else 0x108) ∧ r = remotePendingRow high) := by
  simp only [rowOf, hb] at hr
  have hcov := List.find?_some hr
  have hmem := List.mem_of_find?_eq_some hr
  split at hmem
  · have hrow := headerRows_w1c r hmem hw
    subst hrow
    exact .inl ⟨covers_word rfl rfl hcov, rfl⟩
  · obtain ⟨hglobal, rfl⟩ | ⟨hpcie, high, rfl⟩ := blkRows_w1c b r hmem hw
    · exact .inr (.inl ⟨hglobal, covers_word rfl rfl hcov, rfl⟩)
    · exact .inr (.inr ⟨hpcie, high, covers_word rfl rfl hcov, rfl⟩)

/-- Of the blocks with one page each before the housekeeping controllers', page 0xA is PCIE's. -/
theorem singleBlks_pcie {p : Nat} (hp : p < 0x00C) :
    [Blk.global, .seq, .hawk, .atlas, .breath, .therm, .drone, .evtlog, .nvrec, .secure, .pcie, .tunnel].getD p .global =
      .pcie → p = 0xA := by
  interval_cases p <;> decide

/-- None of the eight blocks of a Luna die is PCIE. -/
theorem lunaBlks_ne_pcie (k : Nat) :
    [Blk.core, .map, .piccolo, .refresh, .colcal, .tensor, .spad, .windows].getD (k % 8) .core ≠ .pcie := by
  have hk : k % 8 < 8 := Nat.mod_lt _ (by decide)
  interval_cases k % 8 <;> decide

/-- A choice of two pages' blocks is not a block that neither is. -/
theorem ite_blk_ne {c : Prop} [Decidable c] {x y : Option (Blk × Nat)} {b : Blk} (hx : ∀ i, x ≠ some (b, i))
    (hy : ∀ i, y ≠ some (b, i)) : ∀ i, (if c then x else y) ≠ some (b, i) := by
  split <;> assumption

theorem pageBlk_ne_pcie {p : Nat} (hp : ¬ p < 0x00C) : ∀ i, pageBlk p ≠ some (.pcie, i) := by
  rw [pageBlk, if_neg hp]
  refine ite_blk_ne ?hkcLuna (ite_blk_ne ?hkcHub (ite_blk_ne ?luna (ite_blk_ne ?hbm (ite_blk_ne ?hubspad
    (ite_blk_ne ?shawm (ite_blk_ne ?eth (ite_blk_ne ?roce (ite_blk_ne ?shippark ?unmapped))))))))
  case luna => exact fun _ h => lunaBlks_ne_pcie p (congrArg Prod.fst (Option.some.inj h))
  all_goals simp

/-- Page 0xA is the only one of the PCIE block (R586). -/
theorem pageBlk_pcie {p i : Nat} (h : pageBlk p = some (.pcie, i)) : p = 0xA := by
  by_cases hp : p < 0x00C
  · rw [pageBlk, if_pos hp] at h
    exact singleBlks_pcie hp (congrArg Prod.fst (Option.some.inj h))
  · exact absurd h (pageBlk_ne_pcie hp i)

/-! ## The race of a hardware set and a clearing write (R13) -/

/-- A write of a register with W1C bits leaves of it what a W1C write leaves. -/
theorem reg_regWrite_w1c {a i : Nat} {b : Blk} {r : RegRow} (hb : pageBlk (a / 0x1000) = some (b, i))
    (hr : rowOf a = some r) (hw : r.w1c ≠ 0) (v : Word) (s : State) :
    reg (regWrite b i a v s) a = afterClear s a (v &&& word r.w1c) := by
  obtain ⟨hoff, rfl⟩ | ⟨rfl, hoff, rfl⟩ | ⟨rfl, high, hoff, rfl⟩ := rowOf_w1c hb hr hw
  · rw [regWrite_header hr (by omega) (by omega)]
    exact (writesOnly_plainWrite rfl (by simp [evtPendingRow]) b i a v).same
  · rw [regWrite_plain hr (by omega) (by rw [hoff]; rfl)]
    exact (writesOnly_plainWrite rfl (by simp [bcastStatusRow]) .global i a v).same
  · have ha : a = Reg.PCIE_REMOTE_PENDING + (if high then 4 else 0) := by
      have hpage := pageBlk_pcie hb
      have hsplit := Nat.div_add_mod a 0x1000
      rw [hpage, hoff] at hsplit
      cases high <;> exact hsplit.symm
    have hown : ownWrite .pcie i (a % 0x1000) v s = some (remoteClear high v s) := by
      rw [hoff]
      cases high <;> rfl
    have hpast : 0x100 ≤ a % 0x1000 := by
      rw [hoff]
      cases high <;> decide
    have hne : a ≠ 0xAC00 := by
      rintro rfl
      cases high <;> cases hoff
    have hmask : v &&& word (remotePendingRow high).w1c = v := BitVec.and_allOnes
    rw [regWrite_own hr hpast hown, reg_remoteClear hne, ← ha, (writesOnly_clearWrite a v s).same, hmask]

/-- Bits set in a word and in what a clearing write keeps are set after it. -/
theorem set_survives_clear (w c k m : Word) : ((w ||| m) &&& (c ||| (k ||| m))) &&& m = m := by
  ext i hi
  cases hm : m[i] <;> simp [hm]

/-- Bits set in a word are set. -/
theorem or_and_self_right (w m : Word) : (w ||| m) &&& m = m := by
  ext i hi
  cases hm : m[i] <;> simp [hm]

/-- What a host may do does not rest on the registers that the hardware sets. -/
theorem hostMay_hwSetBits {page : Nat} {s : State} (h : HostMay page s) (a : Nat) (m : Word) :
    HostMay page (hwSetBits a m s) := by
  simpa [HostMay, hostActs] using h

/-- Settles O54: the set is either on the cycle's record, which the write keeps, or comes after the write. -/
theorem clearRace : Obligations.ClearRace := by
  unfold Obligations.ClearRace
  intro dt addr v m s r hm hd h4 hlt hr hw hcycle
  obtain ⟨b, i, hb⟩ := pageBlk_of_rowOf hr
  constructor
  · refine ⟨_, exec_registerWrite_regWrite (hostMay_hwSetBits hm addr.toNat m) (by simpa using hd) h4 hlt hb dt v, ?_⟩
    rw [reg_mk, readReg_regs, reg_regWrite_w1c hb hr hw, afterClear, reg_advance, reg_hwSetBits_same,
      hwSet_freshCycle_hwSetBits hcycle]
    exact set_survives_clear ..
  · refine ⟨_, exec_registerWrite_regWrite hm hd h4 hlt hb dt v, ?_⟩
    rw [reg_hwSetBits_same]
    exact or_and_self_right ..

/-! ## Event notices -/

/-- The pending bits of the lead's PCIE page are no registers of a Shawm port. -/
theorem reg_accept_remotePending (p n k : Nat) (hk : k ≤ 1) (s : State) :
    reg (accept p n s) (Reg.PCIE_REMOTE_PENDING + 4 * k) = reg s (Reg.PCIE_REMOTE_PENDING + 4 * k) := by
  have hlow : Reg.PCIE_REMOTE_PENDING + 4 * k < shawmReg p 0x124 := by
    simp only [Reg.PCIE_REMOTE_PENDING, shawmReg, ra, pgShawm]
    omega
  exact reg_accept (by omega) (by omega) n s

/-- On the lead, a notice of a known severity that arrives on an up port is accepted and noted. -/
theorem exec_eventNotice_noted {s : State} {src : BitVec 6} {sev : BitVec 3} (hclk : Clocked s)
    (hlead : isLead s = true) (hup : (portOf s (arrivalPort s src.toNat)).up = true) (hsev : sev.toNat < 5)
    (dt : Nat) (code : BitVec 16) :
    exec (.eventNotice dt src code sev) s = .next
      { remoteNotice src.toNat (accept (arrivalPort s src.toNat) 0 (advance dt s)) with pending := s.pending } := by
  have hlead' : isLead (advance dt s) = true := hlead
  have hport : arrivalPort (advance dt s) src.toNat = arrivalPort s src.toNat := rfl
  have hup' : (portOf (advance dt s) (arrivalPort s src.toNat)).up = true := hup
  have hknown : ¬ (5 ≤ sev.toNat ∨ code.toNat / 0x10000 ≠ 0) := by
    have := code.isLt
    omega
  refine (act_on hclk dt _).trans ?_
  simp only [hlead', hport, receive, hup', hknown, if_true, if_false]

/-- Settles O31: the frame is accepted and the notice sets the sender's bit; a clearing write is a W1C write. -/
theorem remoteNotices : Obligations.RemoteNotices := by
  unfold Obligations.RemoteNotices
  refine ⟨fun dt src code sev s hclk hlead hup hsev => ?_, fun dt high v s hm => ?_⟩
  · have hsrc : src.toNat < 64 := src.isLt
    obtain ⟨hlog, hmem, hhost⟩ := remoteNotice_frame src.toNat (accept (arrivalPort s src.toNat) 0 (advance dt s))
    obtain ⟨hlog', hmem', hhost'⟩ := accept_frame (arrivalPort s src.toNat) 0 (advance dt s)
    refine ⟨_, exec_eventNotice_noted hclk hlead hup hsev dt code, ?_, ?_, ?_, .of_eq ?_ ?_⟩
    · rw [reg_mk, readReg_regs, reg_remoteNotice_same _ hsrc, reg_accept_remotePending _ _ _ (by omega), reg_advance]
    · rw [reg_mk, readReg_regs, reg_remoteNotice_other (by omega) (remotePending_ne_msix _ (by omega)),
        reg_accept_remotePending _ _ _ (by omega), reg_advance]
    · exact hlog.trans (hlog'.trans (advance_log dt s))
    · exact hmem.trans (hmem'.trans (advance_mem dt s))
    · rw [hhost, hhost', advance_host]
  · obtain ⟨hlog, hmem, hhost⟩ := remoteClear_frame high v (advance dt s)
    have hwrite := writesOnly_clearWrite (Reg.PCIE_REMOTE_PENDING + (if high then 4 else 0)) v (advance dt s)
    refine ⟨_, actHost_on hm dt _, ?_, fun x hx hx' => ?_, ?_, .of_eq ?_ ?_⟩
    · rw [reg_mk, readReg_regs, reg_remoteClear (by cases high <;> decide), hwrite.same, afterClear, reg_advance]
    · rw [reg_mk, readReg_regs, reg_remoteClear hx', hwrite.other x hx, reg_advance]
    · exact hlog.trans (advance_log dt s)
    · exact hmem.trans (advance_mem dt s)
    · rw [hhost, advance_host]

/-! ## Host accesses -/

/-- An access that is not aligned is counted and raises its event (R514). -/
theorem accessInvalid_write (offset : Nat) (s : State) : accessInvalid 0 offset 4 true s =
    raise 0xA Evt.PCIE_ACCESS_INVALID (offset * 2 ^ 2 + 4 * 2 ^ 34 + 2 ^ 41)
      (bump Reg.PCIE_ACCESS_INVALID_COUNT 1 s) := by
  simp [accessInvalid, one]

/-- The count of invalid accesses is no register that an event of the PCIE page changes. -/
theorem eventReg_accessInvalidCount : eventReg 0xA Reg.PCIE_ACCESS_INVALID_COUNT = false := by decide

/-- With power and in D0, an aligned read below the large windows answers the host with what it reads. -/
theorem exec_reg64LowRead_answer {s : State} {addr : BitVec 26} (hp : s.clk.powered = true) (hd : s.host.d3hot = false)
    (h4 : addr.toNat % 4 = 0) (hlt : addr.toNat < 0x400000) (dt : Nat) :
    exec (.reg64LowRead dt addr) s =
      .next { answer (localRead addr.toNat (advance dt s)) with pending := s.pending } := by
  rw [exec_reg64LowRead hp, hostRead_local (by simpa using hd) h4 hlt]

theorem pageAnswers_advance (dt page : Nat) (s : State) : pageAnswers (advance dt s) page = pageAnswers s page := by
  simp only [pageAnswers, advance_boot]

/-- The held high words are no registers. -/
@[simp] theorem readReg_holdHigh (r : RegFile) (h : SMap Word) (a : Nat) :
    readReg { r with holdHigh := h } a = readReg r a := rfl

/-- What a read leaves when it answers a word and changes the held high words: the answer, and nothing else. -/
theorem answer_holdHigh_frame (w : Word) (h : SMap Word) (dt : Nat) (s : State) :
    let u := advance dt s
    let t : State :=
      { answer (w, { u with regs := { u.regs with holdHigh := h } }) with pending := s.pending }
    (∀ x, reg t x = reg s x) ∧ t.log = s.log ∧ SameMemory s t ∧ t.out = s.out ++ [.hostData w] ∧
      t.regs.holdHigh = h := by
  refine ⟨fun x => ?_, ?_, .of_eq ?_ ?_, ?_, ?_⟩ <;> simp [answer, emit]

/-- A read's answer of zero changes only what has been sent. -/
theorem answerZero_frame (write : Bool) (u : State) :
    let t := if write then u else emit (.hostData 0) u
    t.regs = u.regs ∧ t.log = u.log ∧ t.mem = u.mem ∧ t.host = u.host ∧
      t.out = u.out ++ (if write then [] else [.hostData 0]) := by
  cases write <;> simp [emit]

/-- An access of an unmapped page is counted, and a read of it answers zero (R586). -/
theorem exec_unmappedAccess_counts {s : State} {addr : BitVec 26} (hp : s.clk.powered = true)
    (hd : s.host.d3hot = false) (h4 : addr.toNat % 4 = 0) (hlt : addr.toNat < 0x400000)
    (hu : pageBlk (addr.toNat / 0x1000) = none) (dt : Nat) (write : Bool) :
    let u := bump Reg.GLOBAL_UNMAPPED_COUNT 1 (advance dt s)
    exec (.unmappedAccess dt addr write) s =
      .next { (if write then u else emit (.hostData 0) u) with pending := s.pending } := by
  have hd' : (advance dt s).host.d3hot = false := by simpa using hd
  rw [exec_unmappedAccess hp h4 hlt hu, hostWrite_local hd' h4 hlt, hostRead_local hd' h4 hlt,
    localWrite_unmapped hlt hu, localRead_unmapped hlt hu]
  rfl

/-- An access of an unmapped page changes its count alone (R586). -/
theorem exec_unmappedAccess_frame {s : State} {addr : BitVec 26} (hp : s.clk.powered = true)
    (hd : s.host.d3hot = false) (h4 : addr.toNat % 4 = 0) (hlt : addr.toNat < 0x400000)
    (hu : pageBlk (addr.toNat / 0x1000) = none) (dt : Nat) (write : Bool) :
    ∃ t, exec (.unmappedAccess dt addr write) s = .next t ∧
      reg t Reg.GLOBAL_UNMAPPED_COUNT = satAdd (reg s Reg.GLOBAL_UNMAPPED_COUNT) 1 ∧
      (∀ x, x ≠ Reg.GLOBAL_UNMAPPED_COUNT → reg t x = reg s x) ∧
      t.out = s.out ++ (if write then [] else [.hostData 0]) ∧ t.log = s.log ∧ SameMemory s t := by
  have hexec := exec_unmappedAccess_counts hp hd h4 hlt hu dt write
  obtain ⟨hregs, hlog, hmem, hhost, hout⟩ :=
    answerZero_frame write (bump Reg.GLOBAL_UNMAPPED_COUNT 1 (advance dt s))
  refine ⟨_, hexec, ?_, fun x hx => ?_, ?_, ?_, .of_eq ?_ ?_⟩
  · rw [reg_mk, readReg_regs, reg_of_regs hregs, reg_bump_same, reg_advance]
  · rw [reg_mk, readReg_regs, reg_of_regs hregs, reg_bump_other hx, reg_advance]
  · exact hout.trans (by simp)
  · exact hlog.trans (by simp)
  · exact hmem.trans (by simp)
  · rw [hhost]; simp

/-- A write that is not aligned is counted and logged as invalid (R514). -/
theorem exec_registerWrite_unaligned {s : State} {addr : BitVec 26} (hp : s.clk.powered = true)
    (hd : s.host.d3hot = false) (h4 : addr.toNat % 4 ≠ 0) (dt : Nat) (v : Word) :
    ∃ t, exec (.registerWrite dt addr v) s = .next t ∧
      reg t Reg.PCIE_ACCESS_INVALID_COUNT = satAdd (reg s Reg.PCIE_ACCESS_INVALID_COUNT) 1 ∧
      Logged 0xA Evt.PCIE_ACCESS_INVALID (addr.toNat * 2 ^ 2 + 4 * 2 ^ 34 + 2 ^ 41) s t ∧
      SameRegsBut 0xA [Reg.PCIE_ACCESS_INVALID_COUNT] s t ∧ SameMemory s t := by
  rw [exec_registerWrite hp, hostWrite_unaligned (by rwa [advance_host]) h4, accessInvalid_write]
  refine ⟨_, rfl, ?_, ?_, fun x hx hx' => ?_, .of_eq (by simp) (by simp)⟩
  · rw [reg_mk, readReg_regs, reg_raise (by decide) eventReg_accessInvalidCount, reg_bump_same, reg_advance]
  · exact logged_raiseFor (by decide) (by simp) (by rw [reg_bump_other (by decide), reg_advance]) rfl rfl
  · rw [reg_mk, readReg_regs, reg_raise (by decide) hx, reg_bump_other (by simpa using hx'), reg_advance]

/-- A write of a 32-bit register without a rule of its own changes that register alone. -/
theorem exec_registerWrite_plain {s : State} {addr : BitVec 26} {b : Blk} {i : Nat} {r : RegRow} {v : Word} {dt : Nat}
    (hm : HostMay (addr.toNat / 0x1000) s) (hd : s.host.d3hot = false) (h4 : addr.toNat % 4 = 0)
    (hlt : addr.toNat < 0x400000) (hb : pageBlk (addr.toNat / 0x1000) = some (b, i)) (hr : rowOf addr.toNat = some r)
    (hoff : 0x100 ≤ addr.toNat % 0x1000) (hown : ownWrite b i (addr.toNat % 0x1000) v (advance dt s) = none)
    (hstop : r.stop = true → s.seq.state = .stopped) (hh : r.half = .one) :
    ∃ t, exec (.registerWrite dt addr v) s = .next t ∧ reg t addr.toNat = afterPlain r addr.toNat v (advance dt s) ∧
      (∀ x, x ≠ addr.toNat → reg t x = reg s x) ∧ t.log = s.log ∧ t.seq = s.seq ∧ SameMemory s t := by
  have hexec := exec_registerWrite_regWrite hm hd h4 hlt hb dt v
  rw [regWrite_plain hr hoff hown] at hexec
  obtain ⟨hsame, hother, hframe⟩ :=
    writesOnly_plainWrite hh (s := advance dt s) (by rwa [advance_seq]) b i addr.toNat v
  refine ⟨_, hexec, ?_, fun x hx => ?_, ?_, ?_, .of_eq ?_ ?_⟩
  · rw [reg_mk, readReg_regs, hsame]
  · rw [reg_mk, readReg_regs, hother x hx, reg_advance]
  all_goals rw [hframe]; simp

/-- Settles O42, by the form of access: writes of plain registers, reads of 32-bit words and of both halves of a 64-bit
register, accesses that are not mapped or not aligned, and D3hot. -/
theorem registerAccess : Obligations.RegisterAccess := by
  unfold Obligations.RegisterAccess
  refine ⟨?_, ?_, ?_, ?_, ?_, ?_, ?_⟩
  · intro dt addr v s b i r hm hd h4 hlt hb hr hoff hown hstop hh
    obtain ⟨t, hexec, hsame, hframe⟩ := exec_registerWrite_plain hm hd h4 hlt hb hr hoff hown hstop hh
    refine ⟨t, hexec, ?_, hframe⟩
    simpa only [afterPlain, afterClear, reg_advance] using hsame
  · intro dt addr s r hp hd h4 hlt hans hr hh
    rw [exec_reg64LowRead_answer hp hd h4 hlt, localRead_one hlt (by rwa [pageAnswers_advance]) hr hh]
    rfl
  · intro dt addr s r hp hd h4 hlt hans hr hh
    have hexec := exec_reg64LowRead_answer hp hd h4 hlt dt
    rw [localRead_low hlt (by rwa [pageAnswers_advance]) hr hh] at hexec
    obtain ⟨hreg, hlog, hmem, hout, hheld⟩ := answer_holdHigh_frame _ _ dt s
    exact ⟨_, hexec, hreg, hlog, hmem, hout, by rw [hheld, find?_mput_same]⟩
  · intro dt addr s r w hp hd h4 hlt hans hr hh hw
    have hexec := exec_reg64LowRead_answer hp hd h4 hlt dt
    rw [localRead_high_held hlt (by rwa [pageAnswers_advance]) hr hh (by rwa [advance_regs])] at hexec
    obtain ⟨hreg, hlog, hmem, hout, hheld⟩ := answer_holdHigh_frame _ _ dt s
    exact ⟨_, hexec, hreg, hlog, hmem, hout, by rw [hheld, find?_mdel_same]⟩
  · intro dt addr write s hp hd h4 hlt hu
    exact exec_unmappedAccess_frame hp hd h4 hlt hu dt write
  · intro dt addr v s hp hd h4
    exact exec_registerWrite_unaligned hp hd h4 dt v
  · intro dt addr v s hp hd
    have hd' : (advance dt s).host.d3hot = true := by simpa using hd
    rw [exec_registerWrite hp, exec_reg64LowRead hp, hostWrite_d3hot hd', hostRead_d3hot hd', advance_keeps_queue]
    exact ⟨rfl, rfl⟩

end Sys2Proof.Machine

/-! PROOFS of the family 01_device_organisation. Die-to-die links (R24 to R29), clock faults (R33, R34), the shutdown
record (R476) and PREPARE_OFF (R570): what each command does to the registers, the log and the record area, and what it
leaves alone. -/

namespace Sys2Proof.Machine

open Sys2Proof.Map

/-! ## Commands that write a register and raise an event -/

/-- What an event reads and changes beside the frames sent, with the memories. -/
def eventView (s : State) : Log × RegFile × Seq × Mem × Hostif := (s.log, s.regs, s.seq, s.mem, s.host)

theorem regs_of_eventView {s t : State} (h : eventView t = eventView s) : t.regs = s.regs :=
  congrArg (fun v => v.2.1) h

/-- Between two states an event of a page was raised: it is logged, it stops issue where it is FATAL (R272), of the
registers it changes its own, beside those written with it, and the memories stay. -/
structure RaisesEvent (page code detail : Nat) (written : List Nat) (s t : State) : Prop where
  logged : Logged page code detail s t
  fatal : t.seq.fatal = if Evt.sevOf code = 4 ∧ s.seq.fatal = none then some code else s.seq.fatal
  regs : SameRegsBut page written s t
  memory : SameMemory s t

section RaisesEvent

variable {page code detail a : Nat} {w : Word} {written : List Nat} {s s' t t' u : State}

theorem raisesEvent_raise (hc : code < 0x10000) (page detail : Nat) (s : State) :
    RaisesEvent page code detail [] s (raise page code detail s) where
  logged := raise_logged hc detail s
  fatal := raiseFor_fatal ..
  regs := fun _ ha _ => reg_raise hc ha detail s
  memory := .of_eq (raise_mem ..) (by rw [raise_host])

/-- The rest of a state has no part in an event. -/
theorem RaisesEvent.congr (h : RaisesEvent page code detail written s t) (hs : eventView s' = eventView s)
    (ht : eventView t' = eventView t) : RaisesEvent page code detail written s' t' := by
  simp only [eventView, Prod.mk.injEq] at hs ht
  obtain ⟨hlog, hregs, hseq, hmem, hhost⟩ := hs
  obtain ⟨hlog', hregs', hseq', hmem', hhost'⟩ := ht
  constructor
  case logged => exact h.logged.congr (by rw [hlog]) (reg_of_regs hregs _) (by rw [hlog']) (reg_of_regs hregs' _)
  case fatal => rw [hseq', hseq, h.fatal]
  case regs =>
    intro a ha hw
    rw [reg_of_regs hregs', reg_of_regs hregs, h.regs a ha hw]
  case memory =>
    exact .trans (.of_eq hmem.symm (by rw [hhost])) (h.memory.trans (.of_eq hmem' (by rw [hhost'])))

theorem WritesOnly.keeps (h : WritesOnly a w s t) :
    t.log = s.log ∧ t.seq = s.seq ∧ t.nvm = s.nvm ∧ SameMemory s t := by
  rw [h.frame]
  exact ⟨rfl, rfl, rfl, .of_eq rfl rfl⟩

theorem WritesOnly.trans {w' : Word} (h : WritesOnly a w s t) (h' : WritesOnly a w' t u) : WritesOnly a w' s u where
  same := h'.same
  other := fun x hx => (h'.other x hx).trans (h.other x hx)
  frame := by rw [h'.frame, h.frame]

theorem writesOnly_updReg (a : Nat) (f : Word → Word) (s : State) : WritesOnly a (f (reg s a)) s (updReg a f s) :=
  writesOnly_setReg a _ s

/-- An event of a command, raised after time has passed. -/
theorem RaisesEvent.ofAdvance {dt : Nat} {q : List Instr} (h : RaisesEvent page code detail written (advance dt s) t) :
    RaisesEvent page code detail written s { t with pending := q } := h.congr rfl rfl

/-- A register written before an event is raised. -/
theorem RaisesEvent.afterWrite (h : RaisesEvent page code detail [] u t) (hw : WritesOnly a w s u)
    (ha : eventReg page a = false) : RaisesEvent page code detail [a] s t := by
  obtain ⟨hlog, hseq, -, hmem⟩ := hw.keeps
  constructor
  case logged => exact h.logged.congr (by rw [hlog]) (hw.other _ (eventReg_false ha).2.symm).symm rfl rfl
  case fatal => rw [h.fatal, hseq]
  case regs => exact fun x hx hxa => (h.regs x hx List.not_mem_nil).trans (hw.other x (by simpa using hxa))
  case memory => exact hmem.trans h.memory

/-- A register written after an event was raised. -/
theorem RaisesEvent.thenWrite (h : RaisesEvent page code detail [] s u) (hw : WritesOnly a w u t)
    (ha : eventReg page a = false) : RaisesEvent page code detail [a] s t := by
  obtain ⟨hlog, hseq, -, hmem⟩ := hw.keeps
  constructor
  case logged => exact h.logged.congr rfl rfl (by rw [hlog]) (hw.other _ (eventReg_false ha).2.symm)
  case fatal => rw [hseq, h.fatal]
  case regs => exact fun x hx hxa => (hw.other x (by simpa using hxa)).trans (h.regs x hx List.not_mem_nil)
  case memory => exact h.memory.trans hmem

/-- A FATAL event stops issue where nothing has stopped it yet. -/
theorem RaisesEvent.stops (h : RaisesEvent page code detail written s t) (hsev : Evt.sevOf code = 4)
    (hnone : s.seq.fatal = none) : t.seq.fatal = some code := by
  rw [h.fatal, if_pos ⟨hsev, hnone⟩]

end RaisesEvent

/-! ## Die-to-die links (R24 to R29) -/

/-- No register of a link is one that an event of GLOBAL changes. -/
theorem eventReg_linkReg : ∀ l < 20, eventReg 0 (linkReg l) = false := by decide

/-- A replay is counted in the link's register and for the breath, and changes nothing else. -/
theorem d2dReplay_frame (l : Nat) (s : State) :
    let t := d2dReplay l s
    reg t (0x260 + 4 * l) = satAdd (reg s (0x260 + 4 * l)) 1 ∧
      (∀ a, a ≠ 0x260 + 4 * l → reg t a = reg s a) ∧
      t = { s with regs := t.regs, log := { s.log with breathCount := t.log.breathCount } } ∧
      mget 0 t.log.breathCount (Evt.D2D_REPLAY * 2 ^ 32 + l) =
        mget 0 s.log.breathCount (Evt.D2D_REPLAY * 2 ^ 32 + l) + 1 := by
  refine ⟨?_, fun a ha => ?_, rfl, ?_⟩
  · rw [d2dReplay, reg_collect, reg_bump_same]
  · rw [d2dReplay, reg_collect, reg_bump_other ha]
  · simp only [d2dReplay, collect, mget_mupd_same, bump_log]

theorem exec_d2dFlitReplay {s : State} (h : Clocked s) (dt : Nat) (link : Fin 20) :
    exec (.d2dFlitReplay dt link) s = .next { d2dReplay link (advance dt s) with pending := s.pending } :=
  act_on h dt _

/-- Settles O51: the replay's two counts are all that it changes. -/
theorem flitReplayInvisible : Obligations.FlitReplayInvisible := by
  unfold Obligations.FlitReplayInvisible
  intro dt link s hclk
  obtain ⟨hsame, hother, hframe, -⟩ := d2dReplay_frame link (advance dt s)
  refine ⟨_, exec_d2dFlitReplay hclk dt link, ?_, fun a ha => ?_, ?_⟩
  · rw [reg_mk, readReg_regs, hsame, reg_advance]
  · rw [reg_mk, readReg_regs, hother a ha, reg_advance]
  · rw [hframe]
    exact ⟨rfl, rfl, rfl, rfl, rfl, rfl, rfl⟩

/-- A link that goes down loses its UP bit and raises its event. -/
theorem d2dDown_effect {l : Nat} (hl : l < 20) (seq : Nat) (s : State) :
    RaisesEvent 0 Evt.D2D_LINK_DOWN (l + seq * 2 ^ 8) [linkReg l] s (d2dDown l seq s) ∧
      reg (d2dDown l seq s) (linkReg l) = putFlag (reg s (linkReg l)) 0 false := by
  have hw := writesOnly_updReg (linkReg l) (fun w => putFlag w 0 false) s
  refine ⟨(raisesEvent_raise (by decide) ..).afterWrite hw (eventReg_linkReg l hl), ?_⟩
  rw [d2dDown, reg_raise (by decide) (eventReg_linkReg l hl), hw.same]

/-- LANES_REPAIRED with a link's state: what the end of a training and a repair write. -/
def trainedWord (l state : Nat) (s : State) : Word :=
  putFld (putFld (reg s (linkReg l)) 19 12 (s.nvm.lanes.filter (·.link == l)).length) 2 0 state

theorem trainedWord_state {state : Nat} (h : state < 8) (l : Nat) (s : State) :
    fld (trainedWord l state s) 2 0 = state :=
  (fld_putFld (by decide) ..).trans (Nat.mod_eq_of_lt h)

theorem trainedWord_lanes (l state : Nat) (s : State) :
    fld (trainedWord l state s) 19 12 = (s.nvm.lanes.filter (·.link == l)).length % 2 ^ 8 :=
  (fld_putFld_other (by decide) (by decide) ..).trans (fld_putFld (by decide) ..)

theorem writesOnly_trained (l state : Nat) (s : State) :
    WritesOnly (linkReg l) (trainedWord l state s) s
      (updReg (linkReg l) (fun w => putFld w 2 0 state) (showLanes l s)) := by
  have hlanes : WritesOnly (linkReg l) _ s (showLanes l s) := writesOnly_updReg _ (fun w => putFld w 19 12 _) s
  have htrained := hlanes.trans (writesOnly_updReg (linkReg l) (fun w => putFld w 2 0 state) _)
  rwa [hlanes.same] at htrained

/-- The failed lanes of a link that the stored map does not have (R27). -/
def unmapped (failed : List Lane) (l : Nat) (s : State) : List Lane :=
  (failed.filter (·.link == l)).filter (fun x => !s.nvm.lanes.contains x)

/-- The state with the lanes that a training of a link found failed. -/
def foundFailed (l : Nat) (failed : List Lane) (s : State) : State :=
  { s with boot := { s.boot with
    lanesFailed := s.boot.lanesFailed.filter (·.link != l) ++ failed.filter (·.link == l) } }

/-- A training whose failed lanes are all in the stored map leaves the link up. -/
theorem linkTrained_up {l : Nat} {failed : List Lane} {s : State} (h : unmapped failed l s = []) :
    WritesOnly (linkReg l) (trainedWord l 1 s) (foundFailed l failed s) (linkTrained l failed s) := by
  have hempty : (unmapped failed l s).isEmpty = true := by rw [h]; rfl
  have hexec : linkTrained l failed s =
      updReg (linkReg l) (fun w => putFld w 2 0 1) (showLanes l (foundFailed l failed s)) := if_pos hempty
  rw [hexec]
  exact writesOnly_trained l 1 (foundFailed l failed s)

/-- A training that finds other failed lanes leaves the link untrained and raises its event. -/
theorem linkTrained_fails {l : Nat} {failed : List Lane} {s : State} (hl : l < 20) (h : unmapped failed l s ≠ []) :
    RaisesEvent 0 Evt.D2D_LANE_FAIL (laneFailDetail (unmapped failed l s) l) [linkReg l] s (linkTrained l failed s) ∧
      reg (linkTrained l failed s) (linkReg l) = trainedWord l 2 s ∧ (linkTrained l failed s).nvm = s.nvm := by
  have hempty : ¬ (unmapped failed l s).isEmpty = true := by simpa using h
  have hexec : linkTrained l failed s = raise 0 Evt.D2D_LANE_FAIL (laneFailDetail (unmapped failed l s) l)
      (updReg (linkReg l) (fun w => putFld w 2 0 2) (showLanes l (foundFailed l failed s))) := if_neg hempty
  have hw := writesOnly_trained l 2 (foundFailed l failed s)
  obtain ⟨-, -, hnvm, -⟩ := hw.keeps
  rw [hexec]
  refine ⟨((raisesEvent_raise (by decide) ..).afterWrite hw (eventReg_linkReg l hl)).congr rfl rfl, ?_, ?_⟩
  · rw [reg_raise (by decide) (eventReg_linkReg l hl), hw.same]
    rfl
  · rw [raise_nvm, hnvm]
    rfl

/-- The stored map with the lanes of a link added that were found failed. -/
def mapRepaired (l : Nat) (s : State) : State :=
  { s with nvm := { s.nvm with lanes := s.nvm.lanes ++ unmapped s.boot.lanesFailed l s } }

/-- D2D_REPAIR_CMD with GO = 1 while stopped, where the spare lanes suffice: the map is stored and the link trains. -/
theorem d2dRepairCmd_accepted {v : Word} {s : State} (hl : fld v 4 0 < 20) (hgo : flag v 8 = true)
    (hstop : s.seq.state = .stopped)
    (hspare : lanesExhausted (s.nvm.lanes ++ unmapped s.boot.lanesFailed (fld v 4 0) s) (fld v 4 0) = false) :
    WritesOnly (linkReg (fld v 4 0)) (trainedWord (fld v 4 0) 4 (mapRepaired (fld v 4 0) s))
      (mapRepaired (fld v 4 0) s) (d2dRepairCmd v s) := by
  have hexec : d2dRepairCmd v s = updReg (linkReg (fld v 4 0)) (fun w => putFld w 2 0 4)
      (showLanes (fld v 4 0) (mapRepaired (fld v 4 0) s)) := by
    simp only [d2dRepairCmd, if_neg (Nat.not_le.mpr hl), hgo, isStopped, hstop, BEq.rfl, Bool.not_true,
      Bool.false_eq_true, if_false]
    exact if_neg (by rw [← unmapped, hspare]; exact Bool.false_ne_true)
  rw [hexec]
  exact writesOnly_trained ..

/-- D2D_REPAIR_CMD with GO = 1 while issue is not stopped only raises its event (R28). -/
theorem d2dRepairCmd_refused {v : Word} {s : State} (hgo : flag v 8 = true) (hstop : s.seq.state ≠ .stopped) :
    d2dRepairCmd v s = raise 0 Evt.D2D_CMD_INVALID v.toNat s := by
  simp [d2dRepairCmd, hgo, isStopped, hstop]

/-- The host's accepted D2D_REPAIR, by the state it leads to. -/
theorem exec_d2dRepair_accepted {v : Word} {s : State} (hm : HostMay 0 s) (hl : fld v 4 0 < 20)
    (hgo : flag v 8 = true) (hstop : s.seq.state = .stopped)
    (hspare : lanesExhausted (s.nvm.lanes ++ unmapped s.boot.lanesFailed (fld v 4 0) s) (fld v 4 0) = false)
    (dt : Nat) :
    ∃ t, exec (.d2dRepair dt v) s = .next t ∧
      t.nvm.lanes = s.nvm.lanes ++ unmapped s.boot.lanesFailed (fld v 4 0) s ∧
      fld (reg t (linkReg (fld v 4 0))) 2 0 = 4 ∧ (∀ a, a ≠ linkReg (fld v 4 0) → reg t a = reg s a) ∧
      t.log = s.log ∧ SameMemory s t := by
  have hw := d2dRepairCmd_accepted (s := advance dt s) hl hgo hstop hspare
  obtain ⟨hlog, -, hnvm, hmem⟩ := hw.keeps
  refine ⟨_, actHost_on hm dt _, ?_, ?_, fun a ha => ?_, hlog, hmem⟩
  · exact congrArg Nvm.lanes hnvm
  · rw [reg_mk, readReg_regs, hw.same, trainedWord_state (by decide)]
  · rw [reg_mk, readReg_regs, hw.other a ha]
    rfl

/-- Settles O52: refused while issue is not stopped, accepted while it is. -/
theorem repairOnlyWhileStopped : Obligations.RepairOnlyWhileStopped := by
  unfold Obligations.RepairOnlyWhileStopped
  refine ⟨fun dt value s hm hgo hstop => ?_, fun dt value s hm hl hgo hstop hspare => ?_⟩
  · have hexec := actHost_on hm dt (d2dRepairCmd value)
    rw [d2dRepairCmd_refused hgo (by simpa using hstop)] at hexec
    have heffect := (raisesEvent_raise (code := Evt.D2D_CMD_INVALID) (by decide) 0 value.toNat
      (advance dt s)).ofAdvance (q := s.pending)
    exact ⟨_, hexec, heffect.logged, heffect.regs, raise_nvm .., raise_boot .., heffect.memory⟩
  · obtain ⟨t, hexec, -, hstate, -, hlog, -⟩ := exec_d2dRepair_accepted hm hl hgo hstop hspare dt
    exact ⟨t, hexec, hlog, hstate⟩

/-- D2D_LINK_DOWN takes down a link that is up. -/
theorem exec_d2dLinkDown {s : State} {link : Fin 20} (h : Clocked s) (hup : flag (reg s (linkReg link)) 0 = true)
    (dt : Nat) (seq : BitVec 24) :
    exec (.d2dLinkDown dt link seq) s = .next { d2dDown link seq.toNat (advance dt s) with pending := s.pending } := by
  have hact : exec (.d2dLinkDown dt link seq) s =
      act dt (fun s => if flag (reg s (linkReg link)) 0 then d2dDown link seq.toNat s else s) s := rfl
  simp only [hact, act_on h, reg_advance, hup, if_true]

/-- D2D_TRAINING_END ends the training of a link that trains. -/
theorem exec_d2dTrainingEnd {s : State} {link : Fin 20} (h : Clocked s)
    (htrains : flag (reg s (linkReg link)) 2 = true) (dt : Nat) (failed : List Lane) :
    exec (.d2dTrainingEnd dt link failed) s =
      .next { linkTrained link failed (advance dt s) with pending := s.pending } := by
  have hact : exec (.d2dTrainingEnd dt link failed) s =
      act dt (fun s => if flag (reg s (linkReg link)) 2 then linkTrained link failed s else s) s := rfl
  simp only [hact, act_on h, reg_advance, htrains, if_true]

/-- Settles O1, by command; a training by whether a failed lane is missing in the stored map. -/
theorem dieLinkCommands : Obligations.DieLinkCommands := by
  unfold Obligations.DieLinkCommands
  refine ⟨?_, ?_, ?_, ?_⟩
  · intro dt link s hclk
    obtain ⟨hsame, hother, hframe, hcount⟩ := d2dReplay_frame link (advance dt s)
    refine ⟨_, exec_d2dFlitReplay hclk dt link, ?_, hcount, fun a ha => ?_, ?_⟩
    · rw [reg_mk, readReg_regs, hsame, reg_advance]
    · rw [reg_mk, readReg_regs, hother a ha, reg_advance]
    · rw [hframe]
      exact .of_eq rfl rfl
  · intro dt link seq s hclk hup
    obtain ⟨heffect, hsame⟩ := d2dDown_effect link.isLt seq.toNat (advance dt s)
    have heffect' := heffect.ofAdvance (q := s.pending)
    exact ⟨_, exec_d2dLinkDown hclk hup dt seq, hsame, heffect'.logged, heffect'.stops (by decide), heffect'.regs,
      heffect'.memory⟩
  · intro dt link failed s hclk htrains
    refine ⟨_, exec_d2dTrainingEnd hclk htrains dt failed, ?_⟩
    by_cases hbad : unmapped failed link s = []
    · have hw := linkTrained_up (s := advance dt s) hbad
      obtain ⟨hlog, -, hnvm, hmem⟩ := hw.keeps
      refine ⟨?_, ?_, hnvm, fun a _ ha => ?_, hmem⟩
      · rw [reg_mk, readReg_regs, hw.same]
        exact (if_pos hbad).mpr ⟨trainedWord_state (by decide) .., hlog⟩
      · rw [reg_mk, readReg_regs, hw.same, trainedWord_lanes, advance_nvm]
      · rw [reg_mk, readReg_regs, hw.other a (by simpa using ha)]
        rfl
    · obtain ⟨heffect, hsame, hnvm⟩ := linkTrained_fails (s := advance dt s) link.isLt hbad
      have heffect' := heffect.ofAdvance (q := s.pending)
      refine ⟨?_, ?_, hnvm, heffect'.regs, heffect'.memory⟩
      · rw [reg_mk, readReg_regs, hsame]
        exact (if_neg hbad).mpr ⟨trainedWord_state (by decide) .., heffect'.logged⟩
      · rw [reg_mk, readReg_regs, hsame, trainedWord_lanes, advance_nvm]
  · intro dt value s hm hl hgo hstop link new hspare
    obtain ⟨t, hexec, hlanes, hstate, hother, -, hmem⟩ := exec_d2dRepair_accepted hm hl hgo hstop hspare dt
    exact ⟨t, hexec, hlanes, hstate, hother, hmem⟩

/-! ## The shutdown record (R476) -/

theorem length_toBytes (n v : Nat) : (toBytes n v).length = n := by
  induction n generalizing v with
  | zero => rfl
  | succ n ih => rw [toBytes, List.length_cons, ih]

theorem length_shutdownRecord (s : State) (cause die : Nat) (e : Int) (diode : Nat) :
    (shutdownRecord s cause die e diode).length = 63 := by
  simp only [shutdownRecord, List.length_append, length_toBytes, List.length_map, List.length_range]

/-- A shutdown record's cause and die are its bytes 14 and 15. -/
theorem shutdownRecord_split (s : State) (cause die : Nat) (e : Int) (diode : Nat) :
    ∃ front rest, front.length = 14 ∧
      shutdownRecord s cause die e diode = front ++ BitVec.ofNat 8 cause :: BitVec.ofNat 8 die :: rest := by
  simp only [shutdownRecord, List.append_assoc]
  refine ⟨toBytes 8 (tick s) ++ toBytes 6 (stepNumber s), _, ?_, (List.append_assoc ..).symm⟩
  simp only [List.length_append, length_toBytes]

/-- A byte behind the first part of a structure. -/
theorem byteAt_append {front : Bytes} {n : Nat} (h : front.length = n) (back : Bytes) (i : Nat) :
    byteAt (front ++ back) (n + i) = byteAt back i := by
  rw [byteAt, List.getD_append_right _ _ _ _ (by omega), h, Nat.add_sub_cancel_left, byteAt]

/-- A complete shutdown record shows its cause and die, and its last byte is COMPLETE. -/
theorem recordComplete_bytes (s : State) (cause die : Nat) (e : Int) (diode : Nat) :
    let r := recordComplete (shutdownRecord s cause die e diode)
    byteAt r 14 = cause % 256 ∧ byteAt r 15 = die % 256 ∧ byteAt r 63 = 0xA5 := by
  have hlen := length_shutdownRecord s cause die e diode
  have htake : recordComplete (shutdownRecord s cause die e diode) = shutdownRecord s cause die e diode ++ [0xA5] := by
    rw [recordComplete, List.take_of_length_le hlen.le]
  obtain ⟨front, rest, hfront, hsplit⟩ := shutdownRecord_split s cause die e diode
  rw [htake]
  refine ⟨?_, ?_, byteAt_append hlen _ 0⟩
  · rw [hsplit, List.append_assoc]
    exact byteAt_append hfront _ 0
  · rw [hsplit, List.append_assoc]
    exact byteAt_append hfront _ 1

/-! ## Clock faults (R33, R34) -/

/-- CLK_STATUS is no register that an event of GLOBAL changes. -/
theorem eventReg_clkStatus : eventReg 0 Reg.CLK_STATUS = false := by decide

/-- Losing the root clock writes a complete record of cause 3 and counts the loss; registers, log, sequencer and
memories stay. -/
theorem rootLoss_effect {s : State} (h : s.clk.rootLost = false) :
    let t := rootLoss s
    eventView t = eventView s ∧ t.clk = { s.clk with rootLost := true } ∧
      t.modLife.clockLosses = s.modLife.clockLosses + 1 ∧
      ∃ r, t.nvm.shutdown = some r ∧ byteAt r 14 = 3 ∧ byteAt r 15 = 0xFF ∧ byteAt r 63 = 0xA5 := by
  have hloss : rootLoss s = writeShutdown 3 0xFF 0 0x8000 { s with clk := { s.clk with rootLost := true } } := by
    simp only [rootLoss, h, Bool.false_eq_true, if_false]
  rw [hloss]
  exact ⟨rfl, rfl, rfl, _, rfl, recordComplete_bytes ..⟩

/-- An event of GLOBAL is raised, and CLK_STATUS shows the clock's fault: what every clock fault begins with (R33). -/
def clockEvent (code detail : Nat) (shown : Word → Word) (s : State) : State :=
  updReg Reg.CLK_STATUS shown (raise 0 code detail s)

section ClockEvent

variable {code : Nat} (hc : code < 0x10000) (detail : Nat) (f : Word → Word) (s : State)
include hc

theorem clockEvent_raises : RaisesEvent 0 code detail [Reg.CLK_STATUS] s (clockEvent code detail f s) :=
  (raisesEvent_raise hc ..).thenWrite (writesOnly_updReg ..) eventReg_clkStatus

theorem reg_clockEvent : reg (clockEvent code detail f s) Reg.CLK_STATUS = f (reg s Reg.CLK_STATUS) := by
  rw [clockEvent, reg_updReg_same, reg_raise hc eventReg_clkStatus]

omit hc in
theorem clockEvent_keeps : (clockEvent code detail f s).clk = s.clk ∧
    (clockEvent code detail f s).nvm = s.nvm ∧ (clockEvent code detail f s).modLife = s.modLife := by
  simp only [clockEvent, updReg_clk, updReg_nvm, updReg_modLife, raise_clk, raise_nvm, raise_modLife, and_self]

/-- A clock fault that loses the root clock (R34). -/
theorem exec_clockFault_lost {s : State} {k : ClockFault} {detail : Nat} {f : Word → Word}
    (hk : ∀ u, clockFault k u = rootLoss (clockEvent code detail f u)) (hsev : Evt.sevOf code = 4) (hclk : Clocked s)
    (dt : Nat) :
    ∃ t r, exec (.clockFault dt k) s = .next t ∧ t.clk.rootLost = true ∧ t.clk.powered = true ∧
      reg t Reg.CLK_STATUS = f (reg s Reg.CLK_STATUS) ∧ Logged 0 code detail s t ∧
      (s.seq.fatal = none → t.seq.fatal = some code) ∧
      t.nvm.shutdown = some r ∧ byteAt r 14 = 3 ∧ byteAt r 15 = 0xFF ∧ byteAt r 63 = 0xA5 ∧
      t.modLife.clockLosses = s.modLife.clockLosses + 1 ∧ SameRegsBut 0 [Reg.CLK_STATUS] s t ∧ SameMemory s t := by
  have hexec : exec (.clockFault dt k) s = _ := act_on hclk dt (clockFault k)
  rw [hk] at hexec
  obtain ⟨hpowered, hroot⟩ := hclk
  obtain ⟨hclk', -, hlife⟩ := clockEvent_keeps (code := code) detail f (advance dt s)
  obtain ⟨hview, hlost, hcount, r, hr, hcause, hdie, hcomplete⟩ :=
    rootLoss_effect (s := clockEvent code detail f (advance dt s)) (by rw [hclk', advance_rootLost, hroot])
  have heffect := ((clockEvent_raises hc detail f (advance dt s)).congr rfl hview).ofAdvance (q := s.pending)
  refine ⟨_, r, hexec, ?_, ?_, ?_, heffect.logged, heffect.stops hsev, hr, hcause, hdie, hcomplete, ?_, heffect.regs,
    heffect.memory⟩
  · rw [hlost]
  · rw [hlost, hclk', advance_powered, hpowered]
  · rw [reg_mk, readReg_regs, reg_of_regs (regs_of_eventView hview), reg_clockEvent hc, reg_advance]
  · rw [hcount, hlife, advance_modLife]

end ClockEvent

/-! ## PREPARE_OFF (R570) -/

/-- A map written at every key of a list reads there as what was written. -/
theorem mget_foldl_mset {α : Type} [DecidableEq α] (d : α) (f : Nat → α) {l : List Nat} {k : Nat} (hk : k ∈ l)
    (m : SMap α) : mget d (l.foldl (fun m j => mset d m j (f j)) m) k = f k := by
  induction l using List.reverseRecOn with
  | nil => cases hk
  | append_singleton l j ih =>
    rw [List.foldl_append, List.foldl_cons, List.foldl_nil]
    by_cases hj : k = j
    · rw [hj, mget_mset_same]
    · rw [mget_mset_other d _ _ hj]
      exact ih (by simpa [hj] using hk)

/-- A die's record now depends on the life that accrues, the time, and the physical records and rows stored. -/
theorem lifeNow_congr {s t : State} (hlife : t.life = s.life) (hclk : t.clk = s.clk) (hphys : t.nvm.phys = s.nvm.phys)
    (hrows : t.nvm.rows = s.nvm.rows) (d : Nat) : lifeNow t d = lifeNow s d := by
  simp only [lifeNow, poweredNow, ageClock, sparePool, inState, physOf, rowsRetired, hlife, hclk, hphys, hrows]

/-- The life records with the sequence number of their next write (R570, R575). -/
def lifeNumbered (s : State) : State :=
  let step := if s.boot.lifeAt = some (sclk s) then 0 else 1
  { s with
    life := (List.range 20).foldl (fun m d => mupd {} m d (fun l => { l with seq := l.seq + step })) s.life
    modLife := { s.modLife with seq := s.modLife.seq + step }
    boot := { s.boot with lifeAt := some (sclk s) } }

/-- The life records written as they stand. -/
def lifeStored (s : State) : State :=
  nvTouch { s with nvm := { s.nvm with
    life := (List.range 20).foldl (fun m d => mset {} m d (lifeNow s d)) s.nvm.life
    modLife := { s.modLife with poweredS := modulePowered s } } }

/-- A write of the life records numbers them and stores them. -/
theorem writeLife_eq (s : State) : writeLife s = lifeStored (lifeNumbered s) := rfl

/-- What is stored are the records as they then stand, and nothing else changes. -/
theorem lifeStored_effect (s : State) :
    let t := lifeStored s
    (∀ d < 20, mget {} t.nvm.life d = lifeNow t d) ∧ t.nvm.modLife = { t.modLife with poweredS := modulePowered t } ∧
      t = { s with nvm := t.nvm } := by
  refine ⟨fun d hd => ?_, rfl, rfl⟩
  calc mget {} (lifeStored s).nvm.life d
    _ = lifeNow s d := mget_foldl_mset {} (lifeNow s) (List.mem_range.mpr hd) s.nvm.life
    _ = lifeNow (lifeStored s) d := Eq.symm (lifeNow_congr rfl rfl rfl rfl d)

/-- Writing the life records leaves the registers, the start-up's state and the memories alone. -/
theorem writeLife_frame (s : State) :
    (writeLife s).regs = s.regs ∧ (writeLife s).boot.state = s.boot.state ∧ SameMemory s (writeLife s) := by
  obtain ⟨-, -, hframe⟩ := lifeStored_effect (lifeNumbered s)
  rw [writeLife_eq, hframe]
  exact ⟨rfl, rfl, .of_eq rfl rfl⟩

theorem lifeNow_boot_pending (s : State) (b : Boot) (q : List Instr) (d : Nat) :
    lifeNow { s with boot := b, pending := q } d = lifeNow s d := lifeNow_congr rfl rfl rfl rfl d

theorem bootPrepareOff_idle {s : State} (h : s.seq.state ≠ .running) (v : Word) : bootPrepareOff v s =
    { writeLife s with boot := { (writeLife s).boot with offSafe := true } } := by
  simp only [bootPrepareOff, isRunning, beq_iff_eq, h, if_false]

/-- Settles O3: the three clock faults begin alike, two of them lose the root clock; PREPARE_OFF writes the records. -/
theorem clockFaultAndOff : Obligations.ClockFaultAndOff := by
  unfold Obligations.ClockFaultAndOff
  refine ⟨fun dt n s hclk => ?_, fun dt die s hclk => ?_, fun dt die n s hclk => ?_, fun dt s hm hidle => ?_⟩
  · obtain ⟨t, r, hexec, hlost, hpowered, hstatus, hrest⟩ :=
      exec_clockFault_lost (k := .refLoss n) (by decide) (fun _ => rfl) (by decide) hclk dt
    exact ⟨t, r, hexec, hlost, hpowered, by rw [hstatus, fld_putFld (by decide)]; rfl, hrest⟩
  · obtain ⟨t, r, hexec, hlost, hpowered, hstatus, hrest⟩ :=
      exec_clockFault_lost (k := .pllUnlock die) (by decide) (fun _ => rfl) (by decide) hclk dt
    exact ⟨t, r, hexec, hlost, hpowered, by rw [hstatus, flag_putFlag (by decide)], hrest⟩
  · have heffect := (clockEvent_raises (code := Evt.CLK_ALIGN_FAIL) (by decide) (die.val + n.toNat * 2 ^ 8)
      (fun w => putFlag w 2 false) (advance dt s)).ofAdvance (q := s.pending)
    have hstatus := reg_clockEvent (code := Evt.CLK_ALIGN_FAIL) (by decide) (die.val + n.toNat * 2 ^ 8)
      (fun w => putFlag w 2 false) (advance dt s)
    obtain ⟨hclk', hnvm, -⟩ := clockEvent_keeps (code := Evt.CLK_ALIGN_FAIL) (die.val + n.toNat * 2 ^ 8)
      (fun w => putFlag w 2 false) (advance dt s)
    refine ⟨_, act_on hclk dt _, ?_, ?_, heffect.logged, heffect.stops (by decide), hnvm, heffect.regs, heffect.memory⟩
    · exact (congrArg Clock.rootLost hclk').trans hclk.2
    · exact (congrArg (flag · 2) hstatus).trans (flag_putFlag (by decide) ..)
  · have hexec := actHost_on hm dt (bootPrepareOff 0x30000000)
    rw [bootPrepareOff_idle (by simpa using hidle)] at hexec
    obtain ⟨hlife, hmod, -⟩ := lifeStored_effect (lifeNumbered (advance dt s))
    obtain ⟨hregs, hstate, hmem⟩ := writeLife_frame (advance dt s)
    rw [← writeLife_eq] at hlife hmod
    generalize writeLife (advance dt s) = u at *
    refine ⟨_, hexec, rfl, hstate, fun d hd => ?_, hmod, hregs, hmem⟩
    rw [lifeNow_boot_pending]
    exact hlife d hd

end Sys2Proof.Machine

/-! PROOFS of the family 02_luna_arrays. A die's array-group operations (R47, R61), their first pass starts (R49) and
the deliveries of their reads (R118): what each adds to the die's lists and to the effects, and what it leaves alone. -/

namespace Sys2Proof.Machine

open Sys2Proof.Map

/-! ## What array reads leave alone -/

/-- What statements about a die's array operations speak of: the accumulators, the memories, the scheduled effects,
and the die's scheduled operations and reads. -/
structure ReadView where
  accs : SMap Acc
  spad : SMap SWord
  hbm : SMap Byte
  hbmPoison : SMap Bool
  bar2 : SMap Byte
  effects : List (Nat × Effect)
  scheduled : List ArrOp
  reads : List ArrRead

def readView (d : Nat) (s : State) : ReadView where
  accs := s.tensor.accs
  spad := s.mem.spad
  hbm := s.mem.hbm
  hbmPoison := s.mem.hbmPoison
  bar2 := s.host.bar2
  effects := s.seq.effects
  scheduled := (lunaDie s d).scheduled
  reads := (lunaDie s d).reads

/-- The memories of a view. -/
def ReadView.memory (v : ReadView) : SMap SWord × SMap Byte × SMap Bool × SMap Byte :=
  (v.spad, v.hbm, v.hbmPoison, v.bar2)

theorem sameMemory_of_readView {s t : State} {d : Nat} (h : (readView d t).memory = (readView d s).memory) :
    SameMemory s t := by
  simp only [ReadView.memory, readView, Prod.mk.injEq] at h
  obtain ⟨hspad, hhbm, hpoison, hbar2⟩ := h
  simp only [SameMemory, spadWord, hbmByte, burstPoison, hspad, hhbm, hpoison, hbar2, implies_true, and_self]

/-- The state of a pair that a computation answers. -/
theorem readView_snd {α : Type} {d : Nat} {x : α × State} {a : α} {t : State} (h : x = (a, t)) :
    readView d t = readView d x.2 := by rw [h]

section Frame

variable (d : Nat) (s : State)

/-! ### The shared operations -/

@[simp] theorem lunaDie_setLunaDie (x : LunaDie) : lunaDie (setLunaDie d x s) d = x := mget_mset_same ..

@[simp] theorem lunaDie_updLunaDie (f : LunaDie → LunaDie) : lunaDie (updLunaDie d f s) d = f (lunaDie s d) :=
  mget_mset_same ..

theorem readView_setLunaDie (x : LunaDie) :
    readView d (setLunaDie d x s) = { readView d s with scheduled := x.scheduled, reads := x.reads } := by
  simp only [readView, lunaDie_setLunaDie]
  rfl

/-- A die's record replaced by one with the same scheduled operations and reads. -/
theorem readView_setLunaDie_same {x : LunaDie} {d : Nat} {s : State} (hsched : x.scheduled = (readView d s).scheduled)
    (hreads : x.reads = (readView d s).reads) : readView d (setLunaDie d x s) = readView d s := by
  rw [readView_setLunaDie, hsched, hreads]

theorem readView_updLunaDie (f : LunaDie → LunaDie) : readView d (updLunaDie d f s) =
    { readView d s with scheduled := (f (lunaDie s d)).scheduled, reads := (f (lunaDie s d)).reads } :=
  readView_setLunaDie ..

@[simp] theorem readView_log (l : Log) : readView d { s with log := l } = readView d s := rfl

@[simp] theorem readView_collect (code key n : Nat) : readView d (collect code key n s) = readView d s := rfl

@[simp] theorem readView_collectFirst (code key n first : Nat) :
    readView d (collectFirst code key n first s) = readView d s := by
  simp [readView, lunaDie]

@[simp] theorem readView_bump (a n : Nat) : readView d (bump a n s) = readView d s := by
  simp [readView, lunaDie]

@[simp] theorem readView_bump64 (a n : Nat) : readView d (bump64 a n s) = readView d s := by
  simp [readView, lunaDie]

@[simp] theorem readView_highWater (a hi lo v : Nat) : readView d (highWater a hi lo v s) = readView d s := by
  simp [readView, lunaDie]

@[simp] theorem readView_charge (die cls res amount cpj : Nat) :
    readView d (charge die cls res amount cpj s) = readView d s := by
  simp [readView, lunaDie]

@[simp] theorem readView_raise (page code detail : Nat) : readView d (raise page code detail s) = readView d s := by
  simp only [readView, lunaDie, raise_tensor, raise_mem, raise_host, raise_luna]
  rw [raise, raiseFor_seq]

@[simp] theorem readView_setTrk (e p : Nat) (t : Tracker) : readView d (setTrk e p t s) = readView d s := rfl

@[simp] theorem readView_noteAccess (c e w : Nat) : readView d (noteAccess c e w s) = readView d s := rfl

@[simp] theorem readView_noteFresh : readView d (noteFresh s) = readView d s := rfl

/-- A fold of steps that each leave the view alone. -/
@[simp] theorem readView_foldl {α : Type} (f : State → α → State) (h : ∀ t x, readView d (f t x) = readView d t)
    (l : List α) : readView d (l.foldl f s) = readView d s := by
  induction l generalizing s with
  | nil => rfl
  | cons x l ih => rw [List.foldl_cons, ih, h]

/-! ### Scheduled reads -/

@[simp] theorem readView_ringError (e r n : Nat) (overrun : Bool) :
    readView d (ringError e r n overrun s) = readView d s := by
  simp only [ringError]
  split_ifs <;> simp

@[simp] theorem readView_reportBreaks (e : Nat) (bs : List (Nat × Nat)) (write : Bool) :
    readView d (reportBreaks e bs write s) = readView d s := by
  simp [reportBreaks]

@[simp] theorem readView_spadEcc (e corr : Nat) (bad : List Nat) :
    readView d (spadEcc e corr bad s) = readView d s := by
  simp only [spadEcc]
  split_ifs <;> simp

@[simp] theorem readView_fmtCount (e code counter n first : Nat) :
    readView d (fmtCount e code counter n first s) = readView d s := by
  simp only [fmtCount]
  split_ifs <;> simp

@[simp] theorem readView_schedRead (c e w : Nat) : readView d (schedRead c e w s).2 = readView d s := by
  simp [schedRead]

@[simp] theorem readView_runRead (cyc : Nat → Nat) (e : Nat) (bad : List Nat) (a n : Nat) :
    readView d (runRead cyc e bad a n s).2 = readView d s := by
  induction n generalizing a s with
  | zero => rfl
  | succ n ih =>
    simp only [runRead, ih, readView_schedRead]
    rfl

@[simp] theorem readView_readSegment (cyc : Nat → Nat) (e a : Nat) (trn a8 : Bool) (bad : List Nat) :
    readView d (readSegment cyc e a trn a8 bad s).2 = readView d s := by
  simp only [readSegment]
  split_ifs <;> simp

@[simp] theorem readView_tableInvalid (e a part : Nat) : readView d (tableInvalid e a part s) = readView d s :=
  readView_raise ..

@[simp] theorem readView_picDir (cyc : Nat → Nat) (e a : Nat) (bad : List Nat) :
    readView d (picDir cyc e a bad s).2 = readView d s := by
  simp only [picDir]
  split_ifs <;> simp

@[simp] theorem readView_tableBytes (cyc : Nat → Nat) (e a n : Nat) (bad : List Nat) :
    readView d (tableBytes cyc e a n bad s).2 = readView d s := by
  simp only [tableBytes]
  split_ifs <;> simp

@[simp] theorem readView_adapterRow (cyc : Nat → Nat) (e a w : Nat) (bad : List Nat) :
    readView d (adapterRow cyc e a w bad s).2 = readView d s := by
  simp only [adapterRow]
  repeat' split
  all_goals simp

@[simp] theorem readView_picOutliers (cyc : Nat → Nat) (e : Nat) (x : PicDir) (bad : List Nat) :
    readView d (picOutliers cyc e x bad s).2 = readView d s := by
  simp only [picOutliers]
  split
  · rfl
  · split <;> (rename_i hread; exact (readView_snd hread).trans (readView_tableBytes ..))

@[simp] theorem readView_picStatic (cyc : Nat → Nat) (e : Nat) (x : PicDir) (bad : List Nat) :
    readView d (picStatic cyc e x bad s).2 = readView d s := by
  simp only [picStatic]
  split
  · rfl
  · split <;> (rename_i hread; exact (readView_snd hread).trans (readView_tableBytes ..))

/-- Each table's state is that of the one before it with more reads. -/
@[simp] theorem readView_picTables (cyc : Nat → Nat) (e a : Nat) (bad : List Nat) :
    readView d (picTables cyc e a bad s).2 = readView d s := by
  simp only [picTables]
  repeat' split
  all_goals grind [readView_tableBytes, readView_picDir, readView_picStatic, readView_picOutliers]

end Frame

/-! ### Preparing and launching reads (R49) -/

/-- What a read's operation alone says of it (R49): the fields that preparing and launching it leave as they are. -/
def readIdentity (r : ArrRead) : Nat × Nat × Nat × Bool × Nat × Nat :=
  (r.logical, r.dest, r.kseq, r.staged, r.due, r.start)

theorem prepareRead_effect (d : Nat) (op : ArrOp) (g : AGroup) (bad : List Nat) (e : Nat) (s : State) :
    readIdentity (prepareRead d op g bad e s).1.read = readIdentity (bareRead op g e) ∧
      readView d (prepareRead d op g bad e s).2 = readView d s := by
  unfold prepareRead
  extract_lets r m cfg addr c0 cyc n
  split
  · exact ⟨rfl, readView_raise ..⟩
  split
  next seg segRead hseg =>
  extract_lets segKeys high clamped xs whole
  have hclamped : readView d clamped = readView d s := by
    have hsegRead : readView d segRead = readView d s := (readView_snd hseg).trans (readView_readSegment ..)
    simp only [clamped]
    split <;> simp [hsegRead]
  split
  next tb tabRead htab =>
  extract_lets tabKeys checked rows fed passes stat
  have hchecked : readView d checked = readView d s := by
    have htabRead : readView d tabRead = readView d s :=
      (readView_snd htab).trans ((readView_picTables ..).trans hclamped)
    simp only [checked]
    split <;> simp [htabRead]
  split
  next gt o st htrk =>
  split
  next ad last hlast =>
  have hview : readView d last = readView d s := by
    split at hlast
    · exact (readView_snd hlast).trans ((readView_adapterRow ..).trans hchecked)
    · exact (readView_snd hlast).trans hchecked
  extract_lets prepared
  split <;> exact ⟨rfl, hview⟩

theorem prepareAll_effect (d : Nat) (op : ArrOp) (g : AGroup) (bad es : List Nat) (s : State) :
    (prepareAll d op g bad es s).1.map (readIdentity ·.read) = es.map (readIdentity <| bareRead op g ·) ∧
      readView d (prepareAll d op g bad es s).2 = readView d s := by
  induction es generalizing s with
  | nil => exact ⟨rfl, rfl⟩
  | cons e es ih =>
    obtain ⟨hid, hview⟩ := prepareRead_effect d op g bad e s
    obtain ⟨hids, hviews⟩ := ih (prepareRead d op g bad e s).2
    exact ⟨congrArg₂ List.cons hid hids, hviews.trans hview⟩

@[simp] theorem readView_raiseLapsed (d a cause : Nat) (s : State) :
    readView d (raiseLapsed d a cause s) = readView d s := by
  simp only [raiseLapsed]
  split
  · rfl
  · exact (readView_raise ..).trans (readView_setLunaDie_same rfl rfl)

@[simp] theorem readView_readFlags (d a p : Nat) (cfg : Word) (st : Nat) (s : State) :
    readView d (readFlags d a p cfg st s).2 = readView d s := by
  simp [readFlags, apply_ite (readView d)]

@[simp] theorem readView_meetRates (d t0 t1 : Nat) (nOut nStat nAd : List Nat) (s : State) :
    readView d (meetRates d t0 t1 nOut nStat nAd s).2 = readView d s :=
  readView_setLunaDie_same rfl rfl

/-- One read of an operation that runs, launched: its extension, its flags and its late outputs (R56, R74, R119). -/
def launchOne (d ext : Nat) (x : Ready) (s : State) : ArrRead × State :=
  let r := { x.read with ext := ext }
  if r.passes.isEmpty then (r, s)
  else
    let flagged := readFlags d r.logical r.phys r.cfg r.flags s
    let rated := meetRates d r.start (deliverAt r) x.nOut x.nStat x.nAd flagged.2
    ({ r with flags := flagged.1, late := rated.1 }, rated.2)

theorem launch_cons (d : Nat) (op : ArrOp) (ext : Nat) (x : Ready) (xs : List Ready) (s : State) :
    launch d op ext (x :: xs) s =
      let first := launchOne d ext x s
      let rest := launch d op ext xs first.2
      (first.1 :: rest.1, rest.2) := rfl

theorem launchOne_effect (d ext : Nat) (x : Ready) (s : State) :
    readIdentity (launchOne d ext x s).1 = readIdentity x.read ∧ readView d (launchOne d ext x s).2 = readView d s := by
  unfold launchOne
  extract_lets r flagged rated
  split
  · exact ⟨rfl, rfl⟩
  · exact ⟨rfl, (readView_meetRates ..).trans (readView_readFlags ..)⟩

theorem launch_effect (d : Nat) (op : ArrOp) (ext : Nat) (xs : List Ready) (s : State) :
    (launch d op ext xs s).1.map readIdentity = xs.map (readIdentity ·.read) ∧
      readView d (launch d op ext xs s).2 = readView d s := by
  induction xs generalizing s with
  | nil => exact ⟨rfl, rfl⟩
  | cons x xs ih =>
    obtain ⟨hid, hview⟩ := launchOne_effect d ext x s
    obtain ⟨hids, hviews⟩ := ih (launchOne d ext x s).2
    rw [launch_cons]
    exact ⟨congrArg₂ List.cons hid hids, hviews.trans hview⟩

@[simp] theorem readView_addSplit (d cycle ext : Nat) (s : State) :
    readView d (addSplit cycle ext s) = readView d s := rfl

/-- The view with reads added to those of the die. -/
def ReadView.addReads (v : ReadView) (rs : List ArrRead) : ReadView := { v with reads := v.reads ++ rs }

@[simp] theorem readView_pushReads (d : Nat) (rs : List ArrRead) (s : State) :
    readView d (pushReads d rs s) = (readView d s).addReads rs := readView_updLunaDie ..

/-- An operation that starts adds one read for each list entry, in order: blocked, refused by the read-slot cap, or
run, they are the reads that the operation alone names (R49, R63, R64, R75). -/
theorem groupStart_effect (d : Nat) (o : AccObs) (op : ArrOp) (g : AGroup) (s : State) :
    ∃ rs, readView d (groupStart d o op g s) = (readView d s).addReads rs ∧
      rs.map readIdentity = (op.entries.map (bareRead op g)).map readIdentity := by
  unfold groupStart
  extract_lets bare n x freed
  split
  · exact ⟨bare, by simp, rfl⟩
  have hfreed : readView d freed = readView d s := readView_setLunaDie_same rfl rfl
  split
  next ready prepared hprep =>
  obtain ⟨hids, hview⟩ := prepareAll_effect d op g o.spadUncorr op.entries (spadEcc d o.spadCorr o.spadUncorr freed)
  have hprepared : readView d prepared = readView d s :=
    (readView_snd hprep).trans (hview.trans ((readView_spadEcc ..).trans hfreed))
  extract_lets y new points peak drop aborted taken marked plans skips splits full skipped quartered counted charged ext
  split
  · exact ⟨bare, by simp [hprepared], rfl⟩
  have haborted : readView d aborted = readView d s := by
    simp only [aborted]
    split <;> simp [hprepared]
  have htaken : readView d taken = readView d s := by
    have hsame : readView d prepared = readView d aborted := hprepared.trans haborted.symm
    exact (readView_setLunaDie_same (congrArg (·.scheduled) hsame) (congrArg (·.reads) hsame)).trans haborted
  have hquartered : readView d quartered = readView d s := by
    simp only [quartered, skipped, marked]
    split <;> simp [htaken]
  have hcharged : readView d charged = readView d s :=
    (readView_charge ..).trans ((readView_bump64 ..).trans hquartered)
  split
  next reads launched hlaunch =>
  obtain ⟨hreads, hlaunched⟩ := launch_effect d op ext ready charged
  refine ⟨reads, ?_, ?_⟩
  · rw [readView_addSplit, readView_pushReads, readView_snd hlaunch, hlaunched, hcharged]
  · rw [hlaunch] at hreads
    rw [hprep] at hids
    rw [hreads, hids, List.map_map]
    rfl

/-- Work of a breath class changes what the work changes. -/
theorem readView_inClass (d c : Nat) (f : State → State) (s : State) :
    readView d (inClass c f s) = readView d (f { s with log := { s.log with cls := c } }) := rfl

/-! ## ARRAY_PASS_START (R49) -/

/-- The operation that is due leaves the die's list and starts. -/
theorem passStart_due {d : Nat} {s : State} {op : ArrOp} {rest : List ArrOp} {g : AGroup}
    (hsched : (lunaDie s d).scheduled = op :: rest) (hedge : op.edge ≤ s.clk.now) (hpast : streamPast s op = true)
    (hg : agroupOf op.desc = .inr g) (o : AccObs) :
    passStart d o s = inClass op.cls (groupStart d o op g) (setLunaDie d { lunaDie s d with scheduled := rest } s) := by
  have hdue : ¬ (s.clk.now < op.edge ∨ streamPast s op = false) := by simp [hpast, hedge]
  simp only [passStart, hsched, if_neg hdue, hg]

theorem passStart_effect {d : Nat} {s : State} {op : ArrOp} {rest : List ArrOp} {g : AGroup}
    (hsched : (lunaDie s d).scheduled = op :: rest) (hedge : op.edge ≤ s.clk.now) (hpast : streamPast s op = true)
    (hg : agroupOf op.desc = .inr g) (o : AccObs) :
    ∃ rs, readView d (passStart d o s) = { readView d s with scheduled := rest, reads := (lunaDie s d).reads ++ rs } ∧
      rs.map readIdentity = (op.entries.map (bareRead op g)).map readIdentity := by
  rw [passStart_due hsched hedge hpast hg, readView_inClass]
  obtain ⟨rs, hview, hids⟩ := groupStart_effect d o op g
    { setLunaDie d { lunaDie s d with scheduled := rest } s with log := { s.log with cls := op.cls } }
  refine ⟨rs, hview.trans ?_, hids⟩
  rw [readView_log, readView_setLunaDie]
  rfl

/-! ## PICCOLO_DELIVER (R118) -/

section Delivery

variable (d : Nat) (s : State)

/-! ### Codes and outputs -/

@[simp] theorem readView_overrun (r : ArrRead) : readView d (overrun d r s) = readView d s := by
  simp only [overrun]
  split <;> simp

@[simp] theorem readView_integrity (e kind a : Nat) : readView d (integrity e kind a s) = readView d s := by
  simp [integrity]

@[simp] theorem readView_overEvent (e p : Nat) (trn : Bool) (phys quarter : Nat) :
    readView d (overEvent e p trn phys quarter s) = readView d s := by
  simp [overEvent]

@[simp] theorem readView_codeSet (e p a : Nat) (trn : Bool) (quarter : Nat) (c : PassCodes) :
    readView d (codeSet e p a trn quarter c s) = readView d s := by
  simp [codeSet]

@[simp] theorem readView_codeSetsOf (e p a : Nat) (trn split : Bool) (cs : List PassCodes) :
    readView d (codeSetsOf e p a trn split cs s) = readView d s := by
  simp [codeSetsOf]

@[simp] theorem readView_codesIn (e : Nat) (r : ArrRead) (ps : List (PassPlan × List PassCodes)) :
    readView d (codesIn e r ps s) = readView d s := by
  simp [codesIn]

@[simp] theorem readView_outEvents (e : Nat) (r : ArrRead) (o : ReadObs) (ps : List (PassPlan × List PassCodes))
    (j : Nat) : readView d (outEvents e r o ps j s) = readView d s := by
  simp only [outEvents]
  split_ifs <;> simp

/-! ### Tracking and sampling -/

@[simp] theorem readView_clearLapsed (a cause : Nat) : readView d (clearLapsed d a cause s) = readView d s :=
  readView_setLunaDie_same rfl rfl

@[simp] theorem readView_loseTracker (e p cause : Nat) : readView d (loseTracker e p cause s) = readView d s := by
  simp only [loseTracker]
  split <;> simp

@[simp] theorem readView_driftCheck (e p : Nat) : readView d (driftCheck e p s) = readView d s := by
  simp only [driftCheck]
  split <;> simp

@[simp] theorem readView_trackerSram (e p : Nat) : readView d (trackerSram e p s) = readView d s := by
  simp [trackerSram]

@[simp] theorem readView_acceptObs (p : Nat) (g : Word) (o : Int) (start : Nat) :
    readView d (acceptObs d p g o start s) = readView d s := by
  simp only [acceptObs]
  split_ifs <;> simp

@[simp] theorem readView_rejectObs (e p : Nat) : readView d (rejectObs e p s) = readView d s := by
  simp only [rejectObs]
  split <;> simp

@[simp] theorem readView_observation (p : Nat) (cfg : Word) (stop : Nat) :
    readView d (observation d p cfg stop s) = readView d s := by
  simp only [observation]
  split <;> simp

@[simp] theorem readView_observe (r : ArrRead) (nibs : List Int) (c : PassCodes) (stop : Nat) :
    readView d (observe d r nibs c stop s) = readView d s := by
  simp only [observe]
  split_ifs <;> simp

@[simp] theorem readView_observeAll (r : ArrRead) (ps : List (PassPlan × List PassCodes)) :
    readView d (observeAll d r ps s) = readView d s := by
  simp [observeAll]

@[simp] theorem readView_sampleRead (r : ArrRead) (pre : List Word) :
    readView d (sampleRead d r pre s) = readView d s := by
  have hlfsr (l : Word) : readView d (setLunaDie d { lunaDie s d with lfsr := l } s) = readView d s :=
    readView_setLunaDie_same rfl rfl
  have hpush (e : ShadowSample) (t : State) :
      readView d (updLunaDie d (fun x => { x with shadow := x.shadow ++ [e] }) t) = readView d t :=
    readView_setLunaDie_same rfl rfl
  simp only [sampleRead]
  split_ifs <;> simp [hlfsr, hpush]

/-! ### Banks in conflict (R279) -/

@[simp] theorem readView_bankClash (k n : Nat) : readView d (bankClash k n s) = readView d s := by
  simp only [bankClash, readView_raise]
  rfl

@[simp] theorem readView_closeAccess (c : Nat) : readView d (closeAccess c s) = readView d s := by
  simp only [closeAccess, readView_foldl, readView_bankClash, readView_bump, implies_true]
  rfl

@[simp] theorem readView_readClash (r : ArrRead) : readView d (readClash d r s).2 = readView d s := by
  simp only [readClash]
  split <;> simp

theorem mem_bankClash (k n : Nat) : (bankClash k n s).mem = { s.mem with clash := s.mem.clash ++ [k] } := by
  simp only [bankClash, raise_mem]

theorem mem_foldl_bankClash (l : List (Nat × Nat)) : (l.foldl (fun s e => bankClash e.1 e.2 s) s).mem =
    { s.mem with clash := s.mem.clash ++ l.map (·.1) } := by
  induction l generalizing s with
  | nil => simp
  | cons e l ih => simp [ih, mem_bankClash]

theorem mem_foldl_bump (a : Nat → Nat) (l : List Nat) : (l.foldl (fun s k => bump (a k) 1 s) s).mem = s.mem := by
  induction l generalizing s with
  | nil => rfl
  | cons k l ih => rw [List.foldl_cons, ih, bump_mem]

variable {d s}

/-- What closing the cycles before `c` makes of the memories rests on them alone. -/
theorem mem_closeAccess_congr {t : State} (h : t.mem = s.mem) (c : Nat) :
    (closeAccess c t).mem = (closeAccess c s).mem := by
  simp only [closeAccess, mem_foldl_bankClash, mem_foldl_bump, h]

/-- Whether a read is poisoned by a conflict rests on the accesses noted and on the issue cycle. -/
theorem readClash_congr {t : State} (hmem : t.mem = s.mem) (hcycle : t.seq.cycle = s.seq.cycle) (r : ArrRead) :
    (readClash d r t).1 = (readClash d r s).1 := by
  simp only [readClash, clashedAny, mem_closeAccess_congr hmem, hcycle]

/-! ### Delivery -/

/-- The chunks of a read with the issue cycle in which they are seen: as staging words in the cycle after the read's due
cycle, in accumulators in the fourth after it. -/
def sentChunks (d : Nat) (r : ArrRead) (o : AccObs) (cs : List PicChunk) : Nat × Effect :=
  if r.staged then (r.due + 1, .stageChunks d cs r.flagAddr (o.spadUncorr.contains r.flagAddr))
  else (r.due + 4, .accChunks d cs o)

/-- The view with an effect scheduled after those scheduled already. -/
def ReadView.addEffect (v : ReadView) (e : Nat × Effect) : ReadView := { v with effects := v.effects ++ [e] }

@[simp] theorem readView_later (due : Nat) (e : Effect) (t : State) :
    readView d (later due e t) = (readView d t).addEffect (due, e) := rfl

theorem readView_sendChunks (r : ArrRead) (o : AccObs) (cs : List PicChunk) (t : State) :
    readView d (sendChunks d r o cs t) = (readView d t).addEffect (sentChunks d r o cs) := by
  have hnoted (u : State) : readView d (cs.foldl (fun s c => noteAccess r.due d c.dest s) u) = readView d u :=
    readView_foldl d u _ (fun _ _ => by rfl) cs
  have hbad : (!(o.spadUncorr.filter (· == r.flagAddr)).isEmpty) = o.spadUncorr.contains r.flagAddr := by
    rw [Bool.eq_iff_iff]
    simp
  simp only [sendChunks, sentChunks, hbad]
  split <;> simp only [readView_later, hnoted, readView_spadEcc]

/-- Beside its chunks, delivering a read leaves what a die's reads leave alone. -/
theorem readView_deliverRead (r : ArrRead) (o : ReadObs) : readView d (deliverRead d r o s) =
    (readView d s).addEffect (sentChunks d r o.acc (outChunks r (outValues (readClash d r s).1 o))) := by
  have hsent (ys : List (Option (Word × Word))) :
      sentChunks d (readClash d r s).1 o.acc (outChunks (readClash d r s).1 ys) =
        sentChunks d r o.acc (outChunks r ys) := rfl
  simp only [deliverRead, readView_sendChunks, hsent]
  congr 1
  split_ifs <;> simp

theorem length_outChunks (r : ArrRead) (o : ReadObs) :
    (outChunks r (outValues (readClash d r s).1 o)).length = if r.trn then 1024 else 512 := by
  simp only [outChunks, outValues, readClash, List.length_map, List.length_zip, List.length_range, Nat.min_self]
  rfl

end Delivery

/-- The read that is due leaves the die's list and delivers. -/
theorem deliver_due {d : Nat} {s : State} {r : ArrRead} {rest : List ArrRead} {o : ReadObs}
    (hreads : (lunaDie s d).reads = r :: rest) (hdue : deliverAt r ≤ s.clk.now) (hfits : obsFits r o = true) :
    deliver d o s = inClass r.cls (deliverRead d r o) (setLunaDie d { lunaDie s d with reads := rest } s) := by
  have hnow : ¬ (s.clk.now < deliverAt r ∨ obsFits r o = false) := by simp [hfits, hdue]
  simp only [deliver, hreads, if_neg hnow]

theorem readView_deliver {d : Nat} {s : State} {r : ArrRead} {rest : List ArrRead} {o : ReadObs}
    (hreads : (lunaDie s d).reads = r :: rest) (hdue : deliverAt r ≤ s.clk.now) (hfits : obsFits r o = true) :
    readView d (deliver d o s) = { readView d s with
      reads := rest
      effects := s.seq.effects ++ [sentChunks d r o.acc (outChunks r (outValues (readClash d r s).1 o))] } := by
  have hclash : (readClash d r { setLunaDie d { lunaDie s d with reads := rest } s with
      log := { s.log with cls := r.cls } }).1 = (readClash d r s).1 :=
    readClash_congr (by rfl) (by rfl) r
  rw [deliver_due hreads hdue hfits, readView_inClass, readView_deliverRead]
  refine Eq.trans (congrArg₂ ReadView.addEffect ((readView_log ..).trans (readView_setLunaDie ..)) ?_) rfl
  exact congrArg (fun x => sentChunks d r o.acc (outChunks r (outValues x o))) hclash

/-! ## ARRAY_GROUP_FWD and ARRAY_GROUP_TRN (R47, R61) -/

theorem tableWord_congr {s t : State} (hmem : t.mem = s.mem)
    (hbad : t.seq.issued.map (·.tableBad) = s.seq.issued.map (·.tableBad)) : tableWord t = tableWord s := by
  funext d w
  have hat : spadAt t d w = spadAt s d w := by simp only [spadAt, spadWord, hmem]
  simp only [tableWord]
  cases ht : t.seq.issued <;> cases hs : s.seq.issued <;> simp_all

theorem arrayList_congr {s t : State} (hword : tableWord t = tableWord s) (d a n : Nat) :
    arrayList t d a n = arrayList s d a n := by
  rw [arrayList, arrayList, hword]

/-- A descriptor rests on its directory's register and on the words of the tables. -/
theorem descWords_congr {s t : State} (hregs : t.regs = s.regs) (hword : tableWord t = tableWord s) (d k i size : Nat) :
    descWords t d k i size = descWords s d k i size := by
  have hfld : regFld t = regFld s := by
    funext a hi lo
    rw [regFld, regFld, reg_of_regs hregs]
  unfold descWords dirEntry
  rw [hword, hfld]

/-- The operation that an issued bundle schedules: it starts on the first ACLK edge 16 CCLK cycles or more after the
bundle's issue at `time` (R47). -/
def groupOp (trn : Bool) (c : SubCtx) (time : Nat) (b : Bytes) (es : List ListEntry) : ArrOp :=
  let edge := ceilDiv (time + 16) 8 * 8
  { cls := c.cls, cycle := c.cycle, startCycle := c.cycle + (edge - time), edge := edge, trn := trn,
    a8 := agMode c.v == 1, row := agRow c.v c.rep, desc := b, entries := es.map packEntry }

/-- With a valid descriptor and list the operation joins those the die has scheduled. -/
theorem groupIssue_valid {c : SubCtx} {s : State} {i : Issued} {b : Bytes} {g : AGroup} {es : List ListEntry}
    (hi : s.seq.issued = some i) (hb : descWords s c.die 0 (agGroup c.v) 8 = .inr b) (hg : agroupOf b = .inr g)
    (hes : arrayList s c.die g.list g.count = .inr es) (trn : Bool) :
    groupIssue trn c s =
      updLunaDie c.die (fun x => { x with scheduled := x.scheduled ++ [groupOp trn c i.time b es] }) s := by
  simp only [groupIssue, hb, hg, hes, hi]
  rfl

/-- A state after time has passed in which a die's operation is scheduled and counts as executed, and nothing else has
changed. -/
def groupScheduled (dt die : Nat) (i : Issued) (op : ArrOp) (s : State) : State :=
  updLunaDie die (fun x => { x with scheduled := x.scheduled ++ [op] })
    { advance dt s with seq := { s.seq with issued := some (doneSub i die 0) } }

theorem scheduled_groupScheduled (dt die : Nat) (i : Issued) (op : ArrOp) (s : State) :
    (lunaDie (groupScheduled dt die i op s) die).scheduled = (lunaDie s die).scheduled ++ [op] := by
  rw [groupScheduled, lunaDie_updLunaDie]
  rfl

/-- The state in which a carried array-group operation acts: it counts as executed, and events name its class. -/
def groupActs (dt die : Nat) (i : Issued) (s : State) : State :=
  { advance dt s with
    seq := { s.seq with issued := some (doneSub i die 0) }
    log := { s.log with cls := bClass i.bundle } }

/-- There the tables' words read as before. -/
theorem tableWord_groupActs {s : State} {i : Issued} (hi : s.seq.issued = some i) (dt die : Nat) :
    tableWord (groupActs dt die i s) = tableWord s :=
  tableWord_congr rfl (by rw [hi]; rfl)

/-- Both array-group operations, carried by the issued bundle. -/
theorem act_groupIssue {die k : Nat} {s : State} {i : Issued} {b : Bytes} {g : AGroup} {es : List ListEntry}
    (hclk : Clocked s) (hi : Carries i die 0 k s) (hb : descWords s die 0 (agGroup (dieSlot i.bundle die 0)) 8 = .inr b)
    (hg : agroupOf b = .inr g) (hes : arrayList s die g.list g.count = .inr es) (dt : Nat) (trn : Bool) :
    act dt (withSub die 0 k (groupIssue trn)) s =
      .next (groupScheduled dt die i (groupOp trn (ctxOf i die 0) i.time b es) s) := by
  have hcarried : Carries i die 0 k (advance dt s) := hi
  obtain ⟨hissued, -⟩ := hi
  have hword := tableWord_groupActs hissued dt die
  rw [← descWords_congr (t := groupActs dt die i s) (s := s) rfl hword] at hb
  rw [← arrayList_congr hword] at hes
  have hgroup := groupIssue_valid (c := ctxOf i die 0) (s := groupActs dt die i s) rfl hb hg hes trn
  rw [act_on hclk, withSub_carries hcarried]
  exact congrArg (fun t : State => Host.Outcome.next { t with
    log := { t.log with cls := s.log.cls }, pending := s.pending }) hgroup

/-- Settles O12: an issued operation joins the die's list; a start and a delivery change of what the statement speaks of
only the die's lists and, for a delivery, the effects. -/
theorem arrayOperations : Obligations.ArrayOperations := by
  unfold Obligations.ArrayOperations
  refine ⟨?fwd, ?trn, ?start, ?deliver⟩
  case fwd =>
    intro dt die s i b g es hclk hi hb hg hes
    exact ⟨_, groupOp false (ctxOf i die 0) i.time b es, act_groupIssue hclk hi hb hg hes dt false,
      scheduled_groupScheduled .., rfl, rfl, rfl, rfl, rfl, rfl, rfl, rfl, rfl, rfl, rfl, rfl, rfl, rfl⟩
  case trn =>
    intro dt die s i b g es hclk hi hb hg hes
    exact ⟨_, groupOp true (ctxOf i die 0) i.time b es, act_groupIssue hclk hi hb hg hes dt true,
      scheduled_groupScheduled .., rfl, rfl, rfl, rfl, rfl, rfl, rfl, rfl, rfl, rfl, rfl, rfl, rfl, rfl⟩
  case start =>
    intro dt die obs s op rest g hclk hsched hedge hpast hg
    obtain ⟨rs, hview, hids⟩ := passStart_effect (s := advance dt s) hsched hedge hpast hg obs
    have hmemory := congrArg ReadView.memory hview
    exact ⟨_, rs, act_on hclk dt (passStart die obs), congrArg ReadView.scheduled hview, congrArg ReadView.reads hview,
      hids, congrArg ReadView.accs hview, sameMemory_of_readView (d := die) hmemory⟩
  case deliver =>
    intro dt die obs s r rest hclk hreads hdue hfits
    have hview := readView_deliver (s := advance dt s) hreads hdue hfits
    rw [readClash_congr (s := s) (t := advance dt s) rfl rfl] at hview
    have hmemory := congrArg ReadView.memory hview
    exact ⟨_, act_on hclk dt (deliver die obs), congrArg ReadView.reads hview, congrArg ReadView.effects hview,
      length_outChunks r obs, congrArg ReadView.accs hview, sameMemory_of_readView (d := die) hmemory⟩

end Sys2Proof.Machine

/-! PROOFS of the family 03_piccolo_correction. -/

namespace Sys2Proof.Machine

open Sys2Proof.Map

/-! ## PICCOLO_SNAP_SEL (R130, R131) -/

/-- Registers written one after another at places of their own: each shows its word, and every other register is as
before. -/
theorem reg_foldl_setReg {addr : Nat → Nat} (hinj : Function.Injective addr) (w : Nat → Word) (n : Nat) (s : State) :
    let t := (List.range n).foldl (fun s k => setReg (addr k) (w k) s) s
    (∀ k < n, reg t (addr k) = w k) ∧ ∀ a, (∀ k < n, a ≠ addr k) → reg t a = reg s a := by
  induction n with
  | zero => exact ⟨fun k hk => absurd hk (Nat.not_lt_zero k), fun _ _ => rfl⟩
  | succ n ih =>
    obtain ⟨hsame, hother⟩ := ih
    simp only [List.range_succ, List.foldl_append, List.foldl_cons, List.foldl_nil]
    refine ⟨fun k hk => ?_, fun a ha => ?_⟩
    · by_cases hkn : k = n
      · rw [hkn, reg_setReg_same]
      · rw [reg_setReg_other (hinj.ne hkn), hsame k (by omega)]
    · rw [reg_setReg_other (ha n (by omega)), hother a fun k hk => ha k (by omega)]

/-- A fold of register writes changes nothing but registers. -/
theorem foldl_setReg_frame (addr : Nat → Nat) (w : Nat → Word) (l : List Nat) (s : State) :
    let t := l.foldl (fun s k => setReg (addr k) (w k) s) s
    t = { s with regs := t.regs } := by
  induction l generalizing s with
  | nil => rfl
  | cons k l ih => exact (ih _).trans rfl

/-- The two records of a physical array as the snapshot registers show them; nothing for a number with no array. -/
def snapBytes (d p : Nat) (s : State) : Bytes :=
  if p < physCount then trackerBytes s d p ++ marginBytes (marginOf s d p) else []

/-- The state after PICCOLO_SNAP_SEL itself is written, before the copies. -/
def snapShown (d p : Nat) (s : State) : State :=
  setReg (picReg d 0x13C) (word (p + (if p < physCount then 2 ^ 31 else 0))) s

theorem snapSel_eq (d : Nat) (v : Word) (s : State) : snapSel d v s =
    (List.range 6).foldl (fun t k => setReg (picReg d (0x140 + 4 * k))
      (word (byteField (snapBytes d (fld v 12 0) s) (4 * k) (4 * k + 3))) t) (snapShown d (fld v 12 0) s) := by
  by_cases h : fld v 12 0 < physCount <;> simp [snapSel, snapBytes, snapShown, one, h]

theorem snapWord_injective (d : Nat) : Function.Injective (fun k => picReg d (0x140 + 4 * k)) := by
  intro j k h
  simp only [picReg, Reg.luna] at h
  omega

/-- The registers that a write of PICCOLO_SNAP_SEL sets, and what it leaves alone. -/
theorem snapSel_effect (d : Nat) (v : Word) (s : State) :
    let p := fld v 12 0
    let t := snapSel d v s
    reg t (picReg d 0x13C) = word (p + (if p < physCount then 2 ^ 31 else 0)) ∧
      (∀ k < 6, reg t (picReg d (0x140 + 4 * k)) = word (byteField (snapBytes d p s) (4 * k) (4 * k + 3))) ∧
      (∀ a, a ≠ picReg d 0x13C → (∀ k < 6, a ≠ picReg d (0x140 + 4 * k)) → reg t a = reg s a) ∧
      t = { s with regs := t.regs } := by
  have hsel : ∀ k < 6, picReg d 0x13C ≠ picReg d (0x140 + 4 * k) := by
    intro k _
    simp only [picReg, Reg.luna]
    omega
  obtain ⟨hwords, hother⟩ := reg_foldl_setReg (snapWord_injective d)
    (fun k => word (byteField (snapBytes d (fld v 12 0) s) (4 * k) (4 * k + 3))) 6 (snapShown d (fld v 12 0) s)
  have hframe := foldl_setReg_frame (fun k => picReg d (0x140 + 4 * k))
    (fun k => word (byteField (snapBytes d (fld v 12 0) s) (4 * k) (4 * k + 3))) (List.range 6)
    (snapShown d (fld v 12 0) s)
  simp only [snapSel_eq]
  refine ⟨?_, hwords, fun a ha hk => ?_, hframe⟩
  · rw [hother _ hsel, snapShown, reg_setReg_same]
  · rw [hother a hk, snapShown, reg_setReg_other ha]

/-- Settles O22: the six words are the bytes of the two records, or zeros for a number with no array. -/
theorem piccoloSnapshot : Obligations.PiccoloSnapshot := by
  unfold Obligations.PiccoloSnapshot
  intro dt die value s hm p
  obtain ⟨hsel, hwords, hother, hframe⟩ := snapSel_effect die value (advance dt s)
  refine ⟨_, actHost_on hm dt _, ?_, fun k hk => ?_, fun a ha hk => ?_, ?_, ?_⟩
  · rw [reg_mk, readReg_regs, hsel]
  · rw [reg_mk, readReg_regs, hwords k hk, snapBytes]
    split
    · rfl
    · rw [byteField, List.drop_nil, List.take_nil]
      rfl
  · rw [reg_mk, readReg_regs, hother a ha hk, reg_advance]
  · rw [hframe]
    rfl
  · rw [hframe]
    exact .of_eq rfl rfl

end Sys2Proof.Machine

namespace Sys2Proof.Machine

open Sys2Proof.Map

/-! ## What counting, charging and raising events leave alone -/

/-- A state without its log, registers, budgets, fabric, outputs and stop of issue: what is left of it is what counting,
charging and raising events leave alone. -/
def quiet (s : State) : State :=
  { s with log := {}, regs := {}, breath := {}, atlas := {}, fabric := {}, out := [],
           seq := { s.seq with fatal := none } }

section Quiet

variable (s : State) (d p : Nat)

@[simp] theorem quiet_setReg (a : Nat) (v : Word) : quiet (setReg a v s) = quiet s := rfl
@[simp] theorem quiet_setFld (a hi lo v : Nat) : quiet (setFld a hi lo v s) = quiet s := by
  rw [setFld, updReg, quiet_setReg]
@[simp] theorem quiet_bump (a n : Nat) : quiet (bump a n s) = quiet s := rfl
@[simp] theorem quiet_bump64 (a n : Nat) : quiet (bump64 a n s) = quiet s := by
  rw [bump64, setReg64, quiet_setReg, quiet_setReg]
@[simp] theorem quiet_collect (code key n : Nat) : quiet (collect code key n s) = quiet s := rfl
@[simp] theorem quiet_charge (die cls res amount cpj : Nat) : quiet (charge die cls res amount cpj s) = quiet s := rfl

@[simp] theorem quiet_highWater (a hi lo v : Nat) : quiet (highWater a hi lo v s) = quiet s := by
  simp only [highWater]
  split <;> rfl

@[simp] theorem quiet_raiseFor (page code cls req detail : Nat) : quiet (raiseFor page code cls req detail s) = quiet s :=
  (congrArg quiet (raiseFor_only page code cls req detail s)).trans rfl

@[simp] theorem quiet_raise (page code detail : Nat) : quiet (raise page code detail s) = quiet s := quiet_raiseFor ..

@[simp] theorem quiet_raiseOnce (page code key detail : Nat) : quiet (raiseOnce page code key detail s) = quiet s := by
  simp only [raiseOnce]
  split
  · rfl
  · exact quiet_raise ..

/-- Quiet updates made one after another. -/
theorem quiet_foldl {α : Type} {f : State → α → State} (h : ∀ t x, quiet (f t x) = quiet t) (l : List α) :
    quiet (l.foldl f s) = quiet s := foldl_keeps quiet l h s

/-- Work of a breath class does what the work does. -/
theorem quiet_inClass (c : Nat) (f : State → State) :
    quiet (inClass c f s) = quiet (f { s with log := { s.log with cls := c } }) := rfl

/-! ### Codes of passes, and passes that the module runs by itself -/

@[simp] theorem quiet_overEvent (a : Nat) (trn : Bool) (phys quarter : Nat) :
    quiet (overEvent d a trn phys quarter s) = quiet s := by
  simp [overEvent]

@[simp] theorem quiet_integrity (kind a : Nat) : quiet (integrity d kind a s) = quiet s := by
  simp [integrity]

@[simp] theorem quiet_codeSet (a : Nat) (trn : Bool) (quarter : Nat) (c : PassCodes) :
    quiet (codeSet d p a trn quarter c s) = quiet s := by
  simp [codeSet, quiet_foldl]

@[simp] theorem quiet_codeSetsOf (a : Nat) (trn split : Bool) (cs : List PassCodes) :
    quiet (codeSetsOf d p a trn split cs s) = quiet s := by
  simp [codeSetsOf, quiet_foldl]

@[simp] theorem quiet_ownPasses (cls full splits : Nat) : quiet (ownPasses d cls full splits s) = quiet s := by
  simp only [ownPasses]
  generalize full * 83900 + 4 * splits * 21000 = energy
  split_ifs <;> simp

@[simp] theorem quiet_verifyFail (a stage what : Nat) : quiet (verifyFail d p a stage what s) = quiet s := by
  simp [verifyFail]

/-! ### Arrays that retire and trackers that are lost -/

@[simp] theorem quiet_setTrk (t : Tracker) : quiet (setTrk d p t s) = setTrk d p t (quiet s) := rfl

/-- A retired array's record (R162). -/
def retired (cause : Nat) (x : Phys) : Phys := { x with state := 4, logical := 0xFFFF, cause := cause }

/-- Beside its events, retiring an array writes its record and forgets its tracker (R96, R162). -/
@[simp] theorem quiet_retireArray (cause : Nat) :
    quiet (retireArray d p cause s) = unseedTracker d p (updPhys d p (retired cause) (quiet s)) := by
  simp only [retireArray]
  split_ifs <;> simp only [quiet_raise] <;> rfl

@[simp] theorem quiet_loseTracker (cause : Nat) :
    quiet (loseTracker d p cause s) = setTrk d p { trkOf s d p with state := 3, lost := true } (quiet s) := by
  simp only [loseTracker]
  split <;> simp

end Quiet

end Sys2Proof.Machine

namespace Sys2Proof.Machine

open Sys2Proof.Map

/-! ## The registers that a die's work reads -/

section InForce

variable (s : State)

@[simp] theorem inForce_updReg (a : Nat) (f : Word → Word) : (updReg a f s).regs.inForce = s.regs.inForce :=
  inForce_setReg ..

@[simp] theorem inForce_hwSetBits (a : Nat) (m : Word) : (hwSetBits a m s).regs.inForce = s.regs.inForce := by
  unfold hwSetBits
  exact inForce_freshCycle s

@[simp] theorem inForce_captureFirst (page sev code detail : Nat) (ovf : Bool) :
    (captureFirst page sev code detail ovf s).regs.inForce = s.regs.inForce := by
  unfold captureFirst
  exact (inForce_setReg ..).trans ((inForce_setReg ..).trans (inForce_setReg ..))

@[simp] theorem inForce_firstErr (page sev code detail : Nat) :
    (firstErr page sev code detail s).regs.inForce = s.regs.inForce := by
  simp only [firstErr]
  split_ifs
  · rfl
  · exact inForce_captureFirst ..
  · exact inForce_setReg ..

@[simp] theorem inForce_keepFatal (e : Event) : (keepFatal e s).regs.inForce = s.regs.inForce := by
  unfold keepFatal
  exact foldl_keeps (·.regs.inForce) _ (fun _ _ => inForce_setReg ..) _

@[simp] theorem inForce_sendLink (p : Nat) (f : LinkFrame) : (sendLink p f s).regs.inForce = s.regs.inForce := by
  simp only [sendLink, transmit]
  split_ifs <;> simp

@[simp] theorem inForce_sendTo (dst : Nat) (f : Bool → Frame) : (sendTo dst f s).regs.inForce = s.regs.inForce := by
  simp only [sendTo, sendFrame]
  repeat' split
  all_goals simp

@[simp] theorem inForce_msix (v : Nat) : (msix v s).regs.inForce = s.regs.inForce := by
  simp only [msix]
  split_ifs <;> simp

@[simp] theorem inForce_noticeEvent (sev code : Nat) : (noticeEvent sev code s).regs.inForce = s.regs.inForce := by
  simp only [noticeEvent]
  split_ifs <;> simp

@[simp] theorem inForce_signalEvent (e : Event) : (signalEvent e s).regs.inForce = s.regs.inForce := by
  simp only [signalEvent, fatalStop_regs, inForce_noticeEvent]
  split_ifs <;> simp

@[simp] theorem inForce_enqueueEvent (e : Event) : (enqueueEvent e s).regs.inForce = s.regs.inForce := by
  simp only [enqueueEvent]
  split <;> simp

/-- Raising an event leaves the values in force of all registers alone. -/
@[simp] theorem inForce_raise (page code detail : Nat) : (raise page code detail s).regs.inForce = s.regs.inForce := by
  simp [raise, raiseFor, raiseAt]

end InForce

/-- Block and offset of the counters that a die's programs, its scheduled reads and the checks of its accumulators
advance: of its core (R55, R58, R79), Piccolo (R127), its programs (R138), the tensor engine (R221, R233) and its
scratchpad (R282, R292). -/
def workCounters : List (Nat × Nat) :=
  [(0, 0x108), (0, 0x110), (0, 0x114), (0, 0x118), (0, 0x11C), (0, 0x124), (2, 0x134), (3, 0x134), (5, 0x118),
    (5, 0x128), (6, 0x128), (6, 0x12C), (6, 0x130), (6, 0x134)]

/-- A register of a Luna die's block behind the common header that is none of those counters. -/
abbrev IsSetting (k off : Nat) : Prop := k < 8 ∧ 0x100 ≤ off ∧ off < 0x1000 ∧ (k, off) ∉ workCounters

/-- No event changes a register of a Luna die behind the common header (R553, R591). -/
theorem eventReg_luna {d k off : Nat} (hd : d < 16) (h : IsSetting k off) (page : Nat) :
    eventReg page (Reg.luna d k off) = false := by
  obtain ⟨hk, hlo, hhi, -⟩ := h
  simp only [eventReg, signalReg, Bool.or_eq_false_iff, List.any_eq_false, List.mem_range, List.mem_cons,
    List.not_mem_nil, or_false, forall_eq_or_imp, forall_eq, beq_eq_false_iff_ne, beq_iff_eq, Bool.or_eq_true,
    not_or, ra, pgShawm, Reg.luna, Reg.EVTLOG_LAST_FATAL, Reg.EVTLOG_SEV_COUNT, Reg.EVTLOG_LOST_COUNT]
  refine ⟨⟨⟨⟨⟨?_, ?_⟩, ?_⟩, ?_⟩, ?_⟩, ?_⟩ <;> omega

/-- Between two states the settings of a die are the same. -/
structure SameSettings (d : Nat) (s t : State) : Prop where
  inForce : t.regs.inForce = s.regs.inForce
  words : ∀ {k off}, IsSetting k off → reg t (Reg.luna d k off) = reg s (Reg.luna d k off)

section Settings

variable {d : Nat} {s t u : State}

theorem sameSettings_of_regs (h : t.regs = s.regs) : SameSettings d s t := ⟨by rw [h], fun _ => reg_of_regs h _⟩

theorem SameSettings.trans (h : SameSettings d s t) (h' : SameSettings d t u) : SameSettings d s u :=
  ⟨h'.inForce.trans h.inForce, fun hset => (h'.words hset).trans (h.words hset)⟩

theorem SameSettings.symm (h : SameSettings d s t) : SameSettings d t s :=
  ⟨h.inForce.symm, fun hset => (h.words hset).symm⟩

theorem sameSettings_raise (hd : d < 16) {code : Nat} (hc : code < 0x10000) (page detail : Nat) (s : State) :
    SameSettings d s (raise page code detail s) :=
  ⟨inForce_raise .., fun hset => reg_raise hc (eventReg_luna hd hset page) detail s⟩

/-- A register written beside the settings. -/
theorem IsSetting.ne_counter {k off k' off' : Nat} (h : IsSetting k off) (hc : (k', off') ∈ workCounters) (d : Nat) :
    Reg.luna d k off ≠ Reg.luna d k' off' := by
  obtain ⟨hk, -, hoff, hnot⟩ := h
  have hall : ∀ e ∈ workCounters, e.1 < 8 ∧ e.2 < 0x1000 := by decide
  obtain ⟨hk', hoff'⟩ := hall _ hc
  intro heq
  have hsame : k = k' ∧ off = off' := by
    simp only [Reg.luna] at heq
    omega
  exact hnot (by rwa [hsame.1, hsame.2])

theorem sameSettings_bump {k off : Nat} (hc : (k, off) ∈ workCounters) (d n : Nat) (s : State) :
    SameSettings d s (bump (Reg.luna d k off) n s) :=
  ⟨inForce_bump .., fun hset => reg_bump_other (hset.ne_counter hc d) n s⟩

theorem sameSettings_foldl {α : Type} {f : State → α → State} (h : ∀ t x, SameSettings d t (f t x)) (l : List α)
    (s : State) : SameSettings d s (l.foldl f s) := by
  induction l generalizing s with
  | nil => exact sameSettings_of_regs rfl
  | cons x l ih => exact (h s x).trans (ih _)

theorem SameSettings.force (h : SameSettings d s t) {k off : Nat} (hset : IsSetting k off) :
    force t (Reg.luna d k off) = force s (Reg.luna d k off) := by
  simp only [Machine.force, h.inForce, h.words hset]

end Settings

end Sys2Proof.Machine

namespace Sys2Proof.Machine

open Sys2Proof.Map

/-! ## What a program's phases rest on (R137 to R141) -/

theorem luna_of_quiet {s t : State} (h : quiet t = quiet s) : t.luna = s.luna := (congrArg State.luna h :)
theorem nvm_of_quiet {s t : State} (h : quiet t = quiet s) : t.nvm = s.nvm := (congrArg State.nvm h :)
theorem mem_of_quiet {s t : State} (h : quiet t = quiet s) : t.mem = s.mem := (congrArg State.mem h :)
theorem therm_of_quiet {s t : State} (h : quiet t = quiet s) : t.therm = s.therm := (congrArg State.therm h :)

/-- A state of which only the HBM is given. -/
def hbmState (h : SMap Byte) : State := { mem := { hbm := h } }

/-- Between two states everything is the same that the phases of a program on a die rest on. -/
structure SameProgram (d : Nat) (s t : State) : Prop extends SameSettings d s t where
  luna : t.luna = s.luna
  nvm : t.nvm = s.nvm
  hbm : t.mem.hbm = s.mem.hbm
  therm : t.therm = s.therm

section Inputs

variable {d : Nat} {s t u : State}

theorem SameProgram.refl (d : Nat) (s : State) : SameProgram d s s := ⟨sameSettings_of_regs rfl, rfl, rfl, rfl, rfl⟩

theorem SameProgram.trans (h : SameProgram d s t) (h' : SameProgram d t u) : SameProgram d s u where
  toSameSettings := h.toSameSettings.trans h'.toSameSettings
  luna := h'.luna.trans h.luna
  nvm := h'.nvm.trans h.nvm
  hbm := h'.hbm.trans h.hbm
  therm := h'.therm.trans h.therm

theorem SameProgram.symm (h : SameProgram d s t) : SameProgram d t s where
  toSameSettings := h.toSameSettings.symm
  luna := h.luna.symm
  nvm := h.nvm.symm
  hbm := h.hbm.symm
  therm := h.therm.symm

/-- Quiet work that changes no setting. -/
theorem SameSettings.sameProgram (h : SameSettings d s t) (hq : quiet t = quiet s) : SameProgram d s t where
  toSameSettings := h
  luna := luna_of_quiet hq
  nvm := nvm_of_quiet hq
  hbm := congrArg Mem.hbm (mem_of_quiet hq)
  therm := therm_of_quiet hq

/-- The passes that a die runs by itself change only counters. -/
theorem PassesKeep.sameProgram (h : PassesKeep d s t) : SameProgram d s t := by
  obtain ⟨hluna, hnvm, hhbm, htherm, hforce, hregs⟩ := h
  refine ⟨⟨hforce, fun {k off} hset => hregs _ ?_⟩, hluna, hnvm, hhbm, htherm⟩
  have hhigh : Reg.luna d k off ≠ Reg.luna d 0 0x114 := hset.ne_counter (by decide) d
  simp only [List.mem_cons, List.not_mem_nil, or_false, not_or]
  exact ⟨hset.ne_counter (by decide) d, hset.ne_counter (by decide) d, hhigh, hset.ne_counter (by decide) d,
    hset.ne_counter (by decide) d⟩

theorem sameSettings_codeSetsOf (hd : d < 16) (p a : Nat) (trn split : Bool) (cs : List PassCodes) (s : State) :
    SameSettings d s (codeSetsOf d p a trn split cs s) := by
  have hover : ∀ (trn : Bool) (phys quarter : Nat) (s : State),
      SameSettings d s (overEvent d p trn phys quarter s) := fun _ _ _ s =>
    (sameSettings_bump (by decide) d 1 s).trans (sameSettings_raise hd (by decide) ..)
  have hparity : ∀ s : State, SameSettings d s (integrity d 1 a s) := fun s =>
    (sameSettings_bump (by decide) d 1 s).trans (sameSettings_raise hd (by decide) ..)
  have hset : ∀ (q : Nat) (c : PassCodes) (s : State), SameSettings d s (codeSet d p a trn q c s) := fun q c s =>
    (sameSettings_foldl (fun s j => hover trn _ q s) _ s).trans
      ((sameSettings_foldl (fun s k => hover trn _ q s) _ _).trans (sameSettings_foldl (fun s _ => hparity s) _ _))
  exact sameSettings_foldl (fun s (e : Nat × PassCodes) => hset _ e.2 s) _ s

theorem sameProgram_codeSetsOf (hd : d < 16) (p a : Nat) (trn split : Bool) (cs : List PassCodes) (s : State) :
    SameProgram d s (codeSetsOf d p a trn split cs s) :=
  (sameSettings_codeSetsOf hd p a trn split cs s).sameProgram (quiet_codeSetsOf ..)

theorem SameProgram.shadowDir_congr (h : SameProgram d s t) (a : Nat) : shadowDir t d a = shadowDir s d a := by
  have hbase : shadowBase t d = shadowBase s d := by
    have hlow : reg t (refReg d 0x120) = reg s (refReg d 0x120) := h.words (by decide)
    have hhigh : reg t (refReg d 0x120 + 4) = reg s (refReg d 0x120 + 4) := h.words (off := 0x124) (by decide)
    simp only [shadowBase, reg64, hlow, hhigh]
  have hread : hbmRead t = hbmRead s := congrArg (fun m => hbmRead (hbmState m)) h.hbm
  simp only [shadowDir, hbase, hread]

theorem SameProgram.planPass_congr (h : SameProgram d s t) (level : Nat) (trn : Bool) (nibs : List Int) :
    planPass t d level trn nibs = planPass s d level trn nibs := by
  simp only [planPass, coreReg, h.force (show IsSetting 0 0x100 by decide)]

theorem SameProgram.baselineValues_congr (h : SameProgram d s t) (p : Nat) (refs : List PassCodes) :
    baselineValues t d p refs = baselineValues s d p refs := by
  have hkt : ktOf t d p = ktOf s d p := by
    unfold ktOf betaInForce betaOf est
    rw [h.luna, h.nvm, h.therm]
  have hcfg : Machine.force t (picReg d 0x100) = Machine.force s (picReg d 0x100) := h.force (by decide)
  simp only [baselineValues, hkt, hcfg]

end Inputs

/-! ## The phases of a program (R138 to R141) -/

section Phases

variable {d : Nat} (hd : d < 16) (c : Channel) (o : ProgObs) {s t : State}

/-- What the cell stage finds: the record with its new assignments, and the cells that nothing covers (R139). -/
def cellsFound (d : Nat) (c : Channel) (o : ProgObs) (s : State) : Phys × List CellObs :=
  cellStage s (shadowDir s d c.logical) c.repair (physOf s d c.phys) o.cells

/-- The record area after the cell stage. -/
def cellsStored (d : Nat) (c : Channel) (o : ProgObs) (s : State) : Nvm :=
  let e := shadowDir s d c.logical
  let x := (cellsFound d c o s).1
  { s.nvm with
    phys := mset (physDefault c.phys) s.nvm.phys (physKey d c.phys) { x with iterMax := iterMost s e x o.cells }
    stale := mdel s.nvm.stale (physKey d c.phys)
    cells := mput s.nvm.cells (physKey d c.phys) (programmedCells s e x) }

theorem runCells_eq (s : State) : runCells d c o s =
    (let bad := (cellsFound d c o s).2
      if bad.isEmpty then none else some (3, bad.length), { s with nvm := cellsStored d c o s }) := rfl

/-- The cell stage's answer and what it leaves rest on the same inputs. -/
theorem SameProgram.runCells_congr (h : SameProgram d s t) :
    (runCells d c o t).1 = (runCells d c o s).1 ∧ SameProgram d (runCells d c o s).2 (runCells d c o t).2 := by
  have hcells : cellStage t = cellStage s := congrArg (fun m => cellStage (hbmState m)) h.hbm
  have hmost : iterMost t = iterMost s := congrArg (fun m => iterMost (hbmState m)) h.hbm
  have hcodes : programmedCells t = programmedCells s := congrArg (fun m => programmedCells (hbmState m)) h.hbm
  have hphys : physOf t d c.phys = physOf s d c.phys := by rw [physOf, h.nvm, physOf]
  have hfound : cellsFound d c o t = cellsFound d c o s := by
    rw [cellsFound, hcells, hphys, h.shadowDir_congr, cellsFound]
  have hstored : cellsStored d c o t = cellsStored d c o s := by
    rw [cellsStored, hfound, hmost, hcodes, h.shadowDir_congr, h.nvm, cellsStored]
  rw [runCells_eq, runCells_eq, hfound, hstored]
  exact ⟨rfl, ⟨h.inForce, h.words⟩, h.luna, rfl, h.hbm, h.therm⟩

/-- The plans of the acceptance stage (R140). -/
def acceptPlans (d : Nat) (c : Channel) (s : State) : List PassPlan :=
  (List.range 64).map (fun k =>
    planPass s d (shadowDir s d c.logical).level false (testNibs (lunaDie s d).lfsr false k))

/-- What the acceptance stage says of the results it lists, against a directory entry and a test sequence. -/
def acceptAnswer (o : ProgObs) (e : ShadowDir) (lfsr : Word) (s : State) : Option (Nat × Nat) :=
  let bad := o.accept.filter (fun r => decide (r.pass < 64) && decide (r.col < 512) && !acceptOk s e lfsr r)
  if bad.isEmpty then none else some (4, worstEta s e lfsr bad)

theorem runAccept_eq (s : State) : runAccept d c o s =
    (acceptAnswer o (shadowDir s d c.logical) (lunaDie s d).lfsr (runPlans d 6 (acceptPlans d c s) s),
      runPlans d 6 (acceptPlans d c s) s) := by
  unfold runAccept acceptAnswer acceptPlans
  rfl

theorem acceptAnswer_congr (e : ShadowDir) (lfsr : Word) (h : t.mem.hbm = s.mem.hbm) :
    acceptAnswer o e lfsr t = acceptAnswer o e lfsr s :=
  congrArg (fun m => acceptAnswer o e lfsr (hbmState m)) h

theorem runAccept_keeps (s : State) : SameProgram d s (runAccept d c o s).2 := by
  rw [runAccept_eq]
  generalize acceptPlans d c s = plans
  exact (runPlans_keeps d 6 plans s).sameProgram

theorem SameProgram.runAccept_congr (h : SameProgram d s t) :
    (runAccept d c o t).1 = (runAccept d c o s).1 := by
  have hlfsr : (lunaDie t d).lfsr = (lunaDie s d).lfsr := by rw [lunaDie, h.luna, lunaDie]
  have hhbm : (runAccept d c o t).2.mem.hbm = (runAccept d c o s).2.mem.hbm :=
    (runAccept_keeps c o t).hbm.trans (h.hbm.trans (runAccept_keeps c o s).hbm.symm)
  rw [runAccept_eq, runAccept_eq] at hhbm ⊢
  rw [hlfsr, h.shadowDir_congr, acceptAnswer_congr o _ _ hhbm]

/-- The plans of the gain measure's passes in one direction (R141). -/
def gainPlans (d : Nat) (c : Channel) (trn : Bool) (s : State) : List PassPlan :=
  (List.range 16).map (fun k => planPass s d (shadowDir s d c.logical).level trn
    (testNibs (lunaDie s d).lfsr trn (if trn then k else 64 + k)))

/-- The codes of the gain measure's passes in one direction are seen. -/
def gainCodes (d : Nat) (c : Channel) (trn : Bool) (plans : List PassPlan) (seen : List (List PassCodes)) (s : State) :
    State :=
  (plans.zip seen).foldl (fun s g => codeSetsOf d c.phys c.logical trn g.1.split g.2 s) s

/-- The state once the gain measure's passes have run and their codes are seen. -/
def gainsSeen (d : Nat) (c : Channel) (o : ProgObs) (s : State) : State :=
  gainCodes d c true (gainPlans d c true s) o.gainTrn
    (gainCodes d c false (gainPlans d c false s) o.gainFwd
      (runPlans d 6 (gainPlans d c false s ++ gainPlans d c true s) s))

/-- The staging block of a program, from the state in which the codes are seen (R116, R141). -/
def gainBlock (d : Nat) (c : Channel) (o : ProgObs) (s : State) : Bytes :=
  stageBlock (gainsSeen d c o s) d c.logical
    (measuredGains (gainsSeen d c o s) (shadowDir s d c.logical) (lunaDie s d).lfsr o)

/-- The state with the staging block in its place. -/
def gainsStored (d : Nat) (c : Channel) (o : ProgObs) (s : State) : State :=
  spadPuts d c.stage (bytesWords (gainBlock d c o s) false)
    { gainsSeen d c o s with freeIdx := (gainsSeen d c o s).freeIdx + 1536 }

theorem runGains_eq (s : State) : runGains d c o s =
    if regFld (gainsSeen d c o s) (refReg d 0x11C) 25 0 % 4 != 0 then (some (5, 0), gainsSeen d c o s)
    else (none, gainsStored d c o s) := by
  unfold runGains gainsStored gainBlock gainsSeen gainPlans gainCodes
  rfl

include hd

theorem gainCodes_keeps (trn : Bool) (plans : List PassPlan) (seen : List (List PassCodes)) (s : State) :
    SameProgram d s (gainCodes d c trn plans seen s) :=
  (sameSettings_foldl (fun _ _ => sameSettings_codeSetsOf hd ..) _ s).sameProgram
    (quiet_foldl _ (fun _ _ => quiet_codeSetsOf ..) _)

theorem gainsSeen_keeps (s : State) : SameProgram d s (gainsSeen d c o s) :=
  have hrun := (runPlans_keeps d 6 (gainPlans d c false s ++ gainPlans d c true s) s).sameProgram
  have hfwd := gainCodes_keeps hd c false (gainPlans d c false s) o.gainFwd
    (runPlans d 6 (gainPlans d c false s ++ gainPlans d c true s) s)
  hrun.trans (hfwd.trans (gainCodes_keeps hd c true (gainPlans d c true s) o.gainTrn _))

theorem gainsStored_keeps (s : State) : SameProgram d s (gainsStored d c o s) :=
  have hfree : SameProgram d (gainsSeen d c o s)
      { gainsSeen d c o s with freeIdx := (gainsSeen d c o s).freeIdx + 1536 } :=
    ⟨⟨rfl, fun _ => rfl⟩, rfl, rfl, rfl, rfl⟩
  ((gainsSeen_keeps hd c o s).trans hfree).trans
    (spadPuts_keeps d d (bytesWords (gainBlock d c o s) false) c.stage _).sameProgram

theorem runGains_keeps (s : State) : SameProgram d s (runGains d c o s).2 := by
  rw [runGains_eq]
  split
  · exact gainsSeen_keeps hd c o s
  · exact gainsStored_keeps hd c o s

theorem SameProgram.runGains_congr (h : SameProgram d s t) : (runGains d c o t).1 = (runGains d c o s).1 := by
  have hseen : SameProgram d (gainsSeen d c o s) (gainsSeen d c o t) :=
    (gainsSeen_keeps hd c o s).symm.trans (h.trans (gainsSeen_keeps hd c o t))
  have hbase : regFld (gainsSeen d c o t) (refReg d 0x11C) 25 0 = regFld (gainsSeen d c o s) (refReg d 0x11C) 25 0 :=
    congrArg (fld · 25 0) (hseen.words (k := 3) (by decide))
  rw [runGains_eq, runGains_eq, hbase]
  split <;> rfl

/-- The seeding pass (R98). -/
def seedPlan (d : Nat) (c : Channel) (s : State) : PassPlan :=
  planPass s d (shadowDir s d c.logical).level false (List.replicate 1024 4)

/-- The codes of the seeding pass that are due. -/
def seedRefs (d : Nat) (c : Channel) (o : ProgObs) (s : State) : List PassCodes :=
  baselineSets (codeSets (seedPlan d c s)) o.refs

/-- The state once the seeding pass has run and its codes are seen. -/
def seedSeen (d : Nat) (c : Channel) (o : ProgObs) (s : State) : State :=
  codeSetsOf d c.phys c.logical false (seedPlan d c s).split (seedRefs d c o s) (runPlans d 6 [seedPlan d c s] s)

omit hd in
theorem runSeed_eq (s : State) : runSeed d c o s =
    (baselineSeed (baselineValues (seedSeen d c o s) d c.phys (seedRefs d c o s)), seedSeen d c o s) := by
  unfold runSeed seedSeen seedRefs seedPlan
  rfl

theorem seedSeen_keeps (s : State) : SameProgram d s (seedSeen d c o s) :=
  (runPlans_keeps d 6 [seedPlan d c s] s).sameProgram.trans (sameProgram_codeSetsOf hd ..)

theorem SameProgram.runSeed_congr (h : SameProgram d s t) : (runSeed d c o t).1 = (runSeed d c o s).1 := by
  have hplan : seedPlan d c t = seedPlan d c s := by
    rw [seedPlan, h.shadowDir_congr, h.planPass_congr, seedPlan]
  have hrefs : seedRefs d c o t = seedRefs d c o s := by
    rw [seedRefs, hplan, seedRefs]
  have hseen : SameProgram d (seedSeen d c o s) (seedSeen d c o t) :=
    (seedSeen_keeps hd c o s).symm.trans (h.trans (seedSeen_keeps hd c o t))
  rw [runSeed_eq, runSeed_eq, hrefs, hseen.baselineValues_congr]

/-- What a program's seeding pass says, a seed that is none being the failure of phase 6 (R98, R144). -/
def seedPhase (d : Nat) (c : Channel) (o : ProgObs) (s : State) : ((Word × Int) ⊕ (Nat × Nat)) × State :=
  ((match (runSeed d c o s).1 with | none => .inr (6, 0) | some v => .inl v), (runSeed d c o s).2)

/-- A phase of a program and, where it does not fail, what follows it. -/
def andThen (f : State → Option (Nat × Nat) × State) (g : State → ((Word × Int) ⊕ (Nat × Nat)) × State) (s : State) :
    ((Word × Int) ⊕ (Nat × Nat)) × State :=
  match f s with
  | (some e, s) => (.inr e, s)
  | (none, s) => g s

omit hd in
theorem runProgram_eq (s : State) : runProgram d c o s =
    andThen (runCells d c o) (andThen (runAccept d c o) (andThen (runGains d c o) (seedPhase d c o))) s := by
  unfold runProgram andThen seedPhase
  rcases runCells d c o s with ⟨_ | f, s⟩
  · dsimp only
    rcases runAccept d c o s with ⟨_ | f, s⟩
    · dsimp only
      rcases runGains d c o s with ⟨_ | f, s⟩
      · dsimp only
        rcases runSeed d c o s with ⟨_ | v, s⟩ <;> rfl
      · rfl
    · rfl
  · rfl

omit hd in
theorem andThen_keeps {f : State → Option (Nat × Nat) × State} {g : State → ((Word × Int) ⊕ (Nat × Nat)) × State}
    (hf : SameProgram d u (f s).2) (hg : ∀ s, SameProgram d s (g s).2) : SameProgram d u (andThen f g s).2 := by
  unfold andThen
  rcases hfs : f s with ⟨_ | e, s'⟩ <;> rw [hfs] at hf
  · exact hf.trans (hg s')
  · exact hf

omit hd in
theorem andThen_congr {f : State → Option (Nat × Nat) × State} {g : State → ((Word × Int) ⊕ (Nat × Nat)) × State}
    (hf : (f t).1 = (f s).1) (hst : SameProgram d (f s).2 (f t).2)
    (hg : ∀ {s t}, SameProgram d s t → (g t).1 = (g s).1) : (andThen f g t).1 = (andThen f g s).1 := by
  unfold andThen
  rcases hfs : f s with ⟨_ | e, s'⟩ <;> rcases hft : f t with ⟨_ | e', t'⟩ <;>
    simp only [hfs, hft, Option.some.injEq, reduceCtorEq] at hf hst ⊢
  · exact hg hst
  · rw [hf]

theorem seedPhase_keeps (s : State) : SameProgram d s (seedPhase d c o s).2 := by
  have hseen : (seedPhase d c o s).2 = seedSeen d c o s := by rw [seedPhase, runSeed_eq]
  rw [hseen]
  exact seedSeen_keeps hd c o s

theorem gainPhases_keep (s : State) : SameProgram d s (andThen (runGains d c o) (seedPhase d c o) s).2 :=
  andThen_keeps (runGains_keeps hd c o s) (seedPhase_keeps hd c o)

theorem SameProgram.gainPhases_congr (h : SameProgram d s t) :
    (andThen (runGains d c o) (seedPhase d c o) t).1 = (andThen (runGains d c o) (seedPhase d c o) s).1 := by
  refine andThen_congr (d := d) (h.runGains_congr hd c o) ?_ fun h => ?_
  · exact (runGains_keeps hd c o _).symm.trans (h.trans (runGains_keeps hd c o _))
  · rw [seedPhase, seedPhase, h.runSeed_congr hd]

/-- After the cell stage a program's phases change nothing that they rest on. -/
theorem runProgram_keeps (s : State) : SameProgram d (runCells d c o s).2 (runProgram d c o s).2 := by
  rw [runProgram_eq]
  exact andThen_keeps (.refl ..) fun s => andThen_keeps (runAccept_keeps c o s) (gainPhases_keep hd c o)

/-- A program's phases go alike in states that agree on what they rest on. -/
theorem SameProgram.runProgram_congr (h : SameProgram d s t) :
    (runProgram d c o t).1 = (runProgram d c o s).1 := by
  rw [runProgram_eq, runProgram_eq]
  refine andThen_congr (h.runCells_congr c o).1 (h.runCells_congr c o).2 fun h => ?_
  refine andThen_congr (h.runAccept_congr c o) ?_ (SameProgram.gainPhases_congr hd c o)
  exact (runAccept_keeps c o _).symm.trans (h.trans (runAccept_keeps c o _))

end Phases
end Sys2Proof.Machine

namespace Sys2Proof.Machine

open Sys2Proof.Map

/-! ## A die's records as they are read after they are written -/

section Records

variable (s : State) (d p : Nat)

theorem physKey_injective {d p q : Nat} (h : physKey d q = physKey d p) : q = p := by
  simp only [physKey] at h
  omega

/-! ### Physical arrays -/

@[simp] theorem physOf_updPhys_same (f : Phys → Phys) : physOf (updPhys d p f s) d p = f (physOf s d p) :=
  mget_mset_same ..

theorem physOf_updPhys_other {q : Nat} (f : Phys → Phys) (h : q ≠ p) : physOf (updPhys d p f s) d q = physOf s d q := by
  have hkey : physKey d q ≠ physKey d p := fun hk => h (physKey_injective hk)
  show (find? (mset _ _ _ _) _).getD _ = _
  rw [find?_mset_other _ _ _ hkey]
  rfl

@[simp] theorem physOf_quiet (q : Nat) : physOf (quiet s) d q = physOf s d q := rfl
@[simp] theorem physOf_setLunaDie (q : Nat) (x : LunaDie) : physOf (setLunaDie d x s) d q = physOf s d q := rfl
@[simp] theorem physOf_updCmd (q : Nat) (f : RefreshCmd → RefreshCmd) : physOf (updCmd d f s) d q = physOf s d q := rfl
@[simp] theorem physOf_endCmd (q result : Nat) : physOf (endCmd d result s) d q = physOf s d q := rfl
@[simp] theorem physOf_unseedTracker (q : Nat) : physOf (unseedTracker d p s) d q = physOf s d q := rfl

@[simp] theorem retired_programs (cause : Nat) (x : Phys) : (retired cause x).programs = x.programs := rfl

/-! ### The dies -/

@[simp] theorem lunaDie_quiet : lunaDie (quiet s) d = lunaDie s d := rfl
@[simp] theorem lunaDie_updCmd (f : RefreshCmd → RefreshCmd) :
    lunaDie (updCmd d f s) d = { lunaDie s d with cmd := f (lunaDie s d).cmd } := lunaDie_updLunaDie ..
@[simp] theorem lunaDie_setTrk (t : Tracker) : lunaDie (setTrk d p t s) d = lunaDie s d := rfl
@[simp] theorem lunaDie_unseedTracker : lunaDie (unseedTracker d p s) d = lunaDie s d := rfl
@[simp] theorem lunaDie_setMargin (m : Margin) : lunaDie (setMargin d p m s) d = lunaDie s d := rfl
@[simp] theorem lunaDie_updPhys (f : Phys → Phys) : lunaDie (updPhys d p f s) d = lunaDie s d := rfl
@[simp] theorem lunaDie_setMap (a : Nat) (e : MapEntry) : lunaDie (setMap d a e s) d = lunaDie s d := rfl
@[simp] theorem lunaDie_freeArray : lunaDie (freeArray d p s) d = lunaDie s d := rfl

end Records

/-! ## What a host command that goes on leaves alone -/

/-- Of a die's record, what no channel's work for a host command changes. -/
structure DieView where
  pending : List Swap
  checking : Bool
  colDone : Bool
  checkFrom : Nat
  done : Nat

def dieView (x : LunaDie) : DieView := ⟨x.pending, x.checking, x.colDone, x.checkFrom, x.cmd.done⟩

/-- The part of a state that a die's host command leaves alone as it goes on. -/
structure CmdView where
  mem : Mem
  host : Hostif
  boot : Boot
  map : SMap MapEntry
  programs : Nat → Nat
  die : DieView

def cmdView (d : Nat) (s : State) : CmdView where
  mem := s.mem
  host := s.host
  boot := s.boot
  map := s.nvm.map
  programs p := (physOf s d p).programs
  die := dieView (lunaDie s d)

section CmdView

variable (d : Nat) (s : State)

@[simp] theorem cmdView_quiet : cmdView d (quiet s) = cmdView d s := rfl

theorem cmdView_of_quiet {s t : State} (h : quiet t = quiet s) : cmdView d t = cmdView d s := by
  rw [← cmdView_quiet, h, cmdView_quiet]

@[simp] theorem cmdView_setTrk (p : Nat) (t : Tracker) : cmdView d (setTrk d p t s) = cmdView d s := rfl
@[simp] theorem cmdView_unseedTracker (p : Nat) : cmdView d (unseedTracker d p s) = cmdView d s := rfl

theorem cmdView_setLunaDie {x : LunaDie} (h : dieView x = dieView (lunaDie s d)) :
    cmdView d (setLunaDie d x s) = cmdView d s := by
  unfold cmdView
  rw [lunaDie_setLunaDie, h]
  rfl

@[simp] theorem cmdView_updCmd {f : RefreshCmd → RefreshCmd} (h : ∀ c, (f c).done = c.done) :
    cmdView d (updCmd d f s) = cmdView d s :=
  cmdView_setLunaDie d s (by simp only [dieView, h])

@[simp] theorem cmdView_endCmd (result : Nat) : cmdView d (endCmd d result s) = cmdView d s :=
  cmdView_updCmd d s fun _ => rfl

@[simp] theorem cmdView_updPhys (p : Nat) {f : Phys → Phys} (h : ∀ x, (f x).programs = x.programs) :
    cmdView d (updPhys d p f s) = cmdView d s := by
  have hprograms : ∀ q, (physOf (updPhys d p f s) d q).programs = (physOf s d q).programs := by
    intro q
    by_cases hq : q = p
    · rw [hq, physOf_updPhys_same, h]
    · rw [physOf_updPhys_other s d p f hq]
  unfold cmdView
  simp only [hprograms]
  rfl

@[simp] theorem cmdView_raise (page code detail : Nat) : cmdView d (raise page code detail s) = cmdView d s :=
  cmdView_of_quiet d (quiet_raise ..)

@[simp] theorem cmdView_verifyFail (p a stage what : Nat) : cmdView d (verifyFail d p a stage what s) = cmdView d s :=
  cmdView_of_quiet d (quiet_verifyFail ..)

@[simp] theorem cmdView_retireArray (p cause : Nat) : cmdView d (retireArray d p cause s) = cmdView d s := by
  rw [← cmdView_quiet, quiet_retireArray, cmdView_unseedTracker,
    cmdView_updPhys d (quiet s) p (retired_programs cause), cmdView_quiet]

/-- A channel starts, if it can. -/
@[simp] theorem cmdView_startChannel (kind : ChanKind) (p a : Nat) (repair : Bool) :
    cmdView d (startChannel d kind p a repair s).2 = cmdView d s := by
  unfold startChannel
  cases freeChannel s d with
  | none => rfl
  | some k =>
    dsimp only
    split
    · rfl
    · split
      · exact (cmdView_of_quiet d ((quiet_inClass ..).trans (quiet_ownPasses ..))).trans (cmdView_setLunaDie d s rfl)
      · exact cmdView_setLunaDie d s rfl

@[simp] theorem cmdView_installOne (a : Nat) : cmdView d (installOne d a s).2 = cmdView d s := by
  simp only [installOne]
  split
  · simp
  · split <;> simp

@[simp] theorem cmdView_installMore (fuel : Nat) : cmdView d (installMore d fuel s) = cmdView d s := by
  induction fuel generalizing s with
  | zero => rfl
  | succ fuel ih =>
    unfold installMore
    dsimp only
    split
    · split
      · simp [ih]
      · simp
    · split
      · rfl
      · split
        · simp [ih]
        · simp

@[simp] theorem cmdView_replaceStart : cmdView d (replaceStart d s) = cmdView d s := by
  simp only [replaceStart]
  split
  · rfl
  · split
    · simp
    · split <;> simp

/-- A host command that goes on changes only its own state, channels, trackers and the state of physical arrays. -/
@[simp] theorem cmdView_cmdGoOn : cmdView d (cmdGoOn d s) = cmdView d s := by
  simp only [cmdGoOn]
  split_ifs <;> simp

variable {d s} {t : State}

theorem mem_of_cmdView (h : cmdView d t = cmdView d s) : t.mem = s.mem := congrArg CmdView.mem h

theorem sameMemory_of_cmdView (h : cmdView d t = cmdView d s) : SameMemory s t :=
  .of_eq (congrArg CmdView.mem h) (congrArg (fun w => (CmdView.host w).bar2) h)

theorem mapOf_of_cmdView (h : cmdView d t = cmdView d s) (a : Nat) : mapOf t d a = mapOf s d a :=
  congrArg (fun w => mget (mapDefault a) (CmdView.map w) (d * 4096 + a)) h

end CmdView

end Sys2Proof.Machine

namespace Sys2Proof.Machine

open Sys2Proof.Map

/-! ## What the record area and the dies hold once a channel's procedure has ended -/

/-- The memories, the dies with their trackers and records, and the maps and physical records in the record area. -/
structure RecordView where
  mem : Mem
  host : Hostif
  boot : Boot
  luna : LunaState
  map : SMap MapEntry
  phys : SMap Phys

def recordView (s : State) : RecordView := ⟨s.mem, s.host, s.boot, s.luna, s.nvm.map, s.nvm.phys⟩

section RecordView

variable {s t : State}

theorem recordView_of_quiet (h : quiet t = quiet s) : recordView t = recordView s := (congrArg recordView h :)

theorem physOf_of_recordView (h : recordView t = recordView s) (d p : Nat) : physOf t d p = physOf s d p :=
  congrArg (fun v => mget (physDefault p) (RecordView.phys v) (physKey d p)) h

theorem lunaDie_of_recordView (h : recordView t = recordView s) (d : Nat) : lunaDie t d = lunaDie s d :=
  congrArg (fun v => mget ({} : LunaDie) (RecordView.luna v).dies d) h

theorem mapOf_of_recordView (h : recordView t = recordView s) (d a : Nat) : mapOf t d a = mapOf s d a :=
  congrArg (fun v => mget (mapDefault a) (RecordView.map v) (d * 4096 + a)) h

theorem cmdView_of_recordView (h : recordView t = recordView s) (d : Nat) : cmdView d t = cmdView d s := by
  simp only [cmdView, physOf_of_recordView h, lunaDie_of_recordView h]
  simp only [recordView, RecordView.mk.injEq] at h
  simp only [h]

theorem mem_of_recordView (h : recordView t = recordView s) : t.mem = s.mem := congrArg RecordView.mem h

theorem recordView_nvmFind (o : NvmObs) (s : State) : recordView (nvmFind o s).2 = recordView s := by
  simp only [nvmFind]
  split
  · exact recordView_of_quiet (quiet_bump ..)
  · have hraised : recordView (raise 8 Evt.NVM_ECC_UNCORRECTED o.block.toNat (bump Reg.NVREC_ECC_UNCORR_COUNT 1 s)) =
        recordView s := recordView_of_quiet ((quiet_raise ..).trans (quiet_bump ..))
    split
    · exact (recordView_of_quiet (quiet_raise ..)).trans hraised
    · dsimp only
      split
      · exact (recordView_of_quiet (quiet_raise ..)).trans hraised
      · exact hraised

theorem recordView_nvmFinds (l : List NvmObs) (s : State) : recordView (nvmFinds l s).2 = recordView s := by
  have hfold : ∀ x : Bool × State, recordView (l.foldl (fun (x : Bool × State) o =>
      let y := nvmFind o x.2
      (x.1 || y.1, y.2)) x).2 = recordView x.2 := by
    induction l with
    | nil => exact fun _ => rfl
    | cons o l ih => exact fun x => (ih _).trans (recordView_nvmFind o x.2)
  exact hfold (false, s)

/-- Writing the physical record changes nothing that a die's work reads. -/
theorem recordView_programWrites {d k : Nat} {c : Channel} (o : ProgObs) (hc : find? (lunaDie s d).channels k = some c)
    (hkind : c.kind ≠ .audit) : recordView (programWrites d k o s) = recordView (programEnds d k o s) := by
  simp only [programWrites, hc, hkind, if_false]
  split
  · exact recordView_nvmFinds ..
  · exact recordView_nvmFinds ..

end RecordView

/-! ## Channels that end -/

section Channels

variable (s : State) (d k : Nat)

/-- A freed channel: beside the channels and the staging pool of its die everything stays. -/
theorem dropChannel_eq (keep : Bool) : ∃ chans stages,
    dropChannel d k keep s = setLunaDie d { lunaDie s d with channels := chans, stages := stages } s ∨
      dropChannel d k keep s = s := by
  simp only [dropChannel]
  cases find? (lunaDie s d).channels k with
  | none => exact ⟨[], [], .inr rfl⟩
  | some c => exact ⟨_, _, .inl rfl⟩

@[simp] theorem channel_dropChannel_same (keep : Bool) : find? (lunaDie (dropChannel d k keep s) d).channels k = none := by
  simp only [dropChannel]
  split
  next hnone => exact hnone
  next => simp

@[simp] theorem cmd_dropChannel (keep : Bool) : (lunaDie (dropChannel d k keep s) d).cmd = (lunaDie s d).cmd := by
  obtain ⟨_, _, h | h⟩ := dropChannel_eq s d k keep <;> simp [h]

@[simp] theorem pending_dropChannel (keep : Bool) :
    (lunaDie (dropChannel d k keep s) d).pending = (lunaDie s d).pending := by
  obtain ⟨_, _, h | h⟩ := dropChannel_eq s d k keep <;> simp [h]

@[simp] theorem physOf_dropChannel (keep : Bool) (p : Nat) : physOf (dropChannel d k keep s) d p = physOf s d p := by
  obtain ⟨_, _, h | h⟩ := dropChannel_eq s d k keep <;> simp [h]

@[simp] theorem cmdView_dropChannel (keep : Bool) : cmdView d (dropChannel d k keep s) = cmdView d s := by
  obtain ⟨_, _, h | h⟩ := dropChannel_eq s d k keep <;> rw [h]
  exact cmdView_setLunaDie d s rfl

@[simp] theorem lunaDie_retireArray (p cause : Nat) : lunaDie (retireArray d p cause s) d = lunaDie s d := by
  rw [← lunaDie_quiet, quiet_retireArray]
  rfl

/-- A retired array's record. -/
@[simp] theorem physOf_retireArray_same (p cause : Nat) :
    physOf (retireArray d p cause s) d p = retired cause (physOf s d p) := by
  rw [← physOf_quiet, quiet_retireArray, physOf_unseedTracker, physOf_updPhys_same, physOf_quiet]

@[simp] theorem lunaDie_verifyFail (p a stage what : Nat) : lunaDie (verifyFail d p a stage what s) d = lunaDie s d := by
  rw [← lunaDie_quiet, quiet_verifyFail, lunaDie_quiet]

theorem cmdGoOn_idle {s : State} {d : Nat} (h : (lunaDie s d).cmd.busy = false) : cmdGoOn d s = s := by
  simp [cmdGoOn, h]

/-! ### A program that failed (R142, R144, R153) -/

variable (c : Channel) (result : Nat)

/-- Where a program failed its channel is free. -/
theorem channel_programFailed : find? (lunaDie (programFailed d k c result s) d).channels k = none := by
  simp only [programFailed, cmdFailed]
  split_ifs <;> simp [endCmd]

/-- A program that failed leaves no command at work that was none, nor one that is cancelled. -/
theorem cmd_programFailed {s : State} (hbusy : (lunaDie s d).cmd.busy = false) (hcancel : (lunaDie s d).cmd.cancelAt = none) :
    (lunaDie (programFailed d k c result s) d).cmd.busy = false ∧
      (lunaDie (programFailed d k c result s) d).cmd.cancelAt = none := by
  simp only [programFailed, cmdFailed]
  split_ifs <;> simp [endCmd, hbusy, hcancel]

/-- The spare of a rotation or a REPLACE that failed is retired. -/
theorem physOf_programFailed (h : c.kind = .rotate ∨ c.kind = .replace) :
    physOf (programFailed d k c result s) d c.phys = retired 1 (physOf s d c.phys) := by
  simp only [programFailed, cmdFailed, h, if_true]
  split_ifs <;> simp

@[simp] theorem cmdView_programFailed : cmdView d (programFailed d k c result s) = cmdView d s := by
  simp only [programFailed, cmdFailed]
  split_ifs <;> simp

end Channels
end Sys2Proof.Machine

namespace Sys2Proof.Machine

open Sys2Proof.Map

/-! ## A program that passed (R97, R144, R149, R153) -/

section Passed

variable (s : State) (d k p : Nat) (c : Channel) (o : ProgObs)

@[simp] theorem cmdView_setMargin (m : Margin) : cmdView d (setMargin d p m s) = cmdView d s := rfl
@[simp] theorem cmdView_setBeta (b : Int) : cmdView d (setBeta d p b s) = cmdView d s := rfl
@[simp] theorem lunaDie_setBeta (b : Int) : lunaDie (setBeta d p b s) d = lunaDie s d := rfl
@[simp] theorem cmd_clearLapsed (a cause : Nat) : (lunaDie (clearLapsed d a cause s) d).cmd = (lunaDie s d).cmd :=
  (congrArg LunaDie.cmd (lunaDie_updLunaDie d s fun x => { x with lapsed := x.lapsed.filter (· != a * 4 + cause) }) :)

@[simp] theorem cmdView_clearLapsed (a cause : Nat) : cmdView d (clearLapsed d a cause s) = cmdView d s :=
  cmdView_setLunaDie d s rfl

@[simp] theorem lunaDie_ageReset (a : Nat) : lunaDie (ageReset d a s) d = lunaDie s d := rfl
@[simp] theorem cmdView_ageReset (a : Nat) : cmdView d (ageReset d a s) = cmdView d s := rfl

theorem cmdView_setMap (a : Nat) (e : MapEntry) : cmdView d (setMap d a e s) =
    { cmdView d s with map := mset (mapDefault a) s.nvm.map (d * 4096 + a) e } := rfl

/-- One more array of a host command is done. -/
theorem cmdView_countDone : cmdView d (updCmd d (fun x => { x with done := x.done + 1 }) s) =
    { cmdView d s with die := { (cmdView d s).die with done := (cmdView d s).die.done + 1 } } := by
  unfold cmdView
  rw [lunaDie_updCmd]
  rfl

theorem cmdView_addPending (w : Swap) : cmdView d (updLunaDie d (fun x => { x with pending := x.pending ++ [w] }) s) =
    { cmdView d s with die := { (cmdView d s).die with pending := (cmdView d s).die.pending ++ [w] } } := by
  unfold cmdView
  rw [lunaDie_updLunaDie]
  rfl

@[simp] theorem lunaDie_raise (page code detail : Nat) : lunaDie (raise page code detail s) d = lunaDie s d := by
  rw [← lunaDie_quiet, quiet_raise, lunaDie_quiet]

@[simp] theorem lunaDie_driftCheck : lunaDie (driftCheck d p s) d = lunaDie s d := by
  simp only [driftCheck]
  split <;> simp

@[simp] theorem cmdView_driftCheck : cmdView d (driftCheck d p s) = cmdView d s := by
  simp only [driftCheck]
  split <;> simp

@[simp] theorem cmd_seedTracker (g : Word) (b : Int) : (lunaDie (seedTracker d p g b s) d).cmd = (lunaDie s d).cmd := by
  simp only [seedTracker]
  split <;> simp

@[simp] theorem cmdView_seedTracker (g : Word) (b : Int) : cmdView d (seedTracker d p g b s) = cmdView d s := by
  simp only [seedTracker]
  split <;> simp

variable (v : Word × Int)

@[simp] theorem cmd_programmed : (lunaDie (programmed d c o v s) d).cmd = (lunaDie s d).cmd := by
  simp [programmed]

/-- How many programs a die's arrays count once an array has passed one (R144). -/
def programsWith (d p : Nat) (s : State) (q : Nat) : Nat :=
  if q = p then min 0xFFFFFFFF ((physOf s d q).programs + 1) else (physOf s d q).programs

/-- A program that passed counts in its array's wear record, and what of the die's state a host command leaves alone it
leaves alone too (R144). -/
theorem cmdView_programmed : cmdView d (programmed d c o v s) =
    { cmdView d s with programs := programsWith d c.phys s } := by
  simp only [programmed, cmdView_seedTracker, cmdView_setBeta]
  simp only [cmdView, CmdView.mk.injEq, lunaDie_updPhys, and_true]
  refine ⟨rfl, rfl, rfl, rfl, funext fun q => ?_⟩
  unfold programsWith
  split
  next hq => rw [hq, physOf_updPhys_same]
  next hq => rw [physOf_updPhys_other _ _ _ _ hq]

/-- A map entry once an INSTALL's program has passed (R149). -/
def passedEntry (d : Nat) (c : Channel) (s : State) : MapEntry :=
  { mapOf s d c.logical with valid := true, level := (shadowDir s d c.logical).level }

/-- What an INSTALL's program that passed leaves (R149). -/
theorem programOk_install (h : c.kind = .install) :
    let t := programmed d c o v s
    programOk d k c o v s = updCmd d (fun x => { x with done := x.done + 1 }) (clearLapsed d c.logical 1
      (dropChannel d k false (ageReset d c.logical (setMap d c.logical (passedEntry d c t) t)))) := by
  simp only [programOk, h, if_true]
  rfl

/-- The swap that a rotation's program leaves pending (R153). -/
def passedSwap (d : Nat) (c : Channel) (s : State) : Swap :=
  { logical := c.logical, spare := c.phys, stage := c.stage, seededAt := diePowered s d,
    level := (shadowDir s d c.logical).level, rotation := c.kind == .rotate }

/-- A pending swap's entry in the record area (R153). -/
def noteSwap (d : Nat) (c : Channel) (s : State) : State :=
  { s with nvm := { s.nvm with swaps := s.nvm.swaps ++ [(d, c.logical, c.phys)] } }

@[simp] theorem cmdView_noteSwap : cmdView d (noteSwap d c s) = cmdView d s := rfl
@[simp] theorem lunaDie_noteSwap : lunaDie (noteSwap d c s) d = lunaDie s d := rfl

/-- What a rotation's program that passed leaves (R153). -/
theorem programOk_rotate (h : c.kind = .rotate) :
    let t := programmed d c o v s
    programOk d k c o v s = noteSwap d c (updLunaDie d
      (fun x => { x with pending := x.pending ++ [passedSwap d c t] }) (dropChannel d k true t)) := by
  have hkind : c.kind ≠ .install := by simp [h]
  unfold programOk
  exact if_neg hkind

theorem cancelAt_programOk (hkind : c.kind = .install ∨ c.kind = .rotate) :
    (lunaDie (programOk d k c o v s) d).cmd.cancelAt = (lunaDie s d).cmd.cancelAt := by
  rcases hkind with h | h
  · rw [programOk_install s d k c o v h]
    simp
  · rw [programOk_rotate s d k c o v h]
    simp

variable {s d k c o v} {t : State}

/-- An INSTALL's program that passed: its array counts it, the map entry is VALID, and DONE counts (R149). -/
theorem cmdView_programOk_install (h : c.kind = .install) : ∃ e : MapEntry, e.valid = true ∧
    cmdView d (programOk d k c o v s) = { cmdView d s with
      programs := programsWith d c.phys s
      map := mset (mapDefault c.logical) s.nvm.map (d * 4096 + c.logical) e
      die := { dieView (lunaDie s d) with done := (lunaDie s d).cmd.done + 1 } } := by
  have hmap : (programmed d c o v s).nvm.map = s.nvm.map := congrArg CmdView.map (cmdView_programmed s d c o v)
  rw [programOk_install s d k c o v h, cmdView_countDone, cmdView_clearLapsed, cmdView_dropChannel, cmdView_ageReset,
    cmdView_setMap, cmdView_programmed, hmap]
  exact ⟨passedEntry d c (programmed d c o v s), rfl, rfl⟩

/-- A rotation's program that passed: its array counts it, and a swap is pending (R153). -/
theorem cmdView_programOk_rotate (h : c.kind = .rotate) : ∃ w : Swap, w.logical = c.logical ∧ w.spare = c.phys ∧
    w.stage = c.stage ∧ cmdView d (programOk d k c o v s) = { cmdView d s with
      programs := programsWith d c.phys s
      die := { dieView (lunaDie s d) with pending := (lunaDie s d).pending ++ [w] } } := by
  rw [programOk_rotate s d k c o v h, cmdView_noteSwap, cmdView_addPending, cmdView_dropChannel,
    cmdView_programmed]
  exact ⟨_, rfl, rfl, rfl, rfl⟩

end Passed

end Sys2Proof.Machine

namespace Sys2Proof.Machine

open Sys2Proof.Map

/-! ## A channel's procedure that has ended (R138 to R144, R153) -/

section ProgramEnds

variable {d k : Nat} {c : Channel} {o : ProgObs} {s : State}

/-- Where a program's phases begin, the dies, the HBM and the maps are as they were, and no wear is counted yet. -/
theorem cellStage_programs (s : State) (e : ShadowDir) (repair : Bool) (x : Phys) (cells : List CellObs) :
    (cellStage s e repair x cells).1.programs = x.programs := by
  have hadc : ∀ fs x, (repairAdc fs x).programs = x.programs := by
    intro fs x
    simp only [repairAdc]
    split
    · split <;> rfl
    · rfl
  simp only [cellStage]
  split
  · rfl
  · exact (hadc ..).trans rfl

theorem programs_runProgram (hd : d < 16) (c : Channel) (o : ProgObs) (s : State) :
    (physOf (runProgram d c o s).2 d c.phys).programs = (physOf s d c.phys).programs := by
  have hphys : (runProgram d c o s).2.nvm = cellsStored d c o s := (runProgram_keeps hd c o s).nvm
  rw [physOf, hphys, cellsStored, mget_mset_same]
  exact cellStage_programs ..

theorem luna_runProgram (hd : d < 16) (c : Channel) (o : ProgObs) (s : State) : (runProgram d c o s).2.luna = s.luna :=
  (runProgram_keeps hd c o s).luna

theorem hbm_runProgram (hd : d < 16) (c : Channel) (o : ProgObs) (s : State) :
    (runProgram d c o s).2.mem.hbm = s.mem.hbm := (runProgram_keeps hd c o s).hbm

theorem wasCancelled_eq_false (h : (lunaDie s d).cmd.cancelAt = none) (c : Channel) : wasCancelled s d c = false := by
  simp [wasCancelled, h]

/-- What a program's phases leave by their answer (R142, R144). -/
def phasesEnd (d k : Nat) (c : Channel) (o : ProgObs) (r : ((Word × Int) ⊕ (Nat × Nat)) × State) : State :=
  match r.1 with
  | .inl v => programOk d k c o v r.2
  | .inr f => programFailed d k c 3 (verifyFail d c.phys (c.logical % 4096) f.1 f.2 r.2)

/-- A program of no cancelled command that is in time ends as its phases say. -/
theorem programEnds_inTime (hc : find? (lunaDie s d).channels k = some c) (hkind : c.kind = .install ∨ c.kind = .rotate)
    (hcancel : (lunaDie s d).cmd.cancelAt = none) (htime : countedAt s.clk.now c < timeoutPast) :
    programEnds d k o s =
      let t := phasesEnd d k c o (runProgram d c o s)
      cmdGoOn d (if (lunaDie t d).cmd.cancelAt.isSome then cancelEnd d t else t) := by
  have haudit : c.kind ≠ .audit := by rcases hkind with h | h <;> simp [h]
  have herase : c.kind ≠ .erase := by rcases hkind with h | h <;> simp [h]
  simp only [programEnds, hc, haudit, herase, wasCancelled_eq_false hcancel, htime.not_ge, if_false, and_false,
    Bool.false_eq_true]
  rcases runProgram d c o s with ⟨v | f, u⟩ <;> rfl

/-- Where the procedure leaves no cancelled command, the command of the die goes on. -/
theorem programEnds_goesOn (hc : find? (lunaDie s d).channels k = some c) (hkind : c.kind = .install ∨ c.kind = .rotate)
    (hcancel : (lunaDie s d).cmd.cancelAt = none) (htime : countedAt s.clk.now c < timeoutPast)
    (hend : (lunaDie (phasesEnd d k c o (runProgram d c o s)) d).cmd.cancelAt = none) :
    programEnds d k o s = cmdGoOn d (phasesEnd d k c o (runProgram d c o s)) := by
  rw [programEnds_inTime hc hkind hcancel htime]
  simp only [hend, Option.isSome_none, Bool.false_eq_true, if_false]

/-- A program that passed leaves of what host commands leave alone what its outcome by kind leaves. -/
theorem cmdView_programWrites_passed (hd : d < 16) {v : Word × Int} (hc : find? (lunaDie s d).channels k = some c)
    (hkind : c.kind = .install ∨ c.kind = .rotate) (hcancel : (lunaDie s d).cmd.cancelAt = none)
    (htime : countedAt s.clk.now c < timeoutPast) (hrun : (runProgram d c o s).1 = .inl v) :
    cmdView d (programWrites d k o s) = cmdView d (programOk d k c o v (runProgram d c o s).2) := by
  have hoc : phasesEnd d k c o (runProgram d c o s) = programOk d k c o v (runProgram d c o s).2 := by
    simp only [phasesEnd, hrun]
  have hluna : lunaDie (runProgram d c o s).2 d = lunaDie s d := by
    rw [lunaDie, luna_runProgram hd, lunaDie]
  have hend : (lunaDie (phasesEnd d k c o (runProgram d c o s)) d).cmd.cancelAt = none := by
    rw [hoc, cancelAt_programOk _ d k c o v hkind, hluna, hcancel]
  have haudit : c.kind ≠ .audit := by rcases hkind with h | h <;> simp [h]
  rw [cmdView_of_recordView (recordView_programWrites o hc haudit), programEnds_goesOn hc hkind hcancel htime hend,
    cmdView_cmdGoOn, hoc]

/-- A rotation whose program fails, with no host command at work: the channel is free, the spare retired, and the HBM as
it was (R142, R153). -/
theorem programWrites_rotationFailed (hd : d < 16) {f : Nat × Nat} (hc : find? (lunaDie s d).channels k = some c)
    (hkind : c.kind = .rotate) (hcancel : (lunaDie s d).cmd.cancelAt = none) (hbusy : (lunaDie s d).cmd.busy = false)
    (htime : countedAt s.clk.now c < timeoutPast) (hrun : (runProgram d c o s).1 = .inr f) :
    let t := programWrites d k o s
    find? (lunaDie t d).channels k = none ∧ (physOf t d c.phys).state = 4 ∧ (physOf t d c.phys).cause = 1 ∧
      t.mem.hbm = s.mem.hbm := by
  set u := verifyFail d c.phys (c.logical % 4096) f.1 f.2 (runProgram d c o s).2 with hu
  have hoc : phasesEnd d k c o (runProgram d c o s) = programFailed d k c 3 u := by
    simp only [phasesEnd, hrun, hu]
  have hdie : lunaDie u d = lunaDie s d := by
    rw [hu, lunaDie_verifyFail, lunaDie, luna_runProgram hd, lunaDie]
  obtain ⟨hidle, hnone⟩ := cmd_programFailed (d := d) (s := u) k c 3 (by rw [hdie, hbusy]) (by rw [hdie, hcancel])
  have hends : programEnds d k o s = programFailed d k c 3 u := by
    rw [programEnds_goesOn hc (.inr hkind) hcancel htime (by rw [hoc, hnone]), hoc, cmdGoOn_idle hidle]
  have hrec := recordView_programWrites o hc (by simp [hkind])
  rw [hends] at hrec
  have hphys := physOf_programFailed u d k c 3 (.inl hkind)
  have hmem : (programFailed d k c 3 u).mem = (runProgram d c o s).2.mem :=
    (mem_of_cmdView (cmdView_programFailed ..)).trans (mem_of_cmdView (cmdView_verifyFail ..))
  refine ⟨?_, ?_, ?_, ?_⟩
  · rw [lunaDie_of_recordView hrec, channel_programFailed]
  · rw [physOf_of_recordView hrec, hphys]
    rfl
  · rw [physOf_of_recordView hrec, hphys]
    rfl
  · rw [mem_of_recordView hrec, hmem, hbm_runProgram hd]

end ProgramEnds
end Sys2Proof.Machine

namespace Sys2Proof.Machine

open Sys2Proof.Map

/-! ## The outcomes of programs -/

/-- The state in which work of a breath class begins. -/
def classed (c : Nat) (s : State) : State := { s with log := { s.log with cls := c } }

theorem sameProgram_classed (d c : Nat) (s : State) : SameProgram d s (classed c s) :=
  ⟨sameSettings_of_regs rfl, rfl, rfl, rfl, rfl⟩

/-- What PROGRAM_COMPLETE leaves of a program that passed (R144, R149, R153). -/
theorem programWrites_passed {d k : Nat} {c : Channel} {o : ProgObs} {s : State} (hd : d < 16) {v : Word × Int}
    (hc : find? (lunaDie s d).channels k = some c) (hkind : c.kind = .install ∨ c.kind = .rotate)
    (hcancel : (lunaDie s d).cmd.cancelAt = none) (htime : countedAt s.clk.now c < timeoutPast)
    (hrun : (runProgram d c o s).1 = .inl v) :
    let t := programWrites d k o s
    (physOf t d c.phys).programs = min 0xFFFFFFFF ((physOf s d c.phys).programs + 1) ∧
      (if c.kind = .install then (mapOf t d c.logical).valid = true ∧
          (lunaDie t d).cmd.done = (lunaDie s d).cmd.done + 1 ∧ (lunaDie t d).pending = (lunaDie s d).pending
        else ∃ w : Swap, (lunaDie t d).pending = (lunaDie s d).pending ++ [w] ∧ w.logical = c.logical ∧
          w.spare = c.phys ∧ w.stage = c.stage) ∧
      t.mem.hbm = s.mem.hbm := by
  intro t
  set u := (runProgram d c o s).2
  have hview : cmdView d t = cmdView d (programOk d k c o v u) :=
    cmdView_programWrites_passed hd hc hkind hcancel htime hrun
  have hdie : lunaDie u d = lunaDie s d := by
    rw [lunaDie, luna_runProgram hd, lunaDie]
  have hcount : programsWith d c.phys u c.phys = min 0xFFFFFFFF ((physOf s d c.phys).programs + 1) := by
    rw [programsWith, if_pos rfl, programs_runProgram hd]
  have hhbm : u.mem.hbm = s.mem.hbm := hbm_runProgram hd c o s
  rcases hkind with h | h
  · obtain ⟨e, hvalid, hok⟩ := cmdView_programOk_install (s := u) (d := d) (k := k) (o := o) (v := v) h
    rw [hok] at hview
    have hmap : mapOf t d c.logical = e :=
      (congrArg (fun w => mget (mapDefault c.logical) (CmdView.map w) (d * 4096 + c.logical)) hview).trans
        (mget_mset_same ..)
    refine ⟨(congrArg (fun w => CmdView.programs w c.phys) hview).trans hcount, ?_,
      (congrArg (fun w => (CmdView.mem w).hbm) hview).trans hhbm⟩
    rw [if_pos h, hmap, ← hdie]
    exact ⟨hvalid, congrArg (fun w => (CmdView.die w).done) hview, congrArg (fun w => (CmdView.die w).pending) hview⟩
  · obtain ⟨w, hlogical, hspare, hstage, hok⟩ := cmdView_programOk_rotate (s := u) (d := d) (k := k) (o := o) (v := v) h
    rw [hok] at hview
    refine ⟨(congrArg (fun w => CmdView.programs w c.phys) hview).trans hcount, ?_,
      (congrArg (fun w => (CmdView.mem w).hbm) hview).trans hhbm⟩
    rw [if_neg (by simp [h]), ← hdie]
    exact ⟨w, congrArg (fun w => (CmdView.die w).pending) hview, hlogical, hspare, hstage⟩

/-! ## Programs out of time (R142) -/

section Timeout

variable (s : State) (d k : Nat)

/-- Work that is broken off: what the cells then hold, and the free values used. -/
theorem breakOff_frame : ∃ cells n, breakOff d k s = { s with freeIdx := n, nvm := { s.nvm with cells := cells } } := by
  simp only [breakOff]
  split
  · exact ⟨_, _, rfl⟩
  · split
    · exact ⟨_, _, rfl⟩
    · exact ⟨_, _, rfl⟩

@[simp] theorem lunaDie_breakOff : lunaDie (breakOff d k s) d = lunaDie s d := by
  obtain ⟨_, _, h⟩ := breakOff_frame s d k
  rw [h]
  rfl

@[simp] theorem cmdView_breakOff : cmdView d (breakOff d k s) = cmdView d s := by
  obtain ⟨_, _, h⟩ := breakOff_frame s d k
  rw [h]
  rfl

variable {s d k} {c : Channel}

/-- A program out of time, with no host command at work: its channel is free, its spare retired, the map and the memories
as they were (R142, R153). -/
theorem timeoutEnds_effect (hcancel : (lunaDie s d).cmd.cancelAt = none) (hbusy : (lunaDie s d).cmd.busy = false) :
    let t := timeoutEnds d k c s
    find? (lunaDie t d).channels k = none ∧ ((c.kind = .rotate ∨ c.kind = .replace) → (physOf t d c.phys).state = 4) ∧
      cmdView d t = cmdView d s := by
  set u := raise (refPage d) Evt.PROG_TIMEOUT (d + c.phys * 2 ^ 8 + phaseAt d s.clk.now c * 2 ^ 21) (breakOff d k s)
    with hu
  have hdie : lunaDie u d = lunaDie s d := by rw [hu, lunaDie_raise, lunaDie_breakOff]
  have hview : cmdView d u = cmdView d s := by rw [hu, cmdView_raise, cmdView_breakOff]
  obtain ⟨hidle, hnone⟩ := cmd_programFailed (d := d) (s := u) k c 4 (by rw [hdie, hbusy]) (by rw [hdie, hcancel])
  have hends : timeoutEnds d k c s = programFailed d k c 4 u := by
    simp only [timeoutEnds, ← hu, hnone, Option.isSome_none, Bool.false_eq_true, if_false]
    exact cmdGoOn_idle hidle
  rw [hends]
  refine ⟨channel_programFailed .., fun h => ?_, (cmdView_programFailed ..).trans hview⟩
  rw [physOf_programFailed u d k c 4 h]
  rfl

end Timeout
end Sys2Proof.Machine

namespace Sys2Proof.Machine

open Sys2Proof.Map

/-! ## Audits that end (R155, R158, R160) -/

section Audit

variable (s : State) (d p k : Nat) (o : AuditObs)

@[simp] theorem physOf_freeArray_same :
    physOf (freeArray d p s) d p = { physOf s d p with state := 0, logical := 0xFFFF } := by
  rw [freeArray, physOf_unseedTracker, physOf_updPhys_same]

@[simp] theorem cmdView_freeArray : cmdView d (freeArray d p s) = cmdView d s := by
  simp [freeArray]

/-- How far an audit finds the cell pairs it reports from their old targets, in 1/256 level (R158). -/
def auditDrifts (d p : Nat) (o : AuditObs) (s : State) : List Nat :=
  (inArray o.found).map (fun l => (l.level - 256 * cellCode s d p l.row l.col).natAbs)

/-- What an audit records of its array (R158). -/
def audited (drifts : List Nat) (x : Phys) : Phys :=
  { x with
    auditCells := min 65535 (drifts.filter (fun n => decide (256 < n))).length
    auditDrift := min 65535 (drifts.foldl max 0)
    audits := min 65535 (x.audits + 1) }

/-- An audit's channel is free and its finding recorded. -/
def auditNoted (d p k : Nat) (o : AuditObs) (s : State) : State :=
  updPhys d p (audited (auditDrifts d p o s)) (dropChannel d k false
    { s with nvm := { s.nvm with retireOld := s.nvm.retireOld.filter (· != physKey d p) } })

theorem physOf_auditNoted : physOf (auditNoted d p k o s) d p = audited (auditDrifts d p o s) (physOf s d p) := by
  rw [auditNoted, physOf_updPhys_same, physOf_dropChannel]
  rfl

theorem cmd_auditNoted : (lunaDie (auditNoted d p k o s) d).cmd = (lunaDie s d).cmd := by
  rw [auditNoted, lunaDie_updPhys, cmd_dropChannel]
  rfl

theorem cmdView_auditNoted : cmdView d (auditNoted d p k o s) = cmdView d s := by
  have hprograms : ∀ x, (audited (auditDrifts d p o s) x).programs = x.programs := fun _ => rfl
  rw [auditNoted, cmdView_updPhys d _ p hprograms, cmdView_dropChannel]
  rfl

/-- What becomes of an array after its audit: retired by the host, after a failed erase or for wear, or free (R158,
R160). -/
def auditSettled (d p : Nat) (host erased : Bool) (s : State) : State :=
  if host then retireArray d p 4 s
  else if erased = false then
    retireArray d p 2 { s with
      freeIdx := s.freeIdx + 1
      nvm := { s.nvm with cells := mput s.nvm.cells (physKey d p) (Config.partialCells (Config.free s.freeIdx)) } }
  else
    let s := { s with nvm := { s.nvm with cells := mdel s.nvm.cells (physKey d p) } }
    if 10000 ≤ (physOf s d p).programs then retireArray d p 3 s else freeArray d p s

variable (host erased : Bool)

theorem lunaDie_auditSettled : lunaDie (auditSettled d p host erased s) d = lunaDie s d := by
  simp only [auditSettled]
  split_ifs <;> simp <;> rfl

theorem cmdView_auditSettled : cmdView d (auditSettled d p host erased s) = cmdView d s := by
  simp only [auditSettled]
  split_ifs <;> simp <;> rfl

/-- The array's record: its state, and what the audit found stays. -/
theorem physOf_auditSettled :
    let x := physOf (auditSettled d p host erased s) d p
    x.state = (if host = true ∨ erased = false ∨ 10000 ≤ (physOf s d p).programs then 4 else 0) ∧
      x.audits = (physOf s d p).audits ∧ x.auditCells = (physOf s d p).auditCells ∧
      x.auditDrift = (physOf s d p).auditDrift := by
  have hcells : ∀ cells, physOf { s with nvm := { s.nvm with cells := cells } } d p = physOf s d p := fun _ => rfl
  unfold auditSettled
  rcases host with _ | _
  · rcases erased with _ | _
    · simp only [Bool.false_eq_true, if_false, if_true, physOf_retireArray_same]
      exact ⟨rfl, rfl, rfl, rfl⟩
    · simp only [hcells]
      by_cases hworn : 10000 ≤ (physOf s d p).programs
      · simp [hworn, retired, hcells]
      · simp [hworn, hcells]
  · simp [retired]

/-- What AUDIT_COMPLETE leaves where no host command is at work. -/
theorem auditEnds_eq {k : Nat} (hk : auditChannel s d p = some k) (hbusy : (lunaDie s d).cmd.busy = false) :
    auditEnds d p o s = auditSettled d p (s.nvm.retireOld.contains (physKey d p))
      ((inArray o.erased).all (fun l => levelOk 64 0 l.level)) (auditNoted d p k o s) := by
  have hidle : ∀ host erased, (lunaDie (auditSettled d p host erased (auditNoted d p k o s)) d).cmd.busy = false :=
    fun host erased => by rw [lunaDie_auditSettled, cmd_auditNoted, hbusy]
  rw [← cmdGoOn_idle (hidle ..)]
  simp only [auditEnds, hk]
  rfl

/-- AUDIT_COMPLETE with no host command at work: the array's state, what it records, and the memories (R158, R160). -/
theorem auditEnds_effect {k : Nat} (hk : auditChannel s d p = some k) (hbusy : (lunaDie s d).cmd.busy = false) :
    let t := auditEnds d p o s
    (physOf t d p).state = (if s.nvm.retireOld.contains (physKey d p) = true ∨
        (inArray o.erased).all (fun l => levelOk 64 0 l.level) = false ∨ 10000 ≤ (physOf s d p).programs then 4 else 0) ∧
      (physOf t d p).audits = min 65535 ((physOf s d p).audits + 1) ∧
      ((physOf t d p).auditCells = min 65535 ((auditDrifts d p o s).filter (fun n => decide (256 < n))).length ∧
        (physOf t d p).auditDrift = min 65535 ((auditDrifts d p o s).foldl max 0)) ∧ SameMemory s t := by
  obtain ⟨hstate, haudits, hcells, hdrift⟩ := physOf_auditSettled (auditNoted d p k o s) d p
    (s.nvm.retireOld.contains (physKey d p)) ((inArray o.erased).all (fun l => levelOk 64 0 l.level))
  simp only [auditEnds_eq s d p o hk hbusy]
  rw [hstate, haudits, hcells, hdrift, physOf_auditNoted]
  refine ⟨rfl, rfl, ⟨rfl, rfl⟩, sameMemory_of_cmdView (d := d) ?_⟩
  rw [cmdView_auditSettled, cmdView_auditNoted]

end Audit

/-! ## INSTALL has nothing left (R150) -/

section Install

variable (s : State) (d : Nat)

/-- What an INSTALL that completes on a die notes changes no memory and no die. -/
theorem noteInstall_frame : (noteInstall d s).luna = s.luna ∧ (noteInstall d s).mem = s.mem ∧
    (noteInstall d s).host = s.host := by
  simp only [noteInstall]
  split
  · exact ⟨rfl, rfl, rfl⟩
  · exact ⟨rfl, rfl, rfl⟩

variable {s d}

theorem installEnds_effect (hbusy : (lunaDie s d).cmd.busy = true) (hop : (lunaDie s d).cmd.op = 1)
    (hcancel : (lunaDie s d).cmd.cancelAt = none) (htodo : (lunaDie s d).cmd.todo = [])
    (herase : (lunaDie s d).cmd.erase = []) (hchannels : cmdChannels s d = []) :
    let t := installEnds d s
    (lunaDie t d).cmd.busy = false ∧
      (lunaDie t d).cmd.result = (if (lunaDie s d).cmd.failed = 0 then 0 else 3) ∧ SameMemory s t := by
  have hnoted : ∀ result, (lunaDie (noteInstall d (endCmd d result s)) d).cmd.busy = false ∧
      (lunaDie (noteInstall d (endCmd d result s)) d).cmd.result = result ∧
      SameMemory s (noteInstall d (endCmd d result s)) := by
    intro result
    obtain ⟨hluna, hmem, hhost⟩ := noteInstall_frame (endCmd d result s) d
    have hdie : lunaDie (noteInstall d (endCmd d result s)) d = lunaDie (endCmd d result s) d := by
      rw [lunaDie, hluna, lunaDie]
    have hmemory : SameMemory s (noteInstall d (endCmd d result s)) :=
      .of_eq (hmem.trans rfl) (congrArg Hostif.bar2 (hhost.trans rfl))
    rw [hdie, endCmd, lunaDie_updCmd]
    exact ⟨rfl, rfl, hmemory⟩
  simp only [installEnds, hbusy, hop, hcancel, htodo, herase, hchannels, Bool.true_eq_false, Option.isSome_none,
    Bool.false_eq_true, ne_eq, not_true_eq_false, List.isEmpty_nil, or_self, if_false]
  split
  · exact hnoted 0
  · obtain ⟨hidle, hresult, hmemory⟩ := hnoted 3
    rw [lunaDie_raise]
    exact ⟨hidle, hresult, hmemory.trans (.of_eq (raise_mem ..) (by rw [raise_host]))⟩

end Install

/-! ## Passes that run again, swaps that lapse, and trackers that go stale -/

section Lapses

variable {s : State} {d k : Nat}

/-- An aborted pass that runs again (R143). -/
theorem bgRerun_effect {c : Channel} (hc : find? (lunaDie s d).channels k = some c) (haborted : c.aborted = true)
    (hslot : slotsAt (lunaDie s d).slots s.clk.now + bgSlots d s.clk.now (lunaDie s d) < readCap) :
    let t := bgRerun d k s
    find? (lunaDie t d).channels k = some { c with aborted := false } ∧
      (∀ j, j ≠ k → find? (lunaDie t d).channels j = find? (lunaDie s d).channels j) ∧ t.regs = s.regs ∧
      SameMemory s t := by
  simp only [bgRerun, hc, haborted, hslot, and_self, if_true, lunaDie_setLunaDie]
  exact ⟨find?_mput_same .., fun j hj => find?_mput_other _ _ hj, rfl, .of_eq rfl rfl⟩

/-- A pending swap leaves the record area (R156). -/
def eraseSwap (d : Nat) (w : Swap) (s : State) : State :=
  { s with nvm := { s.nvm with swaps := s.nvm.swaps.filter (· != (d, w.logical, w.spare)) } }

/-- A pending swap leaves its die's record, its staging block free again. -/
def withoutSwap (w : Swap) (x : LunaDie) : LunaDie :=
  { x with pending := x.pending.filter (· != w), stages := x.stages ++ [w.stage] }

/-- A pending swap taken away, its spare free again (R156). -/
def swapDropped (d : Nat) (w : Swap) (s : State) : State :=
  eraseSwap d w (updLunaDie d (withoutSwap w) (freeArray d w.spare s))

theorem lunaDie_eraseSwap (w : Swap) (s : State) : lunaDie (eraseSwap d w s) d = lunaDie s d := rfl

theorem lunaDie_swapDropped (w : Swap) (s : State) : lunaDie (swapDropped d w s) d = withoutSwap w (lunaDie s d) := by
  rw [swapDropped, lunaDie_eraseSwap, lunaDie_updLunaDie, lunaDie_freeArray]

theorem map_swapDropped (w : Swap) (s : State) : (swapDropped d w s).nvm.map = s.nvm.map := rfl

theorem eventView_eraseSwap (w : Swap) (s : State) : eventView (eraseSwap d w s) = eventView s := rfl
theorem eventView_updLunaDie (f : LunaDie → LunaDie) (s : State) : eventView (updLunaDie d f s) = eventView s := rfl
theorem eventView_updPhys (p : Nat) (f : Phys → Phys) (s : State) : eventView (updPhys d p f s) = eventView s := rfl
theorem eventView_unseedTracker (p : Nat) (s : State) : eventView (unseedTracker d p s) = eventView s := rfl

theorem eventView_swapDropped (w : Swap) (s : State) : eventView (swapDropped d w s) = eventView s := by
  rw [swapDropped, eventView_eraseSwap, eventView_updLunaDie, freeArray, eventView_unseedTracker, eventView_updPhys]

theorem physOf_swapDropped (w : Swap) (s : State) :
    physOf (swapDropped d w s) d w.spare = { physOf s d w.spare with state := 0, logical := 0xFFFF } :=
  physOf_freeArray_same s d w.spare

theorem discardSwap_eq (w : Swap) (cause : Nat) (hbusy : (lunaDie s d).cmd.busy = false) : discardSwap d w cause s =
    raise (refPage d) Evt.SWAP_DISCARDED (d + w.logical * 2 ^ 8 + w.spare * 2 ^ 20 + cause * 2 ^ 33)
      (swapDropped d w s) := by
  have hidle : (lunaDie (raise (refPage d) Evt.SWAP_DISCARDED
      (d + w.logical * 2 ^ 8 + w.spare * 2 ^ 20 + cause * 2 ^ 33) (swapDropped d w s)) d).cmd.busy = false := by
    rw [lunaDie_raise, lunaDie_swapDropped, withoutSwap, hbusy]
  unfold discardSwap
  refine if_neg fun h => ?_
  obtain ⟨hwaits, -⟩ := Bool.and_eq_true_iff.mp h
  obtain ⟨hwork, -⟩ := Bool.and_eq_true_iff.mp hwaits
  exact Bool.false_ne_true (hidle.symm.trans hwork)

/-- A swap whose seed is too old is discarded (R156). -/
theorem discardSwap_effect (w : Swap) (cause : Nat) (hbusy : (lunaDie s d).cmd.busy = false) :
    let t := discardSwap d w cause s
    (lunaDie t d).pending = (lunaDie s d).pending.filter (· != w) ∧ (physOf t d w.spare).state = 0 ∧
      t.nvm.map = s.nvm.map ∧ RaisesEvent (refPage d) Evt.SWAP_DISCARDED
        (d + w.logical * 2 ^ 8 + w.spare * 2 ^ 20 + cause * 2 ^ 33) [] s t := by
  simp only [discardSwap_eq w cause hbusy]
  generalize d + w.logical * 2 ^ 8 + w.spare * 2 ^ 20 + cause * 2 ^ 33 = detail
  have hrec : recordView (raise (refPage d) Evt.SWAP_DISCARDED detail (swapDropped d w s)) =
      recordView (swapDropped d w s) := recordView_of_quiet (quiet_raise ..)
  have hmap : (raise (refPage d) Evt.SWAP_DISCARDED detail (swapDropped d w s)).nvm.map = (swapDropped d w s).nvm.map :=
    congrArg RecordView.map hrec
  have hcode : Evt.SWAP_DISCARDED < 0x10000 := by decide
  have hraised := raisesEvent_raise hcode (refPage d) detail (swapDropped d w s)
  refine ⟨?_, ?_, ?_, ?_⟩
  · rw [lunaDie_of_recordView hrec, lunaDie_swapDropped, withoutSwap]
  · rw [physOf_of_recordView hrec, physOf_swapDropped]
  · rw [hmap, map_swapDropped]
  · exact hraised.congr (eventView_swapDropped w s).symm rfl

/-- An overdue tracker goes STALE, and no other changes (R96). -/
theorem setTrk_effect (p : Nat) (t : Tracker) : trkOf (setTrk d p t s) d p = t ∧
    ∀ q, q ≠ p → trkOf (setTrk d p t s) d q = trkOf s d q :=
  ⟨mget_mset_same .., fun _ hq => mget_mset_other _ _ _ fun hkey => hq (physKey_injective hkey)⟩

end Lapses
end Sys2Proof.Machine

namespace Sys2Proof.Machine

open Sys2Proof.Map

/-! ## The commands by which programs, audits and swaps end -/

section Ends

variable {s : State}

theorem recordView_classed (c dt : Nat) (s : State) : recordView (classed c (advance dt s)) = recordView s := by
  simp only [recordView, classed, advance_mem, advance_host, advance_boot, advance_luna, advance_nvm]

/-- Work of a breath class once time has passed: beside the log and the queue, what the work leaves. -/
theorem act_inClass (hs : Clocked s) (dt c : Nat) (f : State → State) :
    ∃ t, act dt (inClass c f) s = .next t ∧ recordView t = recordView (f (classed c (advance dt s))) :=
  ⟨_, act_on hs dt _, rfl⟩

theorem act_eq (hs : Clocked s) {dt : Nat} {f : State → State} {u : State} (h : f (advance dt s) = u) :
    act dt f s = .next { u with pending := s.pending } := by
  rw [act_on hs, h]

theorem sameMemory_of_recordView {s t : State} (h : recordView t = recordView s) : SameMemory s t :=
  .of_eq (congrArg RecordView.mem h) (congrArg (fun v => (RecordView.host v).bar2) h)

end Ends

section Clauses

variable (dt : Nat) (die : Luna) (k : Fin 16) {s : State} {c : Channel}

theorem exec_programComplete_passed (o : ProgObs) {v : Word × Int} (hs : Clocked s)
    (hc : find? (lunaDie s die).channels k = some c) (hkind : c.kind = .install ∨ c.kind = .rotate)
    (hcancel : (lunaDie s die).cmd.cancelAt = none) (htime : countedAt (s.clk.now + dt) c < timeoutPast)
    (hrun : (runProgram die c o (advance dt s)).1 = .inl v) :
    ∃ t, exec (.programComplete dt die k o) s = .next t ∧
      (physOf t die c.phys).programs = min 0xFFFFFFFF ((physOf s die c.phys).programs + 1) ∧
      (if c.kind = .install then (mapOf t die c.logical).valid = true ∧
          (lunaDie t die).cmd.done = (lunaDie s die).cmd.done + 1 ∧ (lunaDie t die).pending = (lunaDie s die).pending
        else ∃ w : Swap, (lunaDie t die).pending = (lunaDie s die).pending ++ [w] ∧ w.logical = c.logical ∧
          w.spare = c.phys ∧ w.stage = c.stage) ∧
      t.mem.hbm = s.mem.hbm := by
  obtain ⟨t, hexec, hrec⟩ := act_inClass hs dt 6 (programWrites die k o)
  have hstart := recordView_classed 6 dt s
  have hrun' := ((sameProgram_classed die 6 (advance dt s)).runProgram_congr die.isLt c o).trans hrun
  have heffect := programWrites_passed (k := k) die.isLt (by rw [lunaDie_of_recordView hstart, hc]) hkind
    (by rw [lunaDie_of_recordView hstart, hcancel]) htime hrun'
  simp only [physOf_of_recordView hstart, lunaDie_of_recordView hstart, mem_of_recordView hstart] at heffect
  refine ⟨t, hexec, ?_⟩
  simp only [physOf_of_recordView hrec, lunaDie_of_recordView hrec, mapOf_of_recordView hrec, mem_of_recordView hrec]
  exact heffect

theorem exec_programComplete_failed (o : ProgObs) {f : Nat × Nat} (hs : Clocked s)
    (hc : find? (lunaDie s die).channels k = some c) (hkind : c.kind = .rotate)
    (hcancel : (lunaDie s die).cmd.cancelAt = none) (hbusy : (lunaDie s die).cmd.busy = false)
    (htime : countedAt (s.clk.now + dt) c < timeoutPast) (hrun : (runProgram die c o (advance dt s)).1 = .inr f) :
    ∃ t, exec (.programComplete dt die k o) s = .next t ∧ find? (lunaDie t die).channels k = none ∧
      (physOf t die c.phys).state = 4 ∧ (physOf t die c.phys).cause = 1 ∧ t.mem.hbm = s.mem.hbm := by
  obtain ⟨t, hexec, hrec⟩ := act_inClass hs dt 6 (programWrites die k o)
  have hstart := recordView_classed 6 dt s
  have hrun' := ((sameProgram_classed die 6 (advance dt s)).runProgram_congr die.isLt c o).trans hrun
  have heffect := programWrites_rotationFailed (k := k) die.isLt (by rw [lunaDie_of_recordView hstart, hc]) hkind
    (by rw [lunaDie_of_recordView hstart, hcancel]) (by rw [lunaDie_of_recordView hstart, hbusy]) htime hrun'
  simp only [mem_of_recordView hstart] at heffect
  refine ⟨t, hexec, ?_⟩
  simp only [physOf_of_recordView hrec, lunaDie_of_recordView hrec, mem_of_recordView hrec]
  exact heffect

theorem exec_progTimeout (hs : Clocked s) (hc : find? (lunaDie s die).channels k = some c) (haudit : c.kind ≠ .audit)
    (herase : c.kind ≠ .erase) (htime : timeoutPast ≤ countedAt (s.clk.now + dt) c)
    (hcancel : (lunaDie s die).cmd.cancelAt = none) (hbusy : (lunaDie s die).cmd.busy = false) :
    ∃ t, exec (.progTimeout dt die k) s = .next t ∧ find? (lunaDie t die).channels k = none ∧
      ((c.kind = .rotate ∨ c.kind = .replace) → (physOf t die c.phys).state = 4) ∧
      (mapOf t die c.logical) = (mapOf s die c.logical) ∧ SameMemory s t := by
  have hdue : progTimeout die k (advance dt s) = inClass 6 (timeoutEnds die k c) (advance dt s) := by
    have hfound : find? (lunaDie (advance dt s) die).channels k = some c := hc
    have hpast : ¬ countedAt (advance dt s).clk.now c < timeoutPast := Nat.not_lt.mpr htime
    simp only [progTimeout, hfound, haudit, herase, hpast, or_self, if_false]
  have hexec : exec (.progTimeout dt die k) s = act dt (inClass 6 (timeoutEnds die k c)) s :=
    (act_eq hs hdue).trans (act_on hs dt _).symm
  obtain ⟨t, hact, hrec⟩ := act_inClass hs dt 6 (timeoutEnds die k c)
  have hstart := recordView_classed 6 dt s
  obtain ⟨hchannel, hspare, hview⟩ := timeoutEnds_effect (k := k) (c := c)
    (by rw [lunaDie_of_recordView hstart, hcancel]) (by rw [lunaDie_of_recordView hstart, hbusy])
  have hkept : cmdView die t = cmdView die s :=
    (cmdView_of_recordView hrec _).trans (hview.trans (cmdView_of_recordView hstart _))
  refine ⟨t, hexec.trans hact, ?_, ?_, mapOf_of_cmdView hkept c.logical, sameMemory_of_cmdView hkept⟩
  · rw [lunaDie_of_recordView hrec, hchannel]
  · intro hkind
    rw [physOf_of_recordView hrec, hspare hkind]

theorem exec_auditComplete (phys : BitVec 13) (o : AuditObs) {k : Nat} (hs : Clocked s)
    (hk : auditChannel s die phys.toNat = some k) (hbusy : (lunaDie s die).cmd.busy = false) :
    let p := phys.toNat
    ∃ t, exec (.auditComplete dt die phys o) s = .next t ∧
      (physOf t die p).state = (if s.nvm.retireOld.contains (physKey die p) = true ∨
        (inArray o.erased).all (fun l => levelOk 64 0 l.level) = false ∨ 10000 ≤ (physOf s die p).programs then 4 else 0) ∧
      (physOf t die p).audits = min 65535 ((physOf s die p).audits + 1) ∧
      ((physOf t die p).auditCells = min 65535 ((auditDrifts die p o s).filter (fun n => decide (256 < n))).length ∧
        (physOf t die p).auditDrift = min 65535 ((auditDrifts die p o s).foldl max 0)) ∧ SameMemory s t := by
  intro p
  obtain ⟨t, hact, hrec⟩ := act_inClass hs dt 7 (auditEnds die p o)
  have hstart := recordView_classed 7 dt s
  have hdrifts : auditDrifts die p o (classed 7 (advance dt s)) = auditDrifts die p o s := rfl
  obtain ⟨hstate, haudits, hfound, hmem⟩ := auditEnds_effect (classed 7 (advance dt s)) die p o
    (show auditChannel (classed 7 (advance dt s)) die p = some k from hk)
    (by rw [lunaDie_of_recordView hstart, hbusy])
  rw [physOf_of_recordView hstart] at hstate haudits
  rw [hdrifts] at hfound
  refine ⟨t, hact, ?_⟩
  rw [physOf_of_recordView hrec]
  exact ⟨hstate, haudits, hfound,
    (sameMemory_of_recordView hstart.symm).trans (hmem.trans (sameMemory_of_recordView hrec))⟩

theorem exec_pendingSwapExpire (logical : BitVec 12) {w : Swap} (hs : Clocked s)
    (hw : (lunaDie s die).pending.find? (·.logical == logical.toNat) = some w) (hbusy : (lunaDie s die).cmd.busy = false)
    (hlate : staleLimit s die < diePowered (advance dt s) die - w.seededAt) :
    ∃ t, exec (.pendingSwapExpire dt die logical) s = .next t ∧
      (lunaDie t die).pending = (lunaDie s die).pending.filter (· != w) ∧ (physOf t die w.spare).state = 0 ∧
      mapOf t die logical.toNat = mapOf s die logical.toNat ∧
      Logged (refPage die) Evt.SWAP_DISCARDED (die + w.logical * 2 ^ 8 + w.spare * 2 ^ 20 + 2 ^ 33) s t ∧
      SameRegsBut (refPage die) [] s t ∧ SameMemory s t := by
  have hdie : lunaDie (advance dt s) die = lunaDie s die := rfl
  have hlimit : staleLimit (advance dt s) die = staleLimit s die := rfl
  obtain ⟨hpending, hspare, hmap, hraised⟩ := discardSwap_effect (s := advance dt s) (d := die) w 1 (by rw [hdie, hbusy])
  have hexec : exec (.pendingSwapExpire dt die logical) s =
      .next { discardSwap die w 1 (advance dt s) with pending := s.pending } := by
    show execPendingSwapExpire dt die logical s = _
    rw [execPendingSwapExpire, act_on hs]
    simp only [hdie, hw, hlimit, hlate, if_true]
  obtain ⟨hlogged, -, hregs, hmem⟩ := hraised.ofAdvance (q := s.pending)
  have hmap' : (discardSwap die w 1 (advance dt s)).nvm.map = s.nvm.map := hmap
  refine ⟨_, hexec, hpending, hspare, ?_, ?_, hregs, hmem⟩
  · exact congrArg (fun m => mget (mapDefault logical.toNat) m (die * 4096 + logical.toNat)) hmap'
  · simpa using hlogged

end Clauses

/-- Settles O21: by clause, what the channel's end, the audit, the command or the swap leaves, carried through the host
command that goes on, which touches none of it. -/
theorem programmingEnds : Obligations.ProgrammingEnds := by
  unfold Obligations.ProgrammingEnds
  refine ⟨?passed, ?failed, ?timeout, ?rerun, ?audit, ?install, ?expire, ?stale⟩
  case passed =>
    intro dt die k o s c v hs hc hkind hcancel htime _ hrun
    exact exec_programComplete_passed dt die k o hs hc hkind hcancel htime hrun
  case failed =>
    intro dt die k o s c f hs hc hkind hcancel hbusy htime hrun
    exact exec_programComplete_failed dt die k o hs hc hkind hcancel hbusy htime hrun
  case timeout =>
    intro dt die k s c hs hc haudit herase htime hcancel hbusy
    exact exec_progTimeout dt die k hs hc haudit herase htime hcancel hbusy
  case rerun =>
    intro dt die k s c hs hc haborted hslot
    obtain ⟨hsame, hother, hregs, hmem⟩ := bgRerun_effect (s := advance dt s) hc haborted hslot
    exact ⟨_, act_on hs dt _, hsame, hother, hregs, hmem⟩
  case audit =>
    intro dt die phys o s k hs hk hbusy
    exact exec_auditComplete dt die phys o hs hk hbusy
  case install =>
    intro dt die s hs hbusy hop hcancel htodo herase hchannels
    obtain ⟨hidle, hresult, hmem⟩ := installEnds_effect (s := advance dt s) hbusy hop hcancel htodo herase hchannels
    exact ⟨_, act_on hs dt _, hidle, hresult, hmem⟩
  case expire =>
    intro dt die logical s w hs hw hbusy hlate
    exact exec_pendingSwapExpire dt die logical hs hw hbusy hlate
  case stale =>
    intro dt die phys s hs hactive hoverdue
    have hdue : (trkOf (advance dt s) die phys.toNat).state = 1 ∧ trkOverdue (advance dt s) die phys.toNat = true :=
      ⟨hactive, hoverdue⟩
    obtain ⟨hsame, hother⟩ := setTrk_effect (s := advance dt s) (d := die) phys.toNat
      { trkOf (advance dt s) die phys.toNat with state := 2 }
    exact ⟨_, act_eq hs (if_pos hdue), hsame, fun p _ hp => hother p hp, rfl, .of_eq rfl rfl⟩

end Sys2Proof.Machine

namespace Sys2Proof.Machine

open Sys2Proof.Map

/-! ## Gates and charges do not read the log -/

/-- A state without its log. -/
def noLog (s : State) : State := { s with log := {} }

section NoLog

variable (s : State)

theorem noLog_addSpend (c r n : Nat) : addSpend c r n (noLog s) = noLog (addSpend c r n s) := rfl

/-- What a lender takes of `n` units (R438). -/
def lenderTakes (c r n : Nat) (s : State) : Nat := match remainder s c r with | none => n | some m => min m n

/-- A lender has taken some units (R438). -/
def lent (c r take : Nat) (s : State) : State :=
  let s := addSpend c r take s
  { s with breath := { s.breath with
      lenders := s.breath.lenders ||| 2 ^ c, borrowed := s.breath.borrowed + (if r = 3 then take else 0) } }

theorem borrowFrom_cons (c : Nat) (cs : List Nat) (r n : Nat) : borrowFrom (c :: cs) r n s =
    if n = 0 then s else if !lends s c then borrowFrom cs r n s
    else if lenderTakes c r n s = 0 then borrowFrom cs r n s
    else borrowFrom cs r (n - lenderTakes c r n s) (lent c r (lenderTakes c r n s) s) := rfl

theorem noLog_lent (c r take : Nat) : lent c r take (noLog s) = noLog (lent c r take s) := rfl

theorem noLog_borrowFrom (cs : List Nat) (r n : Nat) : borrowFrom cs r n (noLog s) = noLog (borrowFrom cs r n s) := by
  induction cs generalizing n s with
  | nil => rfl
  | cons c cs ih =>
    have hlends : lends (noLog s) c = lends s c := rfl
    have htakes : lenderTakes c r n (noLog s) = lenderTakes c r n s := rfl
    rw [borrowFrom_cons, borrowFrom_cons, hlends, htakes, noLog_lent]
    split_ifs
    · rfl
    · exact ih ..
    · exact ih ..
    · exact ih ..

theorem noLog_applyCharge (c r n : Nat) : applyCharge c r n (noLog s) = noLog (applyCharge c r n s) := by
  have hborrow : borrowEn (noLog s) = borrowEn s := rfl
  have hrest : remainder (noLog s) 1 r = remainder s 1 r := rfl
  simp only [applyCharge, hborrow, hrest]
  split
  · split
    · exact noLog_addSpend ..
    · rw [noLog_addSpend, noLog_borrowFrom]
  · exact noLog_addSpend ..

theorem noLog_settle (all : Bool) : settle all (noLog s) = noLog (settle all s) := by
  have hfold : ∀ (l : List (Nat × Nat × Nat × Nat)) (s : State),
      l.foldl (fun s e => applyCharge e.2.1 e.2.2.1 e.2.2.2 s) (noLog s) =
        noLog (l.foldl (fun s e => applyCharge e.2.1 e.2.2.1 e.2.2.2 s) s) := by
    intro l
    induction l with
    | nil => exact fun _ => rfl
    | cons e l ih =>
      intro s
      rw [List.foldl_cons, List.foldl_cons, noLog_applyCharge, ih]
  exact hfold (s.breath.fresh.filter fun e => all || decide (e.1 ≤ issueCount s))
    { s with breath := { s.breath with
        fresh := s.breath.fresh.filter (fun e => !(all || decide (e.1 ≤ issueCount s))) } }

theorem startOpen_noLog (c : Nat) : startOpen (noLog s) c = startOpen s c := by
  have hrunning : (noLog s).seq.state = s.seq.state := rfl
  have hgate : ∀ s, gateWanted (noLog s) = gateWanted s := fun _ => rfl
  unfold startOpen gatesNow
  rw [noLog_settle, hrunning]
  simp only [hgate]
  rfl

@[simp] theorem noLog_noLog : noLog (noLog s) = noLog s := rfl
@[simp] theorem noLog_collect (code key n : Nat) : noLog (collect code key n s) = noLog s := rfl
@[simp] theorem noLog_bump (a n : Nat) : noLog (bump a n s) = bump a n (noLog s) := rfl
@[simp] theorem noLog_setReg (a : Nat) (v : Word) : noLog (setReg a v s) = setReg a v (noLog s) := rfl
@[simp] theorem noLog_charge (die cls res amount cpj : Nat) :
    noLog (charge die cls res amount cpj s) = charge die cls res amount cpj (noLog s) := rfl

@[simp] theorem noLog_bump64 (a n : Nat) : noLog (bump64 a n s) = bump64 a n (noLog s) := by
  have hvalue : reg64 (noLog s) a = reg64 s a := rfl
  rw [bump64, bump64, setReg64, setReg64, noLog_setReg, noLog_setReg, hvalue]

@[simp] theorem noLog_setFld (a hi lo v : Nat) : noLog (setFld a hi lo v s) = setFld a hi lo v (noLog s) := by
  have hvalue : reg (noLog s) a = reg s a := rfl
  rw [setFld, setFld, updReg, updReg, noLog_setReg, hvalue]

/-- The increment that a high-water mark notes for a host write of the same cycle (R560). -/
def noteWater (a v : Nat) (s : State) : State :=
  { s with regs := { freshCycle s with hwInc := mset 0 (freshCycle s).hwInc a (max (mget 0 (freshCycle s).hwInc a) v) } }

theorem highWater_eq (a hi lo v : Nat) : highWater a hi lo v s =
    if regFld (noteWater a v s) a hi lo < v then setFld a hi lo v (noteWater a v s) else noteWater a v s := rfl

@[simp] theorem noLog_highWater (a hi lo v : Nat) : noLog (highWater a hi lo v s) = highWater a hi lo v (noLog s) := by
  have hnoted : noteWater a v (noLog s) = noLog (noteWater a v s) := rfl
  have hvalue : ∀ s, regFld (noLog s) a hi lo = regFld s a hi lo := fun _ => rfl
  rw [highWater_eq, highWater_eq, hnoted, hvalue]
  split
  · exact noLog_setFld ..
  · rfl

theorem noLog_ownPasses (d cls full splits : Nat) :
    noLog (ownPasses d cls full splits (noLog s)) = noLog (ownPasses d cls full splits s) := by
  simp only [ownPasses]
  generalize full * 83900 + 4 * splits * 21000 = energy
  split_ifs <;> simp

end NoLog

/-! ## The passes of a baseline check (R98, R437) -/

section BaselinePasses

variable (d : Nat)

@[simp] theorem quiet_addSpend (c r n : Nat) (s : State) : quiet (addSpend c r n s) = quiet s := rfl
@[simp] theorem quiet_lent (c r take : Nat) (s : State) : quiet (lent c r take s) = quiet s := rfl

@[simp] theorem quiet_borrowFrom (cs : List Nat) (r n : Nat) (s : State) : quiet (borrowFrom cs r n s) = quiet s := by
  induction cs generalizing n s with
  | nil => rfl
  | cons c cs ih =>
    rw [borrowFrom_cons]
    split_ifs <;> simp [ih]

@[simp] theorem quiet_applyCharge (c r n : Nat) (s : State) : quiet (applyCharge c r n s) = quiet s := by
  simp only [applyCharge]
  split
  · split <;> simp
  · simp

@[simp] theorem quiet_settle (all : Bool) (s : State) : quiet (settle all s) = quiet s := by
  unfold settle
  exact (quiet_foldl _ (fun _ _ => quiet_applyCharge ..) _).trans rfl

/-- The passes of a check change only counters, charges and the log. -/
theorem quiet_baselineCharge (ps : List Nat) (s : State) : quiet (baselineCharge d ps s).2.2 = quiet s := by
  induction ps generalizing s with
  | nil => rfl
  | cons p ps ih =>
    simp only [baselineCharge]
    split
    · rfl
    · simp [ih]

/-- Which array of a check waits does not depend on the log. -/
theorem baselineCharge_waits (ps : List Nat) (s : State) :
    (baselineCharge d ps (noLog s)).2.1 = (baselineCharge d ps s).2.1 := by
  induction ps generalizing s with
  | nil => rfl
  | cons p ps ih =>
    have hblocked : readsBlocked (noLog s) d = readsBlocked s d := rfl
    have hpasses : baselinePasses (noLog s) d p = baselinePasses s d p := rfl
    simp only [baselineCharge, hblocked, hpasses, startOpen_noLog]
    split
    · rfl
    · rw [← ih, ← noLog_settle, noLog_ownPasses, noLog_settle, ih]

theorem cmdView_baselineQuiet (ps : List Nat) (s : State) : cmdView d (baselineQuiet d ps s) = cmdView d s := by
  unfold baselineQuiet
  let lapsed := (lunaDie s d).lapsed.filter (fun x => !(x % 4 == 3 && ps.contains (mapOf s d (x / 4)).phys))
  exact cmdView_setLunaDie d s (x := { lunaDie s d with lapsed := lapsed }) rfl

theorem cmdView_baselineArray (o : BaselineObs) (s : State) : cmdView d (baselineArray d o s) = cmdView d s := by
  simp only [baselineArray]
  split
  · rw [cmdView_seedTracker]
    exact cmdView_of_quiet d (quiet_codeSetsOf ..)
  · rw [cmdView_raise, cmdView_setTrk]
    exact cmdView_of_quiet d (quiet_codeSetsOf ..)

/-- The arrays of a die's check from the next one on (R98). -/
def baselineArrays (d : Nat) (s : State) : List Nat :=
  (inState s d 1).filter (fun p => decide ((lunaDie s d).checkFrom ≤ p))

/-- The state in which the arrays whose passes have run are seeded (R98). -/
def baselineSeeded (d : Nat) (obs : List BaselineObs) (s : State) : State :=
  let x := baselineCharge d (baselineArrays d s) s
  (x.1.filterMap (fun p => baselineFind d p obs)).foldl (fun s o => baselineArray d o s)
    (baselineQuiet d (x.1.filter (fun p => (baselineFind d p obs).isNone)) x.2.2)

theorem cmdView_baselineSeeded (obs : List BaselineObs) (s : State) :
    cmdView d (baselineSeeded d obs s) = cmdView d s := by
  unfold baselineSeeded
  dsimp only
  rw [foldl_keeps (cmdView d) _ fun s o => cmdView_baselineArray d o s, cmdView_baselineQuiet]
  exact cmdView_of_quiet d (quiet_baselineCharge ..)

/-- A check that is done (R98, R457). -/
def baselineDone (d : Nat) (s : State) : State :=
  let s := updLunaDie d (fun x => { x with checking := false, checkFrom := 0, colDone := true }) s
  { s with boot := { s.boot with baselined := d :: s.boot.baselined.filter (· != d) } }

theorem baselineRun_waits {p : Nat} {s : State} (obs : List BaselineObs)
    (h : (baselineCharge d (baselineArrays d s) s).2.1 = some p) :
    baselineRun d obs s = updLunaDie d (fun x => { x with checkFrom := p }) (baselineSeeded d obs s) := by
  unfold baselineRun baselineSeeded
  unfold baselineArrays at h ⊢
  generalize (inState s d 1).filter (fun p => decide ((lunaDie s d).checkFrom ≤ p)) = ps at h ⊢
  dsimp only at h ⊢
  generalize baselineCharge d ps s = x at h ⊢
  obtain ⟨ran, left, u⟩ := x
  obtain rfl : left = some p := h
  rfl

theorem baselineRun_done {s : State} (obs : List BaselineObs)
    (h : (baselineCharge d (baselineArrays d s) s).2.1 = none) :
    baselineRun d obs s = baselineDone d (baselineSeeded d obs s) := by
  unfold baselineRun baselineSeeded
  unfold baselineArrays at h ⊢
  generalize (inState s d 1).filter (fun p => decide ((lunaDie s d).checkFrom ≤ p)) = ps at h ⊢
  dsimp only at h ⊢
  generalize baselineCharge d ps s = x at h ⊢
  obtain ⟨ran, left, u⟩ := x
  obtain rfl : left = none := h
  rfl

end BaselinePasses
end Sys2Proof.Machine

namespace Sys2Proof.Machine

open Sys2Proof.Map

/-! ## Step 9 of a start-up leaves the dies alone (R481 to R483, R563) -/

section Fabric

variable (s : State)

@[simp] theorem quiet_setUp (pages : List Nat) : quiet (setUp pages s) = quiet s := rfl
@[simp] theorem quiet_setPort (p : Nat) (x : ShawmPort) : quiet (setPort p x s) = quiet s := rfl
@[simp] theorem quiet_routeCheck : quiet (routeCheck s) = quiet s := rfl

@[simp] theorem quiet_sendHello (p : Nat) : quiet (sendHello p s) = quiet s := by
  simp only [sendHello]
  split <;> rfl

@[simp] theorem quiet_trainStart (p : Nat) : quiet (trainStart p s) = quiet s := rfl

@[simp] theorem quiet_trainEnd (p : Nat) (o : PortObs) : quiet (trainEnd p o s) = quiet s := by
  simp only [trainEnd]
  split_ifs <;> simp [quiet_foldl]

@[simp] theorem quiet_helloArrives (p : Nat) (h : Hello) : quiet (helloArrives p h s) = quiet s := by
  simp only [helloArrives]
  split_ifs <;> simp

/-- Training and the HELLO check change only the fabric, registers, the log and what is sent. -/
@[simp] theorem quiet_stepFabric (o : StartupObs) : quiet (stepFabric o s).2 = quiet s := by
  have htrained : ∀ (s : State) (e : Nat × PortObs),
      quiet (if (portOf s e.1).training then trainEnd e.1 e.2 s else s) = quiet s := by
    intro s e
    split <;> simp
  have hhello : ∀ (s : State) (e : Nat × PortObs),
      quiet (match e.2.hello with | none => s | some h => helloArrives e.1 h s) = quiet s := by
    intro s e
    split <;> simp
  unfold stepFabric
  exact (quiet_setUp ..).trans ((quiet_foldl _ hhello _).trans ((quiet_routeCheck _).trans
    ((quiet_foldl _ htrained _).trans (quiet_foldl _ (fun s p => quiet_trainStart s p) _))))

end Fabric

/-! ## A baseline check goes on (R98, R457) -/

/-- The dies, and those whose baseline is taken. -/
def bootView (s : State) : LunaState × List Nat := (s.luna, s.boot.baselined)

theorem bootView_of_quiet {s t : State} (h : quiet t = quiet s) : bootView t = bootView s := (congrArg bootView h :)

theorem bootView_bootFail (k code : Nat) (s : State) : bootView (bootFail k code s) = bootView s := by
  unfold bootFail
  exact (bootView_of_quiet (quiet_raise ..)).trans rfl

theorem bootView_readyLocal (o : StartupObs) (k : Nat) (s : State) : bootView (runSteps o 0 k s) = bootView s := by
  unfold runSteps
  exact (bootView_of_quiet (quiet_raise ..)).trans rfl

/-- Step 9, and READY_LOCAL after it, leave the dies and what is baselined alone. -/
theorem bootView_runSteps_fabric (o : StartupObs) (s : State) : bootView (runSteps o 1 9 s) = bootView s := by
  have hwork : ∀ s, bootView (bootWork 9 o s).2 = bootView s := fun s => bootView_of_quiet (quiet_stepFabric s o)
  have hstart : ∀ dt, bootView (bootWork 9 o (advance dt
      { s with boot := { s.boot with state := .starting, step := 9, failEvent := 0 } })).2 = bootView s :=
    fun _ => (hwork _).trans rfl
  simp only [runSteps]
  split_ifs
  · exact (bootView_bootFail ..).trans (hstart _)
  · exact hstart _
  · exact (bootView_readyLocal o 10 _).trans (hstart _)

theorem cmdView_checkFrom (d p : Nat) (s : State) : cmdView d (updLunaDie d (fun x => { x with checkFrom := p }) s) =
    { cmdView d s with die := { (cmdView d s).die with checkFrom := p } } := by
  unfold cmdView
  rw [lunaDie_updLunaDie]
  rfl

/-- A die whose check is done. -/
def calibrated (x : LunaDie) : LunaDie := { x with checking := false, checkFrom := 0, colDone := true }

theorem lunaDie_baselineDone (d : Nat) (s : State) : lunaDie (baselineDone d s) d = calibrated (lunaDie s d) :=
  lunaDie_updLunaDie d s calibrated

theorem cmdView_baselineDone (d : Nat) (s : State) : cmdView d (baselineDone d s) =
    { cmdView d s with
      boot := { (cmdView d s).boot with baselined := d :: (cmdView d s).boot.baselined.filter (· != d) }
      die := { (cmdView d s).die with checking := false, checkFrom := 0, colDone := true } } := by
  unfold cmdView
  rw [lunaDie_baselineDone]
  rfl

theorem checking_eq (d : Nat) (s : State) : (lunaDie s d).checking = (cmdView d s).die.checking := rfl
theorem colDone_eq (d : Nat) (s : State) : (lunaDie s d).colDone = (cmdView d s).die.colDone := rfl
theorem checkFrom_eq (d : Nat) (s : State) : (lunaDie s d).checkFrom = (cmdView d s).die.checkFrom := rfl
theorem boot_eq (d : Nat) (s : State) : s.boot = (cmdView d s).boot := rfl

theorem cmdView_classed (d c : Nat) (s : State) : cmdView d (classed c s) = cmdView d s := rfl
theorem cmdView_inClass (d c : Nat) (f : State → State) (s : State) :
    cmdView d (inClass c f s) = cmdView d (f (classed c s)) := rfl

/-- Which array waits does not depend on the class of work. -/
theorem baselineCharge_classed (d c : Nat) (ps : List Nat) (s : State) :
    (baselineCharge d ps (classed c s)).2.1 = (baselineCharge d ps s).2.1 := by
  have hlog : noLog (classed c s) = noLog s := rfl
  rw [← baselineCharge_waits, hlog, baselineCharge_waits]

theorem baselineArrays_classed (d c : Nat) (s : State) : baselineArrays d (classed c s) = baselineArrays d s := by
  unfold baselineArrays inState
  rfl

/-- A start-up that waited at step 8 for the last check goes on with step 9 (R98, R563). -/
def startUpGoesOn (s : State) : State :=
  match s.boot.phys with
  | some o => if s.boot.state = .starting ∧ s.boot.step = 8 ∧ someChecking s = false then runSteps o 1 9 s else s
  | none => s

theorem bootView_startUpGoesOn (s : State) : bootView (startUpGoesOn s) = bootView s := by
  unfold startUpGoesOn
  split
  · split
    · exact bootView_runSteps_fabric ..
    · rfl
  · rfl

theorem startUpGoesOn_eq {s : State} (h : s.boot.state ≠ .starting) : startUpGoesOn s = s := by
  unfold startUpGoesOn
  split
  · exact if_neg fun hstart => h hstart.1
  · rfl

section GoOn

variable {d : Nat} {s : State} (obs : List BaselineObs)

/-- The check of a die that waits: it stays and goes on from the array that waits. -/
theorem baselineGoOn_waits {p : Nat} (hchecking : (lunaDie s d).checking = true)
    (h : (baselineCharge d (baselineArrays d s) s).2.1 = some p) :
    cmdView d (baselineGoOn d obs s) = { cmdView d s with die := { (cmdView d s).die with checkFrom := p } } := by
  have hclassed : (baselineCharge d (baselineArrays d (classed 8 s)) (classed 8 s)).2.1 = some p := by
    rw [baselineArrays_classed, baselineCharge_classed, h]
  have hview : cmdView d (inClass 8 (baselineRun d obs) s) =
      { cmdView d s with die := { (cmdView d s).die with checkFrom := p } } := by
    rw [cmdView_inClass, baselineRun_waits d obs hclassed, cmdView_checkFrom, cmdView_baselineSeeded, cmdView_classed]
  have hstays : (lunaDie (inClass 8 (baselineRun d obs) s) d).checking = true := by
    rw [checking_eq, hview]
    exact hchecking
  simp only [baselineGoOn, hstays, if_true]
  exact hview

/-- The check of a die that is done, before a start-up that waited for it goes on. -/
def baselineEnded (d : Nat) (obs : List BaselineObs) (s : State) : State :=
  cmdGoOn d (baselineUp (inClass 8 (baselineRun d obs) s))

theorem cmdView_baselineEnded_run (d : Nat) (obs : List BaselineObs) (s : State) :
    cmdView d (baselineEnded d obs s) = cmdView d (inClass 8 (baselineRun d obs) s) := by
  have hup : ∀ s, cmdView d (baselineUp s) = cmdView d s := fun s => cmdView_of_quiet d (quiet_setUp ..)
  rw [baselineEnded, cmdView_cmdGoOn, hup]

theorem cmdView_baselineEnded (h : (baselineCharge d (baselineArrays d s) s).2.1 = none) :
    cmdView d (baselineEnded d obs s) = { cmdView d s with
      boot := { s.boot with baselined := d :: s.boot.baselined.filter (· != d) }
      die := { (cmdView d s).die with checking := false, checkFrom := 0, colDone := true } } := by
  have hclassed : (baselineCharge d (baselineArrays d (classed 8 s)) (classed 8 s)).2.1 = none := by
    rw [baselineArrays_classed, baselineCharge_classed, h]
  rw [cmdView_baselineEnded_run, cmdView_inClass, baselineRun_done d obs hclassed, cmdView_baselineDone,
    cmdView_baselineSeeded, cmdView_classed]
  rfl

/-- The check of a die that is done: beside what a start-up that waited for it does, it ends. -/
theorem baselineGoOn_done (h : (baselineCharge d (baselineArrays d s) s).2.1 = none) :
    bootView (baselineGoOn d obs s) = bootView (baselineEnded d obs s) ∧
      (s.boot.state ≠ .starting → baselineGoOn d obs s = baselineEnded d obs s) := by
  have hended : (lunaDie (inClass 8 (baselineRun d obs) s) d).checking = false := by
    rw [checking_eq, ← cmdView_baselineEnded_run, cmdView_baselineEnded obs h]
  have hboot : (baselineEnded d obs s).boot.state = s.boot.state := by
    rw [boot_eq d, cmdView_baselineEnded obs h]
  have heq : baselineGoOn d obs s = startUpGoesOn (baselineEnded d obs s) := by
    simp only [baselineGoOn, hended, Bool.false_eq_true, if_false]
    unfold baselineEnded
    generalize cmdGoOn d (baselineUp (inClass 8 (baselineRun d obs) s)) = u
    rfl
  rw [heq]
  exact ⟨bootView_startUpGoesOn _, fun hstate => startUpGoesOn_eq (by rw [hboot]; exact hstate)⟩

end GoOn

end Sys2Proof.Machine

namespace Sys2Proof.Machine

open Sys2Proof.Map

/-! ## Channels of a die stop (R146, R457) -/

/-- What work on one die leaves alone: the log, the memories, the clock and every other die. -/
structure RestView where
  log : Log
  mem : Mem
  host : Hostif
  clk : Clock
  dies : Nat → LunaDie

/-- A state's rest view beside a die, whose own record it does not show. -/
def restView (d : Nat) (s : State) : RestView :=
  ⟨s.log, s.mem, s.host, s.clk, fun e => if e = d then {} else lunaDie s e⟩

section RestView

variable (d k p : Nat) (s : State)

@[simp] theorem restView_setLunaDie (x : LunaDie) : restView d (setLunaDie d x s) = restView d s := by
  have hother : ∀ e, (if e = d then {} else lunaDie (setLunaDie d x s) e) = if e = d then {} else lunaDie s e := by
    intro e
    split
    · rfl
    next he => exact mget_mset_other _ _ _ he
  simp only [restView, hother]
  rfl

@[simp] theorem restView_updLunaDie (f : LunaDie → LunaDie) : restView d (updLunaDie d f s) = restView d s :=
  restView_setLunaDie ..

@[simp] theorem restView_updCmd (f : RefreshCmd → RefreshCmd) : restView d (updCmd d f s) = restView d s :=
  restView_updLunaDie ..

@[simp] theorem restView_endCmd (result : Nat) : restView d (endCmd d result s) = restView d s := restView_updCmd ..
@[simp] theorem restView_freeArray : restView d (freeArray d p s) = restView d s := rfl
@[simp] theorem restView_unseedDie : restView d (unseedDie d s) = restView d s := rfl
@[simp] theorem restView_boot (b : Boot) : restView d { s with boot := b } = restView d s := rfl
@[simp] theorem restView_setReg (a : Nat) (v : Word) : restView d (setReg a v s) = restView d s := rfl

@[simp] theorem restView_setFld (a hi lo v : Nat) : restView d (setFld a hi lo v s) = restView d s := by
  rw [setFld, updReg, restView_setReg]

@[simp] theorem restView_breakOff : restView d (breakOff d k s) = restView d s := by
  obtain ⟨_, _, h⟩ := breakOff_frame s d k
  rw [h]
  rfl

@[simp] theorem restView_dropChannel (keep : Bool) : restView d (dropChannel d k keep s) = restView d s := by
  obtain ⟨_, _, h | h⟩ := dropChannel_eq s d k keep <;> simp [h]

@[simp] theorem restView_cancelEnd : restView d (cancelEnd d s) = restView d s := by
  simp only [cancelEnd]
  split <;> simp

/-- One channel of a die that stops (R146, R457). -/
def stopChannel (d : Nat) (s : State) (e : Nat × Channel) : State :=
  let s := dropChannel d e.1 false (breakOff d e.1 s)
  match e.2.kind with
  | .rotate => freeArray d e.2.phys s
  | .replace => updCmd d (fun x => { x with deferred := true, waiting := true }) (freeArray d e.2.phys s)
  | .install => updCmd d (fun x => { x with deferred := true, todo := ascInsert e.2.logical x.todo }) s
  | .erase => updCmd d (fun x => { x with deferred := true, erase := ascInsert e.2.logical x.erase }) s
  | .audit => updLunaDie d (fun x => { x with auditHeld := x.auditHeld ++ [e.2.phys] }) s

theorem holdChannels_eq : holdChannels d s =
    let t := (lunaDie s d).channels.foldl (stopChannel d) s
    if (lunaDie t d).cmd.cancelAt.isSome then cancelEnd d t else t := rfl

@[simp] theorem restView_stopChannel (e : Nat × Channel) : restView d (stopChannel d s e) = restView d s := by
  simp only [stopChannel]
  split <;> simp

@[simp] theorem restView_holdChannels : restView d (holdChannels d s) = restView d s := by
  have hfold := foldl_keeps (restView d) (lunaDie s d).channels (restView_stopChannel d) s
  simp only [holdChannels_eq]
  split
  · rw [restView_cancelEnd, hfold]
  · exact hfold

/-! ### What becomes of the channels -/

@[simp] theorem channels_dropChannel (keep : Bool) :
    (lunaDie (dropChannel d k keep s) d).channels = mdel (lunaDie s d).channels k := by
  simp only [dropChannel]
  split
  next hnone =>
    have habsent : ∀ m : SMap Channel, find? m k = none → m = mdel m k := by
      intro m hm
      induction m with
      | nil => rfl
      | cons e m ih =>
        by_cases he : e.1 = k
        · simp [find?, he] at hm
        · simp only [find?, he, if_false] at hm
          simp only [mdel, he, if_false, ← ih hm]
    exact habsent _ hnone
  next => rw [lunaDie_setLunaDie]

@[simp] theorem channels_stopChannel (e : Nat × Channel) :
    (lunaDie (stopChannel d s e) d).channels = mdel (lunaDie s d).channels e.1 := by
  simp only [stopChannel]
  split <;> simp

@[simp] theorem channels_cancelEnd : (lunaDie (cancelEnd d s) d).channels = (lunaDie s d).channels := by
  simp only [cancelEnd]
  split <;> simp [endCmd]

theorem channels_foldl_stopChannel (l : List (Nat × Channel)) :
    (lunaDie (l.foldl (stopChannel d) s) d).channels =
      (lunaDie s d).channels.filter (fun x => l.all (fun e => decide (x.1 ≠ e.1))) := by
  induction l generalizing s with
  | nil => simp
  | cons e l ih => 
    rw [List.foldl_cons, ih, channels_stopChannel, mdel_eq_filter, List.filter_filter]
    simp only [List.all_cons, Bool.and_comm]

/-- No channel of a die works once they have stopped. -/
theorem channels_holdChannels : (lunaDie (holdChannels d s) d).channels = [] := by
  have hnone : (lunaDie ((lunaDie s d).channels.foldl (stopChannel d) s) d).channels = [] := by
    rw [channels_foldl_stopChannel, List.filter_eq_nil_iff]
    intro x hx hall
    have hself := List.all_eq_true.mp hall x hx
    simp at hself
  simp only [holdChannels_eq]
  split
  · rw [channels_cancelEnd, hnone]
  · exact hnone

end RestView

/-! ## COLCAL_GO (R457) -/

section ColcalGo

variable (d : Nat) (s : State)

/-- What a COLCAL that begins on a die leaves alone. -/
theorem restView_colcalHost : restView d (colcalHost d s) = restView d s := by
  simp [colcalHost, colcalBegin]

/-- A die on which a COLCAL has begun. -/
structure CalibrationBegun (d now : Nat) (t : State) : Prop where
  since : (lunaDie t d).colSince = some now
  notDone : (lunaDie t d).colDone = false
  idle : (lunaDie t d).channels = []

/-- The state in which a COLCAL begins on a die: its channels have stopped and its trackers and baseline are gone. -/
def colcalReady (d : Nat) (s : State) : State :=
  let s := holdChannels d (unseedDie d s)
  { s with boot := { s.boot with baselined := s.boot.baselined.filter (· != d) } }

theorem lunaDie_setFld (a hi lo v e : Nat) (s : State) : lunaDie (setFld a hi lo v s) e = lunaDie s e := by
  rw [setFld, updReg]
  rfl

theorem lunaDie_colcalHost : lunaDie (colcalHost d s) d = { lunaDie (colcalReady d s) d with
    colSince := some (colcalReady d s).clk.now, colDone := false, checking := false, checkFrom := 0 } := by
  unfold colcalHost colcalBegin
  rw [lunaDie_updLunaDie, lunaDie_setFld]
  rfl

theorem colcalHost_begun : CalibrationBegun d s.clk.now (colcalHost d s) := by
  have hclk : (colcalReady d s).clk = s.clk := congrArg RestView.clk (restView_holdChannels d (unseedDie d s))
  have hidle : (lunaDie (colcalReady d s) d).channels = [] := channels_holdChannels d (unseedDie d s)
  constructor <;> rw [lunaDie_colcalHost]
  · rw [hclk]
  · exact hidle

theorem lunaDie_of_restView {d e : Nat} {s t : State} (h : restView d t = restView d s) (he : e ≠ d) :
    lunaDie t e = lunaDie s e := by
  have hdie := congrFun (congrArg RestView.dies h) e
  simpa [restView, he] using hdie

theorem CalibrationBegun.of_restView {d e now : Nat} {s t : State} (h : restView d t = restView d s) (he : e ≠ d)
    (hs : CalibrationBegun e now s) : CalibrationBegun e now t := by
  have hdie := lunaDie_of_restView h he
  exact ⟨by rw [hdie, hs.since], by rw [hdie, hs.notDone], by rw [hdie, hs.idle]⟩

/-- A COLCAL of several dies: each begins, the others stay. -/
theorem foldl_colcalHost (ds : List Nat) (s : State) :
    let t := ds.foldl (fun s d => colcalHost d s) s
    (∀ d ∈ ds, CalibrationBegun d s.clk.now t) ∧ (∀ d, d ∉ ds → lunaDie t d = lunaDie s d) ∧
      t.log = s.log ∧ t.mem = s.mem ∧ t.host = s.host ∧ t.clk = s.clk := by
  induction ds using List.reverseRecOn with
  | nil => exact ⟨fun _ h => absurd h List.not_mem_nil, fun _ _ => rfl, rfl, rfl, rfl, rfl⟩
  | append_singleton ds d ih =>
    obtain ⟨hbegun, hother, hlog, hmem, hhost, hclk⟩ := ih
    simp only [List.foldl_append, List.foldl_cons, List.foldl_nil]
    set u := ds.foldl (fun s d => colcalHost d s) s
    have hrest := restView_colcalHost d u
    refine ⟨fun e he => ?_, fun e he => ?_, (congrArg RestView.log hrest).trans hlog,
      (congrArg RestView.mem hrest).trans hmem, (congrArg RestView.host hrest).trans hhost,
      (congrArg RestView.clk hrest).trans hclk⟩
    · by_cases hed : e = d
      · rw [hed, ← hclk]
        exact colcalHost_begun d u
      · exact (hbegun e (by simpa [hed] using he)).of_restView hrest hed
    · simp only [List.mem_append, List.mem_singleton, not_or] at he
      rw [lunaDie_of_restView hrest he.2, hother e he.1]

end ColcalGo

/-- The dies that a write of COLCAL_CMD names (R457). -/
theorem colcalCmd_begins {d : Nat} {all : Bool} {s : State} (hready : beforeReadyLocal s = false)
    (hstopped : s.seq.state = .stopped)
    (hidle : ∀ e ∈ (if all then List.range 16 else [d]), calibrating s e = false) :
    colcalCmd d (word (1 + 2 * one all)) s =
      (if all then List.range 16 else [d]).foldl (fun s d => colcalHost d s) s := by
  have hgo : flag (word (1 + 2 * one all)) 0 = true := by cases all <;> decide
  have hall : flag (word (1 + 2 * one all)) 1 = all := by cases all <;> decide
  have hfree : (if all then List.range 16 else [d]).any (calibrating s) = false := by
    rw [List.any_eq_false]
    exact fun e he => by simp [hidle e he]
  simp only [colcalCmd, hgo, hall, hready, isStopped, hstopped, hfree]
  rfl

/-- COLCAL_GO (R457). -/
theorem exec_colcalGo (dt : Nat) (die : Luna) (all : Bool) {s : State} (hs : HostMay (pgLuna die 4) s)
    (hready : beforeReadyLocal s = false) (hstopped : s.seq.state = .stopped)
    (hidle : ∀ d < 16, (d = die.val ∨ all = true) → calibrating s d = false) :
    ∃ t, exec (.colcalGo dt die all) s = .next t ∧
      (∀ d < 16, if d = die.val ∨ all = true then
          (lunaDie t d).colSince = some (s.clk.now + dt) ∧ (lunaDie t d).colDone = false ∧ (lunaDie t d).channels = []
        else lunaDie t d = lunaDie s d) ∧ t.log = s.log ∧ SameMemory s t := by
  have hnamed : ∀ d < 16, d ∈ (if all then List.range 16 else [die.val]) ↔ d = die.val ∨ all = true := by
    intro d hd
    cases all <;> simp [hd]
  have hdies : ∀ e ∈ (if all then List.range 16 else [die.val]), calibrating (advance dt s) e = false := by
    intro e he
    have hlt : e < 16 := by
      have := die.isLt
      cases all <;> simp at he <;> omega
    exact hidle e hlt ((hnamed e hlt).mp he)
  have hcmd := colcalCmd_begins (d := die) (all := all) (s := advance dt s) hready hstopped hdies
  obtain ⟨hbegun, hother, hlog, hmem, hhost, -⟩ :=
    foldl_colcalHost (if all then List.range 16 else [die.val]) (advance dt s)
  rw [← hcmd] at hbegun hother hlog hmem hhost
  refine ⟨_, actHost_on hs dt _, fun d hd => ?_, hlog, .of_eq hmem (congrArg Hostif.bar2 hhost)⟩
  split
  next h =>
    obtain ⟨hsince, hdone, hchannels⟩ := hbegun d ((hnamed d hd).mpr h)
    exact ⟨hsince, hdone, hchannels⟩
  next h => exact hother d fun hin => h ((hnamed d hd).mp hin)

end Sys2Proof.Machine

namespace Sys2Proof.Machine

open Sys2Proof.Map

/-! ## COLCAL_END (R459, R460) -/

/-- What COLCAL finds on an array, as its record holds it (R460). -/
def colFound (o : ColcalObs) : ColRec :=
  { cols := ((colFails o).map (2 ^ ·)).sum, rows := min o.rowFail 128, offset := min o.maxOffset 255
    gain := min o.maxGain 255 }

/-- The COLCAL records of all dies are replaced. -/
def setColRecs (m : SMap ColRec) (s : State) : State := { s with luna := { s.luna with colRecs := m } }

theorem quiet_setColRecs (m : SMap ColRec) (s : State) : quiet (setColRecs m s) = setColRecs m (quiet s) := rfl
theorem setColRecs_setColRecs (m m' : SMap ColRec) (s : State) :
    setColRecs m (setColRecs m' s) = setColRecs m s := rfl

theorem quiet_colcalArray (d : Nat) (o : ColcalObs) (s : State) : quiet (colcalArray d o s) =
    setColRecs (mset {} s.luna.colRecs (physKey d o.phys) (colFound o)) (quiet s) := by
  have hset : quiet (setColRec d o.phys (colFound o) s) =
      setColRecs (mset {} s.luna.colRecs (physKey d o.phys) (colFound o)) (quiet s) := rfl
  unfold colFound at hset ⊢
  rw [← hset]
  simp only [colcalArray]
  split <;> simp

/-- The records of a die once its COLCAL has ended. -/
def colRecords (d : Nat) (found : List ColcalObs) (m : SMap ColRec) : SMap ColRec :=
  (colcalOf d found).foldl (fun m o => mset {} m (physKey d o.phys) (colFound o)) (m.filter (fun e => e.1 / 8192 != d))

theorem quiet_foldl_colcalArray (d : Nat) (l : List ColcalObs) (s : State) :
    quiet (l.foldl (fun s o => colcalArray d o s) s) =
      setColRecs (l.foldl (fun m o => mset {} m (physKey d o.phys) (colFound o)) s.luna.colRecs) (quiet s) := by
  induction l generalizing s with
  | nil => rfl
  | cons o l ih =>
    have hrecs : (colcalArray d o s).luna.colRecs = mset {} s.luna.colRecs (physKey d o.phys) (colFound o) :=
      (congrArg (fun t => t.luna.colRecs) (quiet_colcalArray d o s) :)
    rw [List.foldl_cons, ih, hrecs, quiet_colcalArray, setColRecs_setColRecs, List.foldl_cons]

/-- Beside counters and events the end of a COLCAL changes the die's records only. -/
theorem quiet_colcalRecord (d : Nat) (found : List ColcalObs) (s : State) :
    quiet (colcalRecord d found s) = setColRecs (colRecords d found s.luna.colRecs) (quiet s) := by
  have hkept : ∀ m, (setFld (colReg d 0x104) 12 0 0 (setColRecs m s)).luna.colRecs = m := by
    intro m
    exact (congrArg (fun t => t.luna.colRecs) (quiet_setFld (setColRecs m s) (colReg d 0x104) 12 0 0) :)
  have hstart : colcalRecord d found s = (colcalOf d found).foldl (fun s o => colcalArray d o s)
      (setFld (colReg d 0x104) 12 0 0 (setColRecs (s.luna.colRecs.filter (fun e => e.1 / 8192 != d)) s)) := rfl
  rw [hstart, quiet_foldl_colcalArray, hkept, quiet_setFld, quiet_setColRecs, setColRecs_setColRecs, colRecords]

/-! ### The records after it -/

theorem mget_filter_other {α : Type} (x : α) (q : Nat → Bool) {k : Nat} (h : q k = false) (m : SMap α) :
    mget x (m.filter (fun e => q e.1)) k = x := by
  have hnone : find? (m.filter (fun e => q e.1)) k = none := by
    induction m with
    | nil => rfl
    | cons e m ih =>
      simp only [List.filter_cons]
      split
      next he =>
        have hk : e.1 ≠ k := fun hk => by simp [← hk, he] at h
        simp only [find?, hk, if_false, ih]
      next => exact ih
  rw [mget, hnone, Option.getD_none]

theorem foldl_colFound_other (d p : Nat) {l : List ColcalObs} (h : ∀ o ∈ l, o.phys ≠ p) (m : SMap ColRec) :
    mget {} (l.foldl (fun m o => mset {} m (physKey d o.phys) (colFound o)) m) (physKey d p) =
      mget {} m (physKey d p) := by
  induction l generalizing m with
  | nil => rfl
  | cons o l ih =>
    have hp : physKey d p ≠ physKey d o.phys := fun hk => h o (List.mem_cons_self ..) (physKey_injective hk).symm
    rw [List.foldl_cons, ih fun o' ho' => h o' (List.mem_cons_of_mem _ ho'), mget_mset_other _ _ _ hp]

/-- An array that COLCAL does not name has an empty record. -/
theorem colRecords_other {d p : Nat} {found : List ColcalObs} (hp : p < 8192) (h : ∀ o ∈ colcalOf d found, o.phys ≠ p)
    (m : SMap ColRec) : mget {} (colRecords d found m) (physKey d p) = {} := by
  have hgone : (physKey d p / 8192 != d) = false := by
    have hdiv : physKey d p / 8192 = d := by
      simp only [physKey]
      omega
    simp [hdiv]
  rw [colRecords, foldl_colFound_other d p h]
  exact mget_filter_other {} (fun k => k / 8192 != d) hgone m

/-- An array that COLCAL names has the record it found. -/
theorem colRecords_same {d : Nat} {found : List ColcalObs} {o : ColcalObs} (h : o ∈ colcalOf d found)
    (m : SMap ColRec) : mget {} (colRecords d found m) (physKey d o.phys) = colFound o := by
  have hdistinct : (colcalOf d found).Pairwise (fun a b => a.phys ≠ b.phys) := List.pairwise_pwFilter _
  unfold colRecords
  generalize colcalOf d found = l at h hdistinct
  obtain ⟨before, after, rfl⟩ := List.append_of_mem h
  obtain ⟨-, hafter, -⟩ := List.pairwise_append.mp hdistinct
  obtain ⟨hdiffer, -⟩ := List.pairwise_cons.mp hafter
  rw [List.foldl_append, List.foldl_cons, foldl_colFound_other d o.phys fun o' ho' => (hdiffer o' ho').symm,
    mget_mset_same]

/-- A die whose COLCAL has ended and whose baseline check begins (R457). -/
def checkBegun (x : LunaDie) : LunaDie := { x with colSince := none, checking := true, checkFrom := 0 }

/-- COLCAL_END (R457, R459, R460). -/
theorem exec_colcalEnd (dt : Nat) (die : Luna) (found : List ColcalObs) {s : State} {t0 : Nat} (hs : Clocked s)
    (hsince : (lunaDie s die).colSince = some t0) (hdue : t0 + 608000000 ≤ s.clk.now + dt) :
    ∃ t, exec (.colcalEnd dt die found) s = .next t ∧ (lunaDie t die).colSince = none ∧
      (lunaDie t die).checking = true ∧
      (∀ p < physCount, (∀ o ∈ colcalOf die found, o.phys ≠ p) → colRec t die p = {}) ∧
      (∀ o ∈ colcalOf die found, (colRec t die o.phys).rows = min o.rowFail 128 ∧
        (colRec t die o.phys).cols = ((colFails o).map (2 ^ ·)).sum) ∧ SameMemory s t := by
  have hover : colcalDue (advance dt s) die = true := by
    have hdie : lunaDie (advance dt s) die = lunaDie s die := rfl
    simp only [colcalDue, hdie, hsince, advance_now]
    exact decide_eq_true hdue
  set u := inClass 8 (colcalRecord die found) (advance dt s) with hu
  have hquiet := quiet_colcalRecord die found (classed 8 (advance dt s))
  have hrecs : u.luna.colRecs = colRecords die found s.luna.colRecs :=
    (congrArg (fun t => t.luna.colRecs) hquiet :)
  have hmem : u.mem = s.mem := (congrArg State.mem hquiet :)
  have hhost : u.host = s.host := (congrArg State.host hquiet :)
  have hexec : exec (.colcalEnd dt die found) s =
      .next { updLunaDie die checkBegun u with pending := s.pending } := by
    show execColcalEnd dt die found s = _
    rw [execColcalEnd, act_on hs]
    simp only [hover, if_true, hu]
    rfl
  have hdie := lunaDie_updLunaDie die u checkBegun
  have hrec : ∀ p, colRec (updLunaDie die checkBegun u) die p = mget {} u.luna.colRecs (physKey die p) := fun _ => rfl
  refine ⟨_, hexec, congrArg LunaDie.colSince hdie, congrArg LunaDie.checking hdie, fun p hp hnot => ?_,
    fun o ho => ?_, .of_eq hmem (congrArg Hostif.bar2 hhost)⟩
  · have hlt : p < 8192 := hp.trans (by decide)
    exact (hrec p).trans (by rw [hrecs, colRecords_other hlt hnot])
  · have hfound : colRec (updLunaDie die checkBegun u) die o.phys = colFound o := by
      rw [hrec, hrecs, colRecords_same ho]
    exact ⟨congrArg ColRec.rows hfound, congrArg ColRec.cols hfound⟩

/-! ## BASELINE_CHECK_END (R98, R457) -/

/-- The check of a die that is done: it ends, the calibration is DONE, and the die counts as baselined. -/
theorem baselineGoOn_calibrated {d : Nat} {s : State} (obs : List BaselineObs)
    (h : (baselineCharge d (baselineArrays d s) s).2.1 = none) :
    let t := baselineGoOn d obs s
    (lunaDie t d).checking = false ∧ (lunaDie t d).colDone = true ∧ d ∈ t.boot.baselined := by
  obtain ⟨hboot, -⟩ := baselineGoOn_done obs h
  have hview := cmdView_baselineEnded obs h
  generalize baselineGoOn d obs s = t at hboot ⊢
  obtain ⟨hluna, hbaselined⟩ := Prod.mk.inj hboot
  have hdie : lunaDie t d = lunaDie (baselineEnded d obs s) d := by rw [lunaDie, hluna, lunaDie]
  simp only [hdie, hbaselined]
  rw [checking_eq, colDone_eq, boot_eq d, hview]
  exact ⟨rfl, rfl, List.mem_cons_self ..⟩

theorem exec_baselineCheckEnd (dt : Nat) (die : Luna) (obs : List BaselineObs) {s : State} (hs : Clocked s)
    (hchecking : (lunaDie s die).checking = true) (hshape : baselineShape (advance dt s) die obs = true) {ps : List Nat}
    (hps : ps = baselineArrays die s) :
    ∃ t, exec (.baselineCheckEnd dt die obs) s = .next t ∧
      ((baselineCharge die ps (advance dt s)).2.1 = none → (lunaDie t die).checking = false ∧
        (lunaDie t die).colDone = true ∧ die.val ∈ t.boot.baselined) ∧
      (∀ p, (baselineCharge die ps (advance dt s)).2.1 = some p → (lunaDie t die).checking = true ∧
        (lunaDie t die).checkFrom = p) ∧
      (s.boot.state ≠ .starting → SameMemory s t) := by
  set u := advance dt s with hu
  have harrays : ps = baselineArrays die u := by
    rw [hps]
    unfold baselineArrays inState
    rfl
  rw [harrays]
  have hchecking' : (lunaDie u die).checking = true := hchecking
  have hexec : exec (.baselineCheckEnd dt die obs) s =
      .next { baselineGoOn die obs u with pending := s.pending } := by
    show execBaselineCheckEnd dt die obs s = _
    rw [execBaselineCheckEnd, act_on hs]
    simp only [← hu, hchecking', hshape, Bool.and_self, if_true]
  have hkept : ∀ t, (cmdView die t).mem = (cmdView die u).mem → (cmdView die t).host = (cmdView die u).host →
      SameMemory s { t with pending := s.pending } := fun t hmem hhost => .of_eq hmem (congrArg Hostif.bar2 hhost)
  have hdone := baselineGoOn_calibrated (d := die) (s := u) obs
  have hwaits := fun p => baselineGoOn_waits (s := u) (p := p) obs hchecking'
  have hended := fun h => (baselineGoOn_done (d := die) (s := u) obs h).2
  generalize baselineGoOn die obs u = t at hexec hdone hwaits hended
  refine ⟨_, hexec, hdone, fun p hp => ?_, fun hstate => ?_⟩
  · have hview := hwaits p hp
    show (lunaDie t die).checking = true ∧ (lunaDie t die).checkFrom = p
    rw [checking_eq, checkFrom_eq, hview]
    exact ⟨hchecking', rfl⟩
  · rcases hleft : (baselineCharge die (baselineArrays die u) u).2.1 with _ | p
    · have hview := cmdView_baselineEnded obs hleft
      rw [← hended hleft hstate] at hview
      exact hkept t (by rw [hview]) (by rw [hview])
    · have hview := hwaits p hleft
      exact hkept t (by rw [hview]) (by rw [hview])

/-- Settles O19: a COLCAL's begin die by die, its end record by record, and the baseline check by whether an array
waits. -/
theorem calibrationCommands : Obligations.CalibrationCommands := by
  unfold Obligations.CalibrationCommands
  refine ⟨?go, ?ends, ?check⟩
  case go =>
    intro dt die all s hs hready hstopped hidle
    exact exec_colcalGo dt die all hs hready hstopped hidle
  case ends =>
    intro dt die found s t0 hs hsince hdue
    exact exec_colcalEnd dt die found hs hsince hdue
  case check =>
    intro dt die obs s hs hchecking hshape
    have harrays : (inState s die 1).filter (fun p => decide ((lunaDie s die).checkFrom ≤ p)) = baselineArrays die s := by
      rw [baselineArrays]
    exact exec_baselineCheckEnd dt die obs hs hchecking hshape harrays

end Sys2Proof.Machine

namespace Sys2Proof.Machine

open Sys2Proof.Map

/-! ## What scheduled reads of a die rest on (R277, R291) -/

/-- Between two states a die's settings and rings, all scratchpads and the words found bad in the issued bundle's tables
are the same. -/
structure SameTables (d : Nat) (s t : State) : Prop extends SameSettings d s t where
  spad : t.mem.spad = s.mem.spad
  rings : t.mem.rings = s.mem.rings
  tableBad : t.seq.issued.map (·.tableBad) = s.seq.issued.map (·.tableBad)

/-- As `SameTables`, and the issued bundle itself is the same: what checks and scheduled reads leave alone. -/
structure KeepsTables (d : Nat) (s t : State) : Prop extends SameSettings d s t where
  spad : t.mem.spad = s.mem.spad
  rings : t.mem.rings = s.mem.rings
  issued : t.seq.issued = s.seq.issued

section Relations

variable {d : Nat} {s t u : State}

theorem SameTables.trans (h : SameTables d s t) (h' : SameTables d t u) : SameTables d s u where
  toSameSettings := h.toSameSettings.trans h'.toSameSettings
  spad := h'.spad.trans h.spad
  rings := h'.rings.trans h.rings
  tableBad := h'.tableBad.trans h.tableBad

theorem SameTables.symm (h : SameTables d s t) : SameTables d t s where
  toSameSettings := h.toSameSettings.symm
  spad := h.spad.symm
  rings := h.rings.symm
  tableBad := h.tableBad.symm

theorem KeepsTables.refl (d : Nat) (s : State) : KeepsTables d s s := ⟨sameSettings_of_regs rfl, rfl, rfl, rfl⟩

theorem KeepsTables.trans (h : KeepsTables d s t) (h' : KeepsTables d t u) : KeepsTables d s u where
  toSameSettings := h.toSameSettings.trans h'.toSameSettings
  spad := h'.spad.trans h.spad
  rings := h'.rings.trans h.rings
  issued := h'.issued.trans h.issued

theorem KeepsTables.sameTables (h : KeepsTables d s t) : SameTables d s t where
  toSameSettings := h.toSameSettings
  spad := h.spad
  rings := h.rings
  tableBad := by rw [h.issued]

/-- Work that keeps the tables in each of two states that agree on them. -/
theorem SameTables.after {s' t' : State} (h : SameTables d s t) (hs : KeepsTables d s s') (ht : KeepsTables d t t') :
    SameTables d s' t' := hs.sameTables.symm.trans (h.trans ht.sameTables)

/-- Quiet work that changes no setting. -/
theorem SameSettings.keepsTables (h : SameSettings d s t) (hq : quiet t = quiet s) : KeepsTables d s t where
  toSameSettings := h
  spad := congrArg Mem.spad (mem_of_quiet hq)
  rings := congrArg Mem.rings (mem_of_quiet hq)
  issued := (congrArg (fun s => s.seq.issued) hq :)

theorem keepsTables_foldl {α : Type} {f : State → α → State} (h : ∀ t x, KeepsTables d t (f t x)) (l : List α)
    (s : State) : KeepsTables d s (l.foldl f s) := by
  induction l generalizing s with
  | nil => exact .refl d s
  | cons x l ih => exact (h s x).trans (ih _)

theorem keepsTables_raise (hd : d < 16) {code : Nat} (hc : code < 0x10000) (page detail : Nat) (s : State) :
    KeepsTables d s (raise page code detail s) :=
  (sameSettings_raise hd hc page detail s).keepsTables (quiet_raise ..)

theorem keepsTables_bump {k off : Nat} (hc : (k, off) ∈ workCounters) (d n : Nat) (s : State) :
    KeepsTables d s (bump (Reg.luna d k off) n s) := (sameSettings_bump hc d n s).keepsTables (quiet_bump ..)

theorem keepsTables_collect (code key n : Nat) (s : State) : KeepsTables d s (collect code key n s) :=
  have hregs : SameSettings d s (collect code key n s) := sameSettings_of_regs rfl
  hregs.keepsTables (quiet_collect ..)

theorem spadReg_eq (hd : d < 16) (off : Nat) : spadReg d off = Reg.luna d 6 off := by
  simp only [spadReg, pgSpad, if_pos hd, ra, pgLuna, Reg.luna]

end Relations

/-! ### Checks of accumulators and words (R221, R232, R282) -/

section Checks

variable {d : Nat} (hd : d < 16) (s : State)

theorem keepsTables_setAcc (e i : Nat) (a : Acc) (s : State) : KeepsTables d s (setAcc e i a s) := by
  unfold setAcc
  split
  · exact ⟨sameSettings_of_regs rfl, rfl, rfl, rfl⟩
  · exact .refl d s

include hd

theorem keepsTables_accFile (o : AccObs) : KeepsTables d s (accFile d o s) := by
  have hcorrected : KeepsTables d s (if o.corrected = 0 then s else
      collect Evt.ACC_ECC_CORRECTED d o.corrected (bump (tensorReg d 0x128) o.corrected s)) := by
    split
    · exact .refl d s
    · exact (keepsTables_bump (by decide) d _ s).trans (keepsTables_collect ..)
  exact hcorrected.trans (keepsTables_foldl (fun t _ =>
    (keepsTables_setAcc _ _ _ t).trans (keepsTables_raise hd (by decide) _ _ _)) _ _)

theorem keepsTables_accResidue (o : AccObs) : KeepsTables d s (accResidue d o s) :=
  keepsTables_foldl (fun t _ => (keepsTables_setAcc _ _ _ t).trans
    ((keepsTables_bump (k := 5) (by decide) d 1 _).trans (keepsTables_raise hd (by decide) _ _ _))) _ s

theorem keepsTables_spadEcc (corr : Nat) (bad : List Nat) : KeepsTables d s (spadEcc d corr bad s) := by
  have hcounted : ∀ off n (s : State), (6, off) ∈ workCounters → KeepsTables d s (bump (spadReg d off) n s) := by
    intro off n s hc
    rw [spadReg_eq hd]
    exact keepsTables_bump hc d n s
  have hcorrected : KeepsTables d s (if corr = 0 then s else
      collect Evt.SPAD_ECC_CORRECTED d corr (bump (spadReg d 0x128) corr s)) := by
    split
    · exact .refl d s
    · exact (hcounted 0x128 corr s (by decide)).trans (keepsTables_collect ..)
  exact hcorrected.trans (keepsTables_foldl (fun t _ =>
    (hcounted 0x12C 1 t (by decide)).trans (keepsTables_raise hd (by decide) _ _ _)) _ _)

theorem keepsTables_reportBreaks (bs : List (Nat × Nat)) : KeepsTables d s (reportBreaks d bs false s) := by
  have hbreak : ∀ (s : State) (b : Nat × Nat), KeepsTables d s (ringError d b.1 1 false s) := by
    intro s b
    have hcounted : KeepsTables d s (bump (Reg.luna d 6 0x130) 1 s) := keepsTables_bump (by decide) d 1 s
    rw [← spadReg_eq hd] at hcounted
    exact hcounted.trans (keepsTables_collect ..)
  exact keepsTables_foldl hbreak bs s

theorem keepsTables_schedRead (c w : Nat) : KeepsTables d s (schedRead c d w s).2 := by
  have hnoted : KeepsTables d s (noteAccess c d w s) := ⟨sameSettings_of_regs rfl, rfl, rfl, rfl⟩
  exact hnoted.trans (keepsTables_reportBreaks hd _ _)

omit hd in
/-- A read of a run is noted for the operation at hand (R277). -/
theorem keepsTables_noted (keys : List Nat) : KeepsTables d s { s with mem := { s.mem with noted := keys } } :=
  ⟨sameSettings_of_regs rfl, rfl, rfl, rfl⟩

theorem keepsTables_runRead (cyc : Nat → Nat) (bad : List Nat) (a n : Nat) :
    KeepsTables d s (runRead cyc d bad a n s).2 := by
  induction n generalizing a s with
  | zero => exact .refl d s
  | succ n ih =>
    simp only [runRead]
    exact (keepsTables_noted s _).trans ((keepsTables_schedRead hd _ (cyc a) a).trans (ih _ (a + 1)))

theorem keepsTables_picDir (cyc : Nat → Nat) (a : Nat) (bad : List Nat) :
    KeepsTables d s (picDir cyc d a bad s).2 := by
  simp only [picDir]
  split_ifs
  · exact .refl d s
  · exact .refl d s
  · dsimp only
    exact keepsTables_runRead hd s ..
  · dsimp only
    exact keepsTables_runRead hd s ..

theorem keepsTables_tableBytes (cyc : Nat → Nat) (a n : Nat) (bad : List Nat) :
    KeepsTables d s (tableBytes cyc d a n bad s).2 := by
  simp only [tableBytes]
  split_ifs
  · exact .refl d s
  · dsimp only
    exact keepsTables_runRead hd s ..
  · dsimp only
    exact keepsTables_runRead hd s ..

end Checks

/-! ### What the reads return -/

section Reads

variable {d : Nat} {s t : State} (hd : d < 16) (h : SameTables d s t)

theorem SameTables.spadAt_congr (h : SameTables d s t) (e w : Nat) : spadAt t e w = spadAt s e w := by
  simp only [spadAt, spadWord, h.spad]

theorem SameTables.tableWord_congr (h : SameTables d s t) (e w : Nat) : tableWord t e w = tableWord s e w := by
  have hbad := h.tableBad
  simp only [tableWord, h.spadAt_congr]
  cases ht : t.seq.issued <;> cases hs : s.seq.issued <;> simp_all

include hd h

theorem SameTables.spadReg_congr {off : Nat} (hset : IsSetting 6 off) : reg t (spadReg d off) = reg s (spadReg d off) := by
  rw [spadReg_eq hd]
  exact h.words hset

theorem SameTables.residentRun_congr (w n : Nat) : residentRun t d w n = residentRun s d w n := by
  have hspan : ∀ off, 0x180 ≤ off → off < 0x200 → reg t (ra (pgSpad d) off) = reg s (ra (pgSpad d) off) := by
    intro off hlo hhi
    refine h.spadReg_congr hd ⟨by omega, by omega, by omega, ?_⟩
    simp only [workCounters, List.mem_cons, Prod.mk.injEq, List.not_mem_nil, or_false]
    omega
  have hspans : (List.range 16).map (fun i =>
      ((reg t (ra (pgSpad d) (0x180 + 8 * i))).toNat, (reg t (ra (pgSpad d) (0x184 + 8 * i))).toNat)) =
      (List.range 16).map (fun i =>
      ((reg s (ra (pgSpad d) (0x180 + 8 * i))).toNat, (reg s (ra (pgSpad d) (0x184 + 8 * i))).toNat)) := by
    refine List.map_congr_left fun i hi => ?_
    rw [List.mem_range] at hi
    rw [hspan _ (by omega) (by omega), hspan _ (by omega) (by omega)]
  simp only [residentRun, hspans]

theorem SameTables.ringInfo_congr (r : Nat) : ringInfo t d r = ringInfo s d r := by
  simp only [ringInfo, regFld, h.spadReg_congr hd (show IsSetting 6 0x114 by decide),
    h.spadReg_congr hd (show IsSetting 6 0x110 by decide), h.tableWord_congr,
    h.residentRun_congr hd]

theorem SameTables.ringBreaks_congr (w n : Nat) (write : Bool) : ringBreaks t d w n write = ringBreaks s d w n write := by
  have hrings : ringsOf t d = ringsOf s d := by
    simp only [ringsOf, regFld, h.spadReg_congr hd (show IsSetting 6 0x114 by decide), h.ringInfo_congr hd]
  have hring : ∀ r, ringOf t d r = ringOf s d r := fun r => by rw [ringOf, h.rings, ringOf]
  simp only [ringBreaks, hrings, hring]

theorem SameTables.schedRead_congr (c w : Nat) : (schedRead c d w t).1 = (schedRead c d w s).1 := by
  have hnoted : SameTables d (noteAccess c d w s) (noteAccess c d w t) :=
    ⟨⟨h.inForce, h.words⟩, h.spad, h.rings, h.tableBad⟩
  simp only [schedRead, hnoted.ringBreaks_congr hd, hnoted.spadAt_congr]

theorem SameTables.runRead_congr (cyc : Nat → Nat) (bad : List Nat) (a n : Nat) :
    (runRead cyc d bad a n t).1 = (runRead cyc d bad a n s).1 := by
  induction n generalizing a s t with
  | zero => rfl
  | succ n ih =>
    have hnoted : SameTables d { s with mem := { s.mem with noted := accessKey (cyc a) d a :: s.mem.noted } }
        { t with mem := { t.mem with noted := accessKey (cyc a) d a :: t.mem.noted } } :=
      ⟨⟨h.inForce, h.words⟩, h.spad, h.rings, h.tableBad⟩
    have hread := hnoted.schedRead_congr hd (cyc a) a
    have hrest := ih (hnoted.after (keepsTables_schedRead hd _ (cyc a) a) (keepsTables_schedRead hd _ (cyc a) a)) (a + 1)
    simp only [runRead, hread, hrest]

theorem SameTables.picDir_congr (cyc : Nat → Nat) (a : Nat) (bad : List Nat) :
    (picDir cyc d a bad t).1 = (picDir cyc d a bad s).1 := by
  have hbase : forceFld t (picReg d 0x104) 25 0 = forceFld s (picReg d 0x104) 25 0 :=
    congrArg (fld · 25 0) (h.force (show IsSetting 2 0x104 by decide))
  simp only [picDir, hbase, h.residentRun_congr hd, h.runRead_congr hd]
  split_ifs <;> rfl

theorem SameTables.tableBytes_congr (cyc : Nat → Nat) (a n : Nat) (bad : List Nat) :
    (tableBytes cyc d a n bad t).1 = (tableBytes cyc d a n bad s).1 := by
  simp only [tableBytes, h.residentRun_congr hd, h.runRead_congr hd]
  split_ifs <;> rfl

end Reads
end Sys2Proof.Machine

namespace Sys2Proof.Machine

open Sys2Proof.Map

/-! ### Static lists of arrays (R104, R193) -/

section Static

variable {d : Nat} (hd : d < 16) (cyc : Nat → Nat) (bad : List Nat)

/-- What the bytes read for a static list say (R104). -/
def staticAnswer (e : PicDir) (r : Nat ⊕ Bytes) : Nat ⊕ List Nat :=
  match r with
  | .inl p => .inl p
  | .inr b => match staticRows b e.scount with | none => .inl 2 | some rows => .inr rows

theorem picStatic_eq (e : PicDir) (s : State) : picStatic cyc d e bad s =
    if e.slist = 0 then (if e.scount = 0 then .inr [] else .inl 2, s)
    else (staticAnswer e (tableBytes cyc d e.slist 64 bad s).1, (tableBytes cyc d e.slist 64 bad s).2) := by
  simp only [picStatic, staticAnswer]
  split
  · rfl
  · generalize tableBytes cyc d e.slist 64 bad s = x
    obtain ⟨p | b, u⟩ := x
    · rfl
    · cases hrows : staticRows b e.scount <;> simp only [hrows]

theorem segStatic_eq (a : Nat) (s : State) : segStatic cyc d a bad s =
    match (picDir cyc d a bad s).1 with
    | .inl p => (.inl p, (picDir cyc d a bad s).2)
    | .inr e => picStatic cyc d e bad (picDir cyc d a bad s).2 := by
  unfold segStatic
  generalize picDir cyc d a bad s = x
  obtain ⟨p | e, u⟩ := x <;> rfl

include hd

theorem keepsTables_picStatic (e : PicDir) (s : State) : KeepsTables d s (picStatic cyc d e bad s).2 := by
  rw [picStatic_eq]
  split
  · exact .refl d s
  · dsimp only
    exact keepsTables_tableBytes hd s ..

/-- Reading a static list leaves the tables alone. -/
theorem keepsTables_segStatic (a : Nat) (s : State) : KeepsTables d s (segStatic cyc d a bad s).2 := by
  have hdir := keepsTables_picDir hd s cyc a bad
  rw [segStatic_eq]
  split
  · exact hdir
  · exact hdir.trans (keepsTables_picStatic hd cyc bad _ _)

theorem SameTables.picStatic_congr {s t : State} (h : SameTables d s t) (e : PicDir) :
    (picStatic cyc d e bad t).1 = (picStatic cyc d e bad s).1 := by
  simp only [picStatic_eq, h.tableBytes_congr hd]
  split_ifs <;> rfl

/-- The static list that is read rests on the tables alone. -/
theorem SameTables.segStatic_congr {s t : State} (h : SameTables d s t) (a : Nat) :
    (segStatic cyc d a bad t).1 = (segStatic cyc d a bad s).1 := by
  have hdir := h.picDir_congr hd cyc a bad
  have hafter := h.after (keepsTables_picDir hd s cyc a bad) (keepsTables_picDir hd t cyc a bad)
  simp only [segStatic_eq, hdir]
  split
  · rfl
  · exact hafter.picStatic_congr hd cyc bad _

omit hd in
theorem readView_segStatic (e : Nat) (a : Nat) (s : State) :
    readView e (segStatic cyc d a bad s).2 = readView e s := by
  rw [segStatic_eq]
  split
  · exact readView_picDir ..
  · exact (readView_picStatic ..).trans (readView_picDir ..)

end Static

/-! ## Accumulators as a die's operations find them (R221, R232) -/

section Accumulators

variable (d : Nat) (o : AccObs) (s : State)

/-- A view without the accumulators. -/
def ReadView.noAccs (v : ReadView) : ReadView := { v with accs := [] }

theorem noAccs_setAcc (e i : Nat) (a : Acc) : (readView d (setAcc e i a s)).noAccs = (readView d s).noAccs := by
  unfold setAcc
  split <;> rfl

/-- The check of one file word that ECC cannot correct (R232). -/
def accFileOne (d : Nat) (s : State) (e : Nat × Bool) : State :=
  raise (tensorPage d) Evt.ACC_ECC_UNCORRECTED (d + e.1 * 2 ^ 8)
    (setAcc d e.1 (if e.2 then accPoisoned (acc s d e.1) else accMake accPoison 0 (1 + 8)) s)

/-- One residue mismatch (R221). -/
def accResidueOne (d : Nat) (s : State) (e : Nat × Nat) : State :=
  raise (tensorPage d) Evt.ACC_RESIDUE (d + e.1 * 2 ^ 8 + e.2 * 2 ^ 25)
    (bump (tensorReg d 0x118) 1 (setAcc d e.1 (accPoisoned (acc s d e.1)) s))

/-- File words that ECC corrects are counted (R232). -/
def accCorrected (d : Nat) (o : AccObs) (s : State) : State :=
  if o.corrected = 0 then s else
    collect Evt.ACC_ECC_CORRECTED d o.corrected (bump (tensorReg d 0x128) o.corrected s)

/-- The state in which an operation finds its accumulators: file words and residues are checked (R221, R232). -/
def accsFound (d : Nat) (o : AccObs) (s : State) : State := accResidue d o (accFile d o s)

theorem accsFound_eq : accsFound d o s =
    o.residue.foldl (accResidueOne d) (o.uncorrected.foldl (accFileOne d) (accCorrected d o s)) := rfl

theorem readView_accCorrected : readView d (accCorrected d o s) = readView d s := by
  unfold accCorrected
  split <;> simp

/-- The checks change accumulators, counters and the log. -/
theorem noAccs_accsFound : (readView d (accsFound d o s)).noAccs = (readView d s).noAccs := by
  have hfile : ∀ s e, (readView d (accFileOne d s e)).noAccs = (readView d s).noAccs := by
    intro s e
    rw [accFileOne, readView_raise, noAccs_setAcc]
  have hresidue : ∀ s e, (readView d (accResidueOne d s e)).noAccs = (readView d s).noAccs := by
    intro s e
    rw [accResidueOne, readView_raise, readView_bump, noAccs_setAcc]
  rw [accsFound_eq, foldl_keeps (fun s => (readView d s).noAccs) _ hresidue,
    foldl_keeps (fun s => (readView d s).noAccs) _ hfile, readView_accCorrected]

/-- Where no check finds anything, the accumulators stay. -/
theorem accs_accsFound_clean (hresidue : o.residue = []) (huncorrected : o.uncorrected = []) :
    (accsFound d o s).tensor.accs = s.tensor.accs := by
  rw [accsFound_eq, hresidue, huncorrected]
  exact congrArg ReadView.accs (readView_accCorrected d o s)

variable {s} {t : State}

theorem acc_congr (h : t.tensor.accs = s.tensor.accs) (i : Nat) : acc t d i = acc s d i := by
  rw [acc, acc, h]

theorem accs_setAcc_congr (h : t.tensor.accs = s.tensor.accs) (i : Nat) (a : Acc) :
    (setAcc d i a t).tensor.accs = (setAcc d i a s).tensor.accs := by
  unfold setAcc
  split
  · exact congrArg (fun m => mset {} m (accKey d i) a) h
  · exact h

theorem accs_raise (page code detail : Nat) (s : State) : (raise page code detail s).tensor.accs = s.tensor.accs := by
  rw [raise_tensor]

/-- What the checks make of the accumulators rests on them alone. -/
theorem accs_accsFound_congr (h : t.tensor.accs = s.tensor.accs) :
    (accsFound d o t).tensor.accs = (accsFound d o s).tensor.accs := by
  have hcorrected : ∀ s, (accCorrected d o s).tensor.accs = s.tensor.accs := fun s =>
    congrArg ReadView.accs (readView_accCorrected d o s)
  have hfile : ∀ (l : List (Nat × Bool)) {s t : State}, t.tensor.accs = s.tensor.accs →
      (l.foldl (accFileOne d) t).tensor.accs = (l.foldl (accFileOne d) s).tensor.accs := by
    intro l
    induction l with
    | nil => exact fun h => h
    | cons e l ih =>
      intro s t h
      refine ih ?_
      rw [accFileOne, accFileOne, accs_raise, accs_raise, acc_congr d h, accs_setAcc_congr d h]
  have hresidue : ∀ (l : List (Nat × Nat)) {s t : State}, t.tensor.accs = s.tensor.accs →
      (l.foldl (accResidueOne d) t).tensor.accs = (l.foldl (accResidueOne d) s).tensor.accs := by
    intro l
    induction l with
    | nil => exact fun h => h
    | cons e l ih =>
      intro s t h
      refine ih ?_
      rw [accResidueOne, accResidueOne, accs_raise, accs_raise, acc_congr d h]
      exact accs_setAcc_congr d h _ _
  rw [accsFound_eq, accsFound_eq]
  exact hresidue _ (hfile _ ((hcorrected t).trans (h.trans (hcorrected s).symm)))

theorem accsRead_congr (h : t.tensor.accs = s.tensor.accs) (a n : Nat) : accsRead t d a n = accsRead s d a n := by
  simp only [accsRead, accRead, acc_congr d h]

end Accumulators
end Sys2Proof.Machine

namespace Sys2Proof.Machine

open Sys2Proof.Map

/-! ## SEGQ (R193) -/

section Segq

variable (o : AccObs) (c : SubCtx) (t : TDesc) (s : State)

/-- The state in which SEGQ finds its operands: accumulators and scratchpad words are checked. -/
def segqFound (o : AccObs) (c : SubCtx) (s : State) : State :=
  spadEcc c.die o.spadCorr o.spadUncorr (accsFound c.die o s)

/-- SEGQ's words and flags are scheduled (R193, R224). -/
def segqSend (o : AccObs) (c : SubCtx) (t : TDesc) (r : List Elem × Nat) (keys : List Nat) (list : Nat ⊕ List Nat)
    (s : State) : State :=
  writeLater c.die c.cycle (tD t c) (some t.dFlags) (o.spadUncorr.contains t.dFlags) keys (segqWords t list r.1).1
    (r.2 ||| (segqWords t list r.1).2) s

/-- What SEGQ notes and counts of its segments: elements that were clipped and those that are not finite (R66, R193). -/
def segqNoted (c : SubCtx) (t : TDesc) (segs : List SegOut) (s : State) : State :=
  let clip := (segs.map (·.clipped.length)).sum
  let s := noteClips c.die (tD t c) segs s
  fmtNonfinite c.die (segs.map (·.nonfinite)).sum
    (if clip = 0 then s else collect Evt.ACT_CLIP_HIGH c.die clip (bump (picReg c.die 0x120) clip s))

/-- SEGQ with its list: what it sends, by whether the list was read. -/
def segqListed (o : AccObs) (c : SubCtx) (t : TDesc) (r : List Elem × Nat) (x : (Nat ⊕ List Nat) × State) : State :=
  match x.1 with
  | .inl p => segqSend o c t r [] (.inl p) (tableInvalid c.die (t.b % 4096) p x.2)
  | .inr rows => segqSend o c t r x.2.mem.noted (.inr rows) (segqNoted c t (segOuts t rows r.1) x.2)

theorem segqIssue_eq : segqIssue o c t s =
    let u := segqFound o c s
    let r := accsRead u c.die (tA t c) (32 * t.blocks)
    if !fmtValid t.fmtA (takesA 13) then segqSend o c t r [] (.inl 0) (descInvalid c.die t.fmtA u)
    else segqListed o c t r (segStatic (fun _ => c.cycle) c.die (t.b % 4096) o.spadUncorr (noteFresh u)) := by
  unfold segqIssue segqListed segqFound accsFound
  dsimp only
  split
  · rfl
  · generalize segStatic (fun _ => c.cycle) c.die (t.b % 4096) o.spadUncorr _ = x
    obtain ⟨p | rows, v⟩ := x <;> rfl

/-! ### What it leaves alone -/

theorem noteClips_frame (d a : Nat) (gs : List SegOut) (s : State) :
    ∃ clips, noteClips d a gs s = { s with mem := { s.mem with clips := clips } } := by
  induction gs generalizing a s with
  | nil => exact ⟨s.mem.clips, rfl⟩
  | cons g gs ih =>
    obtain ⟨clips, h⟩ := ih (a + (bytesToWords g.bytes).length) { s with mem := { s.mem with
      clips := if g.clipped.isEmpty then mdel s.mem.clips (spadKey d a)
        else mput s.mem.clips (spadKey d a) (bytesToWords g.bytes, g.clipped) } }
    exact ⟨clips, h⟩

theorem segqNoted_keeps (segs : List SegOut) :
    readView c.die (segqNoted c t segs s) = readView c.die s ∧ (segqNoted c t segs s).seq.issued = s.seq.issued := by
  obtain ⟨clips, hclips⟩ := noteClips_frame c.die (tD t c) segs s
  have hview : readView c.die (noteClips c.die (tD t c) segs s) = readView c.die s := by
    rw [hclips]
    rfl
  have hseq : (noteClips c.die (tD t c) segs s).seq = s.seq := by rw [hclips]
  have hnonfinite : ∀ n s, readView c.die (fmtNonfinite c.die n s) = readView c.die s ∧
      (fmtNonfinite c.die n s).seq = s.seq := by
    intro n s
    refine ⟨readView_fmtCount .., ?_⟩
    simp only [fmtNonfinite, fmtCount]
    split <;> simp
  simp only [segqNoted, hnonfinite]
  split
  · exact ⟨hview, congrArg Seq.issued hseq⟩
  · simp [hview, hseq]

/-- Writes noted for the bank check (R277). -/
theorem noteWrites_keeps (d e due addr n : Nat) (s : State) :
    readView d (noteWrites e due addr n s) = readView d s ∧ (noteWrites e due addr n s).seq = s.seq := by
  have hnoted : ∀ (s : State) (i : Nat), (noteAccess (due - 1) e (addr + i) s).seq = s.seq := fun _ _ => rfl
  have hview : ∀ (s : State) (i : Nat), readView d (noteAccess (due - 1) e (addr + i) s) = readView d s :=
    fun _ _ => readView_noteAccess ..
  exact ⟨foldl_keeps (readView d) _ hview s, foldl_keeps State.seq _ hnoted s⟩

/-- SEGQ's write, as it is scheduled. -/
theorem segqSend_effect (r : List Elem × Nat) (keys : List Nat) (list : Nat ⊕ List Nat) :
    let u := segqSend o c t r keys list s
    let w := segqWords t list r.1
    readView c.die u = (readView c.die s).addEffect (c.cycle + 12, .write ⟨c.die, tD t c, w.1, some t.dFlags,
        r.2 ||| w.2, o.spadUncorr.contains t.dFlags, keys⟩) ∧ u.seq.issued = s.seq.issued := by
  intro u w
  obtain ⟨hview, hseq⟩ := noteWrites_keeps c.die c.die (c.cycle + 12) (tD t c) w.1.length s
  constructor
  · show readView c.die (later _ _ _) = _
    rw [readView_later, hview]
  · show (noteWrites c.die (c.cycle + 12) (tD t c) w.1.length s).seq.issued = _
    rw [hseq]

theorem readView_segqFound (e : Nat) : readView e (segqFound o c s) = readView e (accsFound c.die o s) :=
  readView_spadEcc ..

theorem keepsTables_segqFound (hd : c.die < 16) : KeepsTables c.die s (segqFound o c s) :=
  ((keepsTables_accFile hd s o).trans (keepsTables_accResidue hd _ o)).trans (keepsTables_spadEcc hd _ _ _)

/-- What SEGQ sends: the words of the list that is read, from a state that its reads leave as it was. -/
theorem segqIssue_sends (hd : c.die < 16) : ∃ keys list v,
    segqIssue o c t s = segqSend o c t (accsRead (segqFound o c s) c.die (tA t c) (32 * t.blocks)) keys list v ∧
      readView c.die v = readView c.die (segqFound o c s) ∧ v.seq.issued = s.seq.issued ∧
      ∀ xs, segqWords t list xs =
        segqWords t (segStatic (fun _ => c.cycle) c.die (t.b % 4096) o.spadUncorr (segqFound o c s)).1 xs := by
  have hfound := keepsTables_segqFound o c s hd
  have hfresh : KeepsTables c.die (segqFound o c s) (noteFresh (segqFound o c s)) := keepsTables_noted ..
  rw [segqIssue_eq]
  dsimp only
  split
  next hinvalid =>
    refine ⟨_, _, _, rfl, readView_raise .., ?_, fun xs => ?_⟩
    · exact (keepsTables_raise hd (by decide) 0 _ (segqFound o c s)).issued.trans hfound.issued
    · have hformat : fmtValid t.fmtA (takesA 13) = false := by simpa using hinvalid
      simp only [segqWords, hformat]
  next =>
    have hread := keepsTables_segStatic hd (fun _ => c.cycle) o.spadUncorr (t.b % 4096) (noteFresh (segqFound o c s))
    have hview := readView_segStatic (fun _ => c.cycle) o.spadUncorr (d := c.die) c.die (t.b % 4096)
      (noteFresh (segqFound o c s))
    rw [readView_noteFresh] at hview
    rw [← hfresh.sameTables.segStatic_congr hd (fun _ => c.cycle) o.spadUncorr (t.b % 4096)]
    have hissued := hread.issued.trans (hfresh.issued.trans hfound.issued)
    generalize segStatic (fun _ => c.cycle) c.die (t.b % 4096) o.spadUncorr (noteFresh (segqFound o c s)) = x at *
    obtain ⟨p | rows, v⟩ := x
    · refine ⟨_, _, _, rfl, (readView_tableInvalid ..).trans hview, ?_, fun _ => rfl⟩
      exact (keepsTables_raise hd (by decide) _ _ v).issued.trans hissued
    · obtain ⟨hnoted, hkept⟩ := segqNoted_keeps c t v (segOuts t rows
        (accsRead (segqFound o c s) c.die (tA t c) (32 * t.blocks)).1)
      exact ⟨_, _, _, rfl, hnoted.trans hview, hkept.trans hissued, fun _ => rfl⟩

end Segq

/-! ## Tensor operations of the issued bundle -/

/-- The state in which an operation of the issued bundle works: time has passed, the bundle counts it, and its events name
the bundle's class. -/
def issueState (i : Issued) (dt die sub : Nat) (s : State) : State :=
  classed (bClass i.bundle) { advance dt s with seq := { s.seq with issued := some (doneSub i die sub) } }

section Issue

variable {i : Issued} {die sub op : Nat} {s : State}

/-- What an operation leaves once it has worked: the class that events name is as before it, and the queue too. -/
def worked (s t : State) : State := { t with log := { t.log with cls := s.log.cls }, pending := s.pending }

/-- An operation that the issued bundle carries works in that state. -/
theorem act_withSub (hs : Clocked s) (dt : Nat) (h : Carries i die sub op s) (f : SubCtx → State → State) :
    act dt (withSub die sub op f) s = .next (worked s (f (ctxOf i die sub) (issueState i dt die sub s))) := by
  have hcarried : Carries i die sub op (advance dt s) := h
  rw [act_on hs, withSub_carries hcarried]
  rfl

/-- There the descriptors read as before. -/
theorem descWords_issueState (hi : s.seq.issued = some i) (dt die sub d k j size : Nat) :
    descWords (issueState i dt die sub s) d k j size = descWords s d k j size := by
  have hbad : (issueState i dt die sub s).seq.issued.map (·.tableBad) = s.seq.issued.map (·.tableBad) := by
    rw [hi]
    rfl
  have hword := tableWord_congr (s := s) (t := issueState i dt die sub s) rfl hbad
  exact descWords_congr (s := s) (t := issueState i dt die sub s) rfl hword d k j size

/-- A tensor operation that the issued bundle carries with a valid descriptor. -/
theorem tensorIssue_carried {d : TDesc} (h : CarriesTensor i die op d s) (dt : Nat)
    (f : SubCtx → TDesc → State → State) : tensorIssue op f (ctxOf i die 1) (issueState i dt die 1 s) =
      f (ctxOf i die 1) d (issueState i dt die 1 s) := by
  obtain ⟨⟨hissued, -⟩, hdesc, hselected⟩ := h
  have hdesc' : tensorDesc (issueState i dt die 1 s) (ctxOf i die 1).die op (tDesc (ctxOf i die 1).v) = .inr d := by
    simp only [tensorDesc, descWords_issueState hissued]
    exact hdesc
  have hselected' : unselected (issueState i dt die 1 s) op d = false := hselected
  simp only [tensorIssue, hdesc', hselected', Bool.false_eq_true, if_false]

/-- A carried tensor operation with a valid descriptor, as it acts. -/
theorem act_tensorIssue {d : TDesc} (hs : Clocked s) (h : CarriesTensor i die op d s) (dt : Nat)
    (f : SubCtx → TDesc → State → State) : act dt (withSub die 1 op (tensorIssue op f)) s =
      .next (worked s (f (ctxOf i die 1) d (issueState i dt die 1 s))) := by
  rw [act_withSub hs dt h.1, tensorIssue_carried h]

/-- There the tables read as before. -/
theorem sameTables_issueState (hi : s.seq.issued = some i) (d dt die sub : Nat) :
    SameTables d s (issueState i dt die sub s) :=
  ⟨sameSettings_of_regs rfl, rfl, rfl, by rw [hi]; rfl⟩

end Issue

/-- SEGQ carried by the issued bundle (R104, R193, R224, R227). -/
theorem exec_segq {i : Issued} {d : TDesc} {s : State} (dt : Nat) (die : Luna) (o : AccObs) (hs : Clocked s)
    (h : CarriesTensor i die 13 d s) :
    let r := accsRead (accsFound die o s) die (tA d (ctxOf i die 1)) (32 * d.blocks)
    let w := segqWords d (segStatic (fun _ => i.cycle) die (d.b % 4096) o.spadUncorr s).1 r.1
    ∃ t, exec (.segq dt die o) s = .next t ∧ WriteScheduled i die d (some d.dFlags) w.1 (r.2 ||| w.2) s t ∧
      (o.residue = [] → o.uncorrected = [] → t.tensor.accs = s.tensor.accs) := by
  intro r w
  let c := ctxOf i die 1
  let u := issueState i dt die 1 s
  have hstart : SameTables die s u := sameTables_issueState h.1.1 die dt die 1
  have hfound : KeepsTables die u (segqFound o c u) := keepsTables_segqFound o c u die.isLt
  obtain ⟨keys, list, v, hsends, hview, hkept, hwords⟩ := segqIssue_sends o c d u die.isLt
  have hread : accsRead (segqFound o c u) die (tA d c) (32 * d.blocks) = r := by
    have haccs : (accsFound die o u).tensor.accs = (accsFound die o s).tensor.accs := accs_accsFound_congr die o rfl
    exact accsRead_congr die ((congrArg ReadView.accs (readView_segqFound o c u die)).trans haccs) _ _
  have hstatic : (segStatic (fun _ => i.cycle) die (d.b % 4096) o.spadUncorr (segqFound o c u)).1 =
      (segStatic (fun _ => i.cycle) die (d.b % 4096) o.spadUncorr s).1 :=
    (hstart.trans hfound.sameTables).segStatic_congr die.isLt (fun _ => i.cycle) o.spadUncorr (d.b % 4096)
  have hw : segqWords d list r.1 = w := (hwords r.1).trans (congrArg (fun x => segqWords d x r.1) hstatic)
  have hviewed : readView die v = readView die (accsFound die o u) := hview.trans (readView_segqFound o c u die)
  have hrest : (readView die v).noAccs = (readView die s).noAccs :=
    (congrArg ReadView.noAccs hviewed).trans (noAccs_accsFound die o u)
  have hsent : segqIssue o c d u = segqSend o c d r keys list v :=
    hsends.trans (congrArg (fun r => segqSend o c d r keys list v) hread)
  obtain ⟨hadded, hissued⟩ := segqSend_effect o c d v r keys list
  rw [← hsent, hw] at hadded
  rw [← hsent] at hissued
  let sent : WriteOp := ⟨die, tD d c, w.1, some d.dFlags, r.2 ||| w.2, o.spadUncorr.contains d.dFlags, keys⟩
  refine ⟨_, act_tensorIssue hs h dt (segqIssue o), ⟨⟨sent, ?_, rfl, rfl, rfl, rfl, rfl⟩, ?_, ?_⟩, fun hresidue hclean => ?_⟩
  · exact (congrArg ReadView.effects hadded).trans (congrArg (fun v => ReadView.effects v ++ _) hrest)
  · exact hissued.trans hkept
  · have hmemory : (readView die v).memory = (readView die s).memory := (congrArg ReadView.memory hrest :)
    exact sameMemory_of_readView (d := die) ((congrArg ReadView.memory hadded).trans hmemory)
  · exact (congrArg ReadView.accs hadded).trans ((congrArg ReadView.accs hviewed).trans
      (accs_accsFound_clean die o u hresidue hclean))

end Sys2Proof.Machine

namespace Sys2Proof.Machine

open Sys2Proof.Map

/-! ## SHADOW_CHECK (R122, R123) -/

/-- What the check of a sample leaves alone: memory, accumulators, the issued bundle and the dies' records. -/
structure CheckView where
  mem : Mem
  bar2 : SMap Byte
  accs : SMap Acc
  issued : Option Issued
  dies : SMap LunaDie

def checkView (s : State) : CheckView := ⟨s.mem, s.host.bar2, s.tensor.accs, s.seq.issued, s.luna.dies⟩

section Check

variable (d p : Nat) (s : State)

theorem checkView_of_quiet {s t : State} (h : quiet t = quiet s) : checkView t = checkView s :=
  (congrArg checkView h :)

theorem marginOf_of_quiet {s t : State} (h : quiet t = quiet s) : marginOf t d p = marginOf s d p :=
  (congrArg (fun s => marginOf s d p) h :)

@[simp] theorem marginOf_setMargin (m : Margin) : marginOf (setMargin d p m s) d p = m := mget_mset_same ..

/-- A step that enters columns into an array's margin record: the rest stays, and its samples, which saturate, grow. -/
structure Enters (d p n : Nat) (s t : State) : Prop where
  view : checkView t = checkView s
  samples : (marginOf t d p).samples = min 65535 ((marginOf s d p).samples + n)

/-- A step that enters no column. -/
structure KeepsSamples (d p : Nat) (s t : State) : Prop where
  view : checkView t = checkView s
  samples : (marginOf t d p).samples = (marginOf s d p).samples

variable {d p s}
variable {n : Nat} {t u : State}

theorem KeepsSamples.of_quiet (h : quiet t = quiet s) : KeepsSamples d p s t :=
  ⟨checkView_of_quiet h, congrArg Margin.samples (marginOf_of_quiet d p h)⟩

theorem KeepsSamples.trans (h : KeepsSamples d p s t) (h' : KeepsSamples d p t u) : KeepsSamples d p s u :=
  ⟨h'.view.trans h.view, h'.samples.trans h.samples⟩

theorem KeepsSamples.ite {c : Prop} [Decidable c] (h : KeepsSamples d p s t) : KeepsSamples d p s (if c then t else s) := by
  split
  · exact h
  · exact ⟨rfl, rfl⟩

theorem KeepsSamples.enters (h : KeepsSamples d p s t) (h' : Enters d p n t u) : Enters d p n s u :=
  ⟨h'.view.trans h.view, by rw [h'.samples, h.samples]⟩

theorem Enters.keeps (h : Enters d p n s t) (h' : KeepsSamples d p t u) : Enters d p n s u :=
  ⟨h'.view.trans h.view, h'.samples.trans h.samples⟩

/-- One column after another. -/
theorem Enters.foldl {f : State → Nat → State} (h : ∀ s k, Enters d p 1 s (f s k)) (k : Nat) (l : List Nat) (s : State) :
    Enters d p (l.length + 1) s ((k :: l).foldl f s) := by
  induction l generalizing k s with
  | nil => exact h s k
  | cons j l ih =>
    have hfirst := h s k
    have hrest := ih j (f s k)
    refine ⟨hrest.view.trans hfirst.view, ?_⟩
    rw [List.foldl_cons, hrest.samples, hfirst.samples, List.length_cons]
    omega

/-- Entering a column counts one sample (R123). -/
theorem marginUpdate_enters (e : ShadowSample) (col : Nat) (eta2 : Rat) (s : State) :
    Enters d e.phys 1 s (marginUpdate d e col eta2 s) := by
  have hset (m : Margin) (hm : m.samples = min 65535 ((marginOf s d e.phys).samples + 1)) :
      Enters d e.phys 1 s (setMargin d e.phys m s) := ⟨rfl, by rw [marginOf_setMargin, hm]⟩
  unfold marginUpdate
  exact ((hset _ rfl).keeps (.ite (.of_quiet (quiet_bump _ _ _)))).keeps (.ite (.of_quiet (quiet_raiseOnce _ _ _ _ _)))

theorem marginLow_keeps (s : State) : KeepsSamples d p s (marginLow d p s) := by
  have hset (m : Margin) (hm : m.samples = (marginOf s d p).samples) : KeepsSamples d p s (setMargin d p m s) :=
    ⟨rfl, by rw [marginOf_setMargin, hm]⟩
  unfold marginLow
  exact .ite ((hset { marginOf s d p with lowHour := some (diePowered s d / 3600) } rfl).trans (.of_quiet (quiet_raise _ _ _ _)))

theorem trackerSram_keeps (q : Nat) (s : State) : KeepsSamples d p s (trackerSram d q s) := by
  have hquiet : quiet (trackerSram d q s) = setTrk d q { trkOf s d q with state := 3, lost := true } (quiet s) := by
    rw [trackerSram, quiet_raise, quiet_loseTracker]
  exact ⟨(congrArg checkView hquiet :), (congrArg (fun s => (marginOf s d p).samples) hquiet :)⟩

theorem countMacs_keeps (n : Nat) (s : State) : KeepsSamples d p s (countMacs d n s) := by
  have hmacs (m : SMap Nat) : KeepsSamples d p s { s with tensor := { s.tensor with macs := m } } := ⟨rfl, rfl⟩
  exact (hmacs _).trans (.of_quiet (quiet_bump64 _ _ _))

/-- The check of a sample enters its eight columns (R122). -/
theorem shadowCheck_enters (sram : Bool) (c : SubCtx) (e : ShadowSample) (s : State) :
    Enters c.die e.phys 8 s (shadowCheck sram c e s) := by
  unfold shadowCheck
  dsimp only
  generalize hcharged : chargeHbm c.die c.cls _ (charge c.die c.cls 0 0 (8192 * 18) s) = u
  have hcharge : KeepsSamples c.die e.phys s u := by
    rw [← hcharged]
    exact .of_quiet (by rw [chargeHbm, quiet_charge, quiet_charge])
  have hsram : KeepsSamples c.die e.phys u (if sram then trackerSram c.die e.phys u else u) :=
    .ite (trackerSram_keeps ..)
  refine (hcharge.trans hsram).enters (Enters.keeps (.foldl (fun s k => ?_) 0 [1, 2, 3, 4, 5, 6, 7] _)
    ((countMacs_keeps 8192 _).trans (marginLow_keeps _)))
  split
  · exact marginUpdate_enters ..
  · have htaken : KeepsSamples c.die e.phys s (takeFree s).2 := ⟨rfl, rfl⟩
    exact htaken.enters (marginUpdate_enters ..)

end Check

/-! ## Bursts that ECC reports (R299) -/

/-- A quiet state without the markers of bursts and the counts of rows (R299, R300). -/
def unmarked (s : State) : State := { quiet s with mem := { s.mem with hbmPoison := [], rowCe := [] } }

theorem unmarked_of_quiet {s t : State} (h : quiet t = quiet s) : unmarked t = unmarked s := (congrArg unmarked h :)

/-- Beside its event, a corrected error changes the count of its row. -/
theorem quiet_rowCorrected (b : Nat) (s : State) :
    ∃ m, quiet (rowCorrected b s) = quiet { s with mem := { s.mem with rowCe := m } } := by
  unfold rowCorrected
  extract_lets st row k hour x x' n x'' lim put
  split
  · exact ⟨_, quiet_raise _ _ _ _⟩
  · exact ⟨_, rfl⟩

/-- Between two states nothing differs but the counts of rows, and what quiet work changes. -/
structure SameBursts (s t : State) : Prop where
  rest : unmarked t = unmarked s
  markers : t.mem.hbmPoison = s.mem.hbmPoison

theorem SameBursts.of_quiet {s t : State} (h : quiet t = quiet s) : SameBursts s t :=
  ⟨unmarked_of_quiet h, congrArg Mem.hbmPoison (mem_of_quiet h)⟩

theorem SameBursts.trans {s t u : State} (h : SameBursts s t) (h' : SameBursts t u) : SameBursts s u :=
  ⟨h'.rest.trans h.rest, h'.markers.trans h.markers⟩

theorem SameBursts.foldl {α : Type} {f : State → α → State} (h : ∀ s x, SameBursts s (f s x)) (l : List α) (s : State) :
    SameBursts s (l.foldl f s) :=
  ⟨foldl_keeps unmarked l (fun s x => (h s x).rest) s,
    foldl_keeps (fun s => s.mem.hbmPoison) l (fun s x => (h s x).markers) s⟩

theorem sameBursts_rowCorrected (b : Nat) (s : State) : SameBursts s (rowCorrected b s) := by
  obtain ⟨m, hm⟩ := quiet_rowCorrected b s
  exact SameBursts.trans (t := { s with mem := { s.mem with rowCe := m } }) ⟨rfl, rfl⟩ (.of_quiet hm)

/-- Counting the errors of bursts leaves the rest alone. -/
theorem sameBursts_hbmEcc (o : XferObs) (s : State) : SameBursts s (hbmEcc o s) := by
  refine (SameBursts.foldl (fun s b => ?corrected) o.hbmCorr s).trans
    (SameBursts.foldl (fun s b => ?uncorrected) o.hbmUncorr _)
  case corrected => exact (SameBursts.of_quiet (by simp)).trans (sameBursts_rowCorrected _ _)
  case uncorrected => exact .of_quiet (by simp)

theorem unmarked_setBurstPoison (v : Bool) (l : List Nat) (s : State) :
    unmarked (l.foldl (fun s b => setBurstPoison b v s) s) = unmarked s := by
  have hset (s : State) (b : Nat) : unmarked (setBurstPoison b v s) = unmarked s := rfl
  exact foldl_keeps unmarked l hset s

theorem burstPoison_foldl_setBurstPoison (v : Bool) (l : List Nat) (s : State) (b : Nat) :
    burstPoison (l.foldl (fun s b => setBurstPoison b v s) s) b = if b ∈ l then v else burstPoison s b := by
  induction l generalizing s with
  | nil => rfl
  | cons a l ih =>
    have hset : burstPoison (setBurstPoison a v s) b = if b = a then v else burstPoison s b := by
      split
      next h => rw [h]; exact mget_mset_same ..
      next h => exact mget_mset_other _ _ _ h
    rw [List.foldl_cons, ih, hset]
    simp only [List.mem_cons]
    split_ifs <;> simp_all

/-- Work that writes no burst leaves the markers as they were. -/
theorem burstPoison_withUncorr {f : State → State} (hf : ∀ s, (f s).mem = s.mem) (bs : List Nat) (s : State) (b : Nat) :
    burstPoison (withUncorr bs (fun _ => false) f s) b = burstPoison s b := by
  unfold withUncorr
  dsimp only
  rw [burstPoison_foldl_setBurstPoison, burstPoison, hf, ← burstPoison, burstPoison_foldl_setBurstPoison]
  split_ifs with h <;> simp_all

/-- Bursts that are marked while work goes on: the work's state and what is left of it agree but for the markers. -/
theorem withUncorr_eq (bs : List Nat) (wrote : Nat → Bool) (f : State → State) (s : State) :
    ∃ v, unmarked v = unmarked s ∧ unmarked (withUncorr bs wrote f s) = unmarked (f v) :=
  ⟨_, unmarked_setBurstPoison true _ s, unmarked_setBurstPoison false _ _⟩

/-- Where a check's view is the same, so it is but for the markers. -/
theorem checkView_unmarked_congr {s t : State} (h : checkView t = checkView s) :
    checkView (unmarked t) = checkView (unmarked s) := by
  have hunmarked (s : State) : checkView (unmarked s) =
      { checkView s with mem := { (checkView s).mem with hbmPoison := [], rowCe := [] } } := rfl
  rw [hunmarked, hunmarked, h]

/-! ## SHADOW_CHECK as it issues -/

/-- What SHADOW_CHECK leaves of a state with an entry at hand (R122, R123). -/
theorem shadowIssue_effect (o : XferObs) (sram : Bool) (c : SubCtx) (d : TDesc) {s : State} {e : ShadowSample}
    {es : List ShadowSample} (h : (lunaDie s c.die).shadow = e :: es) :
    let t := shadowIssue o sram c d s
    (lunaDie t c.die).shadow = es ∧
      (marginOf t c.die e.phys).samples = min 65535 ((marginOf s c.die e.phys).samples + 8) ∧
      t.seq.issued = s.seq.issued ∧ t.tensor.accs = s.tensor.accs ∧ SameMemory s t := by
  intro t
  let u := updLunaDie c.die (fun x => { x with shadow := es }) s
  have hecc : SameBursts u (hbmEcc o u) := sameBursts_hbmEcc o u
  have ht : t = withUncorr o.hbmUncorr (fun _ => false) (shadowCheck sram c e) (hbmEcc o u) := by
    simp only [t, shadowIssue, h]
    rfl
  have hmem (s : State) : (shadowCheck sram c e s).mem = s.mem :=
    congrArg CheckView.mem (shadowCheck_enters sram c e s).view
  obtain ⟨v, hbefore, hafter⟩ := withUncorr_eq o.hbmUncorr (fun _ => false) (shadowCheck sram c e) (hbmEcc o u)
  have hstart : unmarked v = unmarked u := hbefore.trans hecc.rest
  obtain ⟨hview, hsamples⟩ := shadowCheck_enters sram c e v
  have hend : unmarked t = unmarked (shadowCheck sram c e v) := (congrArg unmarked ht).trans hafter
  have hrest : checkView (unmarked t) = checkView (unmarked u) :=
    (congrArg checkView hend).trans ((checkView_unmarked_congr hview).trans (congrArg checkView hstart))
  have hmargin (p : Nat) : marginOf t c.die p = marginOf (shadowCheck sram c e v) c.die p ∧
      marginOf v c.die p = marginOf s c.die p :=
    ⟨(congrArg (fun s => marginOf s c.die p) hend :), (congrArg (fun s => marginOf s c.die p) hstart :)⟩
  refine ⟨?shadow, ?samples, (congrArg CheckView.issued hrest :), (congrArg CheckView.accs hrest :), ?memory⟩
  case shadow =>
    have hdies : t.luna.dies = u.luna.dies := (congrArg CheckView.dies hrest :)
    rw [lunaDie, hdies, ← lunaDie, lunaDie_updLunaDie]
  case samples => rw [(hmargin e.phys).1, hsamples, (hmargin e.phys).2]
  case memory =>
    have hspad : t.mem.spad = s.mem.spad := (congrArg (fun v => v.mem.spad) hrest :)
    have hhbm : t.mem.hbm = s.mem.hbm := (congrArg (fun v => v.mem.hbm) hrest :)
    have hbar2 : t.host.bar2 = s.host.bar2 := (congrArg CheckView.bar2 hrest :)
    have hmarkers (b : Nat) : burstPoison t b = burstPoison s b := by
      rw [ht, burstPoison_withUncorr hmem, burstPoison, hecc.markers]
      rfl
    simp only [SameMemory, spadWord, hbmByte, hspad, hhbm, hbar2, hmarkers, implies_true, and_self]

end Sys2Proof.Machine

namespace Sys2Proof.Machine

open Sys2Proof.Map

/-! ## The other operations (R122, R227, R262) -/

section Issue

variable {i : Issued} {s : State} (dt : Nat) (die : Luna) (hs : Clocked s)
include hs

/-- SHADOW_CHECK of a queue with an entry (R122, R123). -/
theorem exec_shadowCheck {d : TDesc} {e : ShadowSample} {es : List ShadowSample} (o : XferObs) (sram : Bool)
    (h : CarriesTensor i die 14 d s) (hqueue : (lunaDie s die).shadow = e :: es) :
    ∃ t, exec (.shadowCheck dt die o sram) s = .next t ∧ (lunaDie t die).shadow = es ∧
      (marginOf t die e.phys).samples = min 65535 ((marginOf s die e.phys).samples + 8) ∧
      t.seq.issued = some (doneSub i die 1) ∧ t.tensor.accs = s.tensor.accs ∧ SameMemory s t := by
  obtain ⟨hshadow, hsamples, hissued, haccs, hmemory⟩ := shadowIssue_effect o sram (ctxOf i die 1) d
    (s := issueState i dt die 1 s) hqueue
  exact ⟨_, act_tensorIssue hs h dt (shadowIssue o sram), hshadow, hsamples, hissued, haccs, hmemory⟩

/-- SHADOW_CHECK of an empty queue (R122). -/
theorem exec_shadowCheck_empty {d : TDesc} (o : XferObs) (sram : Bool) (h : CarriesTensor i die 14 d s)
    (hqueue : (lunaDie s die).shadow = []) : exec (.shadowCheck dt die o sram) s =
      .next { advance dt s with seq := { s.seq with issued := some (doneSub i die 1) } } := by
  have hnothing : shadowIssue o sram (ctxOf i die 1) d (issueState i dt die 1 s) = issueState i dt die 1 s := by
    have hempty : (lunaDie (issueState i dt die 1 s) (ctxOf i die 1).die).shadow = [] := hqueue
    rw [shadowIssue, hempty]
  refine (act_tensorIssue hs h dt (shadowIssue o sram)).trans ?_
  rw [hnothing]
  rfl

/-- FLAG_CLEAR with a valid descriptor (R227). -/
theorem exec_flagClear {b : Bytes} (h : Carries i die 2 2 s)
    (hwords : descWords s die 1 (moveIndex (dieSlot i.bundle die 2) i.rep) 8 = .inr b) (hblocks : blocksOk (tdescOf b) = true) :
    exec (.flagClear dt die) s = .next { advance dt s with seq := { s.seq with
      issued := some (doneSub i die 2)
      effects := s.seq.effects ++ [(i.cycle + 8, .flagClear die (tdescOf b).dFlags)] } } := by
  have hfound : descWords (issueState i dt die 2 s) (ctxOf i die 2).die 1
      (moveIndex (ctxOf i die 2).v (ctxOf i die 2).rep) 8 = .inr b := (descWords_issueState h.1 ..).trans hwords
  have hclears : flagClearIssue (ctxOf i die 2) (issueState i dt die 2 s) =
      later (i.cycle + 8) (.flagClear die (tdescOf b).dFlags) (issueState i dt die 2 s) := by
    rw [flagClearIssue, hfound]
    exact if_pos hblocks
  refine (act_withSub hs dt h flagClearIssue).trans ?_
  rw [hclears]
  rfl

/-- MARK (R262). -/
theorem exec_mark (h : Carries i die 3 1 s) : exec (.mark dt die) s = .next { advance dt s with seq := { s.seq with
    issued := some (doneSub i die 3)
    trace := s.seq.trace ++ [(i.cycle, die.val, bits (dieSlot i.bundle die 3) 15 4)] } } :=
  (act_withSub hs dt h _).trans rfl

end Issue

/-- Settles O10: each operation that the issued bundle carries works in the state that counts it. SEGQ's reads leave
memory and tables alone, so its words are those of the tables before it; a shadow check enters eight columns, and the
markers of the bursts it reads are as before once it is done. -/
theorem segmentAndMarkIssue : Obligations.SegmentAndMarkIssue := by
  unfold Obligations.SegmentAndMarkIssue
  refine ⟨?segq, ?check, ?empty, ?clear, ?mark⟩
  case segq => exact fun dt die o s i d hs h => exec_segq dt die o hs h
  case check => exact fun dt die o sram s i d e es hs h hqueue => exec_shadowCheck dt die hs o sram h hqueue
  case empty => exact fun dt die o sram s i d hs h hqueue => exec_shadowCheck_empty dt die hs o sram h hqueue
  case clear => exact fun dt die s i b hs h hwords hblocks => exec_flagClear dt die hs h hwords hblocks
  case mark => exact fun dt die s i hs h => exec_mark dt die hs h

end Sys2Proof.Machine

/-! PROOFS of the family 04_programming_refresh_spares. What the host's programming commands do (R148, R154, R156,
R159, R162, R166, R170). -/

namespace Sys2Proof

/-! ## Fields of a word written as a number -/

/-- A field of a word is that of its number. -/
theorem fld_word {n : Nat} (h : n < 2 ^ 32) (hi lo : Nat) : fld (word n) hi lo = n / 2 ^ lo % 2 ^ (hi + 1 - lo) := by
  rw [fld, word, BitVec.toNat_ofNat, Nat.mod_eq_of_lt h, bits, Nat.shiftRight_eq_div_pow]

/-- A bit of a word is that of its number. -/
theorem flag_word {n i : Nat} {b : Bool} (hi : i < 32) (h : n / 2 ^ i % 2 = one b) : flag (word n) i = b := by
  rw [flag, word, BitVec.getLsbD_ofNat, decide_eq_true hi, Bool.true_and, Nat.testBit_eq_decide_div_mod_eq, h]
  cases b <;> rfl

end Sys2Proof

namespace Sys2Proof.Machine

open Sys2Proof.Map

theorem actHost_eq {page dt : Nat} {f : State → State} {s u : State} (hs : HostMay page s) (h : f (advance dt s) = u) :
    actHost dt page f s = .next { u with pending := s.pending } := by
  rw [actHost_on hs, h]

/-! ## Words of REFRESH_CMD (R148, R159, R162, R170) -/

/-- The number of a command word with its arrays and options. -/
def commandNumber (op : Nat) (retireOld repair : Bool) (phys : BitVec 13) (logical : BitVec 12) : Nat :=
  op * 2 ^ 28 + one retireOld * 2 ^ 27 + one repair * 2 ^ 26 + phys.toNat * 2 ^ 13 + logical.toNat

/-- The fields of a command word (R170). -/
theorem commandNumber_fields {op : Nat} (hop : op < 16) (retireOld repair : Bool) (phys : BitVec 13)
    (logical : BitVec 12) :
    let v := word (commandNumber op retireOld repair phys logical)
    fld v 31 28 = op ∧ fld v 25 13 = phys.toNat ∧ fld v 11 0 = logical.toNat ∧ flag v 27 = retireOld ∧
      flag v 26 = repair := by
  have hphys := phys.isLt
  have hlogical := logical.isLt
  have hretire : one retireOld ≤ 1 := Bool.toNat_le retireOld
  have hrepair : one repair ≤ 1 := Bool.toNat_le repair
  have hsize : commandNumber op retireOld repair phys logical < 2 ^ 32 := by
    unfold commandNumber
    omega
  refine ⟨(fld_word hsize ..).trans ?_, (fld_word hsize ..).trans ?_, (fld_word hsize ..).trans ?_,
    flag_word (by decide) ?_, flag_word (by decide) ?_⟩ <;> unfold commandNumber <;> omega

/-! ### What a write of the register does by command -/

section Commands

variable {d : Nat} {v : Word} {s : State}

theorem refreshCmdWrite_cancel (hop : fld v 31 28 = 4) : refreshCmdWrite d v s = cancelCmd d s := by
  simp only [refreshCmdWrite, hop, if_true]

variable (hbusy : (lunaDie s d).cmd.busy = false)
include hbusy

theorem refreshCmdWrite_install (hop : fld v 31 28 = 1) (hstopped : s.seq.state = .stopped)
    (hshadow : s.secure.shadowOk = true) : refreshCmdWrite d v s = installCmd d (flag v 26) s := by
  simp [refreshCmdWrite, hop, hbusy, isStopped, hstopped, hshadow]

theorem refreshCmdWrite_replace (hop : fld v 31 28 = 2) :
    refreshCmdWrite d v s = replaceCmd d (fld v 11 0) (fld v 25 13) (flag v 27) (flag v 26) v s := by
  simp [refreshCmdWrite, hop, hbusy]

theorem refreshCmdWrite_apply (hop : fld v 31 28 = 3) (hstopped : s.seq.state = .stopped) :
    refreshCmdWrite d v s = swapMany d 16 (updCmd d (fun _ => {}) s) := by
  simp [refreshCmdWrite, hop, hbusy, isStopped, hstopped]

theorem refreshCmdWrite_retire (hop : fld v 31 28 = 5) : refreshCmdWrite d v s = retireCmd d (fld v 25 13) v s := by
  simp [refreshCmdWrite, hop, hbusy]

end Commands

/-! ## Registers that events of a page leave alone -/

section Regs

variable {page : Nat} {written : List Nat} {s t u : State}

theorem SameRegsBut.trans (h : SameRegsBut page written s t) (h' : SameRegsBut page written t u) :
    SameRegsBut page written s u :=
  fun a ha hw => (h' a ha hw).trans (h a ha hw)

theorem sameRegsBut_of_regs (h : t.regs = s.regs) : SameRegsBut page written s t := fun _ _ _ => reg_of_regs h _

end Regs

/-! ## RETIRE (R162) -/

section Retire

variable (s : State) (d p cause : Nat)

/-- Retiring an array raises events of its die's page, and writes no register beside (R162, R164, R165). -/
theorem sameRegsBut_retireArray : SameRegsBut (refPage d) [] s (retireArray d p cause s) := by
  intro a ha _
  have hretired (detail : Nat) (t : State) : reg (raise (refPage d) Evt.ARRAY_RETIRED detail t) a = reg t a :=
    reg_raise (by decide) ha ..
  have hlow (detail : Nat) (t : State) : reg (raise (refPage d) Evt.SPARE_POOL_LOW detail t) a = reg t a :=
    reg_raise (by decide) ha ..
  have hstopped (detail : Nat) (t : State) : reg (raise (refPage d) Evt.REFRESH_STOPPED detail t) a = reg t a :=
    reg_raise (by decide) ha ..
  simp only [retireArray]
  split_ifs <;> simp only [hretired, hlow, hstopped] <;> rfl

theorem physOf_retireArray_other {q : Nat} (h : q ≠ p) : physOf (retireArray d p cause s) d q = physOf s d q := by
  rw [← physOf_quiet, quiet_retireArray, physOf_unseedTracker, physOf_updPhys_other _ _ _ _ h, physOf_quiet]

theorem trkOf_quiet (q : Nat) : trkOf (quiet s) d q = trkOf s d q := rfl

@[simp] theorem trkOf_unseedTracker : trkOf (unseedTracker d p s) d p = {} := (setTrk_effect p {}).1

/-- A retired array has no tracker (R96). -/
theorem trkOf_retireArray : trkOf (retireArray d p cause s) d p = {} := by
  rw [← trkOf_quiet, quiet_retireArray, trkOf_unseedTracker]

end Retire

theorem retireCmd_free {d p : Nat} {s : State} (v : Word) (hp : p < physCount) (hfree : (physOf s d p).state = 0) :
    retireCmd d p v s = updCmd d (fun _ => {}) (retireArray d p 4 s) := by
  have hvalid : ¬ (physCount ≤ p ∨ (physOf s d p).state ≠ 0) := by simp [hfree, hp]
  exact if_neg hvalid

/-- RETIRE of a free spare (R162). -/
theorem exec_retire (dt : Nat) (die : Luna) (phys : BitVec 13) {s : State} (hs : HostMay (pgLuna die 3) s)
    (hbusy : (lunaDie s die).cmd.busy = false) (hphys : phys.toNat < physCount)
    (hfree : (physOf s die phys.toNat).state = 0) :
    ∃ t, exec (.retire dt die phys) s = .next t ∧ (physOf t die phys.toNat).state = 4 ∧
      (physOf t die phys.toNat).cause = 4 ∧ trkOf t die phys.toNat = {} ∧
      (∀ p < physCount, p ≠ phys.toNat → physOf t die p = physOf s die p) ∧
      SameRegsBut (pgLuna die 3) [] s t ∧ SameMemory s t := by
  obtain ⟨hop, harray, -⟩ := commandNumber_fields (op := 5) (by decide) false false phys 0
  have hcmd := (refreshCmdWrite_retire (d := die) (s := advance dt s) hbusy hop).trans
    (retireCmd_free _ (by rwa [harray]) (by rwa [harray]))
  rw [harray] at hcmd
  have hrecord := physOf_retireArray_same (advance dt s) die phys.toNat 4
  have hother := fun p hp => physOf_retireArray_other (advance dt s) die phys.toNat 4 (q := p) hp
  have htracker := trkOf_retireArray (advance dt s) die phys.toNat 4
  have hregs := sameRegsBut_retireArray (advance dt s) die phys.toNat 4
  have hmemory := sameMemory_of_cmdView (cmdView_retireArray die (advance dt s) phys.toNat 4)
  generalize retireArray die phys.toNat 4 (advance dt s) = u at *
  exact ⟨_, actHost_eq hs hcmd, congrArg Phys.state hrecord, congrArg Phys.cause hrecord, htracker,
    fun p _ hp => hother p hp, hregs, hmemory⟩

end Sys2Proof.Machine

namespace Sys2Proof.Machine

open Sys2Proof.Map

/-! ## REFRESH_OFF_HOURS (R166) -/

section OffHours

variable (d : Nat) (s : State)

/-- Warning of arrays' ages leaves life records, start-up and memories alone (R168). -/
theorem ageWarn_frame : (ageWarn d s).life = s.life ∧ (ageWarn d s).boot = s.boot ∧ SameMemory s (ageWarn d s) := by
  have hkept : ((ageWarn d s).life, (ageWarn d s).boot, (ageWarn d s).mem, (ageWarn d s).host) =
      (s.life, s.boot, s.mem, s.host) := by
    refine foldl_keeps (fun s => (s.life, s.boot, s.mem, s.host)) _ (fun t a => ?_) s
    dsimp only
    split <;> simp
  simp only [Prod.mk.injEq] at hkept
  obtain ⟨hlife, hboot, hmem, hhost⟩ := hkept
  exact ⟨hlife, hboot, .of_eq hmem (by rw [hhost])⟩

theorem sameRegsBut_ageWarn : SameRegsBut (refPage d) [] s (ageWarn d s) := by
  intro a ha _
  refine foldl_keeps (fun s => reg s a) _ (fun t x => ?_) s
  dsimp only
  split
  · rfl
  · exact reg_raise (by decide) ha ..

variable {d s}

/-- The die's hours off, entered: the register, the age clock, and the note that they are (R166). -/
def offHoursEntered (d : Nat) (v : Word) (s : State) : State :=
  setReg (refReg d 0x118) v { s with
    boot := { s.boot with offHours := s.boot.offHours ++ [d] }
    life := mupd {} s.life d (fun l => { l with ageClock := l.ageClock + v.toNat }) }

theorem offHoursWrite_first (v : Word) (hcommitted : s.boot.committed = false) (hfirst : d ∉ s.boot.offHours) :
    offHoursWrite d v s = ageWarn d (offHoursEntered d v s) := by
  have hopen : ¬ (s.boot.committed || s.boot.offHours.contains d) = true := by simp [hcommitted, hfirst]
  exact if_neg hopen

/-- The first hours off of a power-up (R166). -/
theorem offHoursWrite_effect (hd : d < 16) (v : Word) (hcommitted : s.boot.committed = false)
    (hfirst : d ∉ s.boot.offHours) :
    let t := offHoursWrite d v s
    reg t (refReg d 0x118) = v ∧ SameRegsBut (refPage d) [refReg d 0x118] s t ∧
      (mget {} t.life d).ageClock = (mget {} s.life d).ageClock + v.toNat ∧ d ∈ t.boot.offHours ∧ SameMemory s t := by
  have hregister : eventReg (refPage d) (refReg d 0x118) = false := eventReg_luna hd (by decide) (refPage d)
  obtain ⟨hlife, hboot, hmemory⟩ := ageWarn_frame d (offHoursEntered d v s)
  have hregs := sameRegsBut_ageWarn d (offHoursEntered d v s)
  simp only [offHoursWrite_first v hcommitted hfirst]
  refine ⟨?_, fun a ha hw => ?_, ?_, ?_, ?_⟩
  · rw [hregs _ hregister List.not_mem_nil, offHoursEntered, reg_setReg_same]
  · rw [hregs a ha List.not_mem_nil, offHoursEntered, reg_setReg_other (by simpa using hw)]
    rfl
  · have hentered : (offHoursEntered d v s).life =
        mupd {} s.life d (fun l => { l with ageClock := l.ageClock + v.toNat }) := rfl
    rw [hlife, hentered, mget_mupd_same]
  · have hentered : (offHoursEntered d v s).boot.offHours = s.boot.offHours ++ [d] := rfl
    rw [hboot, hentered]
    exact List.mem_append_right _ (List.mem_singleton_self d)
  · exact .trans (.of_eq rfl rfl) hmemory

end OffHours

/-- REFRESH_OFF_HOURS, the first of a power-up (R166). -/
theorem exec_refreshOffHours (dt : Nat) (die : Luna) (hours : Word) {s : State} (hs : HostMay (pgLuna die 3) s)
    (hcommitted : s.boot.committed = false) (hfirst : die.val ∉ s.boot.offHours) :
    ∃ t, exec (.refreshOffHours dt die hours) s = .next t ∧ reg t (refReg die 0x118) = hours ∧
      SameRegsBut (refPage die) [refReg die 0x118] s t ∧
      (mget {} t.life die).ageClock = (mget {} s.life die).ageClock + hours.toNat ∧ die.val ∈ t.boot.offHours ∧
      SameMemory s t := by
  obtain ⟨hwritten, hregs, hclock, hnoted, hmemory⟩ :=
    offHoursWrite_effect (s := advance dt s) die.isLt hours hcommitted hfirst
  exact ⟨_, actHost_on hs dt _, hwritten, hregs, hclock, hnoted, hmemory⟩

/-! ## CANCEL (R170) -/

section Cancel

variable {d : Nat} {s : State}

theorem regs_noteInstall (d : Nat) (s : State) : (noteInstall d s).regs = s.regs := by
  simp only [noteInstall]
  split <;> rfl

/-- An INSTALL that ends raises at most one event of its die's page, and no memory changes (R150). -/
theorem installEnds_frame (d : Nat) (s : State) :
    SameRegsBut (refPage d) [] s (installEnds d s) ∧ SameMemory s (installEnds d s) := by
  have hnoted : ∀ result, SameRegsBut (refPage d) [] s (noteInstall d (endCmd d result s)) ∧
      SameMemory s (noteInstall d (endCmd d result s)) := by
    intro result
    obtain ⟨-, hmem, hhost⟩ := noteInstall_frame (endCmd d result s) d
    exact ⟨sameRegsBut_of_regs (regs_noteInstall ..), .of_eq hmem (congrArg Hostif.bar2 hhost)⟩
  simp only [installEnds]
  split_ifs
  · exact ⟨sameRegsBut_of_regs rfl, .of_eq rfl rfl⟩
  · exact hnoted 0
  · obtain ⟨hregs, hmemory⟩ := hnoted 3
    have hraised := raisesEvent_raise (code := Evt.INSTALL_INCOMPLETE) (by decide) (refPage d)
      (d + (lunaDie s d).cmd.failed * 2 ^ 8) (noteInstall d (endCmd d 3 s))
    exact ⟨hregs.trans hraised.regs, hmemory.trans hraised.memory⟩

/-- A cancelled command has nothing more to start (R170). -/
def cancelling (now : Nat) (c : RefreshCmd) : RefreshCmd :=
  { c with cancelAt := some now, todo := [], erase := [], waiting := false }

theorem cmdChannels_updCmd (f : RefreshCmd → RefreshCmd) : cmdChannels (updCmd d f s) d = cmdChannels s d := by
  simp only [cmdChannels, lunaDie_updCmd]

theorem cancelEnd_waits (h : cmdChannels s d ≠ []) : cancelEnd d s = s := by
  simp only [cancelEnd, List.isEmpty_iff, h, if_false]

/-- Where no channel works for a cancelled command it ends with RESULT 5. -/
theorem cmd_cancelEnd (h : cmdChannels s d = []) :
    (lunaDie (cancelEnd d s) d).cmd.busy = false ∧ (lunaDie (cancelEnd d s) d).cmd.result = 5 := by
  simp only [cancelEnd, h, List.isEmpty_nil, if_true, endCmd, lunaDie_updCmd, and_self]

theorem cancelEnd_frame (d : Nat) (s : State) : (cancelEnd d s).regs = s.regs ∧ SameMemory s (cancelEnd d s) := by
  simp only [cancelEnd]
  split
  · exact ⟨rfl, .of_eq rfl rfl⟩
  · exact ⟨rfl, .of_eq rfl rfl⟩

theorem cancelCmd_busy (hbusy : (lunaDie s d).cmd.busy = true) : cancelCmd d s =
    if (lunaDie s d).cmd.op = 1 ∧ (lunaDie s d).cmd.todo = [] ∧ (lunaDie s d).cmd.erase = [] ∧ cmdChannels s d = [] then
      installEnds d s
    else cancelEnd d (updCmd d (cancelling (sclk s)) s) := by
  simp only [cancelCmd, hbusy, Bool.not_true, Bool.false_eq_true, if_false, List.isEmpty_iff]
  rfl

theorem cancelCmd_frame (d : Nat) (s : State) :
    SameRegsBut (refPage d) [] s (cancelCmd d s) ∧ SameMemory s (cancelCmd d s) := by
  simp only [cancelCmd]
  split_ifs
  · exact ⟨sameRegsBut_of_regs rfl, .of_eq rfl rfl⟩
  · exact installEnds_frame d s
  · obtain ⟨hregs, hmemory⟩ := cancelEnd_frame d (updCmd d (cancelling (sclk s)) s)
    exact ⟨sameRegsBut_of_regs hregs, .trans (.of_eq rfl rfl) hmemory⟩

/-- What CANCEL does to the command in progress: an INSTALL with nothing left completes, a command without channels
ends, any other waits for its channels (R170). -/
theorem cancelCmd_effect (hbusy : (lunaDie s d).cmd.busy = true) :
    let t := cancelCmd d s
    let c := (lunaDie s d).cmd
    let c' := (lunaDie t d).cmd
    if c.op = 1 ∧ c.todo = [] ∧ c.erase = [] ∧ cmdChannels s d = [] then
      c.cancelAt = none → c'.busy = false ∧ c'.result = (if c.failed = 0 then 0 else 3)
    else if cmdChannels s d = [] then c'.busy = false ∧ c'.result = 5
    else c'.busy = true ∧ c'.cancelAt = some (sclk s) ∧ c'.todo = [] ∧ c'.erase = [] ∧ c'.waiting = false ∧
      (lunaDie t d).channels = (lunaDie s d).channels := by
  simp only [cancelCmd_busy hbusy]
  split
  next hdone =>
    intro hcancel
    obtain ⟨hop, htodo, herase, hchannels⟩ := hdone
    obtain ⟨hends, hresult, -⟩ := installEnds_effect hbusy hop hcancel htodo herase hchannels
    exact ⟨hends, hresult⟩
  next =>
    split
    next hidle => exact cmd_cancelEnd (by rwa [cmdChannels_updCmd])
    next hworks =>
      rw [cancelEnd_waits (by rwa [cmdChannels_updCmd]), lunaDie_updCmd]
      exact ⟨hbusy, rfl, rfl, rfl, rfl, rfl⟩

end Cancel

/-- CANCEL of a command in progress (R170). -/
theorem exec_refreshCancel (dt : Nat) (die : Luna) {s : State} (hs : HostMay (pgLuna die 3) s)
    (hbusy : (lunaDie s die).cmd.busy = true) :
    ∃ t, exec (.refreshCancel dt die) s = .next t ∧
      let c := (lunaDie s die).cmd
      let c' := (lunaDie t die).cmd
      (if c.op = 1 ∧ c.todo = [] ∧ c.erase = [] ∧ cmdChannels s die = [] then
          c.cancelAt = none → c'.busy = false ∧ c'.result = (if c.failed = 0 then 0 else 3)
        else if cmdChannels s die = [] then c'.busy = false ∧ c'.result = 5
        else c'.busy = true ∧ c'.cancelAt = some (sclk (advance dt s)) ∧ c'.todo = [] ∧ c'.erase = [] ∧
          c'.waiting = false ∧ (lunaDie t die).channels = (lunaDie s die).channels) ∧
      SameRegsBut (refPage die) [] s t ∧ SameMemory s t := by
  have hop : fld (word (4 * 2 ^ 28)) 31 28 = 4 := by decide
  have heffect := cancelCmd_effect (s := advance dt s) (d := die) hbusy
  obtain ⟨hregs, hmemory⟩ := cancelCmd_frame die (advance dt s)
  exact ⟨_, actHost_eq hs (refreshCmdWrite_cancel hop), heffect, hregs, hmemory⟩

end Sys2Proof.Machine

namespace Sys2Proof.Machine

open Sys2Proof.Map

/-! ## Map entries as they are read after they are written -/

section MapEntries

variable (d a : Nat) (s : State)

@[simp] theorem mapOf_setMap_same (e : MapEntry) : mapOf (setMap d a e s) d a = e := mget_mset_same ..

theorem mapOf_setMap_other {b : Nat} (e : MapEntry) (h : b ≠ a) : mapOf (setMap d a e s) d b = mapOf s d b := by
  have hkey : d * 4096 + b ≠ d * 4096 + a := by omega
  show (find? (mset _ _ _ _) _).getD _ = _
  rw [find?_mset_other _ _ _ hkey]
  rfl

/-- What a sparse map lists at a key it contains. -/
theorem mem_of_find? {α : Type} {m : SMap α} {k : Nat} {v : α} (h : find? m k = some v) : (k, v) ∈ m := by
  induction m with
  | nil => cases h
  | cons e m ih =>
    obtain ⟨j, w⟩ := e
    by_cases hj : j = k
    · simp only [find?, hj, if_true, Option.some.injEq] at h
      rw [hj, h]
      exact List.mem_cons_self
    · simp only [find?, hj, if_false] at h
      exact List.mem_cons_of_mem _ (ih h)

variable {d a s}

/-- Every VALID logical array of a die is among those that the model lists. -/
theorem mem_validLogicals (ha : a < 4096) (hvalid : (mapOf s d a).valid = true) : a ∈ validLogicals s d := by
  unfold mapOf mget at hvalid
  cases hfound : find? s.nvm.map (d * 4096 + a) with
  | none =>
    rw [hfound] at hvalid
    cases hvalid
  | some e =>
    rw [hfound] at hvalid
    have hdie : (d * 4096 + a) / 4096 = d := by omega
    have harray : (d * 4096 + a) % 4096 = a := by omega
    refine List.mem_map.mpr ⟨_, List.mem_filter.mpr ⟨mem_of_find? hfound, ?_⟩, harray⟩
    simpa [hdie] using hvalid

/-! ## INSTALL (R148, R149) -/

/-- A logical array's entry loses VALID (R149). -/
def invalidate (d : Nat) (s : State) (a : Nat) : State := setMap d a { mapOf s d a with valid := false } s

/-- Entries that lose VALID one after another: those of the list have lost it, the others are as before. -/
theorem valid_foldl_invalidate (l : List Nat) (s : State) :
    (mapOf (l.foldl (invalidate d) s) d a).valid = if a ∈ l then false else (mapOf s d a).valid := by
  induction l generalizing s with
  | nil => simp
  | cons b l ih =>
    rw [List.foldl_cons, ih]
    by_cases hab : a = b
    · simp [hab, invalidate]
    · simp [hab, invalidate, mapOf_setMap_other _ _ _ _ hab]

/-- A die's map with no VALID entry. -/
def mapCleared (d : Nat) (s : State) : State := (validLogicals s d).foldl (invalidate d) s

theorem mapCleared_invalid (ha : a < 4096) : (mapOf (mapCleared d s) d a).valid = false := by
  rw [mapCleared, valid_foldl_invalidate]
  split
  · rfl
  next hout => exact Bool.eq_false_iff.mpr fun hvalid => hout (mem_validLogicals ha hvalid)

theorem mapCleared_frame : (mapCleared d s).mem = s.mem ∧ (mapCleared d s).host = s.host := by
  have hkept := foldl_keeps (fun s => (s.mem, s.host)) (validLogicals s d) (g := invalidate d) (fun _ _ => rfl) s
  exact ⟨congrArg Prod.fst hkept, congrArg Prod.snd hkept⟩

/-! ### The command stays in progress as it goes on -/

theorem lunaDie_ownPasses (c cls full splits : Nat) (s : State) :
    lunaDie (inClass c (ownPasses d cls full splits) s) d = lunaDie s d := by
  rw [← lunaDie_quiet, quiet_inClass, quiet_ownPasses, lunaDie_quiet]
  rfl

/-- A channel that starts leaves the die's command alone. -/
@[simp] theorem cmd_startChannel (kind : ChanKind) (p a : Nat) (repair : Bool) (s : State) :
    (lunaDie (startChannel d kind p a repair s).2 d).cmd = (lunaDie s d).cmd := by
  unfold startChannel
  cases freeChannel s d with
  | none => rfl
  | some k =>
    dsimp only
    split
    · rfl
    · split <;> simp [lunaDie_ownPasses]

/-- The die's command with its number, where one is in progress. -/
def atWork (d : Nat) (s : State) : Bool × Nat := ((lunaDie s d).cmd.busy, (lunaDie s d).cmd.op)

theorem atWork_installOne (s : State) : atWork d (installOne d a s).2 = atWork d s := by
  simp only [installOne]
  split
  · simp [atWork]
  · split <;> simp [atWork]

theorem atWork_installMore (fuel : Nat) (s : State) : atWork d (installMore d fuel s) = atWork d s := by
  induction fuel generalizing s with
  | zero => rfl
  | succ fuel ih =>
    unfold installMore
    dsimp only
    split
    next b rest _ =>
      have hone := atWork_installOne (d := d) (a := b) s
      split
      · rw [ih, hone]
      · exact hone
    · split
      · rfl
      · split
        · rw [ih]
          simp [atWork]
        · simp [atWork]

/-- An INSTALL that goes on stays in progress. -/
theorem atWork_cmdGoOn_install {s : State} (hop : (lunaDie s d).cmd.op = 1) : atWork d (cmdGoOn d s) = atWork d s := by
  have hspare : noSpare s d = false := by simp [noSpare, hop]
  simp only [cmdGoOn, hspare, hop, if_true, Bool.false_eq_true, if_false]
  split
  · rfl
  · split
    · simp [atWork]
    · rw [atWork_installMore]
      simp [atWork]

/-- A command that begins and goes on leaves the memories alone. -/
theorem sameMemory_cmdGoOn_updCmd (f : RefreshCmd → RefreshCmd) (s : State) :
    SameMemory s (cmdGoOn d (updCmd d f s)) := by
  have hbegun : SameMemory s (updCmd d f s) := .of_eq rfl rfl
  exact hbegun.trans (sameMemory_of_cmdView (cmdView_cmdGoOn ..))

/-- The command of an INSTALL as it begins (R148). -/
def installBegun (d : Nat) (repair : Bool) (s : State) : RefreshCmd where
  busy := true
  op := 1
  repair := repair
  todo := (List.range 4096).filter (fun a => (shadowDir s d a).valid)
  erase := (List.range 4096).filter (fun a => !(shadowDir (mapCleared d s) d a).valid)

theorem installCmd_eq (repair : Bool) (s : State) :
    installCmd d repair s = cmdGoOn d (updCmd d (fun _ => installBegun d repair s) (mapCleared d s)) := rfl

theorem installCmd_effect (d : Nat) (repair : Bool) (s : State) :
    let t := installCmd d repair s
    (∀ a < 4096, (mapOf t d a).valid = false) ∧ (lunaDie t d).cmd.busy = true ∧ (lunaDie t d).cmd.op = 1 ∧
      SameMemory s t := by
  rw [installCmd_eq]
  set u := updCmd d (fun _ => installBegun d repair s) (mapCleared d s) with hu
  have hcmd : (lunaDie u d).cmd = installBegun d repair s := by rw [hu, lunaDie_updCmd]
  have hwork : atWork d (cmdGoOn d u) = (true, 1) := by
    rw [atWork_cmdGoOn_install (by rw [hcmd]; rfl), atWork, hcmd]
    rfl
  have hview := cmdView_cmdGoOn d u
  have hcleared : SameMemory s (mapCleared d s) := by
    obtain ⟨hmem, hhost⟩ := mapCleared_frame (d := d) (s := s)
    exact .of_eq hmem (congrArg Hostif.bar2 hhost)
  refine ⟨fun a ha => ?_, congrArg Prod.fst hwork, congrArg Prod.snd hwork,
    hcleared.trans (sameMemory_cmdGoOn_updCmd ..)⟩
  rw [mapOf_of_cmdView hview]
  exact mapCleared_invalid ha

end MapEntries

/-- INSTALL, with issue stopped and a verified shadow (R148, R149). -/
theorem exec_install (dt : Nat) (die : Luna) (repair : Bool) {s : State} (hs : HostMay (pgLuna die 3) s)
    (hbusy : (lunaDie s die).cmd.busy = false) (hstopped : s.seq.state = .stopped)
    (hshadow : s.secure.shadowOk = true) :
    ∃ t, exec (.install dt die repair) s = .next t ∧ (∀ a < 4096, (mapOf t die a).valid = false) ∧
      (lunaDie t die).cmd.busy = true ∧ (lunaDie t die).cmd.op = 1 ∧ SameMemory s t := by
  have hop : fld (word (2 ^ 28 + one repair * 2 ^ 26)) 31 28 = 1 := by cases repair <;> decide
  have hcmd := refreshCmdWrite_install (s := advance dt s) (d := die) hbusy hop hstopped hshadow
  obtain ⟨hvalid, hwork, hinstall, hmemory⟩ :=
    installCmd_effect die (flag (word (2 ^ 28 + one repair * 2 ^ 26)) 26) (advance dt s)
  generalize installCmd die (flag (word (2 ^ 28 + one repair * 2 ^ 26)) 26) (advance dt s) = u at *
  exact ⟨_, actHost_eq hs hcmd, hvalid, hwork, hinstall, hmemory⟩

end Sys2Proof.Machine

namespace Sys2Proof.Machine

open Sys2Proof.Map

/-! ## REPLACE (R159) -/

section Replace

variable {d k p a : Nat} {retireOld repair : Bool} {s : State}

/-- The channel of a REPLACE as it starts (R138, R141, R142). -/
def replaceChannel (d p a : Nat) (repair : Bool) (s : State) : Channel where
  kind := .replace
  phys := p
  logical := a
  repair := repair
  since := s.clk.now
  order := (lunaDie s d).chanCount + 1
  gatedAt := if startOpen s 6 then none else some s.clk.now
  stage := (lunaDie s d).stages.headD 0

/-- A die on which a channel has started with a staging block of the pool. -/
def withChannel (k : Nat) (c : Channel) (x : LunaDie) : LunaDie :=
  { x with channels := mput x.channels k c, chanCount := x.chanCount + 1, stages := x.stages.drop 1 }

/-- With a channel and a staging block free, the program of a replacement starts. -/
theorem startChannel_replace (hk : freeChannel s d = some k) (hstages : (lunaDie s d).stages ≠ []) :
    startChannel d .replace p a repair s =
      (true, updLunaDie d (withChannel k (replaceChannel d p a repair s)) s) := by
  have hpool : (lunaDie s d).stages.isEmpty = false := by simpa using hstages
  simp [startChannel, hk, hpool, updLunaDie, withChannel, replaceChannel]

/-- A REPLACE of a well-formed record by a named spare, with a channel and a staging block free, starts. -/
theorem replaceStart_named (hphys : (lunaDie s d).cmd.phys ≠ 0x1FFF)
    (hformed : shadowFormed s d (lunaDie s d).cmd.logical = true) (hk : freeChannel s d = some k)
    (hstages : (lunaDie s d).stages ≠ []) :
    let c := (lunaDie s d).cmd
    replaceStart d s = updCmd d (fun c => { c with waiting := false })
      (updPhys d c.phys (fun x => { x with state := 2 })
        (updLunaDie d (withChannel k (replaceChannel d c.phys c.logical c.repair s)) s)) := by
  simp only [replaceStart, hphys, hformed, startChannel_replace hk hstages, if_false, if_true, Bool.not_true,
    Bool.false_eq_true]

/-- In the window a waiting REPLACE by a named spare takes what it needs (R145, R159). -/
theorem cmdGoOn_replace (hbusy : (lunaDie s d).cmd.busy = true) (hop : (lunaDie s d).cmd.op = 2)
    (hwaits : (lunaDie s d).cmd.waiting = true) (hcancel : (lunaDie s d).cmd.cancelAt = none)
    (hphys : (lunaDie s d).cmd.phys ≠ 0x1FFF) (hwindow : progWindow s d = true) :
    cmdGoOn d s = replaceStart d (updCmd d (fun c => { c with deferred := false }) s) := by
  have hspare : noSpare s d = false := by simp [noSpare, hphys]
  simp [cmdGoOn, hbusy, hop, hwaits, hcancel, hspare, hwindow]

/-! ### What a command's own state has no part in -/

theorem progWindow_updCmd (f : RefreshCmd → RefreshCmd) : progWindow (updCmd d f s) d = progWindow s d := by
  have hcalibrating : calibrating (updCmd d f s) d = calibrating s d := by
    rw [calibrating, lunaDie_updCmd, calibrating]
  simp only [progWindow, hcalibrating]
  rfl

theorem shadowFormed_updCmd (f : RefreshCmd → RefreshCmd) : shadowFormed (updCmd d f s) d a = shadowFormed s d a := rfl

theorem freeChannel_updCmd (f : RefreshCmd → RefreshCmd) : freeChannel (updCmd d f s) d = freeChannel s d := by
  simp only [freeChannel, lunaDie_updCmd]

/-- The command of a REPLACE as it begins (R159). -/
def replaceBegun (a p : Nat) (retireOld repair : Bool) : RefreshCmd :=
  { busy := true, op := 2, logical := a, phys := p, repair := repair, retireOld := retireOld, waiting := true }

/-- A REPLACE by a free spare of an array that no swap waits for and no rotation programs. -/
theorem replaceCmd_named (v : Word) (hp : p < physCount) (hfree : (physOf s d p).state = 0)
    (hpending : ∀ w ∈ (lunaDie s d).pending, w.logical ≠ a)
    (hrotations : ∀ e ∈ (lunaDie s d).channels, e.2.kind = .rotate → e.2.logical ≠ a) :
    replaceCmd d a p retireOld repair v s = cmdGoOn d (updCmd d (fun _ => replaceBegun a p retireOld repair) s) := by
  have hvalid : ¬ (p ≠ 0x1FFF ∧ (physCount ≤ p ∨ (physOf s d p).state ≠ 0)) := by simp [hp, hfree]
  have hswap : (lunaDie s d).pending.any (·.logical == a) = false := by
    simpa [List.any_eq_false] using hpending
  have hrotation : (lunaDie s d).channels.filter (fun e => e.2.kind == .rotate && e.2.logical == a) = [] := by
    simpa [List.filter_eq_nil_iff] using hrotations
  simp only [replaceCmd, hvalid, hswap, hrotation, if_false, Bool.false_eq_true, List.foldl_nil]
  rfl

/-- The state in which a REPLACE takes its spare and channel: its command is in progress and no longer deferred. -/
def replaceReady (d a p : Nat) (retireOld repair : Bool) (s : State) : State :=
  updCmd d (fun c => { c with deferred := false }) (updCmd d (fun _ => replaceBegun a p retireOld repair) s)

theorem lunaDie_replaceReady : lunaDie (replaceReady d a p retireOld repair s) d =
    { lunaDie s d with cmd := replaceBegun a p retireOld repair } := by
  rw [replaceReady, lunaDie_updCmd, lunaDie_updCmd]
  rfl

section Accepted

variable (v : Word) (hp : p < physCount) (hfree : (physOf s d p).state = 0)
  (hpending : ∀ w ∈ (lunaDie s d).pending, w.logical ≠ a)
  (hrotations : ∀ e ∈ (lunaDie s d).channels, e.2.kind = .rotate → e.2.logical ≠ a)
  (hwindow : progWindow s d = true) (hformed : shadowFormed s d a = true) (hk : freeChannel s d = some k)
  (hstages : (lunaDie s d).stages ≠ [])
include hp hfree hpending hrotations hwindow hformed hk hstages

/-- A REPLACE by a free spare, where everything that it needs is there, starts (R145, R159). -/
theorem replaceCmd_starts : replaceCmd d a p retireOld repair v s =
    let u := replaceReady d a p retireOld repair s
    updCmd d (fun c => { c with waiting := false }) (updPhys d p (fun x => { x with state := 2 })
      (updLunaDie d (withChannel k (replaceChannel d p a repair u)) u)) := by
  have hnamed : p ≠ 0x1FFF := by
    have : physCount < 0x1FFF := by decide
    omega
  have hcmd (s : State) : (lunaDie (updCmd d (fun _ => replaceBegun a p retireOld repair) s) d).cmd =
      replaceBegun a p retireOld repair := by rw [lunaDie_updCmd]
  have hgoes := cmdGoOn_replace (d := d) (s := updCmd d (fun _ => replaceBegun a p retireOld repair) s)
    (by rw [hcmd]; rfl) (by rw [hcmd]; rfl) (by rw [hcmd]; rfl) (by rw [hcmd]; rfl) (by rw [hcmd]; exact hnamed)
    (by rw [progWindow_updCmd, hwindow])
  have hready := lunaDie_replaceReady (d := d) (a := a) (p := p) (retireOld := retireOld) (repair := repair) (s := s)
  have hready' : (lunaDie (replaceReady d a p retireOld repair s) d).cmd = replaceBegun a p retireOld repair := by
    rw [hready]
  have hstart := replaceStart_named (d := d) (k := k) (s := replaceReady d a p retireOld repair s)
    (by rw [hready']; exact hnamed)
    (by rw [hready', replaceReady, shadowFormed_updCmd, shadowFormed_updCmd]; exact hformed)
    (by rw [replaceReady, freeChannel_updCmd, freeChannel_updCmd, hk]) (by rwa [hready])
  rw [hready'] at hstart
  exact (replaceCmd_named v hp hfree hpending hrotations).trans (hgoes.trans hstart)

/-- What such a REPLACE leaves: its channel, the spare in PROGRAMMING and the command in progress. -/
theorem replaceCmd_effect :
    let t := replaceCmd d a p retireOld repair v s
    ∃ c : Channel, find? (lunaDie t d).channels k = some c ∧ c.kind = .replace ∧ c.phys = p ∧ c.logical = a ∧
      c.repair = repair ∧ c.since = s.clk.now ∧ (physOf t d p).state = 2 ∧ (lunaDie t d).cmd.busy = true ∧
      (lunaDie t d).cmd.retireOld = retireOld ∧ SameMemory s t := by
  have ht := replaceCmd_starts (retireOld := retireOld) (repair := repair) v hp hfree hpending hrotations hwindow
    hformed hk hstages
  have hmemory : SameMemory s (replaceCmd d a p retireOld repair v s) := by
    rw [replaceCmd_named v hp hfree hpending hrotations]
    exact sameMemory_cmdGoOn_updCmd ..
  generalize replaceCmd d a p retireOld repair v s = t at *
  set u := replaceReady d a p retireOld repair s
  set c := replaceChannel d p a repair u
  have hdie : lunaDie t d = { withChannel k c (lunaDie s d) with
      cmd := { replaceBegun a p retireOld repair with waiting := false } } := by
    rw [ht, lunaDie_updCmd, lunaDie_updPhys, lunaDie_updLunaDie, lunaDie_replaceReady]
    rfl
  have hspare : (physOf t d p).state = 2 := by
    rw [ht, physOf_updCmd, physOf_updPhys_same]
  simp only [hdie]
  exact ⟨c, find?_mput_same .., rfl, rfl, rfl, rfl, rfl, hspare, rfl, rfl, hmemory⟩

end Accepted

end Replace

/-- REPLACE by a free spare, in the window and with a channel and a staging block free (R145, R159). -/
theorem exec_replace (dt : Nat) (die : Luna) (logical : BitVec 12) (phys : BitVec 13) (retireOld repair : Bool)
    {s : State} {k : Nat} (hs : HostMay (pgLuna die 3) s) (hbusy : (lunaDie s die).cmd.busy = false)
    (hphys : phys.toNat < physCount) (hfree : (physOf s die phys.toNat).state = 0)
    (hpending : ∀ w ∈ (lunaDie s die).pending, w.logical ≠ logical.toNat)
    (hrotations : ∀ e ∈ (lunaDie s die).channels, e.2.kind = .rotate → e.2.logical ≠ logical.toNat)
    (hwindow : progWindow s die = true) (hformed : shadowFormed s die logical.toNat = true)
    (hk : freeChannel s die = some k) (hstages : (lunaDie s die).stages ≠ []) :
    ∃ (t : State) (c : Channel), exec (.replace dt die logical phys retireOld repair) s = .next t ∧
      find? (lunaDie t die).channels k = some c ∧ c.kind = .replace ∧ c.phys = phys.toNat ∧
      c.logical = logical.toNat ∧ c.repair = repair ∧ c.since = s.clk.now + dt ∧
      (physOf t die phys.toNat).state = 2 ∧ (lunaDie t die).cmd.busy = true ∧
      (lunaDie t die).cmd.retireOld = retireOld ∧ SameMemory s t := by
  obtain ⟨hop, hspare, harray, hretire, hrepair⟩ :=
    commandNumber_fields (op := 2) (by decide) retireOld repair phys logical
  have hcmd := refreshCmdWrite_replace (s := advance dt s) (d := die) hbusy hop
  rw [hspare, harray, hretire, hrepair] at hcmd
  obtain ⟨c, heffect⟩ := replaceCmd_effect (s := advance dt s) (retireOld := retireOld) (repair := repair)
    (word (commandNumber 2 retireOld repair phys logical)) hphys hfree hpending hrotations hwindow hformed hk hstages
  generalize replaceCmd die logical.toNat phys.toNat retireOld repair
    (word (commandNumber 2 retireOld repair phys logical)) (advance dt s) = u at *
  exact ⟨_, c, actHost_eq hs hcmd, heffect⟩

end Sys2Proof.Machine

namespace Sys2Proof.Machine

open Sys2Proof.Map

/-! ## Pending swaps that are performed (R154, R155) -/

/-- Of what swaps touch: the swaps still pending, the maps, and the HBM. -/
structure SwapView where
  pending : List Swap
  map : SMap MapEntry
  hbm : SMap Byte

def swapView (d : Nat) (s : State) : SwapView := ⟨(lunaDie s d).pending, s.nvm.map, s.mem.hbm⟩

section SwapView

variable (d a p : Nat) (s : State)

theorem swapView_of_quiet {s t : State} (h : quiet t = quiet s) : swapView d t = swapView d s :=
  (congrArg (swapView d) h :)

@[simp] theorem swapView_raise (page code detail : Nat) : swapView d (raise page code detail s) = swapView d s :=
  swapView_of_quiet d (quiet_raise ..)

@[simp] theorem swapView_bump (r n : Nat) : swapView d (bump r n s) = swapView d s :=
  swapView_of_quiet d (quiet_bump ..)

@[simp] theorem swapView_countSwap (mine : Bool) : swapView d (countSwap d mine s) = swapView d s := rfl
@[simp] theorem swapView_ageReset : swapView d (ageReset d a s) = swapView d s := rfl
@[simp] theorem swapView_updPhys (f : Phys → Phys) : swapView d (updPhys d p f s) = swapView d s := rfl
@[simp] theorem swapView_unseedTracker : swapView d (unseedTracker d p s) = swapView d s := rfl

theorem swapView_updLunaDie (f : LunaDie → LunaDie) :
    swapView d (updLunaDie d f s) = { swapView d s with pending := (f (lunaDie s d)).pending } := by
  rw [swapView, lunaDie_updLunaDie]
  rfl

@[simp] theorem swapView_updCmd (f : RefreshCmd → RefreshCmd) : swapView d (updCmd d f s) = swapView d s :=
  swapView_updLunaDie ..

@[simp] theorem swapView_endCmd (result : Nat) : swapView d (endCmd d result s) = swapView d s := swapView_updCmd ..

@[simp] theorem swapView_clearLapsed (cause : Nat) : swapView d (clearLapsed d a cause s) = swapView d s :=
  swapView_updLunaDie ..

theorem swapView_setMap (e : MapEntry) : swapView d (setMap d a e s) =
    { swapView d s with map := mset (mapDefault a) s.nvm.map (d * 4096 + a) e } := rfl

theorem swapView_spadPut (w : Nat) (x : SWord) : swapView d (spadPut a w x s) = swapView d s := by
  unfold spadPut
  split <;> rfl

@[simp] theorem swapView_exchangeCoef (new : Nat) : swapView d (exchangeCoef d a new s).2 = swapView d s := by
  unfold exchangeCoef
  dsimp only
  split
  · rfl
  · exact swapView_spadPut ..

/-- The map entry that a swap leaves (R154). -/
def swapEntry (w : Swap) : MapEntry := { valid := true, level := w.level, phys := w.spare }

/-- A die's map with a logical array served by the spare of its swap, its generation even in between (R155). -/
def swapMapped (d : Nat) (w : Swap) (s : State) : State :=
  setMap d w.logical (swapEntry w) (updLunaDie d (fun x => { x with mapGen := x.mapGen + 1 }) s)

/-- The arrays after the exchange of coefficient blocks: the spare is in use, the old array awaits its audit (R154). -/
def swapArrays (d : Nat) (w : Swap) (old : Nat) (s : State) : State :=
  let s := (exchangeCoef d w.logical w.stage s).2
  let s := updPhys d w.spare (fun x => { x with state := 1, logical := w.logical }) s
  unseedTracker d old (updPhys d old (fun x => { x with state := 3, logical := 0xFFFF }) s)

/-- A swap that has left the pending ones, its old array due for audit and the block that it gave back in the pool. -/
def swapTaken (w : Swap) (blk old : Nat) (x : LunaDie) : LunaDie :=
  { x with pending := x.pending.filter (· != w), stages := x.stages ++ [blk], auditDue := x.auditDue ++ [old] }

/-- The record area and the causes that a swap clears (R74, R160, R168). -/
def swapRecorded (d : Nat) (w : Swap) (old : Nat) (retire : Bool) (s : State) : State :=
  clearLapsed d w.logical 1 (clearLapsed d w.logical 3 (ageReset d w.logical { s with nvm := { s.nvm with
    swaps := s.nvm.swaps.filter (· != (d, w.logical, w.spare))
    retireOld := if retire then s.nvm.retireOld ++ [physKey d old] else s.nvm.retireOld } }))

/-- A swap with its record and event, before the counters (R154, R155). -/
def swapMade (d : Nat) (w : Swap) (mine retire : Bool) (s : State) : State :=
  let old := (mapOf s d w.logical).phys
  let s := swapMapped d w s
  let blk := (exchangeCoef d w.logical w.stage s).1
  let s := updLunaDie d (fun x => { x with mapGen := x.mapGen + 1 }) (swapArrays d w old s)
  let s := swapRecorded d w old retire (updLunaDie d (swapTaken w blk old) s)
  raise (refPage d) Evt.ROTATION_SWAP (d + w.logical * 2 ^ 8 + old * 2 ^ 20 + w.spare * 2 ^ 33) (countSwap d mine s)

/-- A REPLACE of this swap that CANCEL ended in this SCLK cycle (R170). -/
def swapWon (d : Nat) (w : Swap) (s : State) : Option (Nat × Nat × Bool) :=
  (lunaDie s d).cmd.cancelled.filter (fun x => x.1 == sclk s && x.2.1 == w.logical)

/-- The swap completes a REPLACE, which it then counts for. -/
def swapMine (d : Nat) (w : Swap) (s : State) : Bool :=
  let c := (lunaDie s d).cmd
  (c.busy && c.op == 2 && c.logical == w.logical) || (swapWon d w s).isSome

/-- The old array is to be retired after its audit (R160). -/
def swapRetires (d : Nat) (w : Swap) (s : State) : Bool :=
  swapMine d w s && (match swapWon d w s with | none => (lunaDie s d).cmd.retireOld | some x => x.2.2)

theorem performSwap_eq (w : Swap) : performSwap d w s =
    let t := swapMade d w (swapMine d w s) (swapRetires d w s) s
    if swapMine d w s then bump (refReg d 0x12C) 1 (endCmd d 0 (updCmd d (fun c => { c with done := c.done + 1 }) t))
    else bump (refReg d 0x128) 1 t := rfl

/-- What a swap leaves of it: the swap is pending no more, and its logical array is served by its spare. -/
def swapLeaves (d : Nat) (w : Swap) (s : State) : SwapView where
  pending := (lunaDie s d).pending.filter (· != w)
  map := mset (mapDefault w.logical) s.nvm.map (d * 4096 + w.logical) (swapEntry w)
  hbm := s.mem.hbm

/-- MAP_GENERATION advances at each end of a swap (R155). -/
theorem swapView_countGeneration :
    swapView d (updLunaDie d (fun x => { x with mapGen := x.mapGen + 1 }) s) = swapView d s := swapView_updLunaDie ..

theorem swapView_swapMapped (w : Swap) :
    swapView d (swapMapped d w s) = { swapView d s with map := (swapLeaves d w s).map } := by
  rw [swapMapped, swapView_setMap, swapView_countGeneration]
  rfl

theorem swapView_swapArrays (w : Swap) (old : Nat) : swapView d (swapArrays d w old s) = swapView d s := by
  rw [swapArrays, swapView_unseedTracker, swapView_updPhys, swapView_updPhys, swapView_exchangeCoef]

theorem swapView_swapRecorded (w : Swap) (old : Nat) (retire : Bool) :
    swapView d (swapRecorded d w old retire s) = swapView d s := by
  rw [swapRecorded, swapView_clearLapsed, swapView_clearLapsed, swapView_ageReset]
  rfl

theorem swapView_swapTaken (w : Swap) (blk old : Nat) : swapView d (updLunaDie d (swapTaken w blk old) s) =
    { swapView d s with pending := (swapView d s).pending.filter (· != w) } := swapView_updLunaDie ..

theorem swapView_swapMade (w : Swap) (mine retire : Bool) :
    swapView d (swapMade d w mine retire s) = swapLeaves d w s := by
  rw [swapMade, swapView_raise, swapView_countSwap, swapView_swapRecorded, swapView_swapTaken, swapView_countGeneration,
    swapView_swapArrays, swapView_swapMapped]
  rfl

theorem swapView_performSwap (w : Swap) : swapView d (performSwap d w s) = swapLeaves d w s := by
  rw [performSwap_eq]
  dsimp only
  split
  · rw [swapView_bump, swapView_endCmd, swapView_updCmd, swapView_swapMade]
  · rw [swapView_bump, swapView_swapMade]

end SwapView

end Sys2Proof.Machine

namespace Sys2Proof.Machine

open Sys2Proof.Map

/-! ## APPLY (R154, R156) -/

section Apply

variable {d : Nat} {s t : State}

theorem mapOf_performSwap_same (w : Swap) (s : State) : mapOf (performSwap d w s) d w.logical = swapEntry w :=
  (congrArg (fun v => mget (mapDefault w.logical) (SwapView.map v) (d * 4096 + w.logical))
    (swapView_performSwap d s w)).trans
    (mapOf_setMap_same d w.logical s (swapEntry w))

theorem mapOf_performSwap_other (w : Swap) {a : Nat} (h : a ≠ w.logical) (s : State) :
    mapOf (performSwap d w s) d a = mapOf s d a :=
  (congrArg (fun v => mget (mapDefault a) (SwapView.map v) (d * 4096 + a)) (swapView_performSwap d s w)).trans
    (mapOf_setMap_other d w.logical s (swapEntry w) h)

theorem pending_performSwap (w : Swap) (s : State) :
    (lunaDie (performSwap d w s) d).pending = (lunaDie s d).pending.filter (· != w) :=
  congrArg SwapView.pending (swapView_performSwap d s w)

theorem hbm_performSwap (w : Swap) (s : State) : (performSwap d w s).mem.hbm = s.mem.hbm :=
  congrArg SwapView.hbm (swapView_performSwap d s w)

/-- The lower of the swap chosen so far and another. -/
def lowerSwap (b : Option Swap) (w : Swap) : Option Swap :=
  match b with
  | none => some w
  | some v => if w.logical < v.logical then some w else some v

theorem nextSwap_eq (s : State) (d : Nat) : nextSwap s d = (lunaDie s d).pending.foldl lowerSwap none := rfl

/-- Choosing among swaps chooses one of them, or what was chosen before. -/
theorem foldl_lowerSwap (l : List Swap) (v : Swap) : ∃ w, l.foldl lowerSwap (some v) = some w ∧ (w = v ∨ w ∈ l) := by
  induction l generalizing v with
  | nil => exact ⟨v, rfl, .inl rfl⟩
  | cons u l ih =>
    have hstep : lowerSwap (some v) u = some u ∨ lowerSwap (some v) u = some v := ite_eq_or_eq ..
    rcases hstep with h | h
    · obtain ⟨w, hw, hin⟩ := ih u
      exact ⟨w, by rw [List.foldl_cons, h, hw], .inr (List.mem_cons.mpr hin)⟩
    · obtain ⟨w, hw, hin⟩ := ih v
      exact ⟨w, by rw [List.foldl_cons, h, hw], hin.imp_right (List.mem_cons_of_mem _)⟩

/-- Where swaps are pending, the next is one of them. -/
theorem nextSwap_mem (h : (lunaDie s d).pending ≠ []) : ∃ w ∈ (lunaDie s d).pending, nextSwap s d = some w := by
  rw [nextSwap_eq]
  cases hl : (lunaDie s d).pending with
  | nil => exact absurd hl h
  | cons v l =>
    obtain ⟨w, hw, hin⟩ := foldl_lowerSwap l v
    exact ⟨w, List.mem_cons.mpr hin, hw⟩

theorem swapMany_none (n : Nat) (h : (lunaDie s d).pending = []) : swapMany d n s = s := by
  have hnext : nextSwap s d = none := by rw [nextSwap_eq, h, List.foldl_nil]
  cases n with
  | zero => rfl
  | succ n => rw [swapMany, hnext]

/-- What performing all pending swaps leaves: none pending, each array of theirs served by its spare, every other one as
before, and the HBM as it was. -/
structure SwapsDone (d : Nat) (s t : State) : Prop where
  pending : (lunaDie t d).pending = []
  served : ∀ w ∈ (lunaDie s d).pending, mapOf t d w.logical = swapEntry w
  other : ∀ a, (∀ w ∈ (lunaDie s d).pending, w.logical ≠ a) → mapOf t d a = mapOf s d a
  hbm : t.mem.hbm = s.mem.hbm

theorem SwapsDone.none (h : (lunaDie s d).pending = []) : SwapsDone d s s := ⟨h, by simp [h], fun _ _ => rfl, rfl⟩

/-- Performing one swap and then the rest performs them all, where no two are of one array. -/
theorem SwapsDone.cons {w : Swap} (hw : w ∈ (lunaDie s d).pending)
    (hnodup : ((lunaDie s d).pending.map (·.logical)).Nodup) (h : SwapsDone d (performSwap d w s) t) :
    SwapsDone d s t := by
  obtain ⟨hpending, hserved, hother, hhbm⟩ := h
  have hrest : ∀ v, v ∈ (lunaDie (performSwap d w s) d).pending ↔ v ∈ (lunaDie s d).pending ∧ v ≠ w := by
    simp [pending_performSwap]
  have halone : ∀ v ∈ (lunaDie s d).pending, v ≠ w → v.logical ≠ w.logical :=
    fun v hv hne heq => hne (List.inj_on_of_nodup_map hnodup hv hw heq)
  refine ⟨hpending, fun v hv => ?_, fun a ha => ?_, hhbm.trans (hbm_performSwap w s)⟩
  · by_cases hvw : v = w
    · rw [hvw, hother w.logical fun u hu => halone u ((hrest u).mp hu).1 ((hrest u).mp hu).2, mapOf_performSwap_same]
    · exact hserved v ((hrest v).mpr ⟨hv, hvw⟩)
  · rw [hother a fun u hu => ha u ((hrest u).mp hu).1, mapOf_performSwap_other w (ha w hw).symm]

/-- Pending swaps of different arrays, no more than are performed at once, are all performed (R154, R156). -/
theorem swapMany_done (n : Nat) (s : State) (hlen : (lunaDie s d).pending.length ≤ n)
    (hnodup : ((lunaDie s d).pending.map (·.logical)).Nodup) : SwapsDone d s (swapMany d n s) := by
  induction n generalizing s with
  | zero =>
    have hnone : (lunaDie s d).pending = [] := List.length_eq_zero_iff.mp (Nat.le_zero.mp hlen)
    exact .none hnone
  | succ n ih =>
    by_cases hnone : (lunaDie s d).pending = []
    · rw [swapMany_none _ hnone]
      exact .none hnone
    · obtain ⟨w, hw, hnext⟩ := nextSwap_mem hnone
      have hstep : swapMany d (n + 1) s = swapMany d n (performSwap d w s) := by rw [swapMany, hnext]
      have hfewer : ((lunaDie s d).pending.filter (· != w)).length < (lunaDie s d).pending.length :=
        List.length_filter_lt_length_iff_exists.mpr ⟨w, hw, by simp⟩
      rw [hstep]
      refine .cons hw hnodup (ih _ ?_ ?_)
      · rw [pending_performSwap]
        omega
      · rw [pending_performSwap]
        exact hnodup.sublist (List.filter_sublist.map _)

end Apply

/-- APPLY, with issue stopped and at most one swap an array pending (R154, R156). -/
theorem exec_apply (dt : Nat) (die : Luna) {s : State} (hs : HostMay (pgLuna die 3) s)
    (hbusy : (lunaDie s die).cmd.busy = false) (hstopped : s.seq.state = .stopped)
    (hlen : (lunaDie s die).pending.length ≤ 16) (hnodup : ((lunaDie s die).pending.map (·.logical)).Nodup) :
    ∃ t, exec (.apply dt die) s = .next t ∧ (lunaDie t die).pending = [] ∧
      (∀ w ∈ (lunaDie s die).pending, mapOf t die w.logical = { valid := true, level := w.level, phys := w.spare }) ∧
      t.mem.hbm = s.mem.hbm := by
  have hop : fld (word (3 * 2 ^ 28)) 31 28 = 3 := by decide
  have hcmd := refreshCmdWrite_apply (s := advance dt s) (d := die) hbusy hop hstopped
  have hkept : (lunaDie (updCmd die (fun _ => {}) (advance dt s)) die).pending = (lunaDie s die).pending := by
    rw [lunaDie_updCmd]
    rfl
  obtain ⟨hpending, hserved, -, hhbm⟩ := swapMany_done 16 (updCmd die (fun _ => {}) (advance dt s)) (by rwa [hkept])
    (by rwa [hkept])
  rw [hkept] at hserved
  generalize swapMany die 16 (updCmd die (fun _ => {}) (advance dt s)) = u at *
  exact ⟨_, actHost_eq hs hcmd, hpending, hserved, hhbm⟩

/-- Settles O20: each command as its own lemma says. What a host command that goes on leaves alone carries the maps, and
an induction over the pending swaps, the lowest array first, carries APPLY. -/
theorem refreshCommands : Obligations.RefreshCommands := by
  unfold Obligations.RefreshCommands
  refine ⟨?install, ?replace, ?apply, ?cancel, ?retire, ?offHours⟩
  case install =>
    exact fun dt die repair s hs hbusy hstopped hshadow => exec_install dt die repair hs hbusy hstopped hshadow
  case replace =>
    intro dt die logical phys retireOld repair s k hs hbusy hphys hfree hpending hrotations hwindow hformed hk hstages
    exact exec_replace dt die logical phys retireOld repair hs hbusy hphys hfree hpending hrotations hwindow hformed hk
      hstages
  case apply => exact fun dt die s hs hbusy hstopped hlen hnodup => exec_apply dt die hs hbusy hstopped hlen hnodup
  case cancel => exact fun dt die s hs hbusy => exec_refreshCancel dt die hs hbusy
  case retire => exact fun dt die phys s hs hbusy hphys hfree => exec_retire dt die phys hs hbusy hphys hfree
  case offHours =>
    exact fun dt die hours s hs hcommitted hfirst => exec_refreshOffHours dt die hours hs hcommitted hfirst

end Sys2Proof.Machine

/-! PROOFS of the family 05_narrow_formats. What the tensor operations schedule when they issue (R208 to R235), and what
the widening and adapter commands do (R198, R204, R360, R380). -/

namespace Sys2Proof.Machine

open Sys2Proof.Map

/-! ## What a tensor operation leaves alone when it issues -/

/-- What a die's operations leave alone while they read and count, with the issued bundle. -/
structure IssueView where
  read : ReadView
  issued : Option Issued

def issueView (d : Nat) (s : State) : IssueView := ⟨readView d s, s.seq.issued⟩

section View

variable (d : Nat) (s : State)

theorem issueView_of_quiet {s t : State} (h : quiet t = quiet s) : issueView d t = issueView d s :=
  (congrArg (issueView d) h :)

/-- The accumulators, read off the view. -/
theorem accs_of_issueView {d : Nat} {s t : State} (h : issueView d t = issueView d s) : t.tensor.accs = s.tensor.accs :=
  congrArg (fun v => v.read.accs) h

@[simp] theorem quiet_spadEcc (corr : Nat) (bad : List Nat) : quiet (spadEcc d corr bad s) = quiet s := by
  unfold spadEcc
  refine (quiet_foldl _ (fun s w => by simp) bad).trans ?_
  split <;> simp

@[simp] theorem quiet_fmtCount (code counter n first : Nat) : quiet (fmtCount d code counter n first s) = quiet s := by
  unfold fmtCount collectFirst
  dsimp only
  split_ifs <;> rfl

@[simp] theorem quiet_descInvalid (fmt : Nat) : quiet (descInvalid d fmt s) = quiet s := quiet_raise ..

@[simp] theorem quiet_reportBreaks (bs : List (Nat × Nat)) (write : Bool) :
    quiet (reportBreaks d bs write s) = quiet s := by
  refine quiet_foldl _ (fun s b => ?_) bs
  unfold ringError
  split_ifs <;> simp

theorem issueView_schedReads (c : Nat) (ws : List Nat) : issueView d (schedReads c d ws s).2 = issueView d s := by
  induction ws generalizing s with
  | nil => rfl
  | cons w ws ih =>
    have hnoted : issueView d (noteAccess c d w s) = issueView d s := rfl
    have hread : issueView d (schedRead c d w s).2 = issueView d s :=
      (issueView_of_quiet d (quiet_reportBreaks ..)).trans hnoted
    exact (ih _).trans hread

theorem issueView_operand (c a n : Nat) (bad : List Nat) : issueView d (operand d c a n bad s).2 = issueView d s :=
  issueView_schedReads d s c _

theorem issueView_flagWord (w : Nat) (bad : List Nat) : issueView d (flagWord d w bad s).2 = issueView d s :=
  issueView_of_quiet d (quiet_reportBreaks ..)

theorem issueView_countMacs (n : Nat) : issueView d (countMacs d n s) = issueView d s :=
  (issueView_of_quiet d (quiet_bump64 ..)).trans rfl

end View

/-! ## MATMUL, PRELOAD, ADD, EXT_CHUNK and RESTORE (R208, R214, R222, R229, R235) -/

/-- From `s` on an operation has scheduled its effect, with the operands it has read, and left the rest alone. -/
def SchedulesTensor (op latency : Nat) (c : SubCtx) (t : TDesc) (s u : State) : Prop :=
  ∃ (o : AccObs) (a b : List (Nat × SWord)) (fl : Nat) (v : State),
    u = later (c.cycle + latency) (.tensor { tensorRec op c t o with a := a, b := b, fl := fl }) v ∧
      issueView c.die v = issueView c.die s

section Operands

variable (o : AccObs) (c : SubCtx) (t : TDesc) (s : State)

/-- An operand is read where the operation's formats are valid (R178). -/
def operandIf (ok : Bool) (o : AccObs) (c : SubCtx) (a n : Nat) (s : State) : List (Nat × SWord) × State :=
  if ok then operand c.die c.cycle a n o.spadUncorr s else ([], s)

theorem issueView_operandIf (ok : Bool) (a n : Nat) :
    issueView c.die (operandIf ok o c a n s).2 = issueView c.die s := by
  cases ok with
  | false => rfl
  | true => exact issueView_operand ..

theorem loadIssue_schedules (op : Nat) : SchedulesTensor op 11 c t s (loadIssue op o c t s) := by
  let ok := fmtValid t.fmtA (takesA op)
  let checked := spadEcc c.die o.spadCorr o.spadUncorr s
  let reported := if ok then checked else descInvalid c.die t.fmtA checked
  let x := operandIf ok o c (tA t c) (wordsFor (fmtOf t.fmtA) (32 * t.blocks)) reported
  let y := flagWord c.die t.aFlags o.spadUncorr x.2
  have hreported : quiet reported = quiet s := by
    simp only [reported, checked]
    split <;> simp
  refine ⟨o, x.1, [], y.1, y.2, rfl, ?_⟩
  calc issueView c.die y.2
    _ = issueView c.die x.2 := issueView_flagWord ..
    _ = issueView c.die reported := issueView_operandIf ..
    _ = issueView c.die s := issueView_of_quiet _ hreported

theorem matmulIssue_schedules : SchedulesTensor 1 17 c t s (matmulIssue o c t s) := by
  let okA := fmtValid t.fmtA (takesA 1)
  let okB := fmtValid t.fmtB (takesA 1)
  let n := 32 * t.blocks
  let checked := spadEcc c.die o.spadCorr o.spadUncorr s
  let reportedA := if okA then checked else descInvalid c.die t.fmtA checked
  let reported := if okA && !okB then descInvalid c.die t.fmtB reportedA else reportedA
  let xa := operandIf okA o c (tA t c) (wordsFor (fmtOf t.fmtA) n) reported
  let xb := operandIf okB o c (tB t c) (wordsFor (fmtOf t.fmtB) n) xa.2
  let ya := flagWord c.die t.aFlags o.spadUncorr xb.2
  let yb := flagWord c.die t.bFlags o.spadUncorr ya.2
  let charged := charge c.die c.cls 0 0 (n * macCost (fmtOf t.fmtA) (fmtOf t.fmtB)) yb.2
  let counted := if okA && okB then countMacs c.die n charged else yb.2
  have hreported : quiet reported = quiet s := by
    simp only [reported, reportedA, checked]
    split_ifs <;> simp
  have hcounted : issueView c.die counted = issueView c.die yb.2 := by
    simp only [counted]
    split
    · exact (issueView_countMacs ..).trans (issueView_of_quiet _ (quiet_charge ..))
    · rfl
  refine ⟨o, xa.1, xb.1, ya.1 ||| yb.1, counted, ?issue, ?view⟩
  case issue =>
    simp only [matmulIssue]
    rfl
  case view =>
    calc issueView c.die counted
      _ = issueView c.die yb.2 := hcounted
      _ = issueView c.die ya.2 := issueView_flagWord ..
      _ = issueView c.die xb.2 := issueView_flagWord ..
      _ = issueView c.die xa.2 := issueView_operandIf ..
      _ = issueView c.die reported := issueView_operandIf ..
      _ = issueView c.die s := issueView_of_quiet _ hreported

theorem restoreIssue_schedules : SchedulesTensor 8 11 c t s (restoreIssue o c t s) := by
  let checked := spadEcc c.die o.spadCorr o.spadUncorr s
  let x := operand c.die c.cycle (tA t c) (72 * t.blocks) o.spadUncorr checked
  refine ⟨o, x.1, [], 0, x.2, rfl, ?_⟩
  calc issueView c.die x.2
    _ = issueView c.die checked := issueView_operand ..
    _ = issueView c.die s := issueView_of_quiet _ (quiet_spadEcc ..)

end Operands

section Issue

variable {i : Issued} {d : TDesc} {s : State} {op latency : Nat} {f : SubCtx → TDesc → State → State}

/-- As its words, a tensor operation's descriptor reads as before where the operation works. -/
theorem tensorDesc_issueState (hi : s.seq.issued = some i) (dt die sub e op k : Nat) :
    tensorDesc (issueState i dt die sub s) e op k = tensorDesc s e op k := by
  simp only [tensorDesc, descWords_issueState hi]

/-- A carried operation that schedules its effect is issued so. -/
theorem act_schedules (dt : Nat) (die : Luna) (hs : Clocked s) (h : CarriesTensor i die op d s)
    (hf : ∀ c t u, SchedulesTensor op latency c t u (f c t u)) :
    ∃ t, act dt (withSub die 1 op (tensorIssue op f)) s = .next t ∧ TensorIssued i die op latency d s t := by
  obtain ⟨o, a, b, fl, v, hscheduled, hview⟩ := hf (ctxOf i die 1) d (issueState i dt die 1 s)
  let e : TensorOp := { tensorRec op (ctxOf i die 1) d o with a := a, b := b, fl := fl }
  have hread : readView die v = readView die s := congrArg IssueView.read hview
  refine ⟨_, act_tensorIssue hs h dt f, ?_⟩
  rw [hscheduled]
  refine ⟨⟨e, ?_, rfl, rfl, rfl, rfl, rfl, rfl, rfl, rfl, rfl, rfl⟩, ?_, ?_, ?_⟩
  · exact congrArg (fun x => ReadView.effects x ++ [(i.cycle + latency, .tensor e)]) hread
  · exact congrArg IssueView.issued hview
  · exact congrArg ReadView.accs hread
  · have hmemory : (readView die v).memory = (readView die s).memory := congrArg ReadView.memory hread
    exact sameMemory_of_readView (d := die) hmemory

/-- A carried operation whose descriptor its widening tensor does not select only counts as executed (R198). -/
theorem act_unselected (dt : Nat) (die : Luna) (hs : Clocked s) (h : Carries i die 1 op s)
    (hdesc : tensorDesc s die op (tDesc (dieSlot i.bundle die 1)) = .inr d) (hselected : unselected s op d = true) :
    act dt (withSub die 1 op (tensorIssue op f)) s =
      .next { advance dt s with seq := { s.seq with issued := some (doneSub i die 1) } } := by
  have hdesc' : tensorDesc (issueState i dt die 1 s) (ctxOf i die 1).die op (tDesc (ctxOf i die 1).v) = .inr d :=
    (tensorDesc_issueState h.1 ..).trans hdesc
  have hselected' : unselected (issueState i dt die 1 s) op d = true := hselected
  rw [act_withSub hs dt h]
  simp only [tensorIssue, hdesc', hselected', if_true]
  rfl

end Issue

/-- Settles O7: what each operation schedules is its record with the operands it has read, and all that it does before
is to check, read and count; a descriptor that is not selected is passed over. -/
theorem tensorOperandIssue : Obligations.TensorOperandIssue := by
  unfold Obligations.TensorOperandIssue
  refine ⟨?matmul, ?preload, ?add, ?extChunk, ?restore, ?unselected⟩
  case matmul => exact fun dt die o s i d hs h => act_schedules dt die hs h (matmulIssue_schedules o)
  case preload => exact fun dt die o s i d hs h => act_schedules dt die hs h fun c t u => loadIssue_schedules o c t u 3
  case add => exact fun dt die o s i d hs h => act_schedules dt die hs h fun c t u => loadIssue_schedules o c t u 4
  case extChunk =>
    exact fun dt die o s i d hs h => act_schedules dt die hs h fun c t u => loadIssue_schedules o c t u 10
  case restore => exact fun dt die o s i d hs h => act_schedules dt die hs h (restoreIssue_schedules o)
  case unselected =>
    intro dt die o s i op c d hs h hdesc hselected hc
    simp only [List.mem_cons, Prod.mk.injEq, List.not_mem_nil, or_false] at hc
    obtain ⟨rfl, rfl⟩ | ⟨rfl, rfl⟩ | ⟨rfl, rfl⟩ | ⟨rfl, rfl⟩ := hc
    all_goals exact act_unselected dt die hs h hdesc hselected

end Sys2Proof.Machine

namespace Sys2Proof.Machine

open Sys2Proof.Map

/-! ## Clearing accumulators (R219, R222) -/

section Clear

variable {d i j : Nat} {s : State}

theorem accKey_injective (h : accKey d i = accKey d j) : i = j := Nat.add_left_cancel h

theorem acc_setAcc_same (hi : i < accLimit) (a : Acc) (s : State) : acc (setAcc d i a s) d i = a := by
  rw [acc, if_pos hi, setAcc, if_pos hi]
  exact mget_mset_same ..

theorem acc_setAcc_other (h : j ≠ i) (a : Acc) (s : State) : acc (setAcc d i a s) d j = acc s d j := by
  have hkey : accKey d j ≠ accKey d i := fun hkey => h (accKey_injective hkey)
  unfold setAcc acc
  split_ifs
  · exact mget_mset_other _ _ _ hkey
  all_goals rfl

/-- The chunks that an accumulator has taken in the completion cycle at hand (R219). -/
def chunksTaken (s : State) (d i : Nat) : Nat := mget 0 s.tensor.chunks (accKey d i)

theorem chunksTaken_setAcc (k : Nat) (a : Acc) : chunksTaken (setAcc d k a s) d j = chunksTaken s d j := by
  unfold setAcc
  split <;> rfl

/-- An accumulator's chunk is counted in the completion cycle at hand. -/
def chunkCounted (d i : Nat) (s : State) : State :=
  { s with tensor := { s.tensor with chunks := mset 0 s.tensor.chunks (accKey d i) (chunksTaken s d i + 1) } }

/-- What taking a chunk does: nothing beyond the file; else it counts the chunk, and a second one poisons (R219). -/
theorem noteChunk_cases (d i : Nat) (s : State) :
    noteChunk d i s = s ∨ noteChunk d i s = chunkCounted d i s ∨
      1 ≤ chunksTaken s d i ∧ ∃ u, quiet u = quiet (chunkCounted d i s) ∧ noteChunk d i s = poisonAcc d i u := by
  unfold noteChunk
  split
  · exact .inl rfl
  · refine .inr ?_
    dsimp only
    split
    next => exact .inl rfl
    next hsecond =>
      refine .inr ⟨Nat.le_of_lt_succ (Nat.not_lt.mp hsecond), _, ?_, rfl⟩
      split
      · rfl
      · exact quiet_bump ..

/-- The first chunk of a cycle changes no accumulator. -/
theorem acc_noteChunk_first (h : chunksTaken s d i = 0) (j : Nat) : acc (noteChunk d i s) d j = acc s d j := by
  obtain hbeyond | hcounted | ⟨hsecond, -⟩ := noteChunk_cases d i s
  · rw [hbeyond]
  · rw [hcounted]
    rfl
  · omega

/-- Another accumulator, and its chunks, stay. -/
theorem noteChunk_other (h : j ≠ i) (s : State) :
    acc (noteChunk d i s) d j = acc s d j ∧ chunksTaken (noteChunk d i s) d j = chunksTaken s d j := by
  have hkey : accKey d j ≠ accKey d i := fun hkey => h (accKey_injective hkey)
  have hchunks : chunksTaken (chunkCounted d i s) d j = chunksTaken s d j := by
    rw [chunksTaken, chunkCounted, mget_mset_other _ _ _ hkey, chunksTaken]
  obtain hbeyond | hcounted | ⟨-, u, hquiet, hpoisoned⟩ := noteChunk_cases d i s
  · rw [hbeyond]
    exact ⟨rfl, rfl⟩
  · rw [hcounted]
    exact ⟨rfl, hchunks⟩
  · have hacc : acc u d j = acc s d j := (congrArg (fun v => acc v d j) hquiet :)
    have hchunks' : chunksTaken u d j = chunksTaken s d j :=
      (congrArg (fun v => chunksTaken v d j) hquiet :).trans hchunks
    rw [hpoisoned, poisonAcc, acc_setAcc_other h, chunksTaken_setAcc]
    exact ⟨hacc, hchunks'⟩

/-- An accumulator that has taken no chunk in the cycle is cleared (R222). -/
theorem acc_accClear_same (hi : i < accLimit) (h : chunksTaken s d i = 0) :
    acc (accClear d i s) d i = accMake 0 1 0 := by
  rw [accClear, acc_noteChunk_first (by rwa [chunksTaken_setAcc]), acc_setAcc_same hi]

theorem accClear_other (h : j ≠ i) (s : State) :
    acc (accClear d i s) d j = acc s d j ∧ chunksTaken (accClear d i s) d j = chunksTaken s d j := by
  obtain ⟨hacc, hchunks⟩ := noteChunk_other h (setAcc d i (accMake 0 1 0) s)
  exact ⟨hacc.trans (acc_setAcc_other h ..), hchunks.trans (chunksTaken_setAcc ..)⟩

/-- Of different accumulators that are cleared, one that has taken no chunk before holds 0 with one chunk and no
flags. -/
theorem acc_foldl_accClear {a k : Nat} {l : List Nat} (hl : l.Nodup) (hk : k ∈ l) (hlimit : a + k < accLimit)
    (h : chunksTaken s d (a + k) = 0) :
    acc (l.foldl (fun s i => accClear d (a + i) s) s) d (a + k) = accMake 0 1 0 := by
  induction l generalizing s with
  | nil => exact absurd hk List.not_mem_nil
  | cons x l ih =>
    obtain ⟨hx, hl⟩ := List.nodup_cons.mp hl
    by_cases hkx : k = x
    · subst hkx
      have hother : ∀ y ∈ l, ∀ s, acc (accClear d (a + y) s) d (a + k) = acc s d (a + k) := by
        intro y hy s
        have hne : k ≠ y := fun hky => hx (hky ▸ hy)
        exact (accClear_other (by omega) s).1
      exact (foldl_keeps_mem (fun s => acc s d (a + k)) l hother _).trans (acc_accClear_same hlimit h)
    · exact ih hl (List.mem_of_ne_of_mem hkx hk) ((accClear_other (by omega) s).2.trans h)

/-- Moving on to another completion cycle begins the count of chunks afresh. -/
theorem chunksTaken_enterCycle {c : Nat} (h : s.tensor.cycle ≠ c ∨ chunksTaken s d i = 0) :
    chunksTaken (enterCycle c s) d i = 0 := by
  have hraise : ∀ page code detail s, chunksTaken (raise page code detail s) d i = chunksTaken s d i := by
    intro page code detail s
    rw [chunksTaken, raise_tensor, chunksTaken]
  have hclosed : chunksTaken (closeCycle s) d i = 0 :=
    (foldl_keeps (fun s => chunksTaken s d i) _ (fun s _ => hraise _ _ _ s) _).trans rfl
  unfold enterCycle
  split
  next hsame => exact h.resolve_left (not_not.mpr hsame)
  next => exact hclosed

end Clear

/-! ## What reading accumulators leaves alone -/

/-- The view of an operation without the accumulators. -/
def issueRest (d : Nat) (s : State) : IssueView := ⟨(readView d s).noAccs, s.seq.issued⟩

/-- What counts the chunks of completion cycles: the engines' state without the accumulators. -/
def chunkView (s : State) : Tensor := { s.tensor with accs := [] }

section Rest

variable (d : Nat) (s : State)

theorem issueRest_of_issueView {d : Nat} {s t : State} (h : issueView d t = issueView d s) :
    issueRest d t = issueRest d s := congrArg (fun v => IssueView.mk v.read.noAccs v.issued) h

theorem issueRest_of_quiet {s t : State} (h : quiet t = quiet s) : issueRest d t = issueRest d s :=
  (congrArg (issueRest d) h :)

theorem chunkView_of_quiet {s t : State} (h : quiet t = quiet s) : chunkView t = chunkView s :=
  (congrArg chunkView h :)

theorem issueRest_setAcc (e i : Nat) (a : Acc) : issueRest d (setAcc e i a s) = issueRest d s := by
  unfold setAcc
  split <;> rfl

theorem chunkView_setAcc (e i : Nat) (a : Acc) : chunkView (setAcc e i a s) = chunkView s := by
  unfold setAcc
  split <;> rfl

theorem issueRest_accClear (i : Nat) : issueRest d (accClear d i s) = issueRest d s := by
  rw [accClear]
  obtain hbeyond | hcounted | ⟨-, u, hquiet, hpoisoned⟩ := noteChunk_cases d i (setAcc d i (accMake 0 1 0) s)
  · rw [hbeyond, issueRest_setAcc]
  · rw [hcounted]
    exact issueRest_setAcc ..
  · rw [hpoisoned, poisonAcc, issueRest_setAcc, issueRest_of_quiet d hquiet]
    exact issueRest_setAcc ..

theorem issueView_enterCycle (c : Nat) : issueView d (enterCycle c s) = issueView d s := by
  have hclosed : issueView d (closeCycle s) = issueView d s :=
    (issueView_of_quiet d (quiet_foldl _ (fun _ _ => quiet_raise ..) _)).trans rfl
  unfold enterCycle
  split
  · rfl
  · exact hclosed

/-- The checks of accumulators and words change accumulators, counters and the log. -/
theorem segqFound_keeps (o : AccObs) (c : SubCtx) :
    issueRest d (segqFound o c s) = issueRest d s ∧ chunkView (segqFound o c s) = chunkView s := by
  have hfile : ∀ s e, quiet (accFileOne c.die s e) =
      quiet (setAcc c.die e.1 (if e.2 then accPoisoned (acc s c.die e.1) else accMake accPoison 0 (1 + 8)) s) :=
    fun s e => quiet_raise ..
  have hresidue : ∀ s e, quiet (accResidueOne c.die s e) = quiet (setAcc c.die e.1 (accPoisoned (acc s c.die e.1)) s) :=
    fun s e => (quiet_raise ..).trans (quiet_bump ..)
  have hcorrected : quiet (accCorrected c.die o s) = quiet s := by
    unfold accCorrected
    split <;> simp
  have hspad : quiet (segqFound o c s) = quiet (accsFound c.die o s) := quiet_spadEcc ..
  rw [issueRest_of_quiet d hspad, chunkView_of_quiet hspad, accsFound_eq]
  constructor
  · rw [foldl_keeps (issueRest d) _ fun s e => (issueRest_of_quiet d (hresidue s e)).trans (issueRest_setAcc ..),
      foldl_keeps (issueRest d) _ fun s e => (issueRest_of_quiet d (hfile s e)).trans (issueRest_setAcc ..),
      issueRest_of_quiet d hcorrected]
  · rw [foldl_keeps chunkView _ fun s e => (chunkView_of_quiet (hresidue s e)).trans (chunkView_setAcc ..),
      foldl_keeps chunkView _ fun s e => (chunkView_of_quiet (hfile s e)).trans (chunkView_setAcc ..),
      chunkView_of_quiet hcorrected]

/-- What is written is counted (R190, R191, R198, R316). -/
theorem issueView_countWriting (e fmt : Nat) (w : Writing) : issueView d (countWriting e fmt w s) = issueView d s := by
  have hwiden : ∀ f id b u x s, issueView d (widenNote f id b u x s) = issueView d s := by
    intro f id b u x s
    unfold widenNote
    split <;> rfl
  refine (hwiden ..).trans (issueView_of_quiet d ?_)
  dsimp only [fmtNonfinite]
  split <;> simp

end Rest

/-! ## READ, READ_CLEAR, QUANT and SAVE (R187, R222, R226, R234) -/

section Read

variable (op : Nat) (o : AccObs) (c : SubCtx) (t : TDesc) (s : State)

/-- READ_CLEAR clears what it reads, in its issue cycle (R222). -/
def readCleared (op : Nat) (c : SubCtx) (t : TDesc) (s : State) : State :=
  if op = 6 then
    (List.range (32 * t.blocks)).foldl (fun s i => accClear c.die (tA t c + i) s) (enterCycle c.cycle s)
  else s

/-- What is written is counted; a format that is none of the operation's is reported (R178, R190). -/
def readCounted (op : Nat) (c : SubCtx) (t : TDesc) (xs : List Elem) (s : State) : State :=
  if fmtValid t.fmtA (writesIn op t) then
    countWriting c.die t.fmtA (writeTensor (fmtOf t.fmtA) xs (Fp.val (tscaleOf t.fmtA)) (t.func == 0x83)) s
  else descInvalid c.die t.fmtA s

/-- The words of what is read are scheduled, and counted (R224). -/
def readSend (op : Nat) (o : AccObs) (c : SubCtx) (t : TDesc) (r : List Elem × Nat) (s : State) : State :=
  writeLater c.die c.cycle (tD t c) (some t.dFlags) (o.spadUncorr.contains t.dFlags) [] (readWords op t r.1).1
    (r.2 ||| (readWords op t r.1).2) (readCounted op c t r.1 s)

/-- As SEGQ, these operations find their accumulators checked; they send what they then read. -/
theorem readIssue_eq {r : List Elem × Nat} (h : accsRead (segqFound o c s) c.die (tA t c) (32 * t.blocks) = r) :
    readIssue op o c t s = readSend op o c t r (readCleared op c t (segqFound o c s)) := by
  rw [← h]
  rfl

theorem issueRest_readCleared : issueRest c.die (readCleared op c t s) = issueRest c.die s := by
  unfold readCleared
  split
  · exact (foldl_keeps (issueRest c.die) _ (fun s _ => issueRest_accClear c.die s _) _).trans
      (issueRest_of_issueView (issueView_enterCycle ..))
  · rfl

theorem issueView_readCounted (xs : List Elem) : issueView c.die (readCounted op c t xs s) = issueView c.die s := by
  unfold readCounted
  split
  · exact issueView_countWriting ..
  · exact issueView_of_quiet _ (quiet_descInvalid ..)

/-- An accumulator that READ_CLEAR reads, and that takes no other chunk in its cycle, is cleared (R222). -/
theorem acc_readCleared {k : Nat} (hk : k < 32 * t.blocks) (hlimit : tA t c + k < accLimit)
    (h : s.tensor.cycle ≠ c.cycle ∨ chunksTaken s c.die (tA t c + k) = 0) :
    acc (readCleared 6 c t s) c.die (tA t c + k) = accMake 0 1 0 :=
  acc_foldl_accClear List.nodup_range (List.mem_range.mpr hk) hlimit (chunksTaken_enterCycle h)

/-- The images of accumulators rest on them alone (R234). -/
theorem saveWords_congr {s u : State} (h : u.tensor.accs = s.tensor.accs) (d a n : Nat) :
    saveWords u d a n = saveWords s d a n := by
  simp only [saveWords, accImage, acc_congr d h]

/-- SAVE sends the images of the accumulators as the checks leave them. -/
theorem saveIssue_eq {u : State} (h : (accsFound c.die o s).tensor.accs = u.tensor.accs) : saveIssue o c t s =
    writeLater c.die c.cycle (tD t c) none false [] (saveWords u c.die (tA t c) (32 * t.blocks)) 0
      (accsFound c.die o s) := by
  rw [← saveWords_congr h]
  rfl

end Read

section Issue

variable {i : Issued} {d : TDesc} {s : State} (dt : Nat) (die : Luna) (o : AccObs) (hs : Clocked s)

/-- Words that a carried operation schedules, from a state in which all but accumulators is as it found it. -/
theorem writeScheduled_writeLater {v : State} (hv : issueRest die v = issueRest die (issueState i dt die 1 s))
    (flagAddr : Option Nat) (bad : Bool) (reads : List Nat) (ws : List (Option DWord)) (fl : Nat) :
    let t := worked s (writeLater die i.cycle (tD d (ctxOf i die 1)) flagAddr bad reads ws fl v)
    WriteScheduled i die d flagAddr ws fl s t ∧ t.tensor.accs = v.tensor.accs := by
  intro t
  let w : WriteOp := ⟨die, tD d (ctxOf i die 1), ws, flagAddr, fl, bad, reads⟩
  obtain ⟨hview, hseq⟩ := noteWrites_keeps die die (i.cycle + 12) (tD d (ctxOf i die 1)) ws.length v
  have ht : readView die t = (readView die v).addEffect (i.cycle + 12, .write w) :=
    congrArg (fun x => ReadView.addEffect x (i.cycle + 12, .write w)) hview
  have hrest : (readView die v).noAccs = (readView die s).noAccs := congrArg IssueView.read hv
  refine ⟨⟨⟨w, ?effects, rfl, rfl, rfl, rfl, rfl⟩, ?issued, ?memory⟩, congrArg ReadView.accs ht⟩
  case effects =>
    exact (congrArg ReadView.effects ht).trans
      (congrArg (fun x => ReadView.effects x ++ [(i.cycle + 12, Effect.write w)]) hrest)
  case issued => exact (congrArg Seq.issued hseq).trans (congrArg IssueView.issued hv)
  case memory =>
    have hmemory : (readView die v).memory = (readView die s).memory := (congrArg ReadView.memory hrest :)
    exact sameMemory_of_readView (d := die) ((congrArg ReadView.memory ht).trans hmemory)

include hs

/-- READ, READ_CLEAR or QUANT carried by the issued bundle: what it schedules, and the accumulators it leaves. -/
theorem act_readIssue (op : Nat) (h : CarriesTensor i die op d s) :
    let r := accsRead (accsFound die o s) die (tA d (ctxOf i die 1)) (32 * d.blocks)
    let w := readWords op d r.1
    ∃ t, act dt (withSub die 1 op (tensorIssue op (readIssue op o))) s = .next t ∧
      WriteScheduled i die d (some d.dFlags) w.1 (r.2 ||| w.2) s t ∧
      t.tensor.accs =
        (readCleared op (ctxOf i die 1) d (segqFound o (ctxOf i die 1) (issueState i dt die 1 s))).tensor.accs := by
  intro r w
  let c := ctxOf i die 1
  let u := segqFound o c (issueState i dt die 1 s)
  let v := readCounted op c d r.1 (readCleared op c d u)
  have hfound : u.tensor.accs = (accsFound die o s).tensor.accs :=
    (congrArg ReadView.accs (readView_segqFound o c (issueState i dt die 1 s) die)).trans
      (accs_accsFound_congr (s := s) (t := issueState i dt die 1 s) die o rfl)
  have hsends : readIssue op o c d (issueState i dt die 1 s) = readSend op o c d r (readCleared op c d u) :=
    readIssue_eq op o c d _ (accsRead_congr die hfound _ _)
  have hcounted : issueView die v = issueView die (readCleared op c d u) := issueView_readCounted ..
  have hrest : issueRest die v = issueRest die (issueState i dt die 1 s) :=
    (issueRest_of_issueView hcounted).trans ((issueRest_readCleared op c d u).trans (segqFound_keeps die _ o c).1)
  obtain ⟨hscheduled, haccs⟩ := writeScheduled_writeLater dt die hrest (some d.dFlags) (o.spadUncorr.contains d.dFlags)
    [] w.1 (r.2 ||| w.2)
  refine ⟨_, act_tensorIssue hs h dt (readIssue op o), ?_⟩
  rw [hsends]
  exact ⟨hscheduled, haccs.trans (accs_of_issueView hcounted)⟩

/-- READ and QUANT leave the accumulators alone where no check finds anything (R226). -/
theorem act_readIssue_keeps (op : Nat) (hop : op ≠ 6) (h : CarriesTensor i die op d s) :
    let r := accsRead (accsFound die o s) die (tA d (ctxOf i die 1)) (32 * d.blocks)
    let w := readWords op d r.1
    ∃ t, act dt (withSub die 1 op (tensorIssue op (readIssue op o))) s = .next t ∧
      WriteScheduled i die d (some d.dFlags) w.1 (r.2 ||| w.2) s t ∧
      (o.residue = [] → o.uncorrected = [] → t.tensor.accs = s.tensor.accs) := by
  obtain ⟨t, hexec, hscheduled, haccs⟩ := act_readIssue dt die o hs op h
  refine ⟨t, hexec, hscheduled, fun hresidue huncorrected => ?_⟩
  rw [haccs, readCleared, if_neg hop]
  exact (congrArg ReadView.accs (readView_segqFound o _ _ die)).trans
    (accs_accsFound_clean die o (issueState i dt die 1 s) hresidue huncorrected)

/-- READ_CLEAR carried by the issued bundle (R222). -/
theorem exec_readClear (h : CarriesTensor i die 6 d s) :
    let a := tA d (ctxOf i die 1)
    let r := accsRead (accsFound die o s) die a (32 * d.blocks)
    let w := readWords 6 d r.1
    ∃ t, exec (.readClear dt die o) s = .next t ∧ WriteScheduled i die d (some d.dFlags) w.1 (r.2 ||| w.2) s t ∧
      ∀ k < 32 * d.blocks, a + k < accLimit →
        (s.tensor.cycle ≠ i.cycle ∨ mget 0 s.tensor.chunks (accKey die (a + k)) = 0) →
        acc t die (a + k) = accMake 0 1 0 := by
  intro a r w
  obtain ⟨t, hexec, hscheduled, haccs⟩ := act_readIssue dt die o hs 6 h
  refine ⟨t, hexec, hscheduled, fun k hk hlimit hchunks => ?_⟩
  have hfound := (segqFound_keeps die (issueState i dt die 1 s) o (ctxOf i die 1)).2
  have hcycle := congrArg Tensor.cycle hfound
  have htaken := congrArg (fun x => mget 0 x.chunks (accKey die (a + k))) hfound
  rw [acc_congr die haccs]
  exact acc_readCleared _ _ _ hk hlimit (hchunks.imp (fun hne heq => hne (hcycle.symm.trans heq)) htaken.trans)

/-- SAVE carried by the issued bundle (R234). -/
theorem exec_save (h : CarriesTensor i die 7 d s) : ∃ t, exec (.save dt die o) s = .next t ∧
    WriteScheduled i die d none (saveWords (accsFound die o s) die (tA d (ctxOf i die 1)) (32 * d.blocks)) 0 s t ∧
      (o.residue = [] → o.uncorrected = [] → t.tensor.accs = s.tensor.accs) := by
  let c := ctxOf i die 1
  let u := issueState i dt die 1 s
  have hrest : issueRest die (accsFound die o u) = issueRest die u := by
    have hissued := ((keepsTables_accFile die.isLt u o).trans (keepsTables_accResidue die.isLt _ o)).issued
    rw [issueRest, noAccs_accsFound, accsFound, hissued, issueRest]
  have hsends : saveIssue o c d u = writeLater die i.cycle (tD d c) none false []
      (saveWords (accsFound die o s) die (tA d c) (32 * d.blocks)) 0 (accsFound die o u) :=
    saveIssue_eq o c d u (accs_accsFound_congr (s := s) (t := u) die o rfl)
  obtain ⟨hscheduled, haccs⟩ := writeScheduled_writeLater dt die hrest none false []
    (saveWords (accsFound die o s) die (tA d c) (32 * d.blocks)) 0
  refine ⟨_, act_tensorIssue hs h dt (saveIssue o), ?_⟩
  rw [hsends]
  exact ⟨hscheduled, fun hresidue huncorrected => haccs.trans (accs_accsFound_clean die o u hresidue huncorrected)⟩

end Issue

/-- Settles O9: what an operation reads are the accumulators as the checks leave them, and its words follow from them
alone. READ_CLEAR clears different accumulators one after another, each of which has taken no chunk before. -/
theorem tensorResultIssue : Obligations.TensorResultIssue := by
  unfold Obligations.TensorResultIssue
  refine ⟨?read, ?readClear, ?quant, ?save⟩
  case read => exact fun dt die o s i d hs h => act_readIssue_keeps dt die o hs 5 (by decide) h
  case readClear => exact fun dt die o s i d hs h => exec_readClear dt die o hs h
  case quant => exact fun dt die o s i d hs h => act_readIssue_keeps dt die o hs 12 (by decide) h
  case save => exact fun dt die o s i d hs h => exec_save dt die o hs h

end Sys2Proof.Machine

namespace Sys2Proof.Machine

open Sys2Proof.Map

/-! ## Widening commands (R198, R204) -/

section Widen

variable {s : State} {v : Word} {id : BitVec 12} {thresh : BitVec 16} {dt : Nat}

/-- The fields of a command word: its operation and its entry. -/
theorem commandWord_fields {n op arg entry : Nat} (hn : n = op * 2 ^ 28 + arg * 2 ^ 12 + entry) (hop : op < 16)
    (harg : arg < 2 ^ 16) (hentry : entry < 2 ^ 12) : fld (word n) 31 28 = op ∧ fld (word n) 11 0 = entry := by
  rw [fld_word (by omega), fld_word (by omega)]
  omega

/-- A word of FMT_WIDEN_CMD names all entries, or one that is valid (R198). -/
def WidenAccepts (v : Word) (s : State) : Prop :=
  fld v 31 28 = 4 ∨ (1 ≤ fld v 31 28 ∧ fld v 31 28 ≤ 3) ∧ fld v 11 0 ≠ 0xFFF ∧ (widenOfId s (fld v 11 0)).valid = true

/-- An accepted word is latched, or applies late to the commit of its own SCLK cycle. -/
theorem widenCmd_accepted (h : WidenAccepts v s) : widenCmd v s =
    if s.fmt.commitAt = some (sclk s) then widenLate v s
    else { s with fmt := { s.fmt with cmds := s.fmt.cmds ++ [v] } } := by
  unfold widenCmd
  exact if_pos (by simpa [WidenAccepts, and_assoc] using h)

theorem widenCmd_invalid (h : ¬ WidenAccepts v s) : widenCmd v s = raise 0 Evt.FMT_CMD_INVALID v.toNat s := by
  unfold widenCmd
  exact if_neg (by simpa [WidenAccepts, and_assoc] using h)

/-- The commands of one entry, with the words they write. -/
theorem entryCommand_word {c : Instr × Word}
    (hc : c ∈ [(Instr.widenEnable dt id thresh, word (2 ^ 28 + thresh.toNat * 2 ^ 12 + id.toNat)),
      (Instr.widenDisable dt id, word (2 * 2 ^ 28 + id.toNat)),
      (Instr.widenReset dt id, word (3 * 2 ^ 28 + id.toNat))]) :
    exec c.1 s = actHost dt 0 (widenCmd c.2) s ∧ (1 ≤ fld c.2 31 28 ∧ fld c.2 31 28 ≤ 3) ∧ fld c.2 11 0 = id.toNat := by
  simp only [List.mem_cons, List.not_mem_nil, or_false] at hc
  have hfields : ∀ {n op arg : Nat}, n = op * 2 ^ 28 + arg * 2 ^ 12 + id.toNat → 1 ≤ op → op ≤ 3 → arg < 2 ^ 16 →
      (1 ≤ fld (word n) 31 28 ∧ fld (word n) 31 28 ≤ 3) ∧ fld (word n) 11 0 = id.toNat := by
    intro n op arg hn hlow hhigh harg
    obtain ⟨hop, hentry⟩ := commandWord_fields hn (by omega) harg id.isLt
    exact ⟨by rw [hop]; exact ⟨hlow, hhigh⟩, hentry⟩
  obtain rfl | rfl | rfl := hc
  · exact ⟨rfl, hfields (op := 1) (by rw [Nat.one_mul]) le_rfl (by decide) thresh.isLt⟩
  · exact ⟨rfl, hfields (op := 2) (arg := 0) rfl (by decide) (by decide) (by decide)⟩
  · exact ⟨rfl, hfields (op := 3) (arg := 0) rfl (by decide) le_rfl (by decide)⟩

/-- The widening commands of a valid entry, and that of all entries, write words that are accepted. -/
theorem widenCommand_accepted (hid : id ≠ 0xFFF) (hvalid : (widenOfId s id.toNat).valid = true) {c : Instr × Word}
    (hc : c ∈ [(Instr.widenEnable dt id thresh, word (2 ^ 28 + thresh.toNat * 2 ^ 12 + id.toNat)),
      (Instr.widenDisable dt id, word (2 * 2 ^ 28 + id.toNat)), (Instr.widenReset dt id, word (3 * 2 ^ 28 + id.toNat)),
      (Instr.widenResetAll dt, word (4 * 2 ^ 28))]) :
    exec c.1 s = actHost dt 0 (widenCmd c.2) s ∧ WidenAccepts c.2 (advance dt s) := by
  obtain hentry | hall := List.mem_append (s := [_, _, _]) (t := [_]) |>.mp hc
  · obtain ⟨hexec, hop, hnamed⟩ := entryCommand_word (s := s) hentry
    have hnumber : id.toNat ≠ 0xFFF := fun h => hid (BitVec.eq_of_toNat_eq h)
    exact ⟨hexec, .inr ⟨hop, by rwa [hnamed], by rw [hnamed]; exact hvalid⟩⟩
  · have hop : fld (word (4 * 2 ^ 28)) 31 28 = 4 := by decide
    obtain rfl := List.mem_singleton.mp hall
    exact ⟨rfl, .inl hop⟩

theorem entryCommand_invalid (hid : id = 0xFFF ∨ (widenOfId s id.toNat).valid = false) {c : Instr × Word}
    (hop : 1 ≤ fld c.2 31 28 ∧ fld c.2 31 28 ≤ 3) (hnamed : fld c.2 11 0 = id.toNat) :
    ¬ WidenAccepts c.2 (advance dt s) := by
  rintro (hall | ⟨-, hnone, hvalid⟩)
  · omega
  · rw [hnamed] at hnone hvalid
    obtain rfl | hinvalid := hid
    · exact hnone rfl
    · exact Bool.false_ne_true (hinvalid.symm.trans hvalid)

end Widen

/-! ### What a late command leaves alone -/

/-- Of what widening leaves alone: the latched commands, and the memories. -/
def widenView (s : State) : List Word × Mem × Hostif := (s.fmt.cmds, s.mem, s.host)

section Late

variable (s : State)

theorem widenView_raise (page code detail : Nat) : widenView (raise page code detail s) = widenView s := by
  simp only [widenView, raise_fmt, raise_mem, raise_host]

theorem widenView_setWiden (i : Nat) (w : Widen) : widenView (setWiden i w s) = widenView s := rfl

theorem widenView_setReg (a : Nat) (w : Word) : widenView (setReg a w s) = widenView s := rfl

theorem widenView_widenBack (i : Nat) : widenView (widenBack i s) = widenView s := by
  unfold widenBack
  dsimp only
  split
  · rfl
  · rw [widenView_raise, widenView_setWiden]
    split <;> rfl

theorem widenView_widenApply (v : Word) : widenView (widenApply v s) = widenView s := by
  unfold widenApply
  dsimp only
  split
  · rfl
  · rfl
  · exact widenView_widenBack ..
  · exact foldl_keeps widenView _ (fun s i => widenView_widenBack s i) s

theorem widenView_widenGrant (i : Nat) : widenView (widenGrant i s) = widenView s := by
  have hrate : ∀ w, widenView (widenRate w s).2 = widenView s := by
    intro w
    unfold widenRate
    split <;> rfl
  unfold widenGrant
  dsimp only
  split
  · rw [widenView_raise, widenView_setReg, widenView_setReg, widenView_setWiden, hrate]
  · rfl

theorem widenView_widenDeny (layer : Nat) : widenView (widenDeny layer s) = widenView s := by
  unfold widenDeny
  dsimp only
  split_ifs
  · rfl
  · rfl
  · exact (widenView_raise ..).trans rfl

theorem widenView_widenGrants : widenView (widenGrants s) = widenView s :=
  (foldl_keeps widenView _ (fun s l => widenView_widenDeny s l) _).trans
    (foldl_keeps widenView _ (fun s i => widenView_widenGrant s i) s)

/-- What the commit's test did to an entry is undone: a fresh grant releases its costs (R198). -/
def widenUntest (s : State) (i : Nat) : State :=
  let w := widenOfId s i
  if w.fresh then
    let s := if w.state = 2 then
        updReg fmtUsedHbm (fun x => x - word w.hbm) (updReg fmtUsedSpace (fun x => x - word w.space) s)
      else s
    setWiden i { w with state := 0, fresh := false } s
  else s

/-- An entry is tested again by the counts of the committed step (R198). -/
def widenRetest (s : State) (i : Nat) : State :=
  let w := widenOfId s i
  let t := widenTested { w with sat := w.last.1, blocks := w.last.2.1, narrow := w.last.2.2 }
  setWiden i { w with state := t.state, fresh := t.fresh } s

theorem widenLate_eq (v : Word) : widenLate v s =
    let ids := if fld v 31 28 = 4 then s.fmt.entries.map (·.1) else [fld v 11 0]
    widenGrants (ids.foldl widenRetest (widenApply v (ids.foldl widenUntest s))) := rfl

theorem widenView_widenUntest (i : Nat) : widenView (widenUntest s i) = widenView s := by
  unfold widenUntest
  dsimp only
  split_ifs <;> rfl

/-- A late command changes entries, their costs and the log. -/
theorem widenView_widenLate (v : Word) : widenView (widenLate v s) = widenView s := by
  rw [widenLate_eq, widenView_widenGrants, foldl_keeps widenView _ (fun _ _ => by rfl), widenView_widenApply,
    foldl_keeps widenView _ widenView_widenUntest]

end Late

section Clauses

variable {s : State} {v : Word}

/-- A word of FMT_WIDEN_CMD outside the SCLK cycle of a commit (R198). -/
theorem actHost_widenCmd_latched (hm : HostMay 0 s) (dt : Nat) (h : WidenAccepts v (advance dt s))
    (hcommit : s.fmt.commitAt ≠ some (sclk (advance dt s))) : actHost dt 0 (widenCmd v) s =
      .next { advance dt s with fmt := { s.fmt with cmds := s.fmt.cmds ++ [v] } } := by
  have hcommit' : (advance dt s).fmt.commitAt ≠ some (sclk (advance dt s)) := hcommit
  exact actHost_eq hm ((widenCmd_accepted h).trans (if_neg hcommit'))

/-- One in that cycle applies at the commit (R198). -/
theorem actHost_widenCmd_late (hm : HostMay 0 s) (dt : Nat) (h : WidenAccepts v (advance dt s))
    (hcommit : s.fmt.commitAt = some (sclk (advance dt s))) : ∃ t, actHost dt 0 (widenCmd v) s = .next t ∧
      t.fmt = (widenLate v (advance dt s)).fmt ∧ t.fmt.cmds = s.fmt.cmds ∧ SameMemory s t := by
  have hcommit' : (advance dt s).fmt.commitAt = some (sclk (advance dt s)) := hcommit
  have hview := widenView_widenLate (advance dt s) v
  refine ⟨_, actHost_eq hm ((widenCmd_accepted h).trans (if_pos hcommit')), rfl, congrArg (·.1) hview, .of_eq ?_ ?_⟩
  · exact congrArg (fun x => x.2.1) hview
  · exact congrArg (fun x => x.2.2.bar2) hview

/-- A word that names no valid entry is reported (R204). -/
theorem actHost_widenCmd_invalid (hm : HostMay 0 s) (dt : Nat) (h : ¬ WidenAccepts v (advance dt s)) :
    ∃ t, actHost dt 0 (widenCmd v) s = .next t ∧ t.fmt = s.fmt ∧ Logged 0 Evt.FMT_CMD_INVALID v.toNat s t ∧
      SameRegsBut 0 [] s t ∧ SameMemory s t := by
  obtain ⟨hlogged, -, hregs, hmem⟩ := (raisesEvent_raise (code := Evt.FMT_CMD_INVALID) (by decide) 0 v.toNat
    (advance dt s)).ofAdvance (q := s.pending)
  exact ⟨_, actHost_eq hm (widenCmd_invalid h), raise_fmt .., hlogged, hregs, hmem⟩

/-! ## Adapter commands (R360) -/

/-- The adapter commands, with the words they write. -/
theorem adapterCommand_word {dt : Nat} {index : BitVec 12} {c : Instr × Word}
    (hc : c ∈ [(Instr.adapterLoad dt index, word (2 ^ 28 + index.toNat)),
      (Instr.adapterUnload dt index, word (2 * 2 ^ 28 + index.toNat))]) :
    exec c.1 s = actHost dt 0 (adapterCmd c.2) s ∧ (fld c.2 31 28 = 1 ∨ fld c.2 31 28 = 2) := by
  simp only [List.mem_cons, List.not_mem_nil, or_false] at hc
  obtain rfl | rfl := hc
  · exact ⟨rfl, .inl (commandWord_fields (op := 1) (arg := 0) rfl (by decide) (by decide) index.isLt).1⟩
  · exact ⟨rfl, .inr (commandWord_fields (op := 2) (arg := 0) rfl (by decide) (by decide) index.isLt).1⟩

theorem actHost_adapterCmd_latched (hm : HostMay 0 s) (dt : Nat) (hop : fld v 31 28 = 1 ∨ fld v 31 28 = 2)
    (hnone : s.adapt.cmd = none) : actHost dt 0 (adapterCmd v) s =
      .next { advance dt s with adapt := { s.adapt with cmd := some v } } := by
  have hlatched : adapterCmd v (advance dt s) =
      { advance dt s with adapt := { s.adapt with cmd := some v } } := by
    have hnone' : (advance dt s).adapt.cmd = none := hnone
    have hknown : (fld v 31 28 != 1 && fld v 31 28 != 2) = false := by
      obtain h | h := hop <;> rw [h] <;> rfl
    unfold adapterCmd
    rw [hnone', hknown]
    rfl
  exact actHost_eq hm hlatched

theorem actHost_adapterCmd_busy (hm : HostMay 0 s) (dt : Nat) (hsome : s.adapt.cmd.isSome = true) :
    ∃ t, actHost dt 0 (adapterCmd v) s = .next t ∧ t.adapt = s.adapt ∧
      Logged 0 Evt.ADAPTER_CMD_INVALID v.toNat s t ∧ SameRegsBut 0 [] s t ∧ SameMemory s t := by
  obtain ⟨hlogged, -, hregs, hmem⟩ := (raisesEvent_raise (code := Evt.ADAPTER_CMD_INVALID) (by decide) 0 v.toNat
    (advance dt s)).ofAdvance (q := s.pending)
  have hinvalid : adapterCmd v (advance dt s) = raise 0 Evt.ADAPTER_CMD_INVALID v.toNat (advance dt s) := by
    have hsome' : (advance dt s).adapt.cmd.isSome = true := hsome
    unfold adapterCmd
    exact if_pos (by rw [hsome', Bool.true_or])
  exact ⟨_, actHost_eq hm hinvalid, raise_adapt .., hlogged, hregs, hmem⟩

end Clauses

/-! ## The end of a training job (R380) -/

/-- A digest has 32 bytes: the 25 lanes of Keccak's state hold more. -/
theorem length_shake256 (bs : Bytes) : (shake256 32 bs).length = 32 := by
  have hround : ∀ rc a, (keccakRound rc a).length = 25 := fun rc a => by simp [keccakRound]
  have hrounds : ∀ (rcs a : List Nat), a.length = 25 → (rcs.foldl (fun a rc => keccakRound rc a) a).length = 25 := by
    intro rcs
    induction rcs with
    | nil => exact fun a ha => ha
    | cons rc rcs ih => exact fun a _ => ih _ (hround rc a)
  have habsorb : ∀ (n : Nat) (a : List Nat) (bs : Bytes), a.length = 25 → (keccakAbsorb n a bs).length = 25 := by
    intro n
    induction n with
    | zero => exact fun a bs ha => ha
    | succ n ih => exact fun a bs _ => ih _ _ (hrounds _ _ (by simp))
  have hlanes := habsorb ((shakePad bs).length / 136) (List.replicate 25 0) (shakePad bs) List.length_replicate
  rw [shake256]
  generalize keccakAbsorb _ _ _ = lanes at hlanes
  simp [List.length_flatMap, length_toBytes, hlanes]

section TrainEnd

variable {s : State} {a : Nat} {b : Bytes}

/-- Of a state, a write to HBM changes the bytes there. -/
theorem hbmWrite_only (bs : Bytes) (x : Nat) (s : State) :
    ∃ hbm, hbmWrite x bs s = { s with mem := { s.mem with hbm := hbm } } := by
  induction bs generalizing x s with
  | nil => exact ⟨s.mem.hbm, rfl⟩
  | cons v bs ih =>
    obtain ⟨hbm, h⟩ := ih (x + 1) (setHbmByte x v s)
    exact ⟨hbm, h⟩

/-- Bytes of an entry, from a place in it on, replaced. -/
def overwrite (b : Bytes) (o : Nat) (bs : Bytes) : Bytes := b.take o ++ bs ++ b.drop (o + bs.length)

theorem knownEntry_of_find (h : find? s.adapt.table a = some b) : knownEntry s a = b := by
  rw [knownEntry, h]

/-- A field of a known entry is written in HBM and in the entry as the module knows it (R358). -/
theorem editKnown_known (h : find? s.adapt.table a = some b) (o : Nat) (bs : Bytes) :
    ∃ hbm, editKnown a o bs s = { s with
      mem := { s.mem with hbm := hbm }
      adapt := { s.adapt with table := mput s.adapt.table a (overwrite b o bs) } } := by
  obtain ⟨hbm, hwrite⟩ := hbmWrite_only bs (adapterAddr s a + o) s
  refine ⟨hbm, ?_⟩
  unfold editKnown editAdapter
  rw [hwrite]
  simp only [h]
  rfl

/-- An entry's digest, after it and then its flags are written. -/
theorem adDigest_overwrite {digest flags : Bytes} (hb : b.length = 64) (hdigest : digest.length = 32)
    (hflags : flags.length = 4) : adDigest (overwrite (overwrite b 32 digest) 0 flags) = digest := by
  have hflagged : ∀ x : Bytes, (overwrite x 0 flags).drop 32 = x.drop 32 := fun x => by
    simp [overwrite, hflags, List.drop_append]
  rw [adDigest, hflagged]
  simp [overwrite, hb, hdigest]

theorem adTraining_overwrite (b : Bytes) (valid : Bool) :
    adTraining (overwrite b 0 (toBytes 4 (one valid + 2 * one false))) = false := by
  have htaken : (overwrite b 0 (toBytes 4 (one valid + 2 * one false))).take 4 =
      toBytes 4 (one valid + 2 * one false) := by
    simp [overwrite, length_toBytes]
  rw [adTraining, adFlags, byteField]
  show bit (ofBytes ((overwrite b 0 _).take 4)) 1 = false
  rw [htaken]
  cases valid <;> rfl

/-- The digest of an adapter's weights (R380). -/
def weightsDigest (b : Bytes) (s : State) : Bytes := shake256 32 (hbmRead s (adWeights b) (weightBytes s b))

/-- A job's adapter, whose entry was `b`, with its digest recomputed and TRAINING cleared, and no job ending (R380). -/
def digestKept (a : Nat) (b : Bytes) (s : State) : State :=
  let u := editKnown a 32 (weightsDigest b s)
    (chargeHbm (16 + hbmStack (adWeights b) / 6 % 4) 7 (ceilDiv (weightBytes s b) 64) s)
  setAdFlags a (adValid b) false { u with adapt := { u.adapt with ending := none } }

theorem digestKept_effect (hfound : find? s.adapt.table a = some b) (hlen : b.length = 64) :
    let t := digestKept a b s
    t.adapt.ending = none ∧ adTraining (knownEntry t a) = false ∧ adDigest (knownEntry t a) = weightsDigest b s ∧
      t.regs = s.regs ∧ t.log = s.log ∧ t.mem.spad = s.mem.spad := by
  intro t
  have hdigest : (weightsDigest b s).length = 32 := length_shake256 _
  simp only [t, digestKept, setAdFlags]
  generalize weightsDigest b s = digest at *
  generalize hcharged : chargeHbm (16 + hbmStack (adWeights b) / 6 % 4) 7 (ceilDiv (weightBytes s b) 64) s = v
  have hfound' : find? v.adapt.table a = some b := by rw [← hcharged, chargeHbm_adapt, hfound]
  have hv : v.regs = s.regs ∧ v.log = s.log ∧ v.mem.spad = s.mem.spad := by
    rw [← hcharged, chargeHbm_regs, chargeHbm_log, chargeHbm_mem]
    exact ⟨rfl, rfl, rfl⟩
  obtain ⟨hbm, hdigested⟩ := editKnown_known hfound' 32 digest
  rw [hdigested]
  have hkept : find? (mput v.adapt.table a (overwrite b 32 digest)) a = some (overwrite b 32 digest) :=
    find?_mput_same ..
  obtain ⟨hbm', hflagged⟩ := editKnown_known (s := { v with
    mem := { v.mem with hbm := hbm }
    adapt := { v.adapt with table := mput v.adapt.table a (overwrite b 32 digest), ending := none } }) hkept 0
    (toBytes 4 (one (adValid b) + 2 * one false))
  rw [hflagged, knownEntry_of_find (find?_mput_same ..)]
  exact ⟨rfl, adTraining_overwrite .., adDigest_overwrite hlen hdigest (length_toBytes ..), hv⟩

theorem trainDigest_due {job cause steps : Nat} (hending : s.adapt.ending = some (job, a, cause, steps))
    (hopen : startOpen s 7 = true) : trainDigest s =
      forRequest job (raise 0 Evt.TRAIN_JOB_END (a + cause * 2 ^ 12 + steps % 2 ^ 32 * 2 ^ 16))
        (digestKept a (knownEntry s a) s) := by
  have hread : ∀ d c n x m, hbmRead (chargeHbm d c n s) x m = hbmRead s x m := by
    intro d c n x m
    simp only [hbmRead, hbmByte, chargeHbm_mem]
  unfold trainDigest
  simp only [hending, hopen, Bool.not_true, Bool.false_eq_true, if_false, hread]
  rfl

theorem trainDigest_waits (h : s.adapt.ending = none ∨ startOpen s 7 = false) : trainDigest s = s := by
  unfold trainDigest
  split
  · rfl
  next hending =>
    obtain hnone | hclosed := h
    · rw [hnone] at hending
      cases hending
    · simp only [hclosed, Bool.not_false, if_true]

/-- An event raised for a request is logged, and changes only what it signals. -/
theorem forRequest_raise_effect {code : Nat} (hc : code < 0x10000) (job page detail : Nat) (s : State) :
    let t := forRequest job (raise page code detail) s
    t.adapt = s.adapt ∧ t.mem = s.mem ∧ Logged page code detail s t ∧ SameRegsBut page [] s t := by
  let v : State := { s with log := { s.log with req := job } }
  obtain ⟨hlogged, -, hregs, -⟩ := raisesEvent_raise hc page detail v
  have hadapt : (raise page code detail v).adapt = s.adapt := raise_adapt ..
  have hmem : (raise page code detail v).mem = s.mem := raise_mem ..
  unfold forRequest
  dsimp only
  generalize raise page code detail v = r at *
  exact ⟨hadapt, hmem, hlogged.congr rfl rfl rfl rfl, hregs⟩

end TrainEnd

/-- TRAIN_JOB_END of an ending job, with the AUDIT gate open (R380). -/
theorem exec_trainJobEnd {s : State} {job a cause steps : Nat} (dt : Nat) (hs : Clocked s)
    (hending : s.adapt.ending = some (job, a, cause, steps)) (hfound : (find? s.adapt.table a).isSome = true)
    (hlen : (knownEntry s a).length = 64) (hopen : startOpen (advance dt s) 7 = true) :
    ∃ t, exec (.trainJobEnd dt) s = .next t ∧ t.adapt.ending = none ∧
      adTraining (knownEntry t a) = false ∧ adDigest (knownEntry t a) =
        shake256 32 (hbmRead s (adWeights (knownEntry s a)) (weightBytes s (knownEntry s a))) ∧
      Logged 0 Evt.TRAIN_JOB_END (a + cause * 2 ^ 12 + steps % 2 ^ 32 * 2 ^ 16) s t ∧
      t.mem.spad = s.mem.spad ∧ SameRegsBut 0 [] s t := by
  obtain ⟨b, hb⟩ := Option.isSome_iff_exists.mp hfound
  have hknown : knownEntry s a = b := knownEntry_of_find hb
  rw [hknown] at hlen ⊢
  obtain ⟨hnone, htraining, hdigest, hregs, hlog, hspad⟩ := digestKept_effect (s := advance dt s) hb hlen
  have hexec := act_eq (f := trainDigest) hs (trainDigest_due (s := advance dt s) hending hopen)
  have hknown' : knownEntry (advance dt s) a = b := hknown
  rw [hknown'] at hexec
  generalize a + cause * 2 ^ 12 + steps % 2 ^ 32 * 2 ^ 16 = detail at *
  obtain ⟨hadapt, hmem, hlogged, hraised⟩ := forRequest_raise_effect (code := Evt.TRAIN_JOB_END) (by decide) job 0
    detail (digestKept a b (advance dt s))
  generalize forRequest job (raise 0 Evt.TRAIN_JOB_END detail) (digestKept a b (advance dt s)) = t at *
  generalize digestKept a b (advance dt s) = u at *
  have hentry : knownEntry { t with pending := s.pending } a = knownEntry u a := by
    rw [knownEntry, knownEntry, hadapt]
  refine ⟨_, hexec, ?ending, ?training, ?digest, ?logged, ?spad, ?regs⟩
  case ending => exact (congrArg Adapt.ending hadapt).trans hnone
  case training => rw [hentry, htraining]
  case digest => exact (congrArg adDigest hentry).trans hdigest
  case logged => exact hlogged.congr (congrArg Log.queue hlog).symm (reg_of_regs hregs _).symm rfl rfl
  case spad => exact (congrArg Mem.spad hmem).trans hspad
  case regs => exact fun x hx hx' => (hraised x hx hx').trans (reg_of_regs hregs x)

/-- Settles O41: by whether a word of the command registers is accepted, and when; a late one leaves the latched words
alone. The end of a job writes the entry twice, the digest first, and raises its event. -/
theorem latchedCommands : Obligations.LatchedCommands := by
  unfold Obligations.LatchedCommands
  refine ⟨?latched, ?all, ?late, ?invalid, ?adapter, ?busy, ?ends, ?waits⟩
  case latched =>
    intro dt id thresh s hm hid hvalid hcommit c hc
    obtain ⟨hexec, haccepts⟩ := widenCommand_accepted hid hvalid hc
    exact hexec.trans (actHost_widenCmd_latched hm dt haccepts hcommit)
  case all =>
    intro dt s hm hcommit
    have hop : fld (word (4 * 2 ^ 28)) 31 28 = 4 := by decide
    exact actHost_widenCmd_latched hm dt (.inl hop) hcommit
  case late =>
    intro dt id thresh s hm hid hvalid hcommit c hc
    obtain ⟨hexec, haccepts⟩ := widenCommand_accepted hid hvalid hc
    rw [hexec]
    exact actHost_widenCmd_late hm dt haccepts hcommit
  case invalid =>
    intro dt id thresh s hm hid c hc
    obtain ⟨hexec, hop, hnamed⟩ := entryCommand_word hc
    rw [hexec]
    exact actHost_widenCmd_invalid hm dt (entryCommand_invalid hid hop hnamed)
  case adapter =>
    intro dt index s hm hnone c hc
    obtain ⟨hexec, hop⟩ := adapterCommand_word hc
    exact hexec.trans (actHost_adapterCmd_latched hm dt hop hnone)
  case busy =>
    intro dt index s hm hsome c hc
    obtain ⟨hexec, -⟩ := adapterCommand_word hc
    rw [hexec]
    exact actHost_adapterCmd_busy hm dt hsome
  case ends =>
    exact fun dt s job a cause steps hs hending hfound hlen hopen =>
      exec_trainJobEnd dt hs hending hfound hlen hopen
  case waits =>
    intro dt s hs hwaits
    have hexec := act_eq (f := trainDigest) hs (trainDigest_waits (s := advance dt s) hwaits)
    exact hexec.trans (congrArg _ (advance_keeps_queue dt s))

end Sys2Proof.Machine

/-! PROOFS of the family 06_accumulation.md. What CLEAR, EXT_INIT and VECTOR schedule when they issue (R207, R222,
R229). -/

namespace Sys2Proof.Machine

open Sys2Proof.Map

/-- A tensor operation's record with the operands it has read, their flags, and the flag word of a VECTOR's
destination. -/
def operandRec (op : Nat) (c : SubCtx) (t : TDesc) (o : AccObs) (a b : List (Nat × SWord)) (fl flagAddr : Nat) :
    TensorOp :=
  { tensorRec op c t o with a := a, b := b, fl := fl, flagAddr := flagAddr }

section Issue

variable {i : Issued} {d : TDesc} {s : State} (dt : Nat) (die : Luna)

/-- A carried operation is issued once its record is scheduled, from a state in which it has only read and counted. -/
theorem tensorIssued_later {v : State} (hv : issueView die v = issueView die (issueState i dt die 1 s))
    (op latency : Nat) (o : AccObs) (a b : List (Nat × SWord)) (fl flagAddr : Nat) :
    TensorIssued i die op latency d s (worked s (later (i.cycle + latency)
      (.tensor (operandRec op (ctxOf i die 1) d o a b fl flagAddr)) v)) := by
  let e : TensorOp := operandRec op (ctxOf i die 1) d o a b fl flagAddr
  have hread : readView die v = readView die s := congrArg IssueView.read hv
  refine ⟨⟨e, ?effects, rfl, rfl, rfl, rfl, rfl, rfl, rfl, rfl, rfl, rfl⟩, ?issued, ?accs, ?memory⟩
  case effects => exact congrArg (fun x => ReadView.effects x ++ [(i.cycle + latency, .tensor e)]) hread
  case issued => exact congrArg IssueView.issued hv
  case accs => exact congrArg ReadView.accs hread
  case memory =>
    have hmemory : (readView die v).memory = (readView die s).memory := congrArg ReadView.memory hread
    exact sameMemory_of_readView (d := die) hmemory

/-! ## CLEAR and EXT_INIT (R222, R229) -/

/-- CLEAR or EXT_INIT carried by the issued bundle: it reads nothing, so registers and the log stay as well. -/
theorem act_initIssue (op : Nat) (hs : Clocked s) (h : CarriesTensor i die op d s) :
    ∃ t, act dt (withSub die 1 op (tensorIssue op (initIssue op))) s = .next t ∧ TensorIssued i die op 11 d s t ∧
      t.regs = s.regs ∧ t.log = s.log ∧ t.seq.fatal = s.seq.fatal :=
  ⟨_, act_tensorIssue hs h dt (initIssue op), tensorIssued_later dt die rfl op 11 {} [] [] 0 0, rfl, rfl, rfl⟩

end Issue

/-! ## VECTOR (R207) -/

section Vector

variable (o : AccObs) (c : SubCtx) (t : TDesc) (s : State)

/-- The flags of a VECTOR's second operand, which KV_MASK does not have (R345). -/
def vectorFlagsB (o : AccObs) (c : SubCtx) (t : TDesc) (s : State) : Nat × State :=
  if t.func = 0x40 then (0, s) else flagWord c.die t.bFlags o.spadUncorr s

theorem issueView_vectorFlagsB : issueView c.die (vectorFlagsB o c t s).2 = issueView c.die s := by
  unfold vectorFlagsB
  split
  · rfl
  · exact issueView_flagWord ..

theorem issueView_noteWrites (e due addr n : Nat) : issueView c.die (noteWrites e due addr n s) = issueView c.die s := by
  obtain ⟨hread, hseq⟩ := noteWrites_keeps c.die e due addr n s
  rw [issueView, hread, hseq, issueView]

/-- VECTOR schedules its record with the operands it has read; before that it only checks, reads and notes. -/
theorem vectorIssue_schedules : ∃ (a b : List (Nat × SWord)) (fl : Nat) (v : State),
    vectorIssue o c t s = later (c.cycle + 12) (.tensor (operandRec 11 c t o a b fl t.dFlags)) v ∧
      issueView c.die v = issueView c.die s := by
  let shape := vecShape t.func (fmtOf t.fmtA) (fmtOf t.fmtB) t.blocks
  let ok := vecFormats t.func t.fmtA t.fmtB t.blocks
  let checked := spadEcc c.die o.spadCorr o.spadUncorr s
  let reported := if ok then checked else
    descInvalid c.die (if fmtValid t.fmtA shape.fmtA then t.fmtB else t.fmtA) checked
  let xa := operandIf ok o c (tA t c) shape.a reported
  let xb := operandIf ok o c (tB t c) shape.b xa.2
  let ya := flagWord c.die t.aFlags o.spadUncorr xb.2
  let yb := vectorFlagsB o c t ya.2
  let noted := noteWrites c.die (c.cycle + 12) (tD t c) shape.d yb.2
  have hreported : quiet reported = quiet s := by
    simp only [reported, checked]
    split <;> simp
  refine ⟨xa.1, xb.1, ya.1 ||| yb.1, noted, rfl, ?_⟩
  calc issueView c.die noted
    _ = issueView c.die yb.2 := issueView_noteWrites ..
    _ = issueView c.die ya.2 := issueView_vectorFlagsB ..
    _ = issueView c.die xb.2 := issueView_flagWord ..
    _ = issueView c.die xa.2 := issueView_operandIf ..
    _ = issueView c.die reported := issueView_operandIf ..
    _ = issueView c.die s := issueView_of_quiet _ hreported

end Vector

/-- VECTOR carried by the issued bundle. -/
theorem exec_vector {i : Issued} {d : TDesc} {s : State} (dt : Nat) (die : Luna) (o : AccObs) (hs : Clocked s)
    (h : CarriesTensor i die 11 d s) : ∃ t, exec (.vector dt die o) s = .next t ∧ TensorIssued i die 11 12 d s t := by
  obtain ⟨a, b, fl, v, hscheduled, hview⟩ := vectorIssue_schedules o (ctxOf i die 1) d (issueState i dt die 1 s)
  refine ⟨_, act_tensorIssue hs h dt (vectorIssue o), ?_⟩
  rw [hscheduled]
  exact tensorIssued_later dt die hview 11 12 o a b fl d.dFlags

/-- Settles O8: CLEAR and EXT_INIT only schedule their record; VECTOR first reads its operands, which changes
neither accumulators nor memory. -/
theorem tensorClearIssue : Obligations.TensorClearIssue := by
  unfold Obligations.TensorClearIssue
  refine ⟨?clear, ?extInit, ?vector⟩
  case clear => exact fun dt die s i d hs h => act_initIssue dt die 2 hs h
  case extInit => exact fun dt die s i d hs h => act_initIssue dt die 9 hs h
  case vector => exact fun dt die o s i d hs h => exec_vector dt die o hs h

end Sys2Proof.Machine

/-! PROOFS of the family 07_bundle_stream. The sequencer's compare points, END, timeouts and halting (R238, R261 to R273),
ring and window operations as they issue (R290, R306), and transfers as they are issued, start and complete (R252 to
R258). -/

namespace Sys2Proof.Machine

open Sys2Proof.Map

/-! ## What work leaves alone of time and of the sequencer -/

/-- Time, and the sequencer but for what completions, events and effects change of it: tags, the step's error, the stop
of issue and the list of effects. -/
def streamView (s : State) : Clock × Seq :=
  (s.clk, { s.seq with tags := [], stepError := false, fatal := none, effects := [] })

/-- Between two states time and the stream of bundles stay, and issue that a FATAL event has stopped stays stopped by
it (R272). -/
structure KeepsStream (s t : State) : Prop where
  view : streamView t = streamView s
  fatal : ∀ code, s.seq.fatal = some code → t.seq.fatal = some code

section Keeps

variable {s t u : State}

theorem KeepsStream.refl (s : State) : KeepsStream s s := ⟨rfl, fun _ h => h⟩

theorem KeepsStream.trans (h : KeepsStream s t) (h' : KeepsStream t u) : KeepsStream s u :=
  ⟨h'.view.trans h.view, fun code hcode => h'.fatal code (h.fatal code hcode)⟩

/-- Work that touches neither time nor the sequencer. -/
theorem KeepsStream.after_same (h : KeepsStream s t) (hclk : u.clk = t.clk) (hseq : u.seq = t.seq) : KeepsStream s u :=
  h.trans ⟨by rw [streamView, streamView, hclk, hseq], fun code hcode => by rw [hseq, hcode]⟩

theorem KeepsStream.after_log (h : KeepsStream s t) (l : Log) : KeepsStream s { t with log := l } := h.after_same rfl rfl

theorem KeepsStream.after_mem (h : KeepsStream s t) (m : Mem) : KeepsStream s { t with mem := m } := h.after_same rfl rfl

theorem KeepsStream.after_tensor (h : KeepsStream s t) (x : Tensor) : KeepsStream s { t with tensor := x } :=
  h.after_same rfl rfl

theorem KeepsStream.after_ite {p : Prop} [Decidable p] (h : KeepsStream s t) (h' : KeepsStream s u) :
    KeepsStream s (if p then t else u) := by
  split
  · exact h
  · exact h'

theorem KeepsStream.after_foldl {α : Type} {f : State → α → State} (h : KeepsStream s t)
    (hf : ∀ u x, KeepsStream u (f u x)) (l : List α) : KeepsStream s (l.foldl f t) := by
  induction l generalizing t with
  | nil => exact h
  | cons x l ih => exact ih (h.trans (hf t x))

theorem KeepsStream.after_inClass {f : State → State} (h : KeepsStream s t) (c : Nat) (hf : ∀ u, KeepsStream u (f u)) :
    KeepsStream s (inClass c f t) :=
  have hclassed : KeepsStream s (classed c t) := h.after_log _
  (hclassed.trans (hf _)).after_log _

/-! ### Counting and raising -/

theorem KeepsStream.after_bump (h : KeepsStream s t) (a n : Nat) : KeepsStream s (bump a n t) := h.after_same rfl rfl

theorem KeepsStream.after_collect (h : KeepsStream s t) (code key n : Nat) : KeepsStream s (collect code key n t) :=
  h.after_same rfl rfl

/-- Of the sequencer an event changes the stop of issue alone. -/
theorem seq_raise (page code detail : Nat) (s : State) : (raise page code detail s).seq =
    { s.seq with fatal := (raise page code detail s).seq.fatal } := raiseFor_seq ..

/-- An event stops issue only where nothing has stopped it yet (R272). -/
theorem KeepsStream.after_raise (h : KeepsStream s t) (page code detail : Nat) :
    KeepsStream s (raise page code detail t) := by
  refine h.trans ⟨?_, fun c hc => ?_⟩
  · rw [streamView, seq_raise, raise_clk]
    rfl
  · rw [raise, raiseFor_fatal, hc]
    simp

theorem KeepsStream.after_spadEcc (h : KeepsStream s t) (d corr : Nat) (bad : List Nat) :
    KeepsStream s (spadEcc d corr bad t) :=
  (h.after_ite ((h.after_bump ..).after_collect ..)).after_foldl
    (fun u _ => ((KeepsStream.refl u).after_bump ..).after_raise ..) bad

theorem KeepsStream.after_ringError (h : KeepsStream s t) (d r n : Nat) (overrun : Bool) :
    KeepsStream s (ringError d r n overrun t) :=
  h.after_ite (((h.after_bump ..).after_collect ..).after_ite ((h.after_bump ..).after_collect ..))

theorem KeepsStream.after_reportBreaks (h : KeepsStream s t) (d : Nat) (bs : List (Nat × Nat)) (write : Bool) :
    KeepsStream s (reportBreaks d bs write t) :=
  h.after_foldl (fun u _ => (KeepsStream.refl u).after_ringError ..) bs

theorem KeepsStream.after_fmtCount (h : KeepsStream s t) (die code counter n first : Nat) :
    KeepsStream s (fmtCount die code counter n first t) := by
  unfold fmtCount collectFirst
  have hbumped : KeepsStream s (bump counter n t) := h.after_bump ..
  exact h.after_ite (KeepsStream.after_collect (hbumped.after_ite (hbumped.after_log _)) ..)

theorem KeepsStream.after_countReading (h : KeepsStream s t) (die : Nat) (r : Reading) :
    KeepsStream s (countReading die r t) :=
  (h.after_foldl (fun u _ => (KeepsStream.refl u).after_fmtCount ..) r.kinds).after_fmtCount ..

/-! ### Words, rings and windows -/

theorem KeepsStream.after_spadPut (h : KeepsStream s t) (d w : Nat) (x : SWord) : KeepsStream s (spadPut d w x t) :=
  KeepsStream.after_ite (h.after_mem _) h

theorem KeepsStream.after_schedWrite (h : KeepsStream s t) (c d w : Nat) (x : SWord) :
    KeepsStream s (schedWrite c d w x t) := (h.after_reportBreaks ..).after_spadPut ..

theorem KeepsStream.after_orFlags (h : KeepsStream s t) (d w fl : Nat) (bad : Bool) :
    KeepsStream s (orFlags d w fl bad t) := (h.after_reportBreaks ..).after_spadPut ..

theorem KeepsStream.after_ringPublish (h : KeepsStream s t) (d r : Nat) : KeepsStream s (ringPublish d r t) := by
  unfold ringPublish
  split
  · exact h
  · exact KeepsStream.after_ite ((h.after_mem _).after_ringError ..) (h.after_mem _)

theorem KeepsStream.after_ringRelease (h : KeepsStream s t) (d r : Nat) : KeepsStream s (ringRelease d r t) :=
  KeepsStream.after_ite (h.after_ringError ..) (h.after_mem _)

theorem KeepsStream.after_winOpen (h : KeepsStream s t) (d w : Nat) (bad : List Nat) :
    KeepsStream s (winOpen d w bad t) := by
  unfold winOpen
  refine KeepsStream.after_ite (h.after_raise ..) ?_
  dsimp only
  split
  · exact (h.after_spadEcc ..).after_raise ..
  · exact (h.after_spadEcc ..).after_mem _

theorem KeepsStream.after_winClose (h : KeepsStream s t) (d w : Nat) : KeepsStream s (winClose d w t) :=
  KeepsStream.after_ite (h.after_mem _) (h.after_raise ..)

/-! ### Accumulators -/

theorem KeepsStream.after_setAcc (h : KeepsStream s t) (d i : Nat) (a : Acc) : KeepsStream s (setAcc d i a t) :=
  KeepsStream.after_ite (h.after_tensor _) h

theorem KeepsStream.after_closeCycle (h : KeepsStream s t) : KeepsStream s (closeCycle t) :=
  (h.after_tensor _).after_foldl (fun u _ => (KeepsStream.refl u).after_raise ..) _

theorem KeepsStream.after_enterCycle (h : KeepsStream s t) (c : Nat) : KeepsStream s (enterCycle c t) :=
  h.after_ite (h.after_closeCycle.after_tensor _)

theorem KeepsStream.after_noteChunk (h : KeepsStream s t) (d i : Nat) : KeepsStream s (noteChunk d i t) := by
  have hcounted : KeepsStream s (chunkCounted d i t) := h.after_tensor _
  unfold noteChunk
  exact h.after_ite (hcounted.after_ite
    ((hcounted.after_ite (hcounted.after_bump ..)).after_setAcc ..))

theorem KeepsStream.after_accOrder (h : KeepsStream s t) (d i kseq : Nat) : KeepsStream s (accOrder d i kseq t) := by
  have hwrong (p : Prop) [Decidable p] (detail : Nat) : KeepsStream s (if p then
      raise (tensorPage d) Evt.ACC_ORDER detail (bump (tensorReg d 0x110) 1 t) else t) :=
    KeepsStream.after_ite ((h.after_bump ..).after_raise ..) h
  unfold accOrder
  exact KeepsStream.after_ite (h.after_ite (h.after_setAcc ..))
    (KeepsStream.after_ite ((hwrong ..).after_setAcc ..) ((((hwrong ..).after_setAcc ..).after_bump ..).after_raise ..))

theorem KeepsStream.after_takeAdd (h : KeepsStream s t) (d : Nat) : KeepsStream s (takeAdd d t).2 := h.after_tensor _

theorem KeepsStream.after_accAdd (h : KeepsStream s t) (d i : Nat) (e : Elem) (kseq fl : Nat) :
    KeepsStream s (accAdd d i e kseq fl t) := by
  have htaken : KeepsStream s (takeAdd d t).2 := h.after_takeAdd d
  unfold accAdd
  refine KeepsStream.after_ite h (KeepsStream.after_ite ?_ (KeepsStream.after_ite ?_ ?_))
  · exact ((htaken.after_setAcc ..).after_bump ..).after_collect ..
  · exact (((((htaken.after_noteChunk ..).after_raise ..).after_setAcc ..).after_setAcc ..).after_accOrder ..)
  · exact ((htaken.after_noteChunk ..).after_accOrder ..).after_setAcc ..

theorem KeepsStream.after_accClear (h : KeepsStream s t) (d i : Nat) : KeepsStream s (accClear d i t) :=
  (h.after_setAcc ..).after_noteChunk ..

theorem KeepsStream.after_accPreload (h : KeepsStream s t) (d i : Nat) (e : Elem) (fl : Nat) :
    KeepsStream s (accPreload d i e fl t) := (h.after_setAcc ..).after_noteChunk ..

theorem KeepsStream.after_accExtInit (h : KeepsStream s t) (d i mode : Nat) : KeepsStream s (accExtInit d i mode t) :=
  ((h.after_setAcc ..).after_setAcc ..).after_noteChunk ..

theorem KeepsStream.after_accExtChunk (h : KeepsStream s t) (d i : Nat) (es : List Elem) (kseq fl : Nat)
    (invalid : Bool) : KeepsStream s (accExtChunk d i es kseq fl invalid t) := by
  have htaken : KeepsStream s (takeAdd d t).2 := h.after_takeAdd d
  have hordered : ∀ a, KeepsStream s (accOrder d a kseq (noteChunk d a (takeAdd d t).2)) := fun a =>
    (htaken.after_noteChunk ..).after_accOrder ..
  unfold accExtChunk
  refine KeepsStream.after_ite h (KeepsStream.after_ite ?_ (KeepsStream.after_ite ?_ (KeepsStream.after_ite ?_ ?_)))
  · exact ((htaken.after_setAcc ..).after_bump ..).after_collect ..
  · exact (((((htaken.after_noteChunk ..).after_raise ..).after_setAcc ..).after_setAcc ..).after_accOrder ..)
  · exact (hordered _).after_setAcc ..
  · dsimp only
    split
    · exact (hordered _).after_setAcc ..
    · exact ((hordered _).after_setAcc ..).after_setAcc ..

theorem KeepsStream.after_accRestore (h : KeepsStream s t) (d i : Nat) (img : Option Bytes) :
    KeepsStream s (accRestore d i img t) := by
  unfold accRestore
  split
  exact KeepsStream.after_ite (h.after_setAcc ..) (((h.after_setAcc ..).after_bump ..).after_raise ..)

theorem KeepsStream.after_accFile (h : KeepsStream s t) (d : Nat) (o : AccObs) : KeepsStream s (accFile d o t) :=
  (h.after_ite ((h.after_bump ..).after_collect ..)).after_foldl
    (fun u _ => ((KeepsStream.refl u).after_setAcc ..).after_raise ..) _

theorem KeepsStream.after_accResidue (h : KeepsStream s t) (d : Nat) (o : AccObs) : KeepsStream s (accResidue d o t) :=
  h.after_foldl (fun u _ => (((KeepsStream.refl u).after_setAcc ..).after_bump ..).after_raise ..) _

/-! ### Effects that come due (R224, R262) -/

theorem KeepsStream.after_vectorDone (h : KeepsStream s t) (x : TensorOp) : KeepsStream s (vectorDone x t) := by
  unfold vectorDone
  extract_lets clean n put
  have hput (ws : List SWord) (fl : Nat) {u : State} (hu : KeepsStream s u) : KeepsStream s (put ws fl u) :=
    KeepsStream.after_orFlags (hu.after_foldl (fun u _ => (KeepsStream.refl u).after_schedWrite ..) _) ..
  refine KeepsStream.after_ite (hput _ _ h) (KeepsStream.after_ite ?_ (KeepsStream.after_ite ?_ ?_))
  · exact hput _ _ (h.after_fmtCount ..)
  · exact hput _ _ ((h.after_foldl (fun u _ => (KeepsStream.refl u).after_countReading ..) _).after_countReading ..)
  · exact hput _ _ (h.after_same rfl rfl)

theorem KeepsStream.after_tensorDone (h : KeepsStream s t) (x : TensorOp) : KeepsStream s (tensorDone x t) := by
  have hentered : ∀ c, KeepsStream s (enterCycle c (accFile x.die x.obs t)) := fun c =>
    (h.after_accFile ..).after_enterCycle c
  unfold tensorDone
  refine KeepsStream.after_ite (h.after_vectorDone x) (KeepsStream.after_accResidue (KeepsStream.after_ite ?matmul ?other) ..)
  case matmul =>
    exact KeepsStream.after_foldl (((hentered _).after_countReading ..).after_countReading ..)
      (fun u _ => (KeepsStream.refl u).after_accAdd ..) _
  case other =>
    refine KeepsStream.after_ite ?clear (KeepsStream.after_ite ?init (KeepsStream.after_ite ?restore
      (KeepsStream.after_ite ?preload (KeepsStream.after_ite ?add ?chunk))))
    case clear => exact (hentered _).after_foldl (fun u _ => (KeepsStream.refl u).after_accClear ..) _
    case init => exact (hentered _).after_foldl (fun u _ => (KeepsStream.refl u).after_accExtInit ..) _
    case restore => exact (hentered _).after_foldl (fun u _ => (KeepsStream.refl u).after_accRestore ..) _
    all_goals refine KeepsStream.after_foldl ((hentered _).after_countReading ..) (fun u _ => ?_) _
    case preload => exact (KeepsStream.refl u).after_accPreload ..
    case add => exact (KeepsStream.refl u).after_accAdd ..
    case chunk => exact (KeepsStream.refl u).after_accExtChunk ..

theorem KeepsStream.after_writeDone (h : KeepsStream s t) (due : Nat) (w : WriteOp) :
    KeepsStream s (writeDone due w t) := by
  have hwritten (ws : List (Nat × Option DWord)) (word : Nat × Option DWord → SWord) :
      KeepsStream s (ws.foldl (fun s e => schedWrite (due - 1) w.die (w.addr + e.1) (word e) s) t) :=
    h.after_foldl (fun u _ => (KeepsStream.refl u).after_schedWrite ..) ws
  unfold writeDone
  dsimp only
  split
  · exact hwritten ..
  · exact (hwritten ..).after_orFlags ..

theorem KeepsStream.after_applyEffect (h : KeepsStream s t) (due : Nat) (e : Effect) :
    KeepsStream s (applyEffect due e t) := by
  cases e with
  | window d w opening bad => exact KeepsStream.after_ite (h.after_winOpen ..) (h.after_winClose ..)
  | ring d r publish => exact KeepsStream.after_ite (h.after_ringPublish ..) (h.after_ringRelease ..)
  | flagClear d a => exact h.after_schedWrite ..
  | tensor x => exact h.after_inClass _ fun u => (KeepsStream.refl u).after_tensorDone x
  | write w => exact h.after_writeDone due w
  | accChunks d cs o =>
    exact KeepsStream.after_accResidue (((h.after_accFile ..).after_enterCycle _).after_foldl
      (fun u _ => (KeepsStream.refl u).after_accAdd ..) cs) ..
  | stageChunks d cs flagAddr flagBad =>
    exact KeepsStream.after_orFlags (h.after_foldl (fun u _ => (KeepsStream.refl u).after_schedWrite ..) cs) ..

theorem KeepsStream.after_bankClash (h : KeepsStream s t) (k n : Nat) : KeepsStream s (bankClash k n t) :=
  (h.after_mem _).after_raise ..

theorem KeepsStream.after_closeAccess (h : KeepsStream s t) (c : Nat) : KeepsStream s (closeAccess c t) :=
  KeepsStream.after_foldl ((h.after_mem _).after_foldl (fun u _ => (KeepsStream.refl u).after_bump ..) _)
    (fun u _ => (KeepsStream.refl u).after_bankClash ..) _

theorem KeepsStream.after_applyDue (h : KeepsStream s t) (es : List (Nat × Effect)) :
    KeepsStream s (applyDue es t) := by
  induction es generalizing t with
  | nil => exact h
  | cons e es ih => exact ih ((h.after_closeAccess e.1).after_applyEffect e.1 e.2)

/-- Effects that are taken off the list to be applied. -/
theorem KeepsStream.after_effects (h : KeepsStream s t) (es : List (Nat × Effect)) :
    KeepsStream s { t with seq := { t.seq with effects := es } } := h.trans ⟨rfl, fun _ hcode => hcode⟩

/-- What an issue cycle brings into effect leaves time and the stream of bundles alone (R262). -/
theorem KeepsStream.after_reachCycle (h : KeepsStream s t) (c : Nat) : KeepsStream s (reachCycle c t) := by
  have happlied := ((h.after_effects (t.seq.effects.filter (fun e => decide (c < e.1)))).after_applyDue
    (sortDue (t.seq.effects.filter (fun e => decide (e.1 ≤ c))))).after_closeAccess c
  exact KeepsStream.after_ite happlied.after_closeCycle happlied

/-- So does issued work that drains (R272). -/
theorem KeepsStream.after_drain (h : KeepsStream s t) : KeepsStream s (drain t) :=
  ((((h.after_effects []).after_applyDue (sortDue t.seq.effects)).after_closeAccess _).after_closeCycle)

/-! ### Compare points, and completions seen at them (R259, R263) -/

theorem KeepsStream.after_publish (h : KeepsStream s t) (die th : Nat) (x : Xfer) : KeepsStream s (publish die th x t) := by
  have htag (u : State) (k : Nat) (y : Tag) : KeepsStream u (setTag k y u) := ⟨rfl, fun _ hcode => hcode⟩
  have herror (u : State) : KeepsStream u { u with seq := { u.seq with stepError := true } } := ⟨rfl, fun _ hcode => hcode⟩
  have hevent (u : State) (index st side : Nat) : KeepsStream u (statusEvent die th index st side u) :=
    KeepsStream.after_ite (((KeepsStream.refl u).after_bump ..).after_collect ..)
      (KeepsStream.after_ite ((KeepsStream.refl u).after_raise ..)
        (KeepsStream.after_ite ((KeepsStream.refl u).after_raise ..) (KeepsStream.refl u)))
  unfold publish
  refine h.after_inClass _ fun u => ?_
  have hadvanced : KeepsStream u (tagAdvance (dTag x.desc.bytes) (freeThread die th
      (statusEvent die th x.desc.index x.status x.side u))) := ((hevent u ..).after_mem _).trans (htag ..)
  refine KeepsStream.after_ite (KeepsStream.after_bump ?_ ..) hadvanced
  exact (hadvanced.trans (htag ..)).trans (herror _)

theorem streamView_zeroLens (s : State) : streamView (zeroLens s) = streamView s :=
  ((KeepsStream.refl s).after_foldl (fun u _ => (KeepsStream.refl u).after_publish ..) _).view

theorem streamView_evalGates (s : State) : streamView (evalGates s) = streamView s := by
  have hsettled : streamView (settle false s) = streamView s := (congrArg streamView (quiet_settle false s) :)
  exact hsettled

end Keeps
end Sys2Proof.Machine

namespace Sys2Proof.Machine

open Sys2Proof.Map

/-! ## A compare point (R263) -/

/-- Compare point `k` of state `s` has come: it is counted, and neither time nor the issue cycle has passed. -/
structure PointReached (k : Nat) (s u : State) : Prop where
  clk : u.clk = s.clk
  issued : u.seq.issued = s.seq.issued
  cycle : u.seq.cycle = s.seq.cycle
  points : u.seq.points = k + 1

section Point

variable {s t u : State} {o : IssueObs} {h : Held} {k len : Nat}

theorem PointReached.keeps (hk : PointReached k s t) (hview : streamView u = streamView t) : PointReached k s u where
  clk := (congrArg (fun v => v.1) hview :).trans hk.clk
  issued := (congrArg (fun v => v.2.issued) hview :).trans hk.issued
  cycle := (congrArg (fun v => v.2.cycle) hview :).trans hk.cycle
  points := (congrArg (fun v => v.2.points) hview :).trans hk.points

theorem pointReached_reachPoint (k : Nat) (s : State) : PointReached k s (reachPoint k s) := by
  have hview : streamView (evalGates (zeroLens s)) = streamView s :=
    (streamView_evalGates _).trans (streamView_zeroLens s)
  exact ⟨(congrArg (fun v => v.1) hview :), (congrArg (fun v => v.2.issued) hview :),
    (congrArg (fun v => v.2.cycle) hview :), rfl⟩

theorem keepsStream_lateStart (h : Held) (k : Nat) (s : State) : KeepsStream s (lateStart h k s) :=
  KeepsStream.after_ite ((KeepsStream.refl s).after_raise ..) (KeepsStream.refl s)

/-- The state in which the bundle's stall causes are asked for. -/
theorem pointReached_lateStart (h : Held) (len k : Nat) (s : State) :
    PointReached k s (lateStart h k (bundleAt h len (reachPoint k s))) := by
  obtain ⟨hclk, hissued, hcycle, hpoints⟩ := pointReached_reachPoint k s
  have htaken : PointReached k s (bundleAt h len (reachPoint k s)) := ⟨hclk, hissued, hcycle, hpoints⟩
  exact htaken.keeps (keepsStream_lateStart ..).view

/-- A bundle is at hand, and nothing stops its issue. -/
theorem comparePoint_bundle (hk : pointNow s = some k) (hfatal : (reachPoint k s).seq.fatal = none)
    (hat : atPoint (reachPoint k s) o = some (some (h, len)))
    (hclean : o.decompBad = false ∨ (reachPoint k s).seq.held.isSome = true) :
    comparePoint o s = testBundle o h k (bundleAt h len (reachPoint k s)) := by
  have hdecomp : (o.decompBad && (reachPoint k s).seq.held.isNone) = false := by
    rcases hclean with hgood | hheld
    · rw [hgood, Bool.false_and]
    · rw [← Option.not_isSome, hheld]
      exact Bool.and_false _
  simp only [comparePoint, hk, hat, hdecomp, Bool.false_eq_true, if_false, hfatal, Option.isSome_none]

/-- No record is there yet (R269). -/
theorem comparePoint_noRecord (hk : pointNow s = some k) (hat : atPoint (reachPoint k s) o = none) :
    ∃ cause, comparePoint o s =
      collect Evt.SEQ_FETCH_STALL 0 1 (countStall (cause ++ [7]) 0 (reachPoint k s)) := by
  refine ⟨if (reachPoint k s).seq.split = 0 then [] else [1], ?_⟩
  simp only [comparePoint, hk, hat]

/-! ### The bundle stalls -/

theorem countStall_seq (causes : List Nat) (cls : Nat) (s : State) : ∃ split,
    (countStall causes cls s).seq = { s.seq with split := split, stall := causes.foldl min 7 } := by
  refine ⟨if causes.contains 1 then s.seq.split - 1 else s.seq.split, ?_⟩
  simp only [countStall, holdStarts]
  split_ifs <;> simp

/-- A cause that is neither the split, a wait nor a gate counts as another (R274). -/
theorem countStall_other {causes : List Nat} (hother : causes.contains 7 = true) (cls : Nat) (s : State) :
    reg (countStall causes cls s) Reg.SEQ_STALL_OTHER_COUNT = satAdd (reg s Reg.SEQ_STALL_OTHER_COUNT) 1 := by
  have hsplit : Reg.SEQ_STALL_OTHER_COUNT ≠ Reg.SEQ_STALL_SPLIT_COUNT := by decide
  have hwait : Reg.SEQ_STALL_OTHER_COUNT ≠ Reg.SEQ_STALL_WAIT_COUNT := by decide
  have hgate : Reg.SEQ_STALL_OTHER_COUNT ≠ Reg.SEQ_STALL_GATE_COUNT := by decide
  simp only [countStall, holdStarts, hother, Bool.or_true, if_true, reg_mk, readReg_regs, reg_bump_same]
  congr 1
  split_ifs <;> simp [reg_bump_other hsplit, reg_bump_other hwait, reg_bump_other hgate]

/-- The held bundle with the causes of a compare point counted (R265). -/
def heldLonger (x : Stalls) (h : Held) : Held :=
  { h with waitHeld := h.waitHeld + one (x.wait != 0), quiesceHeld := h.quiesceHeld + one x.quiesce,
           ringHeld := h.ringHeld + one x.ring.isSome }

theorem testBundle_stalls {x : Stalls} (hu : lateStart h k s = u) (hx : stallsAt u (reachCycle u.seq.cycle u) o h = x)
    (hcauses : x.causes ≠ []) : ∃ (split : Nat) (due : Option (Nat × Nat)), (testBundle o h k s).seq =
      { u.seq with
        split := split, stall := x.causes.foldl min 7, held := some (heldLonger x h), timeoutDue := due } := by
  obtain ⟨split, hseq⟩ := countStall_seq x.causes (bClass h.bundle) u
  refine ⟨split, timeoutOf (countStall x.causes (bClass h.bundle) u) (heldLonger x h) x.wait x.quiesce x.ring, ?_⟩
  have hsome : x.causes.isEmpty = false := by simpa using hcauses
  simp only [testBundle, hu, hx, hsome, Bool.false_eq_true, if_false, hseq]
  rfl

/-! ### The bundle issues -/

theorem keepsStream_invalidFields (i : Issued) (s : State) : KeepsStream s (invalidFields i s) := by
  unfold invalidFields
  refine KeepsStream.after_foldl ?header (fun u e => ?field) allSubs
  case header =>
    split
    · exact (KeepsStream.refl s).after_raise ..
    · exact KeepsStream.refl s
  dsimp only
  refine KeepsStream.after_ite ?_ (KeepsStream.refl u)
  split
  · exact (KeepsStream.refl u).after_raise ..
  · exact KeepsStream.after_ite ((KeepsStream.refl u).after_raise ..) (KeepsStream.refl u)

/-- The repetition that is held once a bundle has issued (R245). -/
def nextHeld (h : Held) : Option Held :=
  if h.rep < bRepeat h.bundle then some { h with rep := h.rep + 1, waitHeld := 0, quiesceHeld := 0, ringHeld := 0 } else none

theorem issueBundle_issues (o : IssueObs) (h : Held) (s : State) : ∃ i, (issueBundle o h s).seq.issued = some i ∧
    i.bundle = h.bundle ∧ i.rep = h.rep ∧ i.cycle = s.seq.cycle ∧ i.done = [] ∧
    (issueBundle o h s).seq.cycle = s.seq.cycle + 1 ∧ (issueBundle o h s).seq.arrival = some (s.clk.now + 1) ∧
    (issueBundle o h s).seq.points = 0 ∧ (issueBundle o h s).seq.held = nextHeld h := by
  unfold issueBundle
  extract_lets bad i corrected uncorrected parity checked q
  have hcorrected : KeepsStream s corrected :=
    (KeepsStream.refl s).after_foldl (fun u _ => (KeepsStream.refl u).after_spadEcc ..) _
  have huncorrected : KeepsStream s uncorrected :=
    hcorrected.after_foldl (fun u _ => (KeepsStream.refl u).after_spadEcc ..) _
  have hparity : KeepsStream s parity :=
    huncorrected.after_foldl (fun u _ => (KeepsStream.refl u).after_raise ..) _
  have hchecked : streamView checked = streamView s := (hparity.trans (keepsStream_invalidFields i parity)).view
  have hcycle : checked.seq.cycle = s.seq.cycle := (congrArg (fun v => v.2.cycle) hchecked :)
  have hnow : checked.clk.now = s.clk.now := (congrArg (fun v => v.1.now) hchecked :)
  rw [bump64_seq]
  exact ⟨i, rfl, rfl, rfl, rfl, rfl, congrArg (· + 1) hcycle, congrArg (fun n => some (n + 1)) hnow, rfl, rfl⟩

theorem testBundle_issues (hu : lateStart h k s = u) (hcauses : (stallsAt u (reachCycle u.seq.cycle u) o h).causes = []) :
    testBundle o h k s = issueBundle o h (reachCycle u.seq.cycle u) := by
  simp only [testBundle, hu, hcauses, List.isEmpty_nil, if_true]

end Point

/-! ## BUNDLE_COMPARE_POINT, END and SEQ_WAIT_TIMEOUT (R263, R265, R270) -/

section Exec

variable {s : State} {dt : Nat} {o : IssueObs} {h : Held} {k len : Nat}

theorem exec_comparePoint (hs : Clocked s) (hmay : mayIssue (advance dt s) = true) :
    exec (.bundleComparePoint dt o) s = .next { comparePoint o (advance dt s) with pending := s.pending } := by
  refine (act_on hs dt _).trans ?_
  simp only [hmay, if_true]

theorem exec_comparePoint_bundle (hs : Clocked s) (hmay : mayIssue (advance dt s) = true)
    (hk : pointNow (advance dt s) = some k) (hfatal : (reachPoint k (advance dt s)).seq.fatal = none)
    (hat : atPoint (reachPoint k (advance dt s)) o = some (some (h, len)))
    (hclean : o.decompBad = false ∨ (reachPoint k (advance dt s)).seq.held.isSome = true) :
    let u := lateStart h k (bundleAt h len (reachPoint k (advance dt s)))
    ((stallsAt u (reachCycle u.seq.cycle u) o h).causes = [] →
      ∃ t i, exec (.bundleComparePoint dt o) s = .next t ∧ t.seq.issued = some i ∧ i.bundle = h.bundle ∧
        i.rep = h.rep ∧ i.cycle = s.seq.cycle ∧ i.done = [] ∧ t.seq.cycle = s.seq.cycle + 1 ∧
        t.seq.arrival = some (s.clk.now + dt + 1) ∧ t.seq.points = 0 ∧
        t.seq.held.map (fun x => (x.bundle, x.rep)) =
          if h.rep < bRepeat h.bundle then some (h.bundle, h.rep + 1) else none) ∧
    ((stallsAt u (reachCycle u.seq.cycle u) o h).causes ≠ [] →
      ∃ t, exec (.bundleComparePoint dt o) s = .next t ∧ t.seq.issued = s.seq.issued ∧
        t.seq.cycle = s.seq.cycle ∧ t.seq.points = k + 1 ∧
        t.seq.held.map (fun x => (x.bundle, x.rep)) = some (h.bundle, h.rep) ∧
        t.seq.stall = (stallsAt u (reachCycle u.seq.cycle u) o h).causes.foldl min 7) := by
  intro u
  have hexec := exec_comparePoint (o := o) hs hmay
  rw [comparePoint_bundle hk hfatal hat hclean] at hexec
  obtain ⟨hclk, hissued, hcycle, hpoints⟩ := pointReached_lateStart h len k (advance dt s)
  rw [advance_seq] at hissued hcycle
  refine ⟨fun hcauses => ?issues, fun hcauses => ?stalls⟩
  case issues =>
    rw [testBundle_issues rfl hcauses] at hexec
    obtain ⟨i, hi, hbundle, hrep, hat, hdone, hnext, harrival, hzero, hheld⟩ :=
      issueBundle_issues o h (reachCycle u.seq.cycle u)
    have hreached : PointReached k (advance dt s) (reachCycle u.seq.cycle u) :=
      (pointReached_lateStart h len k (advance dt s)).keeps ((KeepsStream.refl u).after_reachCycle _).view
    have hcycle' : (reachCycle u.seq.cycle u).seq.cycle = s.seq.cycle := hreached.cycle.trans (by rw [advance_seq])
    have hnow : (reachCycle u.seq.cycle u).clk.now = s.clk.now + dt := by rw [hreached.clk, advance_now]
    rw [hcycle'] at hat hnext
    rw [hnow] at harrival
    refine ⟨_, i, hexec, ?_⟩
    dsimp only
    refine ⟨hi, hbundle, hrep, hat, hdone, hnext, harrival, hzero, ?_⟩
    rw [hheld]
    unfold nextHeld
    split <;> rfl
  case stalls =>
    obtain ⟨split, due, hseq⟩ := testBundle_stalls (u := u) rfl rfl hcauses
    refine ⟨_, hexec, ?_⟩
    dsimp only
    rw [hseq]
    exact ⟨hissued, hcycle, hpoints, rfl, rfl⟩

theorem exec_comparePoint_noRecord (hs : Clocked s) (hmay : mayIssue (advance dt s) = true)
    (hk : pointNow (advance dt s) = some k) (hat : atPoint (reachPoint k (advance dt s)) o = none) :
    ∃ t, exec (.bundleComparePoint dt o) s = .next t ∧ t.seq.issued = s.seq.issued ∧ t.seq.cycle = s.seq.cycle ∧
      t.seq.points = k + 1 ∧
      reg t Reg.SEQ_STALL_OTHER_COUNT = satAdd (reg (reachPoint k (advance dt s)) Reg.SEQ_STALL_OTHER_COUNT) 1 := by
  obtain ⟨cause, hpoint⟩ := comparePoint_noRecord (o := o) hk hat
  obtain ⟨split, hseq⟩ := countStall_seq (cause ++ [7]) 0 (reachPoint k (advance dt s))
  obtain ⟨hclk, hissued, hcycle, hpoints⟩ := pointReached_reachPoint k (advance dt s)
  rw [advance_seq] at hissued hcycle
  have hother : (cause ++ [7]).contains 7 = true := by simp
  refine ⟨_, exec_comparePoint hs hmay, ?_⟩
  rw [hpoint]
  dsimp only
  rw [collect_seq, hseq]
  exact ⟨hissued, hcycle, hpoints, countStall_other hother 0 _⟩

/-- Between compare points, or where issue may not go on. -/
theorem exec_comparePoint_idle (o : IssueObs) (hs : Clocked s)
    (h : mayIssue (advance dt s) = false ∨ pointNow (advance dt s) = none) :
    exec (.bundleComparePoint dt o) s = .next (advance dt s) := by
  have hnothing : (if mayIssue (advance dt s) then comparePoint o (advance dt s) else advance dt s) = advance dt s := by
    rcases h with hmay | hpoint
    · rw [hmay]
      rfl
    · simp only [comparePoint, hpoint, ite_self]
  refine (act_on hs dt _).trans ?_
  rw [hnothing, advance_keeps_queue]

theorem exec_endProgram {i : Issued} (dt : Nat) (hs : Clocked s) (hi : Carries i 16 0 6 s) :
    exec (.endProgram dt) s = .next { advance dt s with
      seq := { s.seq with ending := true, issued := some (doneSub i 16 0) } } :=
  (act_withSub hs dt hi _).trans rfl

/-- The state in which a due timeout has been taken up (R265). -/
def timeoutTaken (dt : Nat) (s : State) : State :=
  { advance dt s with seq := { s.seq with timeoutDue := none } }

theorem exec_seqWaitTimeout {c x : Nat} {u : State} (dt : Nat) (hs : Clocked s) (hdue : s.seq.timeoutDue = some (c, x))
    (hheld : s.seq.held = some h) (hu : (if stillHeld (timeoutTaken dt s) h c then
        raise 1 Evt.SEQ_WAIT_TIMEOUT (timeoutDetail (timeoutTaken dt s) h c x) (timeoutTaken dt s)
      else timeoutTaken dt s) = u) : exec (.seqWaitTimeout dt) s = .next { u with pending := s.pending } := by
  have hexec : exec (.seqWaitTimeout dt) s = execSeqWaitTimeout dt s := rfl
  rw [hexec, execSeqWaitTimeout, act_on hs, advance_seq, hdue, hheld, ← hu]
  rfl

theorem exec_seqWaitTimeout_logs {c x : Nat} (dt : Nat) (hs : Clocked s) (hdue : s.seq.timeoutDue = some (c, x))
    (hheld : s.seq.held = some h) (hstill : stillHeld (timeoutTaken dt s) h c = true) :
    ∃ t, exec (.seqWaitTimeout dt) s = .next t ∧ t.seq.timeoutDue = none ∧ t.seq.held = some h ∧
      Logged 1 Evt.SEQ_WAIT_TIMEOUT (timeoutDetail (timeoutTaken dt s) h c x) s t ∧ SameRegsBut 1 [] s t ∧
      SameMemory s t := by
  obtain ⟨u, hu⟩ : ∃ u, raise 1 Evt.SEQ_WAIT_TIMEOUT (timeoutDetail (timeoutTaken dt s) h c x) (timeoutTaken dt s) = u :=
    ⟨_, rfl⟩
  have hraised := raisesEvent_raise (code := Evt.SEQ_WAIT_TIMEOUT) (by decide) 1
    (timeoutDetail (timeoutTaken dt s) h c x) (timeoutTaken dt s)
  have hseq := seq_raise 1 Evt.SEQ_WAIT_TIMEOUT (timeoutDetail (timeoutTaken dt s) h c x) (timeoutTaken dt s)
  rw [hu] at hraised hseq
  obtain ⟨hlogged, -, hregs, hmemory⟩ := hraised
  refine ⟨{ u with pending := s.pending }, exec_seqWaitTimeout dt hs hdue hheld ((if_pos hstill).trans hu), ?_⟩
  rw [hseq]
  exact ⟨rfl, hheld, hlogged, hregs, hmemory⟩

end Exec

/-- Settles O5: what a compare point does before it asks for the stall causes, and what an issue cycle brings into
effect, leaves time and the stream of bundles alone; the bundle then issues or its causes are counted. -/
theorem issueAndEnd : Obligations.IssueAndEnd := by
  unfold Obligations.IssueAndEnd
  refine ⟨?bundle, ?noRecord, ?idle, ?ends, ?timeout⟩
  case bundle => exact fun dt o s h len k hs hmay hk hfatal hat hclean => exec_comparePoint_bundle hs hmay hk hfatal hat hclean
  case noRecord => exact fun dt o s k hs hmay hk hat => exec_comparePoint_noRecord hs hmay hk hat
  case idle => exact fun dt o s hs h => exec_comparePoint_idle o hs h
  case ends => exact fun dt s i hs hi => exec_endProgram dt hs hi
  case timeout =>
    intro dt s c x h hs hdue hheld
    refine ⟨exec_seqWaitTimeout_logs dt hs hdue hheld, fun hstill => ?_⟩
    have hnot : stillHeld (timeoutTaken dt s) h c = false := hstill
    refine (exec_seqWaitTimeout dt hs hdue hheld (if_neg ?_)).trans rfl
    rw [hnot]
    exact Bool.false_ne_true

end Sys2Proof.Machine

namespace Sys2Proof.Machine

open Sys2Proof.Map

/-! ## RUN (R261, R273) -/

/-- The state whose SEQ_CONTROL holds the RUN that the host writes. -/
def runWritten (dt : Nat) (on : Bool) (s : State) : State := setFld Reg.SEQ_CONTROL 0 0 (one on) (advance dt s)

/-- Between two states RUN was written: the bit shows it, and memory stays. -/
structure ShowsRun (on : Bool) (s t : State) : Prop where
  shown : flag (reg t Reg.SEQ_CONTROL) 0 = on
  memory : SameMemory s t

section Run

variable {s t : State} {on : Bool} {p : Nat} {d : Program} (dt : Nat)

theorem exec_run (on : Bool) (hs : HostMay 1 s) :
    exec (.run dt on) s = .next { runWrite on (runWritten dt on s) with pending := s.pending } := by
  have hexec : exec (.run dt on) s = execRun dt on s := rfl
  rw [hexec, execRun, actHost_on hs]
  rfl

theorem showsRun_runWritten (dt : Nat) (on : Bool) (s : State) : ShowsRun on s (runWritten dt on s) where
  shown := by
    rw [runWritten, reg_setFld_same, flag_putFld (by decide) (le_refl 0) (le_refl 0)]
    cases on <;> rfl
  memory := .of_eq (by simp [runWritten]) (by simp [runWritten])

/-- The sequencer and the queue have no part in it. -/
theorem ShowsRun.after_seq (h : ShowsRun on s t) (q : Seq) : ShowsRun on s { t with seq := q } := ⟨h.shown, h.memory⟩

theorem ShowsRun.after_pending (h : ShowsRun on s t) (q : List Instr) : ShowsRun on s { t with pending := q } :=
  ⟨h.shown, h.memory⟩

/-- Nor has the interrupt of STOPPED. -/
theorem ShowsRun.after_msix (h : ShowsRun on s t) : ShowsRun on s (msix 3 t) where
  shown := by rw [reg_msix (by decide) (by decide), h.shown]
  memory := h.memory.trans (.of_eq (msix_mem ..) (by rw [msix_host]))

theorem runWrite_off_idle (h : s.seq.state = .idle) : runWrite false s =
    msix 3 { s with seq := { s.seq with run := false, state := .stopped, stall := 0 } } := if_pos h

theorem runWrite_off_busy (h : s.seq.state ≠ .idle) : runWrite false s = { s with seq := { s.seq with run := false } } :=
  if_neg h

/-- The state in which STOPPED has been left with RUN = 1 (R261). -/
def leftStopped (s : State) : State :=
  { s with seq := { s.seq with run := true, state := .idle, tags := rebase s.seq.tags } }

theorem runWrite_on_idle (hstopped : s.seq.state = .stopped) (hready : s.boot.state = .ready) (h : s.seq.chosen = none) :
    runWrite true s = leftStopped s := by
  simp only [runWrite, leaveStopped, leftStopped, hstopped, hready, h, if_true, and_self]

theorem runWrite_on_starts (hstopped : s.seq.state = .stopped) (hready : s.boot.state = .ready)
    (h : s.seq.chosen = some p) : runWrite true s = programStart p (leftStopped s) := by
  simp only [runWrite, leaveStopped, leftStopped, hstopped, hready, h, if_true, and_self]

theorem runWrite_on_stays (h : s.seq.state ≠ .stopped ∨ s.boot.state ≠ .ready) :
    runWrite true s = { s with seq := { s.seq with run := true } } := by
  have hstays : ¬ (s.seq.state = .stopped ∧ true = true ∧ s.boot.state = .ready) := fun ⟨hstopped, _, hready⟩ =>
    h.elim (· hstopped) (· hready)
  exact if_neg hstays

/-- A program that is found runs from its offset (R270). -/
theorem programStart_runs (h : programOf s p = some d) : (programStart p s).seq.state = .running ∧
    (programStart p s).seq.program = p ∧ (programStart p s).seq.next = d.offset ∧ (programStart p s).seq.cycle = 0 ∧
    (programStart p s).seq.chosen = none := by
  simp only [programStart, h, and_self]

theorem exec_run_off (hs : HostMay 1 s) : ∃ t, exec (.run dt false) s = .next t ∧ t.seq = { s.seq with
      run := false, state := if s.seq.state = .idle then .stopped else s.seq.state
      stall := if s.seq.state = .idle then 0 else s.seq.stall } ∧
    flag (reg t Reg.SEQ_CONTROL) 0 = false ∧ SameMemory s t := by
  obtain ⟨u, hu, hseq, hshown⟩ : ∃ u, runWritten dt false s = u ∧ u.seq = s.seq ∧ ShowsRun false s u :=
    ⟨_, rfl, rfl, showsRun_runWritten dt false s⟩
  have hexec := exec_run dt false hs
  rw [hu] at hexec
  by_cases hidle : s.seq.state = .idle
  · rw [runWrite_off_idle (by rw [hseq, hidle])] at hexec
    obtain ⟨hbit, hmemory⟩ := ((hshown.after_seq _).after_msix).after_pending s.pending
    refine ⟨_, hexec, ?_, hbit, hmemory⟩
    simp only [msix_seq, hseq, hidle, if_true]
  · rw [runWrite_off_busy (by rw [hseq]; exact hidle)] at hexec
    obtain ⟨hbit, hmemory⟩ := (hshown.after_seq { u.seq with run := false }).after_pending s.pending
    refine ⟨_, hexec, ?_, hbit, hmemory⟩
    simp only [hseq, hidle, if_false]

theorem exec_run_idle (hs : HostMay 1 s) (hstopped : s.seq.state = .stopped) (hready : s.boot.state = .ready)
    (h : s.seq.chosen = none) : ∃ t, exec (.run dt true) s = .next t ∧
      t.seq = { s.seq with run := true, state := .idle, tags := rebase s.seq.tags } ∧
      flag (reg t Reg.SEQ_CONTROL) 0 = true ∧ SameMemory s t := by
  obtain ⟨hbit, hmemory⟩ := ((showsRun_runWritten dt true s).after_seq
    { s.seq with run := true, state := .idle, tags := rebase s.seq.tags }).after_pending s.pending
  have hexec := exec_run dt true hs
  rw [runWrite_on_idle (s := runWritten dt true s) hstopped hready h] at hexec
  exact ⟨_, hexec, rfl, hbit, hmemory⟩

theorem exec_run_starts (hs : HostMay 1 s) (hstopped : s.seq.state = .stopped) (hready : s.boot.state = .ready)
    (hchosen : s.seq.chosen = some p) (hprogram : programOf s p = some d) : ∃ t, exec (.run dt true) s = .next t ∧
      t.seq.state = .running ∧ t.seq.program = p ∧ t.seq.next = d.offset ∧ t.seq.cycle = 0 ∧ t.seq.chosen = none := by
  have hfound : programOf (leftStopped (runWritten dt true s)) p = some d := hprogram
  have hruns := programStart_runs hfound
  rw [← runWrite_on_starts (s := runWritten dt true s) hstopped hready hchosen] at hruns
  exact ⟨_, exec_run dt true hs, hruns⟩

theorem exec_run_stays (hs : HostMay 1 s) (h : s.seq.state ≠ .stopped ∨ s.boot.state ≠ .ready) :
    ∃ t, exec (.run dt true) s = .next t ∧ t.seq = { s.seq with run := true } ∧
      flag (reg t Reg.SEQ_CONTROL) 0 = true ∧ SameMemory s t := by
  obtain ⟨hbit, hmemory⟩ :=
    ((showsRun_runWritten dt true s).after_seq { s.seq with run := true }).after_pending s.pending
  have hexec := exec_run dt true hs
  rw [runWrite_on_stays (s := runWritten dt true s) h] at hexec
  exact ⟨_, hexec, rfl, hbit, hmemory⟩

end Run

/-! ## HALT_CLEAR and ISSUE_HALT (R272) -/

section Halt

variable {s : State} {code : Nat} (dt : Nat)

/-- The uncommitted step is discarded (R272). -/
theorem haltClear_halted (v : Word) (h : s.seq.state = .halted) :
    (haltClear v s).seq.state = .stopped ∧ (haltClear v s).seq.fatal = none ∧ (haltClear v s).seq.chosen = none ∧
      (haltClear v s).seq.effects = [] ∧ (s.serve.waiting = false → (haltClear v s).serve.go = none) := by
  have hhalted : ¬ s.seq.state ≠ .halted := not_not.mpr h
  simp only [haltClear, if_neg hhalted, enterStopped, msix_seq, msix_serve, true_and]
  intro hwaiting
  have hkept : (haltMemory s).serve.waiting = false := hwaiting
  simp only [hkept, Bool.false_eq_true, if_false]

theorem exec_haltClear_halted (hs : HostMay 1 s) (h : s.seq.state = .halted) : ∃ t, exec (.haltClear dt) s = .next t ∧
    t.seq.state = .stopped ∧ t.seq.fatal = none ∧ t.seq.chosen = none ∧ t.seq.effects = [] ∧
    (s.serve.waiting = false → t.serve.go = none) := by
  obtain ⟨u, hu⟩ : ∃ u, haltClear 2 (advance dt s) = u := ⟨_, rfl⟩
  have hcleared := haltClear_halted (s := advance dt s) 2 h
  have hexec : exec (.haltClear dt) s = .next { haltClear 2 (advance dt s) with pending := s.pending } :=
    actHost_on hs dt _
  rw [hu] at hcleared hexec
  exact ⟨_, hexec, hcleared⟩

/-- In another state the command is invalid (R272). -/
theorem exec_haltClear_invalid (hs : HostMay 1 s) (h : s.seq.state ≠ .halted) : ∃ t, exec (.haltClear dt) s = .next t ∧
    t.seq = s.seq ∧ Logged 1 Evt.SEQ_CMD_INVALID 2 s t ∧ SameMemory s t ∧ SameRegsBut 1 [] s t := by
  obtain ⟨u, hu⟩ : ∃ u, raise 1 Evt.SEQ_CMD_INVALID 2 (advance dt s) = u := ⟨_, rfl⟩
  have hraised := raisesEvent_raise (code := Evt.SEQ_CMD_INVALID) (by decide) 1 2 (advance dt s)
  have hseq := seq_raise 1 Evt.SEQ_CMD_INVALID 2 (advance dt s)
  have hexec : exec (.haltClear dt) s = .next { haltClear 2 (advance dt s) with pending := s.pending } :=
    actHost_on hs dt _
  have hinvalid : haltClear 2 (advance dt s) = raise 1 Evt.SEQ_CMD_INVALID 2 (advance dt s) := if_pos h
  rw [hinvalid, hu] at hexec
  rw [hu] at hraised hseq
  have hfatal : u.seq.fatal = s.seq.fatal := hraised.fatal
  obtain ⟨hlogged, -, hregs, hmemory⟩ := hraised.ofAdvance (q := s.pending)
  refine ⟨_, hexec, ?_, hlogged, hmemory, hregs⟩
  rw [hseq, hfatal]
  rfl

/-- Issued work has drained, and nothing stands at the execution point (R272). -/
def haltedAt (s : State) : State :=
  { s with seq := { s.seq with state := .halted, held := none, issued := none, stall := 0, timeoutDue := none,
                               ending := false, commitReady := false, arrival := none, points := 0 } }

theorem haltIssue_halts (hfatal : s.seq.fatal = some code) : (haltIssue code s).seq.state = .halted ∧
    (haltIssue code s).seq.held = none ∧ (haltIssue code s).seq.issued = none ∧ (haltIssue code s).seq.ending = false ∧
    (haltIssue code s).seq.commitReady = false ∧ (haltIssue code s).seq.fatal = some code := by
  have hdrained : (haltedAt (drain s)).seq.fatal = some code := (KeepsStream.refl s).after_drain.fatal code hfatal
  obtain ⟨detail, hhalt⟩ : ∃ detail, haltIssue code s = msix 3 (raise 1 Evt.SEQ_HALT detail (haltedAt (drain s))) :=
    ⟨_, rfl⟩
  have hkept := ((KeepsStream.refl (haltedAt (drain s))).after_raise 1 Evt.SEQ_HALT detail).fatal code hdrained
  rw [hhalt, msix_seq, hkept, seq_raise]
  exact ⟨rfl, rfl, rfl, rfl, rfl, rfl⟩

theorem exec_issueHalt_halts (hpower : s.clk.powered = true) (hfatal : s.seq.fatal = some code)
    (hstate : s.seq.state ≠ .halted) (hboot : beforeReadyLocal s = false)
    (hdone : (s.clk.rootLost || s.therm.tripped || (subsDone s && arraysIdle s)) = true) :
    ∃ t, exec (.issueHalt dt) s = .next t ∧ t.seq.state = .halted ∧ t.seq.held = none ∧ t.seq.issued = none ∧
      t.seq.ending = false ∧ t.seq.commitReady = false ∧ t.seq.fatal = some code := by
  obtain ⟨u, hu⟩ : ∃ u, haltIssue code (advance dt s) = u := ⟨_, rfl⟩
  have hhalts := haltIssue_halts (s := advance dt s) hfatal
  have hexec : exec (.issueHalt dt) s = execIssueHalt dt s := rfl
  have hearly : beforeReadyLocal (advance dt s) = false := hboot
  have hready : ((advance dt s).clk.rootLost || (advance dt s).therm.tripped ||
      (subsDone (advance dt s) && arraysIdle (advance dt s))) = true := hdone
  simp only [execIssueHalt, actPowered_on hpower, advance_seq, hfatal, hstate, hearly, hready, decide_false,
    Bool.or_false, Bool.false_eq_true, if_false, if_true, hu] at hexec
  rw [hu] at hhalts
  exact ⟨_, hexec, hhalts⟩

theorem exec_issueHalt_idle (hpower : s.clk.powered = true) (hfatal : s.seq.fatal = none) :
    exec (.issueHalt dt) s = .next (advance dt s) := by
  have hexec : exec (.issueHalt dt) s = execIssueHalt dt s := rfl
  rw [hexec, execIssueHalt, actPowered_on hpower, advance_seq, hfatal]
  exact congrArg _ (advance_keeps_queue dt s)

end Halt

/-- Settles O6: a write of RUN is kept in the bit and leaves or enters STOPPED by the state it finds; HALT_CLEAR discards
the uncommitted step; draining keeps the code that stopped issue, so ISSUE_HALT enters HALTED with it. -/
theorem runAndHalt : Obligations.RunAndHalt := by
  unfold Obligations.RunAndHalt
  refine ⟨?off, ?idle, ?starts, ?stays, ?clears, ?invalid, ?halts, ?nothing⟩
  case off => exact fun dt s hs => exec_run_off dt hs
  case idle => exact fun dt s hs hstopped hready h => exec_run_idle dt hs hstopped hready h
  case starts => exact fun dt s p d hs hstopped hready hchosen h => exec_run_starts dt hs hstopped hready hchosen h
  case stays => exact fun dt s hs h => exec_run_stays dt hs h
  case clears => exact fun dt s hs h => exec_haltClear_halted dt hs h
  case invalid => exact fun dt s hs h => exec_haltClear_invalid dt hs h
  case halts =>
    exact fun dt s code hpower hfatal hstate hboot hdone => exec_issueHalt_halts dt hpower hfatal hstate hboot hdone
  case nothing => exact fun dt s hpower hfatal => exec_issueHalt_idle dt hpower hfatal

end Sys2Proof.Machine

namespace Sys2Proof.Machine

open Sys2Proof.Map

/-! ## Ring and window operations as they issue (R288, R290, R304, R306) -/

/-- An operation that Luna dies and hubs carry in sub-slots of their own (R243, R244). -/
theorem withSub_ite (p : Prop) [Decidable p] (die a b x y : Nat) (f : SubCtx → State → State) :
    (if p then withSub die a x f else withSub die b y f) = withSub die (if p then a else b) (if p then x else y) f := by
  split <;> rfl

section Issue

variable {s : State} {i : Issued} {die sub op : Nat} {f : SubCtx → State → State} {e : Effect} (dt : Nat)

/-- A carried operation that only places an effect. -/
theorem act_later (hs : Clocked s) (h : Carries i die sub op s)
    (hf : f (ctxOf i die sub) (issueState i dt die sub s) = later (i.cycle + 8) e (issueState i dt die sub s)) :
    act dt (withSub die sub op f) s = .next { advance dt s with seq := { s.seq with
      issued := some (doneSub i die sub), effects := s.seq.effects ++ [(i.cycle + 8, e)] } } := by
  rw [act_withSub hs dt h, hf]
  rfl

/-- Where an operation of the issued bundle works, rings read as before. -/
theorem ringInfo_issueState (hi : s.seq.issued = some i) (d r : Nat) :
    ringInfo (issueState i dt die sub s) d r = ringInfo s d r := by
  have hbad : (issueState i dt die sub s).seq.issued.map (·.tableBad) = s.seq.issued.map (·.tableBad) := by
    rw [hi]
    rfl
  have hword := tableWord_congr (s := s) (t := issueState i dt die sub s) rfl hbad
  simp only [ringInfo, hword]
  rfl

/-- A valid ring's counter moves eight issue cycles on (R290). -/
theorem ringIssue_valid {u : State} {info : RingInfo} (publish : Bool) (c : SubCtx) :
    let r := if c.die < 16 then moveIndex c.v c.rep else hubIndex c.v c.rep
    ringInfo u c.die r = some info → ringIssue publish c u = later (c.cycle + 8) (.ring c.die r publish) u := by
  intro r h
  simp only [ringIssue, r, h]

theorem act_ringIssue {info : RingInfo} (publish : Bool) (hs : Clocked s) (h : Carries i die sub op s) :
    let v := dieSlot i.bundle die sub
    let r := if die < 16 then moveIndex v i.rep else hubIndex v i.rep
    ringInfo s die r = some info → act dt (withSub die sub op (ringIssue publish)) s =
      .next { advance dt s with seq := { s.seq with
        issued := some (doneSub i die sub), effects := s.seq.effects ++ [(i.cycle + 8, .ring die r publish)] } } := by
  intro v r hring
  exact act_later dt hs h (ringIssue_valid publish (ctxOf i die sub) ((ringInfo_issueState dt h.1 die r).trans hring))

theorem act_windowIssue (opening : Bool) (bad : List Nat) (hs : Clocked s) (h : Carries i die sub op s) :
    let v := dieSlot i.bundle die sub
    let w := if die < 16 then bits v 15 4 else hubIndex v i.rep
    (winOwner w).map (·.1) = some die → act dt (withSub die sub op (windowIssue opening bad)) s =
      .next { advance dt s with seq := { s.seq with
        issued := some (doneSub i die sub), effects := s.seq.effects ++ [(i.cycle + 8, .window die w opening bad)] } } := by
  intro v w howner
  exact act_later dt hs h (if_pos howner)

end Issue

/-- Settles O11: each operation places its effect eight issue cycles on; where it does so, rings read as before. -/
theorem ringAndWindowIssue : Obligations.RingAndWindowIssue := by
  unfold Obligations.RingAndWindowIssue
  refine ⟨?publishes, ?releases, ?opens, ?closes⟩
  case publishes =>
    intro dt die s i info hs sub v r h hring
    have hexec : exec (.ringPublish dt die) s = execRingPublish dt die s := rfl
    rw [hexec, execRingPublish, withSub_ite]
    exact act_ringIssue dt true hs h hring
  case releases =>
    intro dt die s i info hs sub v r h hring
    have hexec : exec (.ringRelease dt die) s = execRingRelease dt die s := rfl
    rw [hexec, execRingRelease, withSub_ite]
    exact act_ringIssue dt false hs h hring
  case opens =>
    intro dt die bad s i hs sub v w h howner
    have hexec : exec (.windowOpen dt die bad) s = execWindowOpen dt die bad s := rfl
    rw [hexec, execWindowOpen, withSub_ite, ite_self]
    exact act_windowIssue dt true _ hs h howner
  case closes =>
    intro dt die s i hs sub v w h howner
    have hexec : exec (.windowClose dt die) s = execWindowClose dt die s := rfl
    rw [hexec, execWindowClose, withSub_ite, ite_self]
    exact act_windowIssue dt false [] hs h howner

end Sys2Proof.Machine

namespace Sys2Proof.Machine

open Sys2Proof.Map

/-! ## XFER_ISSUE (R252) -/

section XferIssue

variable {s : State} {i : Issued} {b : Bytes} (dt : Nat)

/-- The table index that an ISSUE names. -/
def issueIndex (c : SubCtx) : Nat := if c.die < 16 then moveIndex c.v c.rep else hubIndex c.v c.rep

theorem issueXfer_valid {c : SubCtx} (h : descWords s c.die 2 (issueIndex c) 4 = .inr b) : issueXfer c s =
    setQueue c.die (queueOf s c.die ++ [⟨issueIndex c, b, s.seq.epoch, s.clk.now⟩]) s := by
  simp only [issueIndex] at h
  simp only [issueXfer, h]
  rfl

theorem queueOf_setQueue_same (d : Nat) (q : List Desc) (s : State) : queueOf (setQueue d q s) d = q := mget_mset_same ..

theorem queueOf_setQueue_other {d e : Nat} (h : e ≠ d) (q : List Desc) (s : State) :
    queueOf (setQueue d q s) e = queueOf s e := mget_mset_other _ _ _ h

theorem act_issueXfer {die sub op : Nat} (hs : Clocked s) (h : Carries i die sub op s)
    (hdesc : descWords s die 2 (issueIndex (ctxOf i die sub)) 4 = .inr b) :
    ∃ t, act dt (withSub die sub op issueXfer) s = .next t ∧
      queueOf t die = queueOf s die ++ [⟨issueIndex (ctxOf i die sub), b, s.seq.epoch, s.clk.now + dt⟩] ∧
      (∀ d, d ≠ die → queueOf t d = queueOf s d) ∧ t.seq.issued = some (doneSub i die sub) ∧ t.regs = s.regs ∧
      t.log = s.log ∧ SameMemory s t := by
  have hfound : descWords (issueState i dt die sub s) die 2 (issueIndex (ctxOf i die sub)) 4 = .inr b :=
    (descWords_issueState h.1 ..).trans hdesc
  have hissues := issueXfer_valid (c := ctxOf i die sub) hfound
  have hact := act_withSub hs dt h issueXfer
  rw [hissues] at hact
  refine ⟨_, hact, queueOf_setQueue_same .., fun d hd => queueOf_setQueue_other hd .., rfl, rfl, rfl, ?_⟩
  exact ⟨fun _ _ => rfl, fun _ => rfl, fun _ => rfl, fun _ => rfl⟩

end XferIssue

/-! ## A thread and its descriptor (R252, R254) -/

/-- From `u` on a die's thread has come to hold `x`, its issue queue is `q`, and the memories are the same. -/
structure ThreadHolds (die th : Nat) (q : List Desc) (x : Xfer) (u t : State) : Prop where
  queue : queueOf t die = q
  thread : threadOf t die th = some x
  memory : (t.mem.spad, t.mem.hbm, t.mem.hbmPoison) = (u.mem.spad, u.mem.hbm, u.mem.hbmPoison)

section Thread

variable {die th : Nat} {q : List Desc} {x : Xfer} {s t u : State} {d : Desc} {o : XferObs}

theorem threadOf_setThread (die th : Nat) (x : Xfer) (s : State) : threadOf (setThread die th x s) die th = some x :=
  find?_mput_same ..

theorem ThreadHolds.of_mem (h : ThreadHolds die th q x u t) {t' : State} (hmem : t'.mem = t.mem) :
    ThreadHolds die th q x u t' where
  queue := by rw [queueOf, hmem, ← queueOf, h.queue]
  thread := by rw [threadOf, hmem, ← threadOf, h.thread]
  memory := by rw [hmem, h.memory]

theorem ThreadHolds.set (h : ThreadHolds die th q x u t) (y : Xfer) :
    ThreadHolds die th q y u (setThread die th y t) := ⟨h.queue, threadOf_setThread .., h.memory⟩

theorem ThreadHolds.after_inClass {f : State → State} {c : Nat} (h : ThreadHolds die th q x u (f (classed c t))) :
    ThreadHolds die th q x u (inClass c f t) := h.of_mem rfl

/-- Underruns are counted, and remembered by the thread (R292). -/
theorem ThreadHolds.after_countUnderruns (h : ThreadHolds die th q x u t) (bs : List (Nat × Nat)) :
    ∃ counted, ThreadHolds die th q { x with counted := counted } u (countUnderruns die th bs t) := by
  refine ⟨x.counted ++ (bs.filter (fun b => !x.counted.contains b)).eraseDups, ?_⟩
  rw [countUnderruns, h.thread]
  exact (h.set _).of_mem (mem_of_quiet (quiet_reportBreaks ..))

theorem mem_xferSpadEcc (o : XferObs) (s : State) : (xferSpadEcc o s).mem = s.mem := by
  have hecc (corr : Nat) (bad : Nat → List Nat) (l : List (Nat × Nat)) (u : State) :
      (l.foldl (fun t e => spadEcc e.1 corr (bad e.2) t) u).mem = u.mem :=
    foldl_keeps State.mem l (fun t e => mem_of_quiet (quiet_spadEcc e.1 t corr (bad e.2))) u
  exact (hecc 0 (fun w => [w]) ..).trans (hecc 1 (fun _ => []) ..)

theorem ThreadHolds.after_endThread (h : ThreadHolds die th q x u t) (st side : Nat) :
    ThreadHolds die th q { x with phase := .finished, status := st, side := side } u (endThread die th st side t) := by
  rw [endThread, h.thread]
  exact h.set _

theorem mem_chargeXfer (die : Nat) (b : Bytes) (bad : List (Nat × Nat)) (s : State) :
    (chargeXfer die b bad s).mem = s.mem := by
  have hbursts (n : Nat) : (if n = 0 then s else chargeHbm die (dClass b) n s).mem = s.mem := by
    split <;> simp
  unfold chargeXfer
  dsimp only
  split
  · rfl
  · split
    · rw [apply_ite State.mem, chargeShawm_mem, hbursts, ite_self]
    · rw [chargeEth_mem, hbursts]
    · exact hbursts _

/-! ## XFER_THREAD_START of a free thread (R254, R257) -/

/-- The breath class of a descriptor's events; none for a class that does not exist. -/
def descClass (d : Desc) : Nat := if dClass d.bytes < 10 then dClass d.bytes else 0xFF

/-- The thread has its descriptor, is charged, and has read its length word (R254). -/
def threadTaken (die th : Nat) (o : XferObs) (d : Desc) (s : State) : State :=
  inClass (descClass d) (countUnderruns die th (runBreaks s die (lengthRun d.bytes))) (takeThread die th o d s)

theorem exec_xferThreadStart {dt : Nat} {die : Die} {thread : BitVec 10} (hs : Clocked s)
    (h : threadStart die thread.toNat o (fenced (advance dt s)) = t) :
    exec (.xferThreadStart dt die thread o) s = .next { t with pending := s.pending } := by
  have hexec : exec (.xferThreadStart dt die thread o) s = execXferThreadStart dt die thread o s := rfl
  rw [hexec, execXferThreadStart, act_on hs, afterFences, h]

theorem threadStart_free (hfree : threadOf u die th = none) (hqueue : queueOf u die = d :: q)
    (hth : th < threadCount die) : threadStart die th o u = beginThread die th o d (setQueue die q u) := by
  have hcount : ¬ threadCount die ≤ th := by omega
  simp only [threadStart, hfree, hqueue, hcount, if_false]

/-- The check ends the descriptor. -/
theorem beginThread_done {st side : Nat} (hhold : anyHold s die (startBreaks s die d.bytes) = false)
    (hplan : xferPlan s die d.bytes (startBad s die o d.bytes) = .done st side) : beginThread die th o d s =
      endThread die th st side (inClass (descClass d) (fun t => xferSpadEcc o
        (countUnderruns die th (runBreaks s die (listRun s die d.bytes)) t)) (threadTaken die th o d s)) := by
  simp only [beginThread, hhold, hplan, Bool.false_eq_true, if_false]
  rfl

/-- The check does not. -/
theorem beginThread_planned (hhold : anyHold s die (startBreaks s die d.bytes) = false)
    (hplan : ∀ st side, xferPlan s die d.bytes (startBad s die o d.bytes) ≠ .done st side) : beginThread die th o d s =
      if mayMove (threadTaken die th o d s) d then moveData die th o (threadTaken die th o d s)
      else inClass (descClass d) (xferSpadEcc (obsOf o die (lengthRun d.bytes))) (threadTaken die th o d s) := by
  obtain ⟨p, hp⟩ : ∃ p, xferPlan s die d.bytes (startBad s die o d.bytes) = p := ⟨_, rfl⟩
  rw [hp] at hplan
  simp only [beginThread, hhold, hp, Bool.false_eq_true, if_false]
  cases p with
  | done st side => exact absurd rfl (hplan st side)
  | _ => rfl

/-- The thread as it stands once it has taken a descriptor. -/
def takenXfer (s : State) (die : Nat) (o : XferObs) (d : Desc) : Xfer :=
  { desc := { d with bytes := withLength s die d.bytes (startBad s die o d.bytes) },
    due := s.clk.now + (if d.time = s.clk.now then 2 else 0) }

theorem threadHolds_threadTaken (die th : Nat) (o : XferObs) (d : Desc) (q : List Desc) (u : State) :
    ∃ counted, ThreadHolds die th q { takenXfer (setQueue die q u) die o d with counted := counted } u
      (threadTaken die th o d (setQueue die q u)) := by
  have hset : ThreadHolds die th q (takenXfer (setQueue die q u) die o d) u
      (setThread die th (takenXfer (setQueue die q u) die o d) (setQueue die q u)) :=
    ⟨queueOf_setQueue_same .., threadOf_setThread .., rfl⟩
  have htaken := hset.of_mem (t' := takeThread die th o d (setQueue die q u)) (mem_chargeXfer ..)
  obtain ⟨counted, hcounted⟩ := (htaken.of_mem
    (t' := classed (descClass d) (takeThread die th o d (setQueue die q u))) rfl).after_countUnderruns
    (runBreaks (setQueue die q u) die (lengthRun d.bytes))
  exact ⟨counted, hcounted.after_inClass⟩

/-- A descriptor that the check ends: its thread finishes with the check's status (R254). -/
theorem threadStart_done {st side : Nat} (hfree : threadOf u die th = none) (hqueue : queueOf u die = d :: q)
    (hth : th < threadCount die) (hhold : anyHold u die (startBreaks u die d.bytes) = false)
    (hplan : xferPlan (setQueue die q u) die d.bytes (startBad (setQueue die q u) die o d.bytes) = .done st side) :
    ∃ counted, ThreadHolds die th q { takenXfer (setQueue die q u) die o d with
      counted := counted, phase := .finished, status := st, side := side } u (threadStart die th o u) := by
  rw [threadStart_free hfree hqueue hth, beginThread_done (s := setQueue die q u) hhold hplan]
  obtain ⟨_, htaken⟩ := threadHolds_threadTaken die th o d q u
  obtain ⟨counted, hcounted⟩ := (htaken.of_mem (t' := classed (descClass d) (threadTaken die th o d
    (setQueue die q u))) rfl).after_countUnderruns (runBreaks (setQueue die q u) die (listRun (setQueue die q u) die d.bytes))
  have hlist := ThreadHolds.after_inClass (t := threadTaken die th o d (setQueue die q u)) (c := descClass d)
    (f := fun t => xferSpadEcc o (countUnderruns die th (runBreaks (setQueue die q u) die
      (listRun (setQueue die q u) die d.bytes)) t)) (hcounted.of_mem (mem_xferSpadEcc o _))
  exact ⟨counted, hlist.after_endThread st side⟩

/-- A descriptor that the check lets pass moves its data if its class is open (R254, R257). -/
theorem threadStart_planned (hfree : threadOf u die th = none) (hqueue : queueOf u die = d :: q)
    (hth : th < threadCount die) (hhold : anyHold u die (startBreaks u die d.bytes) = false)
    (hplan : ∀ st side, xferPlan (setQueue die q u) die d.bytes (startBad (setQueue die q u) die o d.bytes) ≠ .done st side) :
    threadStart die th o u = if mayMove (threadTaken die th o d (setQueue die q u)) d
      then moveData die th o (threadTaken die th o d (setQueue die q u))
      else inClass (descClass d) (xferSpadEcc (obsOf o die (lengthRun d.bytes)))
        (threadTaken die th o d (setQueue die q u)) := by
  rw [threadStart_free hfree hqueue hth, beginThread_planned (s := setQueue die q u) hhold hplan]

/-- A descriptor of a class that the gates stop waits at its thread (R257). -/
theorem threadStart_gated (hfree : threadOf u die th = none) (hqueue : queueOf u die = d :: q)
    (hth : th < threadCount die) (hhold : anyHold u die (startBreaks u die d.bytes) = false)
    (hplan : ∀ st side, xferPlan (setQueue die q u) die d.bytes (startBad (setQueue die q u) die o d.bytes) ≠ .done st side)
    (hgated : mayMove (threadTaken die th o d (setQueue die q u)) d = false) :
    ∃ counted, ThreadHolds die th q { takenXfer (setQueue die q u) die o d with counted := counted } u
      (threadStart die th o u) := by
  rw [threadStart_planned hfree hqueue hth hhold hplan, hgated]
  obtain ⟨counted, htaken⟩ := threadHolds_threadTaken die th o d q u
  exact ⟨counted, ThreadHolds.after_inClass (htaken.of_mem (mem_xferSpadEcc ..))⟩

end Thread
end Sys2Proof.Machine

namespace Sys2Proof.Machine

open Sys2Proof.Map

/-! ## Words put into a scratchpad (R281) -/

section SpadPuts

variable {d w e a : Nat}

theorem spadWords_le (d : Nat) : spadWords d ≤ 2 ^ 26 := by
  unfold spadWords
  split_ifs <;> omega

theorem spadAt_spadPut_same (h : w < spadWords d) (x : SWord) (s : State) : spadAt (spadPut d w x s) d w = x := by
  rw [spadPut, spadAt, if_pos h, if_pos h, spadWord_setSpad]

theorem spadAt_spadPut_other (h : e ≠ d ∨ a ≠ w) (x : SWord) (s : State) :
    spadAt (spadPut d w x s) e a = spadAt s e a := by
  by_cases hw : w < spadWords d
  · by_cases ha : a < spadWords e
    · have hkey : spadKey e a ≠ spadKey d w := fun hk => by
        obtain ⟨hd, hx⟩ := spadKey_inj (ha.trans_le (spadWords_le e)) (hw.trans_le (spadWords_le d)) hk
        exact h.elim (· hd) (· hx)
      rw [spadPut, spadAt, spadAt, if_pos hw, if_pos ha, if_pos ha, spadWord_setSpad_other hkey]
    · rw [spadAt, spadAt, if_neg ha, if_neg ha]
  · rw [spadPut, if_neg hw]

/-- Every word outside the run that is put reads as before. -/
theorem spadAt_spadPuts_other (d e a : Nat) (xs : List SWord) : ∀ (w : Nat) (s : State),
    (e ≠ d ∨ a < w ∨ w + xs.length ≤ a) → spadAt (spadPuts d w xs s) e a = spadAt s e a := by
  induction xs with
  | nil => intro w s _; rfl
  | cons x xs ih =>
    intro w s h
    rw [List.length_cons] at h
    rw [spadPuts, ih _ _ (by omega), spadAt_spadPut_other (by omega)]

/-- Word k of a run that fits reads as word k of what was put. -/
theorem spadAt_spadPuts (d : Nat) (xs : List SWord) : ∀ (w k : Nat) (s : State), w + xs.length ≤ spadWords d →
    k < xs.length → spadAt (spadPuts d w xs s) d (w + k) = xs.getD k {} := by
  induction xs with
  | nil => intro w k s _ hk; exact absurd hk (Nat.not_lt_zero k)
  | cons x xs ih =>
    intro w k s hfit hk
    rw [List.length_cons] at hfit hk
    cases k with
    | zero =>
      rw [spadPuts, spadAt_spadPuts_other _ _ _ _ _ _ (by omega)]
      exact spadAt_spadPut_same (by omega) x s
    | succ k =>
      have hrest := ih (w + 1) k (spadPut d w x s) (by omega) (by omega)
      rwa [spadPuts, ← Nat.add_assoc, Nat.add_right_comm, List.getD_cons_succ]

/-- Of the memories, putting words touches the scratchpads. -/
theorem spadPuts_mem (d : Nat) (xs : List SWord) : ∀ (w : Nat) (s : State),
    (spadPuts d w xs s).mem = { s.mem with spad := (spadPuts d w xs s).mem.spad } := by
  induction xs with
  | nil => intro w s; rfl
  | cons x xs ih =>
    intro w s
    have hput : (spadPut d w x s).mem = { s.mem with spad := (spadPut d w x s).mem.spad } := by
      unfold spadPut
      split <;> rfl
    rw [spadPuts, ih, hput]

end SpadPuts

/-! ## Packets of scratchpad words (R255) -/

theorem length_packetWords {p : Bytes} : (packetWords p).length = 9 := by
  unfold packetWords
  split
  · rw [List.length_replicate]
  · have hpad : (padTo 72 p).length = 72 := by
      simp only [padTo, List.length_take, List.length_append, List.length_replicate]
      omega
    rw [bytesWords, List.length_map, List.length_range, hpad]
    rfl

theorem length_flatMap_packetWords (ps : List Bytes) : (ps.flatMap packetWords).length = 9 * ps.length := by
  simp [List.length_flatMap, length_packetWords, Nat.mul_comm]

theorem length_spadPackets (s : State) (d w n : Nat) (broken bad : List (Nat × Nat)) :
    (spadPackets s d w n broken bad).length = n := by
  rw [spadPackets, List.length_map, List.length_range]

/-! ## What the check of a COPY has found (R254) -/

section Check

variable {s : State} {die : Nat} {b : Bytes} {bad : List (Nat × Nat)} {src dst : Place} {n : Nat}

theorem checkMove_copy {kind qp m : Nat} {p : Place} {q : Option Place}
    (h : checkMove s kind qp p q m = .copy src dst n) : placeFits s dst n = true := by
  unfold checkMove at h
  split_ifs at h
  split at h
  · cases h
  · cases h
  · split_ifs at h with hfits
    cases h
    exact hfits
  · cases h

theorem checkGather_ne_copy {list m : Nat} {p q : Place} : checkGather s die list m p q bad ≠ .copy src dst n := by
  intro h
  unfold checkGather at h
  split at h
  · cases h
  split at h
  · cases h
  dsimp only at h
  split at h
  · split_ifs at h
  · split_ifs at h
  · cases h

theorem xferPlan_copy (h : xferPlan s die b bad = .copy src dst n) : placeFits s dst n = true := by
  unfold xferPlan at h
  split at h
  · cases h
  split at h
  case h_2 => cases h
  split at h
  · cases h
  split at h
  · split_ifs at h
    exact checkMove_copy h
  split at h
  · cases h
  split at h
  · exact absurd h checkGather_ne_copy
  split at h
  · cases h
  split at h
  · split_ifs at h
    exact checkMove_copy h
  · exact checkMove_copy h

end Check

/-! ## A COPY between scratchpads (R255, R256) -/

section Copy

variable {die th sd sw dd dw n : Nat} {x : Xfer} {u v : State}

/-- What a thread's COPY stores: the words of the source packets, in order. -/
def copiedWords (u : State) (sd sw n : Nat) : List SWord := (spadPackets u sd sw n [] []).flatMap packetWords

/-- The status a COPY ends with: 5 after a poisoned packet. -/
def copyStatus (u : State) (sd sw n : Nat) : Nat := if (spadPackets u sd sw n [] []).any (·.isEmpty) then 5 else 0

theorem length_copiedWords : (copiedWords u sd sw n).length = 9 * n := by
  rw [copiedWords, length_flatMap_packetWords, length_spadPackets]

theorem carryOut_copy {b : Bytes} (hpath : diePath v sd dd = true) (hread : ringBreaks v sd sw (9 * n) false = [])
    (hwrite : ringBreaks v dd dw (9 * n) true = []) : carryOut die th b {} (.copy (.spad sd sw) (.spad dd dw) n) v =
      endThread die th (copyStatus v sd sw n) 0 (spadPuts dd dw (copiedWords v sd sw n) v) := by
  have hplan : planPath v die (.copy (.spad sd sw) (.spad dd dw) n) = true := hpath
  have hsource : readPlace (.spad sd sw) n {} (countedOf v die th) v = (spadPackets v sd sw n [] [], v) := by
    simp only [readPlace, hread]
    rfl
  have hdest : writePlace (.spad dd dw) (spadPackets v sd sw n [] []) v =
      (false, spadPuts dd dw (copiedWords v sd sw n) v) := by
    simp only [writePlace, length_spadPackets, hwrite]
    rfl
  simp only [carryOut, hplan, hsource, hdest, Bool.not_true, Bool.false_eq_true, if_false, Bool.false_or]
  rfl

/-- The state a COPY moves its data in: its breath class is open and no underrun was counted. -/
def copyState (die th : Nat) (x : Xfer) (u : State) : State :=
  setThread die th { x with counted := x.counted ++ [] } (classed (dClass x.desc.bytes) u)

theorem spadAt_of_mem {s t : State} (h : t.mem = s.mem) (e a : Nat) : spadAt t e a = spadAt s e a := by
  rw [spadAt, spadAt, spadWord, spadWord, h]

/-- A thread that waited at the gates or for a ring moves its data once its class is open (R257). -/
theorem threadStart_moves {o : XferObs} (hthread : threadOf u die th = some x)
    (hphase : x.phase = .gated ∨ x.phase = .ringHold) (hmay : mayMove u x.desc = true) :
    threadStart die th o u = moveData die th o u := by
  have hwaits : (x.phase = .ringHold ∨ x.phase = .gated) ∧ mayMove u x.desc = true := ⟨hphase.symm, hmay⟩
  have hstarted : x.phase ≠ .startHold := by
    rcases hphase with hphase | hphase <;> simp [hphase]
  simp only [threadStart, hthread, if_neg hstarted, if_pos hwaits]

/-- A thread that has carried out a COPY. -/
def copiedXfer (x : Xfer) (u : State) (sd sw n : Nat) : Xfer :=
  { x with counted := x.counted ++ [], phase := .finished, status := copyStatus u sd sw n, side := 0 }

/-- The state a COPY leaves behind, but for its breath class. -/
def copyDone (die th sd sw dd dw n : Nat) (x : Xfer) (u : State) : State :=
  setThread die th (copiedXfer x u sd sw n) (spadPuts dd dw (copiedWords u sd sw n) (copyState die th x u))

theorem endThread_copyDone : endThread die th (copyStatus u sd sw n) 0
    (spadPuts dd dw (copiedWords u sd sw n) (copyState die th x u)) = copyDone die th sd sw dd dw n x u := by
  have hthread : threadOf (spadPuts dd dw (copiedWords u sd sw n) (copyState die th x u)) die th =
      some { x with counted := x.counted ++ [] } := by
    rw [threadOf, spadPuts_mem]
    exact threadOf_setThread ..
  rw [endThread, hthread]
  rfl

theorem spadAt_copyDone {k : Nat} (hfit : dw + 9 * n ≤ spadWords dd) (hk : k < 9 * n) :
    spadAt (copyDone die th sd sw dd dw n x u) dd (dw + k) = (copiedWords u sd sw n).getD k {} :=
  (spadAt_spadPuts dd (copiedWords u sd sw n) dw k (copyState die th x u) (by rwa [length_copiedWords])
    (by rwa [length_copiedWords]) :)

theorem spadAt_copyDone_other {e a : Nat} (h : e ≠ dd ∨ a < dw ∨ dw + 9 * n ≤ a) :
    spadAt (copyDone die th sd sw dd dw n x u) e a = spadAt u e a :=
  (spadAt_spadPuts_other dd e a (copiedWords u sd sw n) dw (copyState die th x u) (by rwa [length_copiedWords]) :)

theorem hbm_copyDone : (copyDone die th sd sw dd dw n x u).mem.hbm = u.mem.hbm ∧
    (copyDone die th sd sw dd dw n x u).mem.hbmPoison = u.mem.hbmPoison := by
  have hputs := spadPuts_mem dd (copiedWords u sd sw n) dw (copyState die th x u)
  exact ⟨(congrArg Mem.hbm hputs :), (congrArg Mem.hbmPoison hputs :)⟩

theorem moveData_copy (hthread : threadOf u die th = some x) (hlist : runBreaks u die (listRun u die x.desc.bytes) = [])
    (hplan : xferPlan u die x.desc.bytes [] = .copy (.spad sd sw) (.spad dd dw) n) (hpath : diePath u sd dd = true)
    (hread : ringBreaks u sd sw (9 * n) false = []) (hwrite : ringBreaks u dd dw (9 * n) true = []) :
    (moveData die th {} u).mem =
      (copyDone die th sd sw dd dw n x u).mem := by
  have hcounted : countUnderruns die th [] (classed (dClass x.desc.bytes) u) = copyState die th x u := by
    have hfound : threadOf (classed (dClass x.desc.bytes) u) die th = some x := hthread
    rw [countUnderruns, hfound]
    rfl
  have hended := congrArg State.mem (endThread_copyDone (die := die) (th := th) (sd := sd) (sw := sw) (dd := dd)
    (dw := dw) (n := n) (x := x) (u := u))
  have hmoved := carryOut_copy (die := die) (th := th) (b := x.desc.bytes) (v := copyState die th x u) hpath hread hwrite
  simp only [moveData, hthread, hlist, runBroken, List.isEmpty_nil, if_true, List.append_nil, hplan, planBreaks, hread,
    hwrite]
  calc _ = (carryOut die th x.desc.bytes {} (.copy (.spad sd sw) (.spad dd dw) n)
        (countUnderruns die th [] (classed (dClass x.desc.bytes) u))).mem := rfl
    _ = _ := by rw [hcounted, hmoved]; exact hended

end Copy

/-! ## XFER_COMPLETE (R258, R262) -/

section Complete

variable {die th : Nat} {x : Xfer} {s t u : State}

theorem quiet_statusEvent (die th index st side : Nat) (s : State) : quiet (statusEvent die th index st side s) = quiet s := by
  unfold statusEvent
  split_ifs
  · rw [quiet_collect, quiet_bump]
  · exact quiet_raise ..
  · exact quiet_raise ..
  · rfl

theorem errCount_statusEvent (die th index st side : Nat) (s : State) :
    reg (statusEvent die th index st side s) Reg.SEQ_XFER_ERR_COUNT = reg s Reg.SEQ_XFER_ERR_COUNT := by
  unfold statusEvent
  split_ifs
  · rw [reg_collect, reg_bump_other (by decide)]
  · exact reg_raise (by decide) (by decide) _ _
  · exact reg_raise (by decide) (by decide) _ _
  · rfl

theorem tagOf_setTag_same (k : Nat) (x : Tag) (s : State) : tagOf (setTag k x s) k = x := mget_mset_same ..

theorem tagOf_setTag_other {k j : Nat} (h : j ≠ k) (x : Tag) (s : State) : tagOf (setTag k x s) j = tagOf s j :=
  mget_mset_other _ _ _ h

/-- The tag of a completion that is no step error (R258), and that of a step error, which keeps its status (R262). -/
def completedTag (y : Tag) (st : Nat) (failed : Bool) : Tag :=
  if failed then { y with count := y.count + 1, err := true, last := st } else { y with count := y.count + 1 }

/-- From `s` to `t` a thread has completed: it is free, its tag is `completedTag`, a step error is counted, and the
rest is as before. -/
structure Completes (die th k st : Nat) (failed : Bool) (s t : State) : Prop where
  freed : threadOf t die th = none
  tag : tagOf t k = completedTag (tagOf s k) st failed
  others : ∀ j, j ≠ k → tagOf t j = tagOf s j
  stepError : t.seq.stepError = (failed || s.seq.stepError)
  errCount : reg t Reg.SEQ_XFER_ERR_COUNT =
    if failed then satAdd (reg s Reg.SEQ_XFER_ERR_COUNT) 1 else reg s Reg.SEQ_XFER_ERR_COUNT
  memory : SameMemory s t

/-- A thread's completion is signalled on its tag (R258). -/
def signalled (die th : Nat) (x : Xfer) (s : State) : State :=
  tagAdvance (dTag x.desc.bytes) (freeThread die th (statusEvent die th x.desc.index x.status x.side s))

theorem completes_signalled (die th : Nat) (x : Xfer) (s : State) :
    Completes die th (dTag x.desc.bytes) x.status false s (signalled die th x s) := by
  have hquiet := quiet_statusEvent die th x.desc.index x.status x.side s
  have hcount := errCount_statusEvent die th x.desc.index x.status x.side s
  unfold signalled
  obtain ⟨u, hu⟩ : ∃ u, statusEvent die th x.desc.index x.status x.side s = u := ⟨_, rfl⟩
  rw [hu] at hquiet hcount ⊢
  have htags (j : Nat) : tagOf (freeThread die th u) j = tagOf s j := (congrArg (tagOf · j) hquiet :)
  have hmem : u.mem = s.mem := mem_of_quiet hquiet
  have hbar2 : u.host.bar2 = s.host.bar2 := (congrArg (·.host.bar2) hquiet :)
  have hsame : SameMemory s u := .of_eq hmem hbar2
  refine ⟨find?_mdel_same .., ?_, fun j hj => ?_, (congrArg (·.seq.stepError) hquiet :), hcount, hsame⟩
  · rw [tagAdvance, tagOf_setTag_same, htags]
    rfl
  · rw [tagAdvance, tagOf_setTag_other hj, htags]

/-- A step error is kept in the tag and counted (R262). -/
def stepFailed (k st : Nat) (s : State) : State :=
  bump Reg.SEQ_XFER_ERR_COUNT 1 { setTag k { tagOf s k with err := true, last := st } s with
    seq := { (setTag k { tagOf s k with err := true, last := st } s).seq with stepError := true } }

theorem Completes.after_stepFailed {k st : Nat} (h : Completes die th k st false s t) :
    Completes die th k st true s (stepFailed k st t) := by
  refine ⟨h.freed, ?_, fun j hj => (tagOf_setTag_other hj ..).trans (h.others j hj), rfl, ?_,
    h.memory.trans ⟨fun _ _ => rfl, fun _ => rfl, fun _ => rfl, fun _ => rfl⟩⟩
  · have htag : tagOf (stepFailed k st t) k = { tagOf t k with err := true, last := st } := tagOf_setTag_same ..
    rw [htag, h.tag]
    rfl
  · rw [stepFailed, reg_bump_same]
    exact congrArg (satAdd · 1) h.errCount

theorem Completes.after_inClass {k st c : Nat} {failed : Bool} {f : State → State}
    (h : Completes die th k st failed (classed c s) (f (classed c s))) : Completes die th k st failed s (inClass c f s) :=
  ⟨h.freed, h.tag, h.others, h.stepError, h.errCount, h.memory⟩

theorem publish_stepError (h : stepErrorStatus x.status = true) : publish die th x s =
    inClass (descClass x.desc) (fun u => stepFailed (dTag x.desc.bytes) x.status (signalled die th x u)) s := by
  simp only [publish, h, if_true]
  rfl

theorem publish_clean (h : stepErrorStatus x.status = false) : publish die th x s =
    inClass (descClass x.desc) (signalled die th x) s := by
  simp only [publish, h, Bool.false_eq_true, if_false]
  rfl

theorem completes_publish (die th : Nat) (x : Xfer) (s : State) :
    Completes die th (dTag x.desc.bytes) x.status (stepErrorStatus x.status) s (publish die th x s) := by
  cases h : stepErrorStatus x.status with
  | false =>
    rw [publish_clean h]
    exact Completes.after_inClass (completes_signalled ..)
  | true =>
    rw [publish_stepError h]
    exact Completes.after_inClass (f := fun u => stepFailed (dTag x.desc.bytes) x.status (signalled die th x u))
      (completes_signalled ..).after_stepFailed

end Complete
end Sys2Proof.Machine

namespace Sys2Proof.Machine

open Sys2Proof.Map

/-! ## The obligation -/

section Transfer

variable {dt : Nat} {die : Die} {thread : BitVec 10} {s : State} {x : Xfer}

/-- A thread that waited carries out its COPY (R255, R256, R257). -/
theorem exec_xferThreadStart_copy {sd sw dd dw n : Nat} (hs : Clocked s)
    (hthread : threadOf (fenced (advance dt s)) die thread.toNat = some x)
    (hphase : x.phase = .gated ∨ x.phase = .ringHold) (hmay : mayMove (fenced (advance dt s)) x.desc = true)
    (hlist : runBreaks (fenced (advance dt s)) die (listRun (fenced (advance dt s)) die x.desc.bytes) = [])
    (hplan : xferPlan (fenced (advance dt s)) die x.desc.bytes [] = .copy (.spad sd sw) (.spad dd dw) n)
    (hpath : diePath (fenced (advance dt s)) sd dd = true)
    (hread : ringBreaks (fenced (advance dt s)) sd sw (9 * n) false = [])
    (hwrite : ringBreaks (fenced (advance dt s)) dd dw (9 * n) true = []) :
    ∃ t, exec (.xferThreadStart dt die thread {}) s = .next t ∧
      t.mem = (copyDone die thread.toNat sd sw dd dw n x (fenced (advance dt s))).mem :=
  ⟨_, exec_xferThreadStart hs (threadStart_moves hthread hphase hmay),
    (moveData_copy hthread hlist hplan hpath hread hwrite :)⟩

theorem exec_xferComplete (hs : Clocked s) (hthread : threadOf s die thread.toNat = some x)
    (hdone : completes (advance dt s) x = true) : exec (.xferComplete dt die thread) s =
      .next { publish die thread.toNat x (advance dt s) with pending := s.pending } := by
  have hexec : exec (.xferComplete dt die thread) s = execXferComplete dt die thread s := rfl
  have hfound : threadOf (advance dt s) die thread.toNat = some x := by rwa [threadOf, advance_mem]
  rw [hexec, execXferComplete, act_on hs]
  simp only [hfound, hdone, if_true]

/-- A completion after some time is one of the state before. -/
theorem Completes.of_advance {th k st : Nat} {failed : Bool} {t : State} {q : List Instr}
    (h : Completes die th k st failed (advance dt s) t) : Completes die th k st failed s { t with pending := q } where
  freed := h.freed
  tag := by simpa only [tagOf, advance_seq] using h.tag
  others j hj := by simpa only [tagOf, advance_seq] using h.others j hj
  stepError := by simpa only [advance_seq] using h.stepError
  errCount := by
    have hcount := h.errCount
    rw [reg_advance] at hcount
    exact hcount
  memory := (SameMemory.of_eq (advance_mem dt s) (by rw [advance_host])).trans h.memory

end Transfer

/-- Settles O13: a descriptor at the head of its die's queue is taken, checked and moved as `threadTaken`, `xferPlan`
and `moveData` say; a COPY puts the source packets' words and touches no other word; a completion frees its thread
and advances its tag. -/
theorem transferCommands : Obligations.TransferCommands := by
  unfold Obligations.TransferCommands
  refine ⟨?issue, ?start, ?copy, ?complete⟩
  case issue =>
    intro dt die s i b hs sub v n h hdesc
    have hexec : exec (.xferIssue dt die) s = execXferIssue dt die s := rfl
    rw [hexec, execXferIssue, withSub_ite, ite_self]
    exact act_issueXfer dt hs h hdesc
  case start =>
    intro dt die thread obs s d q hs u
    have hexec := exec_xferThreadStart (dt := dt) (die := die) (thread := thread) (o := obs) (t := _) hs rfl
    change exec _ s = .next { threadStart die thread.toNat obs u with pending := s.pending } at hexec
    clear_value u
    intro hfree hqueue hth hhold v w mem
    refine ⟨fun st side hplan => ?_, fun hplan hgated => ?_, fun hplan hmay => ?_⟩
    · obtain ⟨counted, hdone⟩ := threadStart_done hfree hqueue hth hhold hplan
      exact ⟨_, _, hexec, hdone.queue, hdone.thread, rfl, rfl, rfl, rfl, hdone.memory⟩
    · obtain ⟨counted, hwaits⟩ := threadStart_gated hfree hqueue hth hhold hplan hgated
      exact ⟨_, _, hexec, hwaits.queue, hwaits.thread, rfl, hwaits.memory⟩
    · rw [hexec, (threadStart_planned hfree hqueue hth hhold hplan).trans (if_pos hmay)]
      rfl
  case copy =>
    intro dt die thread s x sd sw dd dw n hs u hthread hphase hmay hlist hplan hpath hread hwrite
    obtain ⟨t, hexec, hmem⟩ := exec_xferThreadStart_copy hs hthread hphase hmay hlist hplan hpath hread hwrite
    have hfit : dw + 9 * n ≤ spadWords dd := of_decide_eq_true (xferPlan_copy hplan)
    have hcopied : threadOf t die thread.toNat = some (copiedXfer x u sd sw n) := by
      rw [threadOf, hmem]
      exact threadOf_setThread ..
    obtain ⟨hhbm, hpoison⟩ := hbm_copyDone (die := die) (th := thread.toNat) (sd := sd) (sw := sw) (dd := dd) (dw := dw)
      (n := n) (x := x) (u := u)
    refine ⟨t, _, hexec, hcopied, rfl, rfl, fun k hk => ?_, fun e a h => ?_, ?_, ?_⟩
    · exact (spadAt_of_mem hmem ..).trans (spadAt_copyDone hfit hk)
    · exact (spadAt_of_mem hmem ..).trans (spadAt_copyDone_other h)
    · rw [hmem, hhbm]
    · rw [hmem, hpoison]
  case complete =>
    intro dt die thread s x hs hthread hdone
    obtain ⟨u, hu⟩ : ∃ u, publish die thread.toNat x (advance dt s) = u := ⟨_, rfl⟩
    have hexec := exec_xferComplete hs hthread hdone
    have hpublished := completes_publish die thread.toNat x (advance dt s)
    rw [hu] at hexec hpublished
    obtain ⟨hfreed, htag, hothers, herror, hcount, hmemory⟩ := hpublished.of_advance (q := s.pending)
    refine ⟨_, hexec, hfreed, ?_, ?_, ?_, hothers, hmemory⟩
    · rw [htag, completedTag, apply_ite Tag.count, ite_self]
    · rw [htag, completedTag, apply_ite Tag.base, ite_self]
    · rw [htag, herror, hcount]
      cases stepErrorStatus x.status with
      | true => exact ⟨rfl, rfl, rfl, rfl⟩
      | false => exact ⟨rfl, rfl, rfl⟩

end Sys2Proof.Machine

/-! PROOFS of the family 08_scratchpad_memory_windows. What leaves the scratchpad, HBM, its poison markers and the
memory behind BAR2 as they are: the model's functions that write none of them, in the order of the model's files. -/

namespace Sys2Proof.Machine

open Sys2Proof.Map

/-- The memories that `Memory.wf` speaks of: scratchpad, HBM, its poison markers, and the memory behind BAR2. -/
def memories (s : State) : SMap SWord × SMap Byte × SMap Bool × SMap Byte :=
  (s.mem.spad, s.mem.hbm, s.mem.hbmPoison, s.host.bar2)

theorem memories_of_readView {d : Nat} {s t : State} (h : readView d t = readView d s) : memories t = memories s :=
  congrArg ReadView.memory h

section Updates
variable (s : State) {clk log regs seq breath atlas hkc therm fabric drone secure boot nvm life modLife tensor fmt kv
  luna adapt serve out freeIdx pending}

@[simp] theorem memories_update : memories (State.mk clk log regs seq s.mem breath atlas hkc therm fabric drone s.host
    secure boot nvm life modLife tensor fmt kv luna adapt serve out freeIdx pending) = memories s := Eq.trans rfl rfl

@[simp] theorem memories_update_mem (rings wins queue threads clips access clash noted bankFail selfTest scrubAt retiring
    rowCe) : memories (State.mk clk log regs seq ⟨s.mem.spad, s.mem.hbm, s.mem.hbmPoison, rings, wins, queue, threads,
      clips, access, clash, noted, bankFail, selfTest, scrubAt, retiring, rowCe⟩ breath atlas hkc therm fabric drone
      s.host secure boot nvm life modLife tensor fmt kv luna adapt serve out freeIdx pending) = memories s :=
  Eq.trans rfl rfl

@[simp] theorem memories_update_host (busMaster d3hot linkUp refclk qps ctx eth) :
    memories (State.mk clk log regs seq s.mem breath atlas hkc therm fabric drone ⟨busMaster, d3hot, linkUp, refclk,
      s.host.bar2, qps, ctx, eth⟩ secure boot nvm life modLife tensor fmt kv luna adapt serve out freeIdx pending) =
      memories s := Eq.trans rfl rfl
end Updates

@[simp] theorem memories_ite (p : Prop) [Decidable p] (a b : State) :
    memories (if p then a else b) = if p then memories a else memories b := apply_ite memories p a b

@[simp] theorem memories_foldl {α : Type} {g : State → α → State} (h : ∀ s x, memories (g s x) = memories s)
    (l : List α)
    (s : State) : memories (l.foldl g s) = memories s := foldl_keeps memories l h s

@[simp] theorem memories_inClass (c : Nat) (f : State → State) (s : State) :
    memories (inClass c f s) = memories (f { s with log := { s.log with cls := c } }) := Eq.trans rfl rfl

@[simp] theorem memories_forRequest (r : Nat) (f : State → State) (s : State) :
    memories (forRequest r f s) = memories (f { s with log := { s.log with req := r } }) := Eq.trans rfl rfl

/-! ## Time, registers, events, words and bytes -/

@[simp] theorem memories_advance (dt : Nat) (s : State) : memories (advance dt s) = memories s := by simp [advance]

@[simp] theorem memories_takeFree (s : State) : memories (takeFree s).2 = memories s := by simp [takeFree]

@[simp] theorem memories_emit (o : Output) (s : State) : memories (emit o s) = memories s := by simp [emit]

@[simp] theorem memories_setReg (a : Nat) (v : Word) (s : State) : memories (setReg a v s) = memories s := by
  simp [setReg]

@[simp] theorem memories_updReg (a : Nat) (f : Word → Word) (s : State) : memories (updReg a f s) = memories s := by
  simp [updReg]

@[simp] theorem memories_setFld (a hi lo v : Nat) (s : State) : memories (setFld a hi lo v s) = memories s := by
  simp [setFld]

@[simp] theorem memories_commitRegs (w : When) (s : State) : memories (commitRegs w s) = memories s := by
  simp [commitRegs]

@[simp] theorem memories_bump (a n : Nat) (s : State) : memories (bump a n s) = memories s := by simp [bump]

@[simp] theorem memories_hwSetBits (a : Nat) (m : Word) (s : State) : memories (hwSetBits a m s) = memories s := by
  simp [hwSetBits]

@[simp] theorem memories_setReg64 (a v : Nat) (s : State) : memories (setReg64 a v s) = memories s := by
  simp [setReg64]

@[simp] theorem memories_bump64 (a n : Nat) (s : State) : memories (bump64 a n s) = memories s := by simp [bump64]

@[simp] theorem memories_highWater (a hi lo v : Nat) (s : State) : memories (highWater a hi lo v s) = memories s := by
  simp [highWater]

@[simp] theorem memories_setPort (p : Nat) (x : ShawmPort) (s : State) : memories (setPort p x s) = memories s := by
  simp [setPort]

@[simp] theorem memories_transmit (p : Nat) (f : LinkFrame) (s : State) : memories (transmit p f s) = memories s := by
  simp [transmit]

@[simp] theorem memories_sendLink (p : Nat) (f : LinkFrame) (s : State) : memories (sendLink p f s) = memories s := by
  simp [sendLink]

@[simp] theorem memories_sendFrame (p : Nat) (f : Frame) (s : State) : memories (sendFrame p f s) = memories s := by
  simp [sendFrame]

@[simp] theorem memories_sendOn (inPort p : Nat) (received f : Frame) (s : State) :
    memories (sendOn inPort p received f s) = memories s := by simp [sendOn]

@[simp] theorem memories_sendTo (dst : Nat) (f : Bool → Frame) (s : State) :
    memories (sendTo dst f s) = memories s := by
  unfold sendTo
  repeat' split
  all_goals simp

@[simp] theorem memories_msix (v : Nat) (s : State) : memories (msix v s) = memories s := by simp [msix]

@[simp] theorem memories_captureFirst (page sev code detail : Nat) (ovf : Bool) (s : State) :
    memories (captureFirst page sev code detail ovf s) = memories s := by simp [captureFirst]

@[simp] theorem memories_firstErr (page sev code detail : Nat) (s : State) :
    memories (firstErr page sev code detail s) = memories s := by simp [firstErr]

@[simp] theorem memories_enqueueEvent (e : Event) (s : State) : memories (enqueueEvent e s) = memories s := by
  simp [enqueueEvent]

@[simp] theorem memories_keepFatal (e : Event) (s : State) : memories (keepFatal e s) = memories s := by
  simp [keepFatal]

@[simp] theorem memories_noticeEvent (sev code : Nat) (s : State) :
    memories (noticeEvent sev code s) = memories s := by simp [noticeEvent]

@[simp] theorem memories_fatalStop (sev code : Nat) (s : State) : memories (fatalStop sev code s) = memories s := by
  simp [fatalStop]

@[simp] theorem memories_signalEvent (e : Event) (s : State) : memories (signalEvent e s) = memories s := by
  simp [signalEvent]

@[simp] theorem memories_raiseAt (t page code sev cls req detail : Nat) (s : State) :
    memories (raiseAt t page code sev cls req detail s) = memories s := by simp [raiseAt]

@[simp] theorem memories_raiseFor (page code cls req detail : Nat) (s : State) :
    memories (raiseFor page code cls req detail s) = memories s := by simp [raiseFor]

@[simp] theorem memories_raise (page code detail : Nat) (s : State) :
    memories (raise page code detail s) = memories s := by simp [raise]

@[simp] theorem memories_raiseOwn (page code detail : Nat) (s : State) :
    memories (raiseOwn page code detail s) = memories s := by simp [raiseOwn]

@[simp] theorem memories_collect (code key n : Nat) (s : State) : memories (collect code key n s) = memories s := by
  simp [collect]

@[simp] theorem memories_collectFirst (code key n first : Nat) (s : State) :
    memories (collectFirst code key n first s) = memories s := by simp [collectFirst]

@[simp] theorem memories_raiseOnce (page code key detail : Nat) (s : State) :
    memories (raiseOnce page code key detail s) = memories s := by simp [raiseOnce]

@[simp] theorem memories_cmdInvalidPg (code addr : Nat) (v : Word) (s : State) :
    memories (cmdInvalidPg code addr v s) = memories s := by simp [cmdInvalidPg]

@[simp] theorem memories_cmdInvalid (page code addr : Nat) (v : Word) (s : State) :
    memories (cmdInvalid page code addr v s) = memories s := by simp [cmdInvalid]

@[simp] theorem memories_charge (die cls res amount cpj : Nat) (s : State) :
    memories (charge die cls res amount cpj s) = memories s := by simp [charge]

@[simp] theorem memories_chargeHbm (die cls bursts : Nat) (s : State) :
    memories (chargeHbm die cls bursts s) = memories s := by simp [chargeHbm]

@[simp] theorem memories_chargeShawm (die cls n : Nat) (s : State) :
    memories (chargeShawm die cls n s) = memories s := by simp [chargeShawm]

@[simp] theorem memories_chargeEth (cls n : Nat) (s : State) : memories (chargeEth cls n s) = memories s := by
  simp [chargeEth]

@[simp] theorem memories_stopPrograms (s : State) : memories (stopPrograms s) = memories s := by simp [stopPrograms]

@[simp] theorem memories_setTag (t : Nat) (x : Tag) (s : State) : memories (setTag t x s) = memories s := by
  simp [setTag]

@[simp] theorem memories_tagAdvance (t : Nat) (s : State) : memories (tagAdvance t s) = memories s := by
  simp [tagAdvance]

/-! ## Housekeeping converters and the thermal model -/

@[simp] theorem memories_setHkc (d : Nat) (h : Hkc) (s : State) : memories (setHkc d h s) = memories s := by
  simp [setHkc]

@[simp] theorem memories_hkcPublish (d ch : Nat) (raw : BitVec 12) (s : State) :
    memories (hkcPublish d ch raw s) = memories s := by simp [hkcPublish]

@[simp] theorem memories_atlasAdd (c n : Nat) (s : State) : memories (atlasAdd c n s) = memories s := by
  simp [atlasAdd]

@[simp] theorem memories_apportion (d e : Nat) (chg : Map.SMap Nat) (s : State) :
    memories (apportion d e chg s) = memories s := by simp [apportion]

@[simp] theorem memories_integrate (d t : Nat) (rails : List Nat) (s : State) :
    memories (integrate d t rails s) = memories s := by simp [integrate]

@[simp] theorem memories_scanStart (s : State) : memories (scanStart s) = memories s := by simp [scanStart]

@[simp] theorem memories_scanEnd (o : ScanObs) (s : State) : memories (scanEnd o s) = memories s := by simp [scanEnd]

@[simp] theorem memories_sampleMissing (d : Nat) (s : State) : memories (sampleMissing d s) = memories s := by
  simp [sampleMissing]

@[simp] theorem memories_hkcCalStart (d : Nat) (s : State) : memories (hkcCalStart d s) = memories s := by
  simp [hkcCalStart]

@[simp] theorem memories_hkcCmd (d : Nat) (v : Word) (s : State) : memories (hkcCmd d v s) = memories s := by
  simp [hkcCmd]

@[simp] theorem memories_hkcCalFinish (d : Nat) (m : HkcMeans) (s : State) :
    memories (hkcCalFinish d m s) = memories s := by
  simp only [hkcCalFinish]
  split <;> simp

@[simp] theorem memories_nvTouch (s : State) : memories (nvTouch s) = memories s := by simp [nvTouch]

@[simp] theorem memories_nvmFind (o : NvmObs) (s : State) : memories (nvmFind o s).2 = memories s := by
  simp only [nvmFind]
  repeat' split
  all_goals simp

@[simp] theorem memories_nvmFinds (l : List NvmObs) (s : State) : memories (nvmFinds l s).2 = memories s := by
  have key : ∀ x : Bool × State, memories (l.foldl (fun x o => (x.1 || (nvmFind o x.2).1, (nvmFind o x.2).2)) x).2 =
      memories x.2 := by
    induction l with
    | nil => intro x; rfl
    | cons o l ih => intro x; simp [ih]
  exact key (false, s)

@[simp] theorem memories_writeShutdown (cause die : Nat) (e : Int) (diode : Nat) (s : State) :
    memories (writeShutdown cause die e diode s) = memories s := by simp [writeShutdown]

@[simp] theorem memories_thermalTrip (die : Nat) (e : Int) (cause diode : Nat) (s : State) :
    memories (thermalTrip die e cause diode s) = memories s := by
  by_cases h : s.therm.tripped = true
  · rw [thermalTrip, if_pos h]
  · rw [thermalTrip, if_neg h, memories_writeShutdown, memories_stopPrograms]
    generalize hraised : raise _ _ _ _ = raised
    exact (memories_update raised).trans (hraised ▸ memories_raise ..)

@[simp] theorem memories_tripAssert (s : State) : memories (tripAssert s) = memories s := by simp [tripAssert]

@[simp] theorem memories_rootLoss (s : State) : memories (rootLoss s) = memories s := by simp [rootLoss]

@[simp] theorem memories_clockFault (k : ClockFault) (s : State) : memories (clockFault k s) = memories s := by
  simp only [clockFault]
  split <;> simp

@[simp] theorem memories_seedModel (rs : List DiodeObs) (s : State) : memories (seedModel rs s) = memories s := by
  simp only [seedModel]
  refine memories_foldl ?_ _ s
  exact fun _ _ => rfl

@[simp] theorem memories_diodeCmd (v : Word) (s : State) : memories (diodeCmd v s) = memories s := by simp [diodeCmd]

@[simp] theorem memories_diodeRead (d : Nat) (o : DiodeObs) (s : State) :
    memories (diodeRead d o s) = memories s := by simp [diodeRead]

@[simp] theorem memories_diodeEnd (d : Nat) (o : DiodeObs) (s : State) : memories (diodeEnd d o s) = memories s := by
  simp [diodeEnd]

@[simp] theorem memories_readAll (rs : List DiodeObs) (s : State) : memories (readAll rs s) = memories s := by
  simp [readAll]

@[simp] theorem memories_thermCmd (v : Word) (rs : List DiodeObs) (s : State) :
    memories (thermCmd v rs s) = memories s := by simp [thermCmd]

@[simp] theorem memories_limitsWrite (v : Word) (s : State) : memories (limitsWrite v s) = memories s := by
  simp [limitsWrite]

@[simp] theorem memories_modelUpdate (n : Nat) (s : State) : memories (modelUpdate n s) = memories s := by
  simp only [modelUpdate]
  refine memories_foldl ?_ _ _
  exact fun _ _ => rfl

@[simp] theorem memories_publishRates (s : State) : memories (publishRates s) = memories s := by
  refine memories_foldl ?_ _ s
  exact fun _ _ => rfl

@[simp] theorem memories_latchEvent (met clear latched : Bool) {ev : State → State} {setL : Bool → State → State}
    (hev : ∀ s, memories (ev s) = memories s) (hset : ∀ b s, memories (setL b s) = memories s) (s : State) :
    memories (latchEvent met clear latched ev setL s) = memories s := by
  simp only [latchEvent]
  repeat' split
  all_goals simp [hev, hset]

@[simp] theorem memories_thresholds (s : State) : memories (thresholds s) = memories s := by
  unfold thresholds
  split
  · rfl
  · refine memories_foldl ?_ _ s
    intro s d
    extract_lets e warn trip det warned r rated lowed lowEn blocked
    have hwarned : memories warned = memories s := memories_latchEvent _ _ _ (memories_raise 5 _ _) (by intros; rfl) s
    have hrated : memories rated = memories warned :=
      memories_latchEvent _ _ _ (memories_raise 5 _ _) (by intros; rfl) _
    have hlowed : memories lowed = memories rated := by
      simp only [lowed]
      split
      · rfl
      · exact memories_latchEvent _ _ _ (memories_raise 5 _ _) (by intros; rfl) _
    have hblocked : memories blocked = memories lowed := by
      simp only [blocked]
      split
      · rfl
      · exact memories_latchEvent _ _ _ (memories_raise 5 _ _) (by intros; rfl) _
    have hall : memories blocked = memories s := by rw [hblocked, hlowed, hrated, hwarned]
    split
    · rw [memories_thermalTrip, hall]
    · exact hall

@[simp] theorem memories_throttleUpdate (s : State) : memories (throttleUpdate s) = memories s := by
  simp [throttleUpdate]

@[simp] theorem memories_accrueLife (n : Nat) (s : State) : memories (accrueLife n s) = memories s := by
  refine memories_foldl ?_ _ s
  exact fun _ _ => rfl

@[simp] theorem memories_thermBoundary (n : Nat) (s : State) : memories (thermBoundary n s) = memories s := by
  simp only [thermBoundary]
  split <;> simp

/-! ## Gates, spends and allowances -/

@[simp] theorem memories_addSpend (c r n : Nat) (s : State) : memories (addSpend c r n s) = memories s := by
  simp [addSpend]

@[simp] theorem memories_borrowFrom (cs : List Nat) (r n : Nat) (s : State) :
    memories (borrowFrom cs r n s) = memories s := by
  induction cs generalizing n s with
  | nil => simp [borrowFrom]
  | cons c cs ih =>
    simp only [borrowFrom]
    repeat' split
    all_goals simp [ih]

@[simp] theorem memories_applyCharge (c r n : Nat) (s : State) : memories (applyCharge c r n s) = memories s := by
  unfold applyCharge
  repeat' split
  all_goals simp

@[simp] theorem memories_settle (all : Bool) (s : State) : memories (settle all s) = memories s := by simp [settle]

@[simp] theorem memories_gatesNow (s : State) : memories (gatesNow s) = memories s := by simp [gatesNow]

@[simp] theorem memories_evalGates (s : State) : memories (evalGates s) = memories s := by simp [evalGates]

@[simp] theorem memories_breathTicksWrite (v : Word) (s : State) : memories (breathTicksWrite v s) = memories s := by
  simp [breathTicksWrite]

@[simp] theorem memories_closeSpends (s0 : State) : memories (closeSpends s0) = memories s0 := by simp [closeSpends]

@[simp] theorem memories_spendEvents (s0 s : State) : memories (spendEvents s0 s) = memories s := by
  unfold spendEvents
  extract_lets s1 s2 ticks
  have h1 : memories s1 = memories s := by
    refine memories_foldl ?_ _ s
    intro s c
    extract_lets ex s'
    have hs' : memories s' = memories s := by simp only [s']; split <;> simp
    split <;> simp [hs']
  have h2 : memories s2 = memories s := by simp only [s2]; split <;> simp [h1]
  split <;> simp [h2]

@[simp] theorem memories_closeMeasure (b : Nat) (s : State) : memories (closeMeasure b s) = memories s := by
  simp [closeMeasure]

@[simp] theorem memories_updateK (n : Nat) (s : State) : memories (updateK n s) = memories s := by simp [updateK]

@[simp] theorem memories_powerLimitWrite (v : Word) (s : State) : memories (powerLimitWrite v s) = memories s := by
  simp [powerLimitWrite]

@[simp] theorem memories_windowUpdate (s : State) : memories (windowUpdate s) = memories s := by simp [windowUpdate]

@[simp] theorem memories_setAllowance (s : State) : memories (setAllowance s) = memories s := by simp [setAllowance]

@[simp] theorem memories_checkAllowance (s : State) : memories (checkAllowance s) = memories s := by
  simp [checkAllowance]

@[simp] theorem memories_boundaryCore (b : Nat) (s : State) : memories (boundaryCore b s) = memories s := by
  simp [boundaryCore]

/-! ## Die-to-die links -/

@[simp] theorem memories_d2dReplay (l : Nat) (s : State) : memories (d2dReplay l s) = memories s := by
  simp [d2dReplay]

@[simp] theorem memories_d2dDown (l seq : Nat) (s : State) : memories (d2dDown l seq s) = memories s := by
  simp [d2dDown]

@[simp] theorem memories_showLanes (l : Nat) (s : State) : memories (showLanes l s) = memories s := by
  simp [showLanes]

@[simp] theorem memories_showAllLanes (s : State) : memories (showAllLanes s) = memories s :=
  memories_foldl (fun s l => memories_showLanes l s) _ s

@[simp] theorem memories_linkTrained (l : Nat) (failed : List Lane) (s : State) :
    memories (linkTrained l failed s) = memories s := by simp [linkTrained]

@[simp] theorem memories_d2dRepairCmd (v : Word) (s : State) : memories (d2dRepairCmd v s) = memories s := by
  simp [d2dRepairCmd]

/-! ## Accumulators -/

@[simp] theorem memories_setAcc (d i : Nat) (a : Acc) (s : State) : memories (setAcc d i a s) = memories s := by
  simp [setAcc]

@[simp] theorem memories_poisonAcc (d i : Nat) (s : State) : memories (poisonAcc d i s) = memories s := by
  simp [poisonAcc]

@[simp] theorem memories_addAccFlags (d i f : Nat) (s : State) : memories (addAccFlags d i f s) = memories s := by
  simp [addAccFlags]

@[simp] theorem memories_closeCycle (s : State) : memories (closeCycle s) = memories s := by simp [closeCycle]

@[simp] theorem memories_enterCycle (c : Nat) (s : State) : memories (enterCycle c s) = memories s := by
  simp [enterCycle]

@[simp] theorem memories_noteChunk (d i : Nat) (s : State) : memories (noteChunk d i s) = memories s := by
  simp [noteChunk]

@[simp] theorem memories_takeAdd (d : Nat) (s : State) : memories (takeAdd d s).2 = memories s := by simp [takeAdd]

@[simp] theorem memories_accOrder (d i kseq : Nat) (s : State) : memories (accOrder d i kseq s) = memories s := by
  simp [accOrder]

@[simp] theorem memories_accClear (d i : Nat) (s : State) : memories (accClear d i s) = memories s := by
  simp [accClear]

@[simp] theorem memories_accPreload (d i : Nat) (e : Elem) (fl : Nat) (s : State) :
    memories (accPreload d i e fl s) = memories s := by simp [accPreload]

@[simp] theorem memories_accAdd (d i : Nat) (e : Elem) (kseq fl : Nat) (s : State) :
    memories (accAdd d i e kseq fl s) = memories s := by simp [accAdd]

@[simp] theorem memories_accExtInit (d i mode : Nat) (s : State) : memories (accExtInit d i mode s) = memories s := by
  simp [accExtInit]

@[simp] theorem memories_accExtChunk (d i : Nat) (es : List Elem) (kseq fl : Nat) (invalid : Bool) (s : State) :
    memories (accExtChunk d i es kseq fl invalid s) = memories s := by
  simp only [accExtChunk]
  repeat' split
  all_goals simp

@[simp] theorem memories_accRestore (d i : Nat) (img : Option Bytes) (s : State) :
    memories (accRestore d i img s) = memories s := by simp [accRestore]

@[simp] theorem memories_accFile (d : Nat) (o : AccObs) (s : State) : memories (accFile d o s) = memories s := by
  simp [accFile]

@[simp] theorem memories_accResidue (d : Nat) (o : AccObs) (s : State) :
    memories (accResidue d o s) = memories s := by simp [accResidue]

@[simp] theorem memories_countMacs (d n : Nat) (s : State) : memories (countMacs d n s) = memories s := by
  simp [countMacs]

/-! ## Slot rings and windows -/

@[simp] theorem memories_setRing (d r : Nat) (x : Ring) (s : State) : memories (setRing d r x s) = memories s := by
  simp [setRing]

@[simp] theorem memories_ringError (d r n : Nat) (overrun : Bool) (s : State) :
    memories (ringError d r n overrun s) = memories s := by simp [ringError]

@[simp] theorem memories_ringPublish (d r : Nat) (s : State) : memories (ringPublish d r s) = memories s := by
  simp only [ringPublish]
  split <;> simp

@[simp] theorem memories_ringRelease (d r : Nat) (s : State) : memories (ringRelease d r s) = memories s := by
  simp [ringRelease]

@[simp] theorem memories_reportBreaks (d : Nat) (bs : List (Nat × Nat)) (write : Bool) (s : State) :
    memories (reportBreaks d bs write s) = memories s := by simp [reportBreaks]

@[simp] theorem memories_noteAccess (c d w : Nat) (s : State) : memories (noteAccess c d w s) = memories s := by
  simp [noteAccess]

@[simp] theorem memories_bankClash (k n : Nat) (s : State) : memories (bankClash k n s) = memories s := by
  simp [bankClash]

@[simp] theorem memories_closeAccess (c : Nat) (s : State) : memories (closeAccess c s) = memories s := by
  simp [closeAccess]

@[simp] theorem memories_schedRead (c d w : Nat) (s : State) : memories (schedRead c d w s).2 = memories s := by
  simp [schedRead]

@[simp] theorem memories_schedReads (c d : Nat) (ws : List Nat) (s : State) :
    memories (schedReads c d ws s).2 = memories s := by
  induction ws generalizing s with
  | nil => rfl
  | cons w ws ih => simp [schedReads, ih]

@[simp] theorem memories_runRead (cyc : Nat → Nat) (d : Nat) (bad : List Nat) (a n : Nat) (s : State) :
    memories (runRead cyc d bad a n s).2 = memories s := by
  induction n generalizing a s with
  | zero => rfl
  | succ n ih => simp [runRead, ih]

@[simp] theorem memories_noteFresh (s : State) : memories (noteFresh s) = memories s := by simp [noteFresh]

@[simp] theorem memories_flagWord (d w : Nat) (bad : List Nat) (s : State) :
    memories (flagWord d w bad s).2 = memories s := by simp [flagWord]

@[simp] theorem memories_setWin (w : Nat) (x : Win) (s : State) : memories (setWin w x s) = memories s := by
  simp [setWin]

@[simp] theorem memories_winConflict (d w cause : Nat) (s : State) :
    memories (winConflict d w cause s) = memories s := by simp [winConflict]

@[simp] theorem memories_spadEcc (die corr : Nat) (bad : List Nat) (s : State) :
    memories (spadEcc die corr bad s) = memories s := by simp [spadEcc]

@[simp] theorem memories_winOpen (d w : Nat) (bad : List Nat) (s : State) :
    memories (winOpen d w bad s) = memories s := by
  simp only [winOpen]
  repeat' split
  all_goals simp

@[simp] theorem memories_winClose (d w : Nat) (s : State) : memories (winClose d w s) = memories s := by
  simp [winClose]

@[simp] theorem memories_closeAll (s : State) : memories (closeAll s) = memories s := by simp [closeAll]

@[simp] theorem memories_winAdmit (w src die thread off packets hub : Nat) (s : State) :
    memories (winAdmit w src die thread off packets hub s).2 = memories s := by
  simp only [winAdmit]
  repeat' split
  all_goals simp

@[simp] theorem memories_winLanded (w : Nat) (f : Flight) (s : State) : memories (winLanded w f s) = memories s := by
  unfold winLanded
  repeat' split
  all_goals simp

@[simp] theorem memories_winDropped (w : Nat) (f : Flight) (s : State) :
    memories (winDropped w f s) = memories s := by simp [winDropped]

/-! ## Bundles -/

@[simp] theorem memories_bundleInvalid (die slot sub pos : Nat) (s : State) :
    memories (bundleInvalid die slot sub pos s) = memories s := by simp [bundleInvalid]

@[simp] theorem memories_tableFault (die sub off : Nat) (s : State) :
    memories (tableFault die sub off s) = memories s := by simp [tableFault]

/-! ## Tensor operations -/

@[simp] theorem memories_withSub (die sub op : Nat) {f : SubCtx → State → State}
    (hf : ∀ c s, memories (f c s) = memories s) (s : State) : memories (withSub die sub op f s) = memories s := by
  simp only [withSub]
  repeat' split
  all_goals simp [hf]

@[simp] theorem memories_later (due : Nat) (e : Effect) (s : State) : memories (later due e s) = memories s := by
  simp [later]

@[simp] theorem memories_fmtCount (die code counter n first : Nat) (s : State) :
    memories (fmtCount die code counter n first s) = memories s := by simp [fmtCount]

@[simp] theorem memories_fmtNonfinite (die n : Nat) (s : State) : memories (fmtNonfinite die n s) = memories s := by
  simp [fmtNonfinite]

@[simp] theorem memories_countReading (die : Nat) (r : Reading) (s : State) :
    memories (countReading die r s) = memories s := by simp [countReading]

@[simp] theorem memories_widenNote (f id blocks under sat : Nat) (s : State) :
    memories (widenNote f id blocks under sat s) = memories s := by simp [widenNote]

@[simp] theorem memories_countWriting (die fmt : Nat) (w : Writing) (s : State) :
    memories (countWriting die fmt w s) = memories s := by simp [countWriting]

@[simp] theorem memories_rowCorrected (b : Nat) (s : State) : memories (rowCorrected b s) = memories s := by
  simp [rowCorrected]

@[simp] theorem memories_hbmEcc (o : XferObs) (s : State) : memories (hbmEcc o s) = memories s := by simp [hbmEcc]

@[simp] theorem memories_operand (die cycle addr n : Nat) (bad : List Nat) (s : State) :
    memories (operand die cycle addr n bad s).2 = memories s := by simp [operand]

@[simp] theorem memories_descInvalid (die fmt : Nat) (s : State) : memories (descInvalid die fmt s) = memories s := by
  simp [descInvalid]

@[simp] theorem memories_noteWrites (die due addr n : Nat) (s : State) :
    memories (noteWrites die due addr n s) = memories s := by simp [noteWrites]

@[simp] theorem memories_writeLater (die cycle addr : Nat) (flagAddr : Option Nat) (flagBad : Bool) (reads : List Nat)
    (ws : List (Option DWord)) (fl : Nat) (s : State) :
    memories (writeLater die cycle addr flagAddr flagBad reads ws fl s) = memories s := by simp [writeLater]

@[simp] theorem memories_tensorIssue (op : Nat) {f : SubCtx → TDesc → State → State}
    (hf : ∀ c t s, memories (f c t s) = memories s) (c : SubCtx) (s : State) :
    memories (tensorIssue op f c s) = memories s := by
  simp only [tensorIssue]
  repeat' split
  all_goals simp [hf]

@[simp] theorem memories_matmulIssue (o : AccObs) (c : SubCtx) (t : TDesc) (s : State) :
    memories (matmulIssue o c t s) = memories s := by
  simp only [matmulIssue]
  repeat' split
  all_goals simp

@[simp] theorem memories_initIssue (op : Nat) (c : SubCtx) (t : TDesc) (s : State) :
    memories (initIssue op c t s) = memories s := by simp [initIssue]

@[simp] theorem memories_loadIssue (op : Nat) (o : AccObs) (c : SubCtx) (t : TDesc) (s : State) :
    memories (loadIssue op o c t s) = memories s := by
  simp only [loadIssue]
  split <;> simp

@[simp] theorem memories_readIssue (op : Nat) (o : AccObs) (c : SubCtx) (t : TDesc) (s : State) :
    memories (readIssue op o c t s) = memories s := by simp [readIssue]

@[simp] theorem memories_saveIssue (o : AccObs) (c : SubCtx) (t : TDesc) (s : State) :
    memories (saveIssue o c t s) = memories s := by simp [saveIssue]

@[simp] theorem memories_restoreIssue (o : AccObs) (c : SubCtx) (t : TDesc) (s : State) :
    memories (restoreIssue o c t s) = memories s := by simp [restoreIssue]

@[simp] theorem memories_vectorIssue (o : AccObs) (c : SubCtx) (t : TDesc) (s : State) :
    memories (vectorIssue o c t s) = memories s := by
  simp only [vectorIssue]
  repeat' split
  all_goals simp

@[simp] theorem memories_accChunksDone (die cycle : Nat) (cs : List PicChunk) (o : AccObs) (s : State) :
    memories (accChunksDone die cycle cs o s) = memories s := by simp [accChunksDone]

@[simp] theorem memories_flagClearIssue (c : SubCtx) (s : State) : memories (flagClearIssue c s) = memories s := by
  simp only [flagClearIssue]
  split <;> simp

@[simp] theorem memories_ringIssue (publish : Bool) (c : SubCtx) (s : State) :
    memories (ringIssue publish c s) = memories s := by
  simp only [ringIssue]
  split <;> simp

@[simp] theorem memories_windowIssue (opening : Bool) (entryBad : List Nat) (c : SubCtx) (s : State) :
    memories (windowIssue opening entryBad c s) = memories s := by simp [windowIssue]

/-! ## The key-value cache -/

@[simp] theorem memories_poolInit (s : State) : memories (poolInit s) = memories s := by simp [poolInit]

@[simp] theorem memories_poolMark (q before : Nat) (s : State) : memories (poolMark q before s) = memories s := by
  simp [poolMark]

@[simp] theorem memories_countPage (die layer : Nat) (p : ListPage) (r : PageRead) (s : State) :
    memories (countPage die layer p r s) = memories s := by simp [countPage]

/-! ## Queue pairs -/

@[simp] theorem memories_setCtxEntry (t i : Nat) (b : Bytes) (s : State) :
    memories (setCtxEntry t i b s) = memories s := by simp [setCtxEntry]

@[simp] theorem memories_setQpState (q st : Nat) (s : State) : memories (setQpState q st s) = memories s := by
  simp [setQpState]

@[simp] theorem memories_setQp (q : Nat) (x : QpState) (s : State) : memories (setQp q x s) = memories s := by
  simp [setQp]

@[simp] theorem memories_psnAdvance (a q n : Nat) (s : State) : memories (psnAdvance a q n s) = memories s := by
  simp [psnAdvance]

@[simp] theorem memories_markSent (q : Nat) (s : State) : memories (markSent q s) = memories s := by simp [markSent]

@[simp] theorem memories_qpSend (q : Nat) (m : RoceMsg) (s : State) : memories (qpSend q m s) = memories s := by
  simp [qpSend]

@[simp] theorem memories_qpPost (q : Nat) (w : Work) (s : State) : memories (qpPost q w s) = memories s := by
  simp [qpPost]

@[simp] theorem memories_qpResend (q : Nat) (s : State) : memories (qpResend q s) = memories s := by simp [qpResend]

/-! ## Transfers -/

@[simp] theorem memories_chargeXfer (die : Nat) (b : Bytes) (bad : List (Nat × Nat)) (s : State) :
    memories (chargeXfer die b bad s) = memories s := by
  simp only [chargeXfer]
  repeat' split
  all_goals simp

@[simp] theorem memories_readPlace (p : Place) (n : Nat) (o : XferObs) (counted : List (Nat × Nat × Nat))
    (s : State) :
    memories (readPlace p n o counted s).2 = memories s := by
  simp only [readPlace]
  split <;> simp

@[simp] theorem memories_xferSpadEcc (o : XferObs) (s : State) : memories (xferSpadEcc o s) = memories s := by
  simp [xferSpadEcc]

@[simp] theorem memories_setThread (die th : Nat) (x : Xfer) (s : State) :
    memories (setThread die th x s) = memories s := by simp [setThread]

@[simp] theorem memories_freeThread (die th : Nat) (s : State) : memories (freeThread die th s) = memories s := by
  simp [freeThread]

@[simp] theorem memories_statusEvent (die th index st side : Nat) (s : State) :
    memories (statusEvent die th index st side s) = memories s := by simp [statusEvent]

@[simp] theorem memories_publish (die th : Nat) (x : Xfer) (s : State) :
    memories (publish die th x s) = memories s := by simp [publish]

@[simp] theorem memories_countUnderruns (die th : Nat) (bs : List (Nat × Nat)) (s : State) :
    memories (countUnderruns die th bs s) = memories s := by
  simp only [countUnderruns]
  split <;> simp

@[simp] theorem memories_endThread (die th st side : Nat) (s : State) :
    memories (endThread die th st side s) = memories s := by
  simp only [endThread]
  split <;> simp

@[simp] theorem memories_completeNow (die th st side : Nat) (s : State) :
    memories (completeNow die th st side s) = memories s := by
  simp only [completeNow]
  split <;> simp

@[simp] theorem memories_senderClosed (die m win cause : Nat) (s : State) :
    memories (senderClosed die m win cause s) = memories s := by simp [senderClosed]

@[simp] theorem memories_setQueue (die : Nat) (q : List Desc) (s : State) :
    memories (setQueue die q s) = memories s := by simp [setQueue]

@[simp] theorem memories_issueXfer (c : SubCtx) (s : State) : memories (issueXfer c s) = memories s := by
  simp only [issueXfer]
  split <;> simp

@[simp] theorem memories_takeThread (die th : Nat) (o : XferObs) (d : Desc) (s : State) :
    memories (takeThread die th o d s) = memories s := by simp [takeThread]

@[simp] theorem memories_zeroLens (s : State) : memories (zeroLens s) = memories s := by simp [zeroLens]

/-! ## Adapters and training -/

@[simp] theorem memories_adapterCmd (v : Word) (s : State) : memories (adapterCmd v s) = memories s := by
  simp [adapterCmd]

@[simp] theorem memories_gradNorm (gs : List Elem) (s : State) : memories (gradNorm gs s).2 = memories s := by
  simp only [gradNorm]
  split <;> simp

@[simp] theorem memories_jobEnds (cause : Nat) (s : State) : memories (jobEnds cause s) = memories s := by
  simp [jobEnds]

/-! ## Arrays -/

@[simp] theorem memories_setLunaDie (d : Nat) (x : LunaDie) (s : State) :
    memories (setLunaDie d x s) = memories s := by simp [setLunaDie]

@[simp] theorem memories_updLunaDie (d : Nat) (f : LunaDie → LunaDie) (s : State) :
    memories (updLunaDie d f s) = memories s := by simp [updLunaDie]

@[simp] theorem memories_setMap (d a : Nat) (e : MapEntry) (s : State) : memories (setMap d a e s) = memories s := by
  simp [setMap]

@[simp] theorem memories_setPhys (d p : Nat) (x : Phys) (s : State) : memories (setPhys d p x s) = memories s := by
  simp [setPhys]

@[simp] theorem memories_updPhys (d p : Nat) (f : Phys → Phys) (s : State) :
    memories (updPhys d p f s) = memories s := by simp [updPhys]

@[simp] theorem memories_raiseLapsed (d a cause : Nat) (s : State) :
    memories (raiseLapsed d a cause s) = memories s := by simp [raiseLapsed]

@[simp] theorem memories_clearLapsed (d a cause : Nat) (s : State) :
    memories (clearLapsed d a cause s) = memories s := by simp [clearLapsed]

@[simp] theorem memories_setTrk (d p : Nat) (t : Tracker) (s : State) : memories (setTrk d p t s) = memories s := by
  simp [setTrk]

@[simp] theorem memories_setMargin (d p : Nat) (m : Margin) (s : State) :
    memories (setMargin d p m s) = memories s := by simp [setMargin]

@[simp] theorem memories_setBeta (d p : Nat) (b : Int) (s : State) : memories (setBeta d p b s) = memories s := by
  simp [setBeta]

@[simp] theorem memories_loseTracker (d p cause : Nat) (s : State) :
    memories (loseTracker d p cause s) = memories s := by simp [loseTracker]

@[simp] theorem memories_driftCheck (d p : Nat) (s : State) : memories (driftCheck d p s) = memories s := by
  simp [driftCheck]

@[simp] theorem memories_seedTracker (d p : Nat) (g : Word) (o : Int) (s : State) :
    memories (seedTracker d p g o s) = memories s := by simp [seedTracker]

@[simp] theorem memories_unseedTracker (d p : Nat) (s : State) : memories (unseedTracker d p s) = memories s := by
  simp [unseedTracker]

@[simp] theorem memories_picDir (cyc : Nat → Nat) (d a : Nat) (bad : List Nat) (s : State) :
    memories (picDir cyc d a bad s).2 = memories s := by
  simp only [picDir]
  repeat' split
  all_goals simp

@[simp] theorem memories_tableBytes (cyc : Nat → Nat) (d a n : Nat) (bad : List Nat) (s : State) :
    memories (tableBytes cyc d a n bad s).2 = memories s := by
  simp only [tableBytes]
  split <;> simp

@[simp] theorem memories_picOutliers (cyc : Nat → Nat) (d : Nat) (e : PicDir) (bad : List Nat) (s : State) :
    memories (picOutliers cyc d e bad s).2 = memories s := by
  have hb := memories_tableBytes cyc d e.outlier (8 * e.outWords) bad s
  simp only [picOutliers]
  split
  · rfl
  · split <;> simp_all

@[simp] theorem memories_picStatic (cyc : Nat → Nat) (d : Nat) (e : PicDir) (bad : List Nat) (s : State) :
    memories (picStatic cyc d e bad s).2 = memories s := by
  have hb := memories_tableBytes cyc d e.slist 64 bad s
  simp only [picStatic]
  split
  · rfl
  · split <;> simp_all

@[simp] theorem memories_picTables (cyc : Nat → Nat) (d a : Nat) (bad : List Nat) (s : State) :
    memories (picTables cyc d a bad s).2 = memories s :=
  memories_of_readView (d := d) (readView_picTables ..)

@[simp] theorem memories_tableInvalid (d a part : Nat) (s : State) :
    memories (tableInvalid d a part s) = memories s := by simp [tableInvalid]

/-! ## Array-group operations -/

@[simp] theorem memories_groupIssue (trn : Bool) (c : SubCtx) (s : State) :
    memories (groupIssue trn c s) = memories s := by
  unfold groupIssue
  repeat' split
  all_goals simp

@[simp] theorem memories_readSegment (cyc : Nat → Nat) (d a : Nat) (trn a8 : Bool) (bad : List Nat) (s : State) :
    memories (readSegment cyc d a trn a8 bad s).2 = memories s := by simp [readSegment]

@[simp] theorem memories_meetRates (d t0 t1 : Nat) (nOut nStat nAd : List Nat) (s : State) :
    memories (meetRates d t0 t1 nOut nStat nAd s).2 = memories s := by simp [meetRates]

@[simp] theorem memories_adapterRow (cyc : Nat → Nat) (d a w : Nat) (bad : List Nat) (s : State) :
    memories (adapterRow cyc d a w bad s).2 = memories s := by
  simp only [adapterRow]
  repeat' split
  all_goals simp

@[simp] theorem memories_readFlags (d a p : Nat) (cfg : Word) (st : Nat) (s : State) :
    memories (readFlags d a p cfg st s).2 = memories s := by simp [readFlags]

@[simp] theorem memories_prepareRead (d : Nat) (op : ArrOp) (g : AGroup) (bad : List Nat) (e : Nat) (s : State) :
    memories (prepareRead d op g bad e s).2 = memories s :=
  memories_of_readView (prepareRead_effect d op g bad e s).2

@[simp] theorem memories_prepareAll (d : Nat) (op : ArrOp) (g : AGroup) (bad es : List Nat) (s : State) :
    memories (prepareAll d op g bad es s).2 = memories s := by
  induction es generalizing s with
  | nil => rfl
  | cons e es ih => simp [prepareAll, ih]

@[simp] theorem memories_launch (d : Nat) (op : ArrOp) (ext : Nat) (xs : List Ready) (s : State) :
    memories (launch d op ext xs s).2 = memories s := by
  induction xs generalizing s with
  | nil => rfl
  | cons x xs ih =>
    simp only [launch, ih]
    split <;> simp

@[simp] theorem memories_addSplit (cycle ext : Nat) (s : State) : memories (addSplit cycle ext s) = memories s := by
  simp [addSplit]

@[simp] theorem memories_ownPasses (d cls full splits : Nat) (s : State) :
    memories (ownPasses d cls full splits s) = memories s := by simp [ownPasses]

@[simp] theorem memories_pushReads (d : Nat) (rs : List ArrRead) (s : State) :
    memories (pushReads d rs s) = memories s := by simp [pushReads]

@[simp] theorem memories_groupStart (d : Nat) (o : AccObs) (op : ArrOp) (g : AGroup) (s : State) :
    memories (groupStart d o op g s) = memories s := by simp [groupStart]

@[simp] theorem memories_passStart (d : Nat) (o : AccObs) (s : State) : memories (passStart d o s) = memories s := by
  simp only [passStart]
  repeat' split
  all_goals simp

/-! ## Piccolo -/

@[simp] theorem memories_overEvent (d p : Nat) (trn : Bool) (phys quarter : Nat) (s : State) :
    memories (overEvent d p trn phys quarter s) = memories s := by simp [overEvent]

@[simp] theorem memories_integrity (d kind a : Nat) (s : State) : memories (integrity d kind a s) = memories s := by
  simp [integrity]

@[simp] theorem memories_codeSet (d p a : Nat) (trn : Bool) (quarter : Nat) (c : PassCodes) (s : State) :
    memories (codeSet d p a trn quarter c s) = memories s := by simp [codeSet]

@[simp] theorem memories_codeSetsOf (d p a : Nat) (trn split : Bool) (cs : List PassCodes) (s : State) :
    memories (codeSetsOf d p a trn split cs s) = memories s := by simp [codeSetsOf]

@[simp] theorem memories_codesIn (d : Nat) (r : ArrRead) (ps : List (PassPlan × List PassCodes)) (s : State) :
    memories (codesIn d r ps s) = memories s := by simp [codesIn]

@[simp] theorem memories_outEvents (d : Nat) (r : ArrRead) (o : ReadObs) (ps : List (PassPlan × List PassCodes))
    (j : Nat) (s : State) :
    memories (outEvents d r o ps j s) = memories s := by simp [outEvents]

@[simp] theorem memories_sendChunks (d : Nat) (r : ArrRead) (o : AccObs) (cs : List PicChunk) (s : State) :
    memories (sendChunks d r o cs s) = memories s := by simp [sendChunks]

@[simp] theorem memories_acceptObs (d p : Nat) (g : Word) (o : Int) (from_ : Nat) (s : State) :
    memories (acceptObs d p g o from_ s) = memories s := by simp [acceptObs]

@[simp] theorem memories_rejectObs (d p : Nat) (s : State) : memories (rejectObs d p s) = memories s := by
  simp [rejectObs]

@[simp] theorem memories_observation (d p : Nat) (cfg : Word) (end_ : Nat) (s : State) :
    memories (observation d p cfg end_ s) = memories s := by simp [observation]

@[simp] theorem memories_observe (d : Nat) (r : ArrRead) (nibs : List Int) (c : PassCodes) (end_ : Nat) (s : State) :
    memories (observe d r nibs c end_ s) = memories s := by simp [observe]

@[simp] theorem memories_observeAll (d : Nat) (r : ArrRead) (ps : List (PassPlan × List PassCodes)) (s : State) :
    memories (observeAll d r ps s) = memories s := by simp [observeAll]

@[simp] theorem memories_sampleRead (d : Nat) (r : ArrRead) (pre : List Word) (s : State) :
    memories (sampleRead d r pre s) = memories s := by simp [sampleRead]

@[simp] theorem memories_overrun (d : Nat) (r : ArrRead) (s : State) : memories (overrun d r s) = memories s := by
  simp [overrun]

@[simp] theorem memories_trackerSram (d p : Nat) (s : State) : memories (trackerSram d p s) = memories s := by
  simp [trackerSram]

@[simp] theorem memories_readClash (d : Nat) (r : ArrRead) (s : State) :
    memories (readClash d r s).2 = memories s := by simp [readClash]

@[simp] theorem memories_deliverRead (d : Nat) (r : ArrRead) (o : ReadObs) (s : State) :
    memories (deliverRead d r o s) = memories s := by simp [deliverRead]

@[simp] theorem memories_deliver (d : Nat) (o : ReadObs) (s : State) : memories (deliver d o s) = memories s := by
  simp only [deliver]
  split <;> simp

@[simp] theorem memories_marginUpdate (d : Nat) (e : ShadowSample) (col : Nat) (eta2 : ℚ) (s : State) :
    memories (marginUpdate d e col eta2 s) = memories s := by simp [marginUpdate]

@[simp] theorem memories_marginLow (d p : Nat) (s : State) : memories (marginLow d p s) = memories s := by
  simp [marginLow]

@[simp] theorem memories_shadowCheck (sram : Bool) (c : SubCtx) (e : ShadowSample) (s : State) :
    memories (shadowCheck sram c e s) = memories s := by
  simp only [shadowCheck, memories_marginLow, memories_countMacs]
  rw [memories_foldl]
  · split <;> simp
  · intro s k
    split <;> simp

@[simp] theorem memories_segStatic (cyc : Nat → Nat) (d a : Nat) (bad : List Nat) (s : State) :
    memories (segStatic cyc d a bad s).2 = memories s := by
  have hdir := memories_picDir cyc d a bad s
  simp only [segStatic]
  split <;> simp_all

@[simp] theorem memories_noteClips (d a : Nat) (gs : List SegOut) (s : State) :
    memories (noteClips d a gs s) = memories s := by
  induction gs generalizing a s with
  | nil => rfl
  | cons g gs ih => simp [noteClips, ih]

@[simp] theorem memories_segqIssue (o : AccObs) (c : SubCtx) (t : TDesc) (s : State) :
    memories (segqIssue o c t s) = memories s := by
  have hlist := memories_segStatic (fun _ => c.cycle) c.die (t.b % 4096) o.spadUncorr
    (noteFresh (spadEcc c.die o.spadCorr o.spadUncorr (accResidue c.die o (accFile c.die o s))))
  simp only [segqIssue]
  repeat' split
  all_goals simp_all

@[simp] theorem memories_snapSel (d : Nat) (v : Word) (s : State) : memories (snapSel d v s) = memories s := by
  simp [snapSel]

/-! ## Programming and replacement -/

@[simp] theorem memories_refreshInvalid (d off : Nat) (v : Word) (s : State) :
    memories (refreshInvalid d off v s) = memories s := by simp [refreshInvalid]

@[simp] theorem memories_verifyFail (d p a stage what : Nat) (s : State) :
    memories (verifyFail d p a stage what s) = memories s := by simp [verifyFail]

@[simp] theorem memories_updCmd (d : Nat) (f : RefreshCmd → RefreshCmd) (s : State) :
    memories (updCmd d f s) = memories s := by simp [updCmd]

@[simp] theorem memories_endCmd (d result : Nat) (s : State) : memories (endCmd d result s) = memories s := by
  simp [endCmd]

@[simp] theorem memories_retireArray (d p cause : Nat) (s : State) :
    memories (retireArray d p cause s) = memories s := by
  simp only [retireArray]
  repeat' split
  all_goals simp only [memories_raise, memories_unseedTracker, memories_updPhys]

@[simp] theorem memories_freeArray (d p : Nat) (s : State) : memories (freeArray d p s) = memories s := by
  simp [freeArray]

@[simp] theorem memories_startChannel (d : Nat) (kind : ChanKind) (p a : Nat) (repair : Bool) (s : State) :
    memories (startChannel d kind p a repair s).2 = memories s := by
  simp only [startChannel]
  repeat' split
  all_goals simp

@[simp] theorem memories_dropChannel (d k : Nat) (keepStage : Bool) (s : State) :
    memories (dropChannel d k keepStage s) = memories s := by
  simp only [dropChannel]
  split <;> simp

@[simp] theorem memories_noteGates (s : State) : memories (noteGates s) = memories s := by simp [noteGates]

@[simp] theorem memories_breakOff (d k : Nat) (s : State) : memories (breakOff d k s) = memories s := by
  simp only [breakOff]
  split <;> simp

@[simp] theorem memories_installOne (d a : Nat) (s : State) : memories (installOne d a s).2 = memories s := by
  simp only [installOne]
  split <;> simp

@[simp] theorem memories_installMore (d n : Nat) (s : State) : memories (installMore d n s) = memories s := by
  induction n generalizing s with
  | zero => rfl
  | succ n ih =>
    simp only [installMore]
    repeat' split
    all_goals simp [ih]

@[simp] theorem memories_replaceStart (d : Nat) (s : State) : memories (replaceStart d s) = memories s := by
  simp only [replaceStart]
  split <;> simp

@[simp] theorem memories_cmdGoOn (d : Nat) (s : State) : memories (cmdGoOn d s) = memories s := by simp [cmdGoOn]

@[simp] theorem memories_installCmd (d : Nat) (repair : Bool) (s : State) :
    memories (installCmd d repair s) = memories s := by simp [installCmd]

@[simp] theorem memories_abandon (d k : Nat) (s : State) : memories (abandon d k s) = memories s := by
  simp only [abandon]
  split <;> simp

@[simp] theorem memories_replaceCmd (d a p : Nat) (retireOld repair : Bool) (v : Word) (s : State) :
    memories (replaceCmd d a p retireOld repair v s) = memories s := by simp [replaceCmd]

@[simp] theorem memories_retireCmd (d p : Nat) (v : Word) (s : State) :
    memories (retireCmd d p v s) = memories s := by simp [retireCmd]

@[simp] theorem memories_countSwap (d : Nat) (mine : Bool) (s : State) :
    memories (countSwap d mine s) = memories s := by simp [countSwap]

@[simp] theorem memories_ageReset (d a : Nat) (s : State) : memories (ageReset d a s) = memories s := by
  simp [ageReset]

@[simp] theorem memories_discardSwap (d : Nat) (w : Swap) (cause : Nat) (s : State) :
    memories (discardSwap d w cause s) = memories s := by simp [discardSwap]

@[simp] theorem memories_runPlans (d cls : Nat) (ps : List PassPlan) (s : State) :
    memories (runPlans d cls ps s) = memories s := by simp [runPlans]

@[simp] theorem memories_runCells (d : Nat) (c : Channel) (o : ProgObs) (s : State) :
    memories (runCells d c o s).2 = memories s := by simp [runCells]

@[simp] theorem memories_runAccept (d : Nat) (c : Channel) (o : ProgObs) (s : State) :
    memories (runAccept d c o s).2 = memories s := by
  simp only [runAccept]
  exact memories_runPlans d 6 _ s

@[simp] theorem memories_runSeed (d : Nat) (c : Channel) (o : ProgObs) (s : State) :
    memories (runSeed d c o s).2 = memories s := by
  simp only [runSeed, memories_codeSetsOf, memories_runPlans]

@[simp] theorem memories_programmed (d : Nat) (c : Channel) (o : ProgObs) (v : Word × Int) (s : State) :
    memories (programmed d c o v s) = memories s := by simp [programmed]

@[simp] theorem memories_cmdFailed (d result : Nat) (c : Channel) (s : State) :
    memories (cmdFailed d result c s) = memories s := by simp [cmdFailed]

@[simp] theorem memories_programFailed (d k : Nat) (c : Channel) (result : Nat) (s : State) :
    memories (programFailed d k c result s) = memories s := by simp [programFailed]

@[simp] theorem memories_cancelEnd (d : Nat) (s : State) : memories (cancelEnd d s) = memories s := by
  simp [cancelEnd]

@[simp] theorem memories_cancelChannel (d k : Nat) (c : Channel) (s : State) :
    memories (cancelChannel d k c s) = memories s := by simp [cancelChannel]

@[simp] theorem memories_programOk (d k : Nat) (c : Channel) (o : ProgObs) (v : Word × Int) (s : State) :
    memories (programOk d k c o v s) = memories s := by simp [programOk]

@[simp] theorem memories_timeoutEnds (d k : Nat) (c : Channel) (s : State) :
    memories (timeoutEnds d k c s) = memories s := by simp [timeoutEnds]

@[simp] theorem memories_progTimeout (d k : Nat) (s : State) : memories (progTimeout d k s) = memories s := by
  simp only [progTimeout]
  split <;> simp

@[simp] theorem memories_bgRerun (d k : Nat) (s : State) : memories (bgRerun d k s) = memories s := by
  simp only [bgRerun]
  split <;> simp

@[simp] theorem memories_auditEnds (d p : Nat) (o : AuditObs) (s : State) :
    memories (auditEnds d p o s) = memories s := by
  simp only [auditEnds]
  split <;> simp

@[simp] theorem memories_startAudits (d : Nat) (ps : List Nat) (s : State) :
    memories (startAudits d ps s) = memories s := by
  induction ps generalizing s with
  | nil => rfl
  | cons p ps ih =>
    simp only [startAudits]
    split <;> simp [ih]

@[simp] theorem memories_noteInstall (d : Nat) (s : State) : memories (noteInstall d s) = memories s := by
  simp [noteInstall]

@[simp] theorem memories_installEnds (d : Nat) (s : State) : memories (installEnds d s) = memories s := by
  simp [installEnds]

@[simp] theorem memories_cancelCmd (d : Nat) (s : State) : memories (cancelCmd d s) = memories s := by
  simp [cancelCmd]

@[simp] theorem memories_ageWarn (d : Nat) (s : State) : memories (ageWarn d s) = memories s := by simp [ageWarn]

@[simp] theorem memories_offHoursWrite (d : Nat) (v : Word) (s : State) :
    memories (offHoursWrite d v s) = memories s := by simp [offHoursWrite]

@[simp] theorem memories_stageBaseWrite (d : Nat) (v : Word) (s : State) :
    memories (stageBaseWrite d v s) = memories s := by simp [stageBaseWrite]

@[simp] theorem memories_stopChannels (d : Nat) (cs : List (Nat × Channel)) (s : State) :
    memories (stopChannels d cs s) = memories s := by
  have key : ∀ s, memories (cs.foldl (stopChannel d) s) = memories s :=
    memories_foldl (fun s e => by simp only [stopChannel]; split <;> simp) cs
  simp only [stopChannels]
  split
  · exact (memories_cancelEnd d _).trans (key s)
  · exact key s

@[simp] theorem memories_holdChannels (d : Nat) (s : State) : memories (holdChannels d s) = memories s := by
  simp [holdChannels]

@[simp] theorem memories_windowStop (d : Nat) (s : State) : memories (windowStop d s) = memories s := by
  simp [windowStop]

@[simp] theorem memories_rotationStart (d : Nat) (s : State) : memories (rotationStart d s) = memories s := by
  simp only [rotationStart]
  repeat' split
  all_goals simp

@[simp] theorem memories_chargeChannels (d : Nat) (s : State) : memories (chargeChannels d s) = memories s := by
  simp [chargeChannels]

@[simp] theorem memories_refreshBoundary (s : State) : memories (refreshBoundary s) = memories s := by
  simp [refreshBoundary]

@[simp] theorem memories_refreshPowerUp (d : Nat) (s : State) : memories (refreshPowerUp d s) = memories s := by
  simp [refreshPowerUp]

/-! ## Column calibration -/

@[simp] theorem memories_setColRec (d p : Nat) (x : ColRec) (s : State) :
    memories (setColRec d p x s) = memories s := by simp [setColRec]

@[simp] theorem memories_colcalBegin (d : Nat) (s : State) : memories (colcalBegin d s) = memories s := by
  simp [colcalBegin]

@[simp] theorem memories_unseedDie (d : Nat) (s : State) : memories (unseedDie d s) = memories s := by
  simp [unseedDie]

@[simp] theorem memories_colcalHost (d : Nat) (s : State) : memories (colcalHost d s) = memories s := by
  simp [colcalHost]

@[simp] theorem memories_colcalCmd (d : Nat) (v : Word) (s : State) : memories (colcalCmd d v s) = memories s := by
  simp [colcalCmd]

@[simp] theorem memories_colcalArray (d : Nat) (o : ColcalObs) (s : State) :
    memories (colcalArray d o s) = memories s := by simp [colcalArray]

@[simp] theorem memories_colcalRecord (d : Nat) (found : List ColcalObs) (s : State) :
    memories (colcalRecord d found s) = memories s := by simp [colcalRecord]

@[simp] theorem memories_baselineQuiet (d : Nat) (ps : List Nat) (s : State) :
    memories (baselineQuiet d ps s) = memories s := by simp [baselineQuiet]

@[simp] theorem memories_baselineCharge (d : Nat) (ps : List Nat) (s : State) :
    memories (baselineCharge d ps s).2.2 = memories s := by
  induction ps generalizing s with
  | nil => rfl
  | cons p ps ih =>
    simp only [baselineCharge]
    split
    · rfl
    · simp [ih]

@[simp] theorem memories_baselineArray (d : Nat) (o : BaselineObs) (s : State) :
    memories (baselineArray d o s) = memories s := by
  simp only [baselineArray]
  split <;> simp

@[simp] theorem memories_baselineRun (d : Nat) (obs : List BaselineObs) (s : State) :
    memories (baselineRun d obs s) = memories s := by
  have hseeded : memories (baselineSeeded d obs s) = memories s := by simp [baselineSeeded]
  cases h : (baselineCharge d (baselineArrays d s) s).2.1 with
  | none => simpa [baselineRun_done _ obs h, baselineDone] using hseeded
  | some p => simpa [baselineRun_waits _ obs h] using hseeded

/-! ## The Shawm fabric -/

@[simp] theorem memories_routeCheck (s : State) : memories (routeCheck s) = memories s := by simp [routeCheck]

@[simp] theorem memories_sendHello (p : Nat) (s : State) : memories (sendHello p s) = memories s := by
  simp [sendHello]

@[simp] theorem memories_helloArrives (p : Nat) (h : Hello) (s : State) :
    memories (helloArrives p h s) = memories s := by simp [helloArrives]

@[simp] theorem memories_machineWrite (v : Word) (s : State) : memories (machineWrite v s) = memories s := by
  simp [machineWrite]

@[simp] theorem memories_trainStart (p : Nat) (s : State) : memories (trainStart p s) = memories s := by
  simp [trainStart]

@[simp] theorem memories_trainEnd (p : Nat) (o : PortObs) (s : State) : memories (trainEnd p o s) = memories s := by
  simp [trainEnd]

@[simp] theorem memories_retrainCmd (p : Nat) (v : Word) (s : State) : memories (retrainCmd p v s) = memories s := by
  simp [retrainCmd]

@[simp] theorem memories_sendAck (p : Nat) (s : State) : memories (sendAck p s) = memories s := by simp [sendAck]

@[simp] theorem memories_accept (p packets : Nat) (s : State) : memories (accept p packets s) = memories s := by
  simp [accept]

@[simp] theorem memories_receive (p packets : Nat) {f : State → State} (hf : ∀ s, memories (f s) = memories s)
    (s : State) :
    memories (receive p packets f s) = memories s := by
  simp [receive, hf]

@[simp] theorem memories_frameInvalid (p type cause : Nat) (s : State) :
    memories (frameInvalid p type cause s) = memories s := by simp [frameInvalid]

@[simp] theorem memories_crcError (p : Nat) (crcBad : Bool) (seq : BitVec 20) (s : State) :
    memories (crcError p crcBad seq s) = memories s := by simp [crcError]

@[simp] theorem memories_sendWaiting (p n : Nat) (s : State) : memories (sendWaiting p n s) = memories s := by
  induction n generalizing s with
  | zero => rfl
  | succ n ih =>
    simp only [sendWaiting]
    repeat' split
    all_goals simp [ih]

@[simp] theorem memories_ackArrives (p : Nat) (seq : BitVec 20) (s : State) :
    memories (ackArrives p seq s) = memories s := by simp [ackArrives]

@[simp] theorem memories_replay (p : Nat) (seq : BitVec 20) (s : State) : memories (replay p seq s) = memories s := by
  simp [replay]

@[simp] theorem memories_flood (n : Nat × Nat × Nat) (code : Nat) (except : Option Nat) (s : State) :
    memories (flood n code except s) = memories s := by
  refine memories_foldl (fun s p => ?_) _ s
  repeat' split
  all_goals simp

@[simp] theorem memories_repliesLost (q : Xfer → Bool) (s : State) : memories (repliesLost q s) = memories s := by
  simp [repliesLost]

@[simp] theorem memories_flightsLost (p : Nat) (s : State) : memories (flightsLost p s) = memories s := by
  simp [flightsLost]

@[simp] theorem memories_linkDown (p cause : Nat) (dir : Bool) (lane : Nat) (s : State) :
    memories (linkDown p cause dir lane s) = memories s := by simp [linkDown]

@[simp] theorem memories_noticeArrives (f : FaultNotice) (s : State) : memories (noticeArrives f s) = memories s := by
  simp [noticeArrives]

@[simp] theorem memories_forward (inPort dst : Nat) (vc : Bool) (f : Bool → Frame) (s : State) :
    memories (forward inPort dst vc f s) = memories s := by
  simp only [forward]
  split <;> simp

@[simp] theorem memories_sendReply (src die th st : Nat) (s : State) :
    memories (sendReply src die th st s) = memories s := by simp [sendReply]

@[simp] theorem memories_writeLanded (w src die th : Nat) (s : State) :
    memories (writeLanded w src die th s) = memories s := by
  simp only [writeLanded]
  split <;> simp

@[simp] theorem memories_replyArrives (p die th st : Nat) (s : State) :
    memories (replyArrives p die th st s) = memories s := by
  simp only [replyArrives]
  repeat' split
  all_goals simp

@[simp] theorem memories_replyLate (die th : Nat) (s : State) : memories (replyLate die th s) = memories s := by
  simp only [replyLate]
  split <;> simp

@[simp] theorem memories_sendTree (f : Frame) (s : State) : memories (sendTree f s) = memories s := by simp [sendTree]

@[simp] theorem memories_moveTicks (δ : Int) (s : State) : memories (moveTicks δ s) = memories s := by
  simp [moveTicks]

@[simp] theorem memories_droneLoad (θ : Int) (number : Word) (s : State) :
    memories (droneLoad θ number s) = memories s := by simp [droneLoad]

@[simp] theorem memories_droneCorrect (rho theta : Int) (s : State) :
    memories (droneCorrect rho theta s) = memories s := by simp [droneCorrect]

@[simp] theorem memories_droneSpread (s : State) : memories (droneSpread s) = memories s := by simp [droneSpread]

@[simp] theorem memories_droneGood (θ : Int) (s : State) : memories (droneGood θ s) = memories s := by
  simp [droneGood]

@[simp] theorem memories_droneUnlock (θ : Int) (s : State) : memories (droneUnlock θ s) = memories s := by
  simp [droneUnlock]

@[simp] theorem memories_droneNext (θ : Int) (s : State) : memories (droneNext θ s) = memories s := by
  simp only [droneNext]
  split <;> simp

@[simp] theorem memories_syncUse (f : SyncFrame) (s : State) : memories (syncUse f s) = memories s := by
  simp [syncUse]

@[simp] theorem memories_syncArrives (f : SyncFrame) (s : State) : memories (syncArrives f s) = memories s := by
  simp [syncArrives]

@[simp] theorem memories_droneStep (s : State) : memories (droneStep s) = memories s := by simp [droneStep]

@[simp] theorem memories_droneHold (s : State) : memories (droneHold s) = memories s := by simp [droneHold]

@[simp] theorem memories_droneBoundary (s : State) : memories (droneBoundary s) = memories s := by
  simp [droneBoundary]

@[simp] theorem memories_droneConfig (v : Word) (s : State) : memories (droneConfig v s) = memories s := by
  simp [droneConfig]

@[simp] theorem memories_remoteNotice (m : Nat) (s : State) : memories (remoteNotice m s) = memories s := by
  simp [remoteNotice]

@[simp] theorem memories_remoteClear (high : Bool) (v : Word) (s : State) :
    memories (remoteClear high v s) = memories s := by simp [remoteClear]

/-! ## The PCIe endpoint -/

@[simp] theorem memories_clearConfig (s : State) : memories (clearConfig s) = memories s := by
  simp [clearConfig]

@[simp] theorem memories_pcieResets (kind : Nat) (s : State) : memories (pcieResets kind s) = memories s := by
  simp [pcieResets]

@[simp] theorem memories_msixDeliver (s : State) : memories (msixDeliver s) = memories s := by simp [msixDeliver]

@[simp] theorem memories_pcieDown (s : State) : memories (pcieDown s) = memories s := by simp [pcieDown]

@[simp] theorem memories_pcieUp (speed width : Nat) (flit : Bool) (s : State) :
    memories (pcieUp speed width flit s) = memories s := by simp [pcieUp]

@[simp] theorem memories_accessInvalid (bar offset bytes : Nat) (write : Bool) (s : State) :
    memories (accessInvalid bar offset bytes write s) = memories s := by simp [accessInvalid]

/-! ## Scrubbing, repair and retirement -/

@[simp] theorem memories_memInvalid (a : Nat) (v : Word) (s : State) : memories (memInvalid a v s) = memories s := by
  simp [memInvalid]

@[simp] theorem memories_selfTestEnd (d : Nat) (failed : List Nat) (s : State) :
    memories (selfTestEnd d failed s) = memories s := by simp [selfTestEnd]

@[simp] theorem memories_assignSpares (d : Nat) (bs ks : List Nat) (s : State) :
    memories (assignSpares d bs ks s) = memories s := by
  induction bs generalizing ks s with
  | nil => rfl
  | cons b bs ih =>
    cases ks with
    | nil => rfl
    | cons k ks => simp [assignSpares, ih]

@[simp] theorem memories_spadRepairCmd (d : Nat) (v : Word) (s : State) :
    memories (spadRepairCmd d v s) = memories s := by simp [spadRepairCmd]

@[simp] theorem memories_scrub (d w : Nat) (corrected bad : Bool) (s : State) :
    memories (scrub d w corrected bad s) = memories s := by simp [scrub]

@[simp] theorem memories_retireFault (st row : Nat) (s : State) : memories (retireFault st row s) = memories s := by
  simp [retireFault]

@[simp] theorem memories_hbmRetireCmd (st : Nat) (v : Word) (s : State) :
    memories (hbmRetireCmd st v s) = memories s := by simp [hbmRetireCmd]

@[simp] theorem memories_stackReadouts (temps : List (BitVec 8)) (s : State) :
    memories (stackReadouts temps s) = memories s :=
  memories_foldl (fun s k => by split <;> simp) _ s

@[simp] theorem memories_regionWrite (a : Nat) (v : Word) (s : State) :
    memories (regionWrite a v s) = memories s := by simp [regionWrite]

@[simp] theorem memories_spadWrite (d a : Nat) (v : Word) (s : State) :
    memories (spadWrite d a v s) = memories s := by simp [spadWrite]

@[simp] theorem memories_winTableWrite (a : Nat) (v : Word) (s : State) :
    memories (winTableWrite a v s) = memories s := by simp [winTableWrite]

/-! ## The sequencer -/

@[simp] theorem memories_programStart (i : Nat) (s : State) : memories (programStart i s) = memories s := by
  simp only [programStart]
  split <;> simp

@[simp] theorem memories_enterStopped (s : State) : memories (enterStopped s) = memories s := by simp [enterStopped]

@[simp] theorem memories_leaveStopped (s : State) : memories (leaveStopped s) = memories s := by
  simp only [leaveStopped]
  repeat' split
  all_goals simp

@[simp] theorem memories_afterCommit (s : State) : memories (afterCommit s) = memories s := by
  simp only [afterCommit]
  repeat' split
  all_goals simp

@[simp] theorem memories_choose (p : Nat) (s : State) : memories (choose p s) = memories s := by simp [choose]

@[simp] theorem memories_runWrite (on : Bool) (s : State) : memories (runWrite on s) = memories s := by
  simp [runWrite]

@[simp] theorem memories_holdStarts (s : State) : memories (holdStarts s) = memories s := by simp [holdStarts]

@[simp] theorem memories_countStall (causes : List Nat) (cls : Nat) (s : State) :
    memories (countStall causes cls s) = memories s := by simp [countStall]

@[simp] theorem memories_invalidFields (i : Issued) (s : State) : memories (invalidFields i s) = memories s := by
  simp only [invalidFields]
  rw [memories_foldl]
  · split <;> simp
  · intro s e
    repeat' split
    all_goals simp

@[simp] theorem memories_issueBundle (o : IssueObs) (h : Held) (s : State) :
    memories (issueBundle o h s) = memories s := by simp [issueBundle]

@[simp] theorem memories_lateStart (h : Held) (point : Nat) (s : State) :
    memories (lateStart h point s) = memories s := by simp [lateStart]

@[simp] theorem memories_reachPoint (k : Nat) (s : State) : memories (reachPoint k s) = memories s := by
  simp [reachPoint]

@[simp] theorem memories_bundleAt (h : Held) (len : Nat) (s : State) : memories (bundleAt h len s) = memories s := by
  simp [bundleAt]

/-! ## Shipping and parking -/

@[simp] theorem memories_setModReq (r : ModReq) (s : State) : memories (setModReq r s) = memories s := by
  simp [setModReq]

@[simp] theorem memories_updIo (id : Nat) (f : IoJob → IoJob) (s : State) : memories (updIo id f s) = memories s := by
  simp only [updIo]
  split <;> simp

@[simp] theorem memories_chargePage (cls q : Nat) (s : State) : memories (chargePage cls q s) = memories s := by
  simp [chargePage]

@[simp] theorem memories_chargeStore (cls q : Nat) (s : State) : memories (chargeStore cls q s) = memories s := by
  simp [chargeStore]

@[simp] theorem memories_sendStatus (id ticket : Nat) (ok : Bool) (cause : Nat) (s : State) :
    memories (sendStatus id ticket ok cause s) = memories s := by
  simp only [sendStatus]
  split <;> simp

@[simp] theorem memories_shipFail (id cause page : Nat) (tell : Bool) (s : State) :
    memories (shipFail id cause page tell s) = memories s := by
  unfold shipFail
  repeat' split
  all_goals simp

@[simp] theorem memories_parkFail (id cause page : Nat) (s : State) :
    memories (parkFail id cause page s) = memories s := by
  unfold parkFail
  repeat' split
  all_goals simp

@[simp] theorem memories_holdTokens (e : OutTokens) (s : State) : memories (holdTokens e s) = memories s := by
  simp [holdTokens]

@[simp] theorem memories_shipStart (id ticket len : Nat) (s : State) :
    memories (shipStart id ticket len s) = memories s := by
  simp only [shipStart]
  repeat' split
  all_goals simp

@[simp] theorem memories_adoptStart (id ticket len : Nat) (s : State) :
    memories (adoptStart id ticket len s) = memories s := by
  simp only [adoptStart]
  split <;> simp

@[simp] theorem memories_manifestArrives (b : Bytes) (s : State) : memories (manifestArrives b s) = memories s := by
  simp only [manifestArrives]
  split <;> simp

@[simp] theorem memories_pageDone (id kind : Nat) (s : State) : memories (pageDone id kind s) = memories s := by
  simp only [pageDone]
  split <;> simp

@[simp] theorem memories_setCommitted (id n : Nat) (s : State) : memories (setCommitted id n s) = memories s := by
  simp only [setCommitted]
  split <;> simp

@[simp] theorem memories_resumeMore (id n : Nat) (s : State) : memories (resumeMore id n s) = memories s := by
  induction n generalizing s with
  | zero => rfl
  | succ n ih =>
    simp only [resumeMore]
    repeat' split
    all_goals simp [ih]

/-! ## Widening -/

@[simp] theorem memories_setWiden (i : Nat) (w : Widen) (s : State) : memories (setWiden i w s) = memories s := by
  simp [setWiden]

@[simp] theorem memories_widenBack (i : Nat) (s : State) : memories (widenBack i s) = memories s := by
  simp [widenBack]

@[simp] theorem memories_widenApply (v : Word) (s : State) : memories (widenApply v s) = memories s := by
  simp only [widenApply]
  split <;> simp

@[simp] theorem memories_widenRate (w : Widen) (s : State) : memories (widenRate w s).2 = memories s := by
  simp only [widenRate]
  split <;> simp

@[simp] theorem memories_widenGrant (i : Nat) (s : State) : memories (widenGrant i s) = memories s := by
  simp [widenGrant]

@[simp] theorem memories_widenDeny (layer : Nat) (s : State) : memories (widenDeny layer s) = memories s := by
  simp [widenDeny]

@[simp] theorem memories_widenGrants (s : State) : memories (widenGrants s) = memories s := by simp [widenGrants]

@[simp] theorem memories_widenCommit (s : State) : memories (widenCommit s) = memories s := by simp [widenCommit]

@[simp] theorem memories_widenLate (v : Word) (s : State) : memories (widenLate v s) = memories s := by
  simp [widenLate]

@[simp] theorem memories_widenCmd (v : Word) (s : State) : memories (widenCmd v s) = memories s := by simp [widenCmd]

/-! ## A module's part in serving -/

@[simp] theorem memories_runWave (kind rows pos k : Nat) (s : State) :
    memories (runWave kind rows pos k s) = memories s := by
  simp only [runWave]
  split <;> simp

@[simp] theorem memories_drawSampling (s : State) : memories (drawSampling s).2 = memories s := by simp [drawSampling]

@[simp] theorem memories_jobParams (id adapter : Nat) (s : State) :
    memories (jobParams id adapter s).2 = memories s := by
  simp only [jobParams]
  split <;> simp

@[simp] theorem memories_egressRecords (id : Nat) (t : Target) (i : Nat) (es : List (Nat × Nat × Nat)) (s : State) :
    memories (egressRecords id t i es s) = memories s := by
  induction es generalizing s with
  | nil => rfl
  | cons e es ih => simp [egressRecords, ih]

@[simp] theorem memories_deliverTokens (v : Nat × Nat × Bool) (s : State) :
    memories (deliverTokens v s) = memories s := by
  simp only [deliverTokens]
  split <;> simp

@[simp] theorem memories_advanceBase (s : State) : memories (advanceBase s) = memories s := by
  simp only [advanceBase]
  split <;> simp

@[simp] theorem memories_verdictOf (step fl : Nat) (s : State) (g : RowGroup) :
    memories (verdictOf step fl s g).2 = memories s := by
  simp only [verdictOf]
  repeat' split
  all_goals simp

@[simp] theorem memories_verdictItems (step fl : Nat) (gs : List RowGroup) (s : State) :
    memories (verdictItems step fl gs s).2 = memories s := by
  induction gs generalizing s with
  | nil => rfl
  | cons g gs ih => simp [verdictItems, ih]

@[simp] theorem memories_sendCommitDone (err : Bool) (s : State) : memories (sendCommitDone err s) = memories s := by
  simp only [sendCommitDone]
  repeat' split
  all_goals simp

/-! ## The lead's serving engine -/

@[simp] theorem memories_updLead (f : Lead → Lead) (s : State) : memories (updLead f s) = memories s := by
  simp [updLead]

@[simp] theorem memories_setReq (slot : Nat) (r : Req) (s : State) : memories (setReq slot r s) = memories s := by
  simp [setReq]

@[simp] theorem memories_updReq (slot : Nat) (f : Req → Req) (s : State) :
    memories (updReq slot f s) = memories s := by simp [updReq]

@[simp] theorem memories_addOrder (i : MsgItem) (s : State) : memories (addOrder i s) = memories s := by
  simp [addOrder]

@[simp] theorem memories_addCpl (b : Bytes) (s : State) : memories (addCpl b s) = memories s := by simp [addCpl]

@[simp] theorem memories_complete (slot kind cause step detail : Nat) (s : State) :
    memories (complete slot kind cause step detail s) = memories s := by simp [complete]

@[simp] theorem memories_parkRelease (client req : Nat) (b : Bytes) (s : State) :
    memories (parkRelease client req b s) = memories s := by simp [parkRelease]

@[simp] theorem memories_endReq (slot state kind cause step : Nat) (s : State) :
    memories (endReq slot state kind cause step s) = memories s := by simp [endReq]

@[simp] theorem memories_finishReq (slot cause step : Nat) (s : State) :
    memories (finishReq slot cause step s) = memories s := by simp [finishReq]

@[simp] theorem memories_failReq (slot cause step : Nat) (s : State) :
    memories (failReq slot cause step s) = memories s := by simp [failReq]

@[simp] theorem memories_moveReq (slot state step : Nat) (s : State) :
    memories (moveReq slot state step s) = memories s := by simp [moveReq]

@[simp] theorem memories_waveReport (step : Nat) (s : State) (m : CommitMsg) :
    memories (waveReport step s m) = memories s := by
  simp only [waveReport]
  repeat' split
  · rfl
  · simp
  · rw [memories_foldl (fun s id => by split <;> simp)]
    simp

@[simp] theorem memories_turnEnds (slot cause step : Nat) (s : State) :
    memories (turnEnds slot cause step s) = memories s := by simp [turnEnds]

@[simp] theorem memories_deliverReq (slot n k fl t step : Nat) (s : State) :
    memories (deliverReq slot n k fl t step s) = memories s := by
  simp only [deliverReq]
  split <;> simp

@[simp] theorem memories_verdictArrives (w : Wave) (t step : Nat) (s : State) (v : Nat × Nat × Bool) :
    memories (verdictArrives w t step s v) = memories s := by
  simp only [verdictArrives]
  split <;> simp

@[simp] theorem memories_poolCheck (s : State) (m : CommitMsg) : memories (poolCheck s m) = memories s := by
  simp [poolCheck]

@[simp] theorem memories_deadline (t step : Nat) (s : State) (e : Nat × Req) :
    memories (deadline t step s e) = memories s := by simp [deadline]

@[simp] theorem memories_copyPrompt (b : Bytes) (s : State) : memories (copyPrompt b s).2 = memories s := by
  simp only [copyPrompt]
  split <;> simp

@[simp] theorem memories_startJob (step : Nat) (s : State) : memories (startJob step s) = memories s := by
  unfold startJob
  repeat' split
  all_goals simp

@[simp] theorem memories_checkJob (step : Nat) (s : State) : memories (checkJob step s) = memories s := by
  simp only [checkJob]
  split <;> simp

@[simp] theorem memories_planWave (step : Nat) (s : State) : memories (planWave step s).2 = memories s := by
  simp [planWave]

@[simp] theorem memories_freeClosed (s : State) : memories (freeClosed s) = memories s := by simp [freeClosed]

@[simp] theorem memories_startPrefill (step : Nat) (s : State) (e : Nat × Req) :
    memories (startPrefill step s e) = memories s := by
  unfold startPrefill
  repeat' split
  all_goals simp

@[simp] theorem memories_hawkInvalid (a : Nat) (v : Word) (s : State) :
    memories (hawkInvalid a v s) = memories s := by simp [hawkInvalid]

@[simp] theorem memories_subTailWrite (v : Word) (s : State) : memories (subTailWrite v s) = memories s := by
  simp [subTailWrite]

@[simp] theorem memories_cplHeadWrite (v : Word) (s : State) : memories (cplHeadWrite v s) = memories s := by
  simp [cplHeadWrite]

@[simp] theorem memories_ringSizeWrite (a : Nat) (v : Word) (s : State) :
    memories (ringSizeWrite a v s) = memories s := by simp [ringSizeWrite]

@[simp] theorem memories_hawkConfigWrite (v : Word) (s : State) : memories (hawkConfigWrite v s) = memories s := by
  simp [hawkConfigWrite]

@[simp] theorem memories_spareCmd (v : Word) (s : State) : memories (spareCmd v s) = memories s := by simp [spareCmd]

@[simp] theorem memories_coreFault (core cause : Nat) (s : State) :
    memories (coreFault core cause s) = memories s := by simp [coreFault]

@[simp] theorem memories_tableParity (table index : Nat) (s : State) :
    memories (tableParity table index s) = memories s := by simp [tableParity]

/-! ## The record area -/

@[simp] theorem memories_writeLife (s : State) : memories (writeLife s) = memories s := by simp [writeLife]

@[simp] theorem memories_lifeEvents (d : Nat) (s : State) : memories (lifeEvents d s) = memories s := by
  simp [lifeEvents]

@[simp] theorem memories_lifeHistory (s : State) : memories (lifeHistory s) = memories s := by simp [lifeHistory]

@[simp] theorem memories_keepOlder (old : Nvm) (o : List (Fin 21 × NvmObs)) (s : State) :
    memories (keepOlder old o s) = memories s := by simp [keepOlder]

@[simp] theorem memories_hourlyWrite (o : List (Fin 21 × NvmObs)) (s : State) :
    memories (hourlyWrite o s) = memories s := by simp [hourlyWrite]

@[simp] theorem memories_globalInvalid (a : Nat) (v : Word) (s : State) :
    memories (globalInvalid a v s) = memories s := by simp [globalInvalid]

@[simp] theorem memories_hostTimeWrite (high : Bool) (v : Word) (s : State) :
    memories (hostTimeWrite high v s) = memories s := by simp [hostTimeWrite]

@[simp] theorem memories_fwCmd (v : Word) (s : State) : memories (fwCmd v s) = memories s := by simp [fwCmd]

@[simp] theorem memories_fwEnds (s : State) : memories (fwEnds s) = memories s := by
  simp only [fwEnds]
  split <;> simp

/-! ## Power and start-up -/

@[simp] theorem memories_setUp (pages : List Nat) (s : State) : memories (setUp pages s) = memories s := by
  simp [setUp]

@[simp] theorem memories_loadReg (a : Nat) (v : Word) (s : State) : memories (loadReg a v s) = memories s := by
  simp [loadReg]

@[simp] theorem memories_loadStraps (straps : BitVec 14) (s : State) :
    memories (loadStraps straps s) = memories s := by simp [loadStraps]

@[simp] theorem memories_stepPower (o : StartupObs) (s : State) : memories (stepPower o s) = memories s := by
  simp [stepPower]

@[simp] theorem memories_stepBoot (o : StartupObs) (s : State) : memories (stepBoot o s).2 = memories s := by
  simp only [stepBoot]
  repeat' split
  all_goals simp

@[simp] theorem memories_stepRecord (o : StartupObs) (s : State) : memories (stepRecord o s).2 = memories s := by
  simp only [stepRecord]
  repeat' split
  all_goals simp

@[simp] theorem memories_stepCores (failed : List Nat) (s : State) : memories (stepCores failed s) = memories s := by
  simp [stepCores]

@[simp] theorem memories_stepBringup (o : StartupObs) (s : State) : memories (stepBringup o s).2 = memories s := by
  simp [stepBringup]

@[simp] theorem memories_stepHbm (o : StartupObs) (s : State) : memories (stepHbm o s).2 = memories s := by
  simp only [stepHbm]
  split <;> simp

@[simp] theorem memories_stepHkc (o : StartupObs) (s : State) : memories (stepHkc o s) = memories s := by
  simp [stepHkc]

@[simp] theorem memories_stepColcal (o : StartupObs) (s : State) : memories (stepColcal o s) = memories s := by
  simp [stepColcal]

@[simp] theorem memories_baselineUp (s : State) : memories (baselineUp s) = memories s := by simp [baselineUp]

@[simp] theorem memories_stepBaseline (o : StartupObs) (s : State) : memories (stepBaseline o s) = memories s := by
  simp [stepBaseline]

@[simp] theorem memories_stepFabric (o : StartupObs) (s : State) : memories (stepFabric o s).2 = memories s := by
  simp only [stepFabric, memories_setUp]
  rw [memories_foldl (fun s e => by split <;> simp)]
  simp [memories_ite]

@[simp] theorem memories_bootFail (k code : Nat) (s : State) : memories (bootFail k code s) = memories s := by
  simp [bootFail]

@[simp] theorem memories_bootWork (k : Nat) (o : StartupObs) (s : State) :
    memories (bootWork k o s).2 = memories s := by
  simp only [bootWork]
  split <;> simp

@[simp] theorem memories_runSteps (o : StartupObs) (n k : Nat) (s : State) :
    memories (runSteps o n k s) = memories s := by
  induction n generalizing k s with
  | zero => simp [runSteps]
  | succ n ih =>
    simp only [runSteps]
    repeat' split
    all_goals simp [ih]

@[simp] theorem memories_bootFrom (k : Nat) (o : StartupObs) (s : State) :
    memories (bootFrom k o s) = memories s := by simp [bootFrom]

@[simp] theorem memories_baselineGoOn (d : Nat) (obs : List BaselineObs) (s : State) :
    memories (baselineGoOn d obs s) = memories s := by
  simp only [baselineGoOn]
  repeat' split
  all_goals simp

@[simp] theorem memories_loadLife (powered : Nat) (s : State) : memories (loadLife powered s) = memories s := by
  simp [loadLife]

@[simp] theorem memories_ackShutdown (v : Word) (o : StartupObs) (s : State) :
    memories (ackShutdown v o s) = memories s := by
  simp only [ackShutdown]
  repeat' split
  all_goals simp

@[simp] theorem memories_bootRetry (v : Word) (o : StartupObs) (s : State) :
    memories (bootRetry v o s) = memories s := by simp [bootRetry]

@[simp] theorem memories_bootPrepareOff (v : Word) (s : State) : memories (bootPrepareOff v s) = memories s := by
  simp [bootPrepareOff]

/-! ## The breath boundary -/

@[simp] theorem memories_flushBreath (s : State) : memories (flushBreath s) = memories s := by simp [flushBreath]

/-! ## RoCE -/

@[simp] theorem memories_jobsError (q : Nat) (s : State) : memories (jobsError q s) = memories s := by
  refine memories_foldl (fun s e => ?_) _ s
  repeat' split
  all_goals simp

@[simp] theorem memories_qpKick (q : Nat) (s : State) : memories (qpKick q s) = memories s := by simp [qpKick]

@[simp] theorem memories_cnpAnswer (q : Nat) (s : State) : memories (cnpAnswer q s) = memories s := by
  simp [cnpAnswer]

@[simp] theorem memories_overPort (q : Nat) {f : State → State} (hf : ∀ s, memories (f s) = memories s) (s : State) :
    memories (overPort q f s) = memories s := by
  simp [overPort, memories_ite, hf]

@[simp] theorem memories_qpDrop (q : Nat) (s : State) : memories (qpDrop q s) = memories s := by simp [qpDrop]

@[simp] theorem memories_mrReject (q key cause : Nat) (s : State) :
    memories (mrReject q key cause s) = memories s := by simp [mrReject]

@[simp] theorem memories_chargeRequest (addr n : Nat) (s : State) :
    memories (chargeRequest addr n s) = memories s := by simp [chargeRequest]

@[simp] theorem memories_readBytes (a n : Nat) (s : State) : memories (readBytes a n s).2 = memories s := by
  simp only [readBytes]
  split <;> simp

@[simp] theorem memories_ingress (b : Bytes) (s : State) : memories (ingress b s) = memories s := by simp [ingress]

/-! ## Ethernet ports -/

@[simp] theorem memories_setEth (p : Nat) (x : EthState) (s : State) : memories (setEth p x s) = memories s := by
  simp [setEth]

@[simp] theorem memories_pfcArrives (p : Nat) (mask : Byte) (s : State) :
    memories (pfcArrives p mask s) = memories s := by simp [pfcArrives]

@[simp] theorem memories_bufferFill (p q fill : Nat) (s : State) : memories (bufferFill p q fill s) = memories s := by
  simp [bufferFill]

@[simp] theorem memories_ethDown (p : Nat) (s : State) : memories (ethDown p s) = memories s := by simp [ethDown]

@[simp] theorem memories_ethConfigWrite (p : Nat) (v : Word) (s : State) :
    memories (ethConfigWrite p v s) = memories s := by simp [ethConfigWrite]

@[simp] theorem memories_roceConfigWrite (v : Word) (s : State) : memories (roceConfigWrite v s) = memories s := by
  simp [roceConfigWrite]

/-! ## The event log -/

@[simp] theorem memories_overwriteOldest (s : State) : memories (overwriteOldest s) = memories s := by
  simp [overwriteOldest]

@[simp] theorem memories_makeRoom (s : State) : memories (makeRoom s).2 = memories s := by
  unfold makeRoom
  repeat' split
  all_goals simp

@[simp] theorem memories_selWrite (v : Word) (s : State) : memories (selWrite v s) = memories s := by simp [selWrite]

@[simp] theorem memories_fetchEnds (s : State) : memories (fetchEnds s) = memories s := by
  simp only [fetchEnds]
  repeat' split
  all_goals simp

@[simp] theorem memories_logInvalid (a : Nat) (v : Word) (s : State) : memories (logInvalid a v s) = memories s := by
  simp [logInvalid]

@[simp] theorem memories_unstop (s : State) : memories (unstop s) = memories s := by simp [unstop]

@[simp] theorem memories_readIxWrite (v : Word) (s : State) : memories (readIxWrite v s) = memories s := by
  simp [readIxWrite]

@[simp] theorem memories_logConfigWrite (v : Word) (s : State) : memories (logConfigWrite v s) = memories s := by
  simp [logConfigWrite]

@[simp] theorem memories_logBaseWrite (a at_ : Nat) (v : Word) (s : State) :
    memories (logBaseWrite a at_ v s) = memories s := by simp [logBaseWrite]

/-! ## Signed streams -/

@[simp] theorem memories_streamFail (result : Nat) {f : State → State} (hf : ∀ s, memories (f s) = memories s)
    (s : State) :
    memories (streamFail result f s) = memories s := by
  simp [streamFail, hf]

@[simp] theorem memories_streamReject (result : Nat) (s : State) : memories (streamReject result s) = memories s := by
  simp [streamReject]

@[simp] theorem memories_streamDigestFail (record program : Nat) (s : State) :
    memories (streamDigestFail record program s) = memories s := by
  simp [streamDigestFail]

@[simp] theorem memories_bcastControlWrite (v : Word) (s : State) :
    memories (bcastControlWrite v s) = memories s := by simp [bcastControlWrite]

@[simp] theorem memories_devEnter (s : State) : memories (devEnter s) = memories s := by simp [devEnter]

@[simp] theorem memories_secureInvalid (a : Nat) (v : Word) (s : State) :
    memories (secureInvalid a v s) = memories s := by simp [secureInvalid]

@[simp] theorem memories_secureCmd (v : Word) (s : State) : memories (secureCmd v s) = memories s := by
  simp [secureCmd]

@[simp] theorem memories_attestEnds (s : State) : memories (attestEnds s) = memories s := by simp [attestEnds]

@[simp] theorem memories_nonceWrite (a : Nat) (v : Word) (s : State) : memories (nonceWrite a v s) = memories s := by
  simp [nonceWrite]

/-! ## Register accesses -/

@[simp] theorem memories_localRead (a : Nat) (s : State) : memories (localRead a s).2 = memories s := by
  unfold localRead
  repeat' split
  all_goals simp

@[simp] theorem memories_feRearm (page : Nat) (s : State) : memories (feRearm page s) = memories s := by
  simp only [feRearm]
  split <;> simp

@[simp] theorem memories_setSnapshot (page : Nat) (on : Bool) (s : State) :
    memories (setSnapshot page on s) = memories s := by simp [setSnapshot]

@[simp] theorem memories_controlWrite (page : Nat) (v : Word) (s : State) :
    memories (controlWrite page v s) = memories s := by simp [controlWrite]

@[simp] theorem memories_highWrite (a hi lo cur : Nat) (v : Word) (s : State) :
    memories (highWrite a hi lo cur v s) = memories s := by simp [highWrite]

@[simp] theorem memories_clearWrite (a : Nat) (v : Word) (s : State) : memories (clearWrite a v s) = memories s := by
  simp [clearWrite]

@[simp] theorem memories_counterWrite (a : Nat) (v : Word) (s : State) :
    memories (counterWrite a v s) = memories s := by simp [counterWrite]

@[simp] theorem memories_stopInvalid (b : Blk) (i a : Nat) (v : Word) (s : State) :
    memories (stopInvalid b i a v s) = memories s := by
  simp only [stopInvalid]
  split <;> simp

@[simp] theorem memories_plainWrite (b : Blk) (i a : Nat) (r : RegRow) (v : Word) (s : State) :
    memories (plainWrite b i a r v s) = memories s := by
  unfold plainWrite
  repeat' split
  all_goals simp

@[simp] theorem memories_logBasePair (high : Bool) (v : Word) (s : State) :
    memories (logBasePair high v s) = memories s := by simp [logBasePair]

theorem memories_hawkWrite (off : Nat) (v : Word) (s : State) {t : State} (h : hawkWrite off v s = some t) :
    memories t = memories s := by
  revert h
  simp only [hawkWrite]
  repeat' split
  all_goals simp +contextual [eq_comm]

theorem memories_thermWrite (off : Nat) (v : Word) (s : State) {t : State} (h : thermWrite off v s = some t) :
    memories t = memories s := by
  revert h
  simp only [thermWrite]
  repeat' split
  all_goals simp +contextual [eq_comm]

theorem memories_droneWrite (off : Nat) (v : Word) (s : State) {t : State} (h : droneWrite off v s = some t) :
    memories t = memories s := by
  revert h
  simp only [droneWrite]
  repeat' split
  all_goals simp +contextual [eq_comm]

theorem memories_evtlogWrite (off : Nat) (v : Word) (s : State) {t : State} (h : evtlogWrite off v s = some t) :
    memories t = memories s := by
  revert h
  simp only [evtlogWrite]
  repeat' split
  all_goals simp +contextual [eq_comm]

theorem memories_nvrecWrite (off : Nat) (v : Word) (s : State) {t : State} (h : nvrecWrite off v s = some t) :
    memories t = memories s := by
  revert h
  simp only [nvrecWrite]
  repeat' split
  all_goals simp +contextual [eq_comm]

theorem memories_secureWrite (off : Nat) (v : Word) (s : State) {t : State} (h : secureWrite off v s = some t) :
    memories t = memories s := by
  revert h
  simp only [secureWrite]
  repeat' split
  all_goals simp +contextual [eq_comm]

theorem memories_pcieWrite (off : Nat) (v : Word) (s : State) {t : State} (h : pcieWrite off v s = some t) :
    memories t = memories s := by
  revert h
  simp only [pcieWrite]
  repeat' split
  all_goals simp +contextual [eq_comm]

theorem memories_piccoloWrite (d off : Nat) (v : Word) (s : State) {t : State} (h : piccoloWrite d off v s = some t) :
    memories t = memories s := by
  revert h
  simp only [piccoloWrite]
  repeat' split
  all_goals simp +contextual [eq_comm]

theorem memories_spadPageWrite (d off : Nat) (v : Word) (s : State) {t : State}
    (h : spadPageWrite d off v s = some t) :
    memories t = memories s := by
  revert h
  simp only [spadPageWrite]
  repeat' split
  all_goals simp +contextual [eq_comm]

theorem memories_winWrite (d off : Nat) (v : Word) (s : State) {t : State} (h : winWrite d off v s = some t) :
    memories t = memories s := by
  revert h
  simp only [winWrite]
  repeat' split
  all_goals simp +contextual [eq_comm]

theorem memories_hbmWriteReg (st off : Nat) (v : Word) (s : State) {t : State} (h : hbmWriteReg st off v s = some t) :
    memories t = memories s := by
  revert h
  simp only [hbmWriteReg]
  repeat' split
  all_goals simp +contextual [eq_comm]

theorem memories_shawmWrite (p off : Nat) (v : Word) (s : State) {t : State} (h : shawmWrite p off v s = some t) :
    memories t = memories s := by
  revert h
  simp only [shawmWrite]
  repeat' split
  all_goals simp +contextual [eq_comm]

/-! ## Broadcast records -/

@[simp] theorem memories_updStream (f : Stream → Stream) (s : State) : memories (updStream f s) = memories s := by
  simp [updStream]

@[simp] theorem memories_manCheck (b : Bytes) (s : State) : memories (manCheck b s) = memories s := by
  simp only [manCheck]
  repeat' split
  all_goals simp

@[simp] theorem memories_wingWrite (a : Nat) (r : RegRow) (v : Word) (s : State) :
    memories (wingWrite a r v s) = memories s := by
  unfold wingWrite
  split <;> simp

@[simp] theorem memories_widenEntry (e : ConfigEntry) (s : State) : memories (widenEntry e s) = memories s := by
  simp [widenEntry]

@[simp] theorem memories_streamAccepts (s : State) : memories (streamAccepts s) = memories s := by
  simp [streamAccepts]

@[simp] theorem memories_streamOverrun (s : State) : memories (streamOverrun s) = memories s := by
  simp [streamOverrun]

/-! ## Host accesses and tunnels -/

@[simp] theorem memories_targetInvalid (w : Nat) (s : State) : memories (targetInvalid w s) = memories s := by
  simp [targetInvalid]

@[simp] theorem memories_takeTag (w : Nat) (s : State) : memories (takeTag w s).2 = memories s := by simp [takeTag]

@[simp] theorem memories_answer (x : Word × State) : memories (answer x) = memories x.2 :=
  Eq.trans rfl rfl

@[simp] theorem memories_tunnelRead (w o : Nat) (s : State) : memories (tunnelRead w o s) = memories s := by
  simp [tunnelRead]

@[simp] theorem memories_hostRead (a : Nat) (s : State) : memories (hostRead a s) = memories s := by simp [hostRead]

@[simp] theorem memories_tunnelFrame (f : TunnelFrame) (op : Nat) {here : State → State}
    (hf : ∀ s, memories (here s) = memories s) (s : State) : memories (tunnelFrame f op here s) = memories s := by
  simp [tunnelFrame, memories_ite, hf]

@[simp] theorem memories_tunnelAnswers (f : TunnelFrame) (s : State) : memories (tunnelAnswers f s) = memories s := by
  simp [tunnelAnswers]

@[simp] theorem memories_readCompletes (w tag : Nat) (v : Word) (s : State) :
    memories (readCompletes w tag v s) = memories s := by
  simp only [readCompletes]
  split <;> simp

@[simp] theorem memories_tunnelLate (w tag : Nat) (s : State) : memories (tunnelLate w tag s) = memories s := by
  simp only [tunnelLate]
  split <;> simp

end Sys2Proof.Machine

/-! The canonical form of the memories (R275, R294, R299, R517) under the functions that write them, in the order of the
model's files: every write is an update of a map in canonical form. -/

namespace Sys2Proof.Machine

open Sys2Proof.Map

/-- The canonical form of the memories (R275, R294, R299, R517). -/
def Canonical (m : SMap SWord × SMap Byte × SMap Bool × SMap Byte) : Prop :=
  Map.wf {} m.1 = true ∧ Map.wf 0 m.2.1 = true ∧ Map.wf false m.2.2.1 = true ∧ Map.wf 0 m.2.2.2 = true

theorem canonical_iff_wf (s : State) : Canonical (memories s) ↔ Memory.wf s = true := (Memory.wf_iff s).symm

@[simp] theorem canonical_ite (p : Prop) [Decidable p] (a b : SMap SWord × SMap Byte × SMap Bool × SMap Byte) :
    Canonical (if p then a else b) ↔ if p then Canonical a else Canonical b := by split <;> rfl

theorem canonical_foldl {α : Type} {g : State → α → State}
    (hg : ∀ s x, Canonical (memories s) → Canonical (memories (g s x))) (l : List α) {s : State}
    (h : Canonical (memories s)) : Canonical (memories (l.foldl g s)) := by
  simp only [canonical_iff_wf] at hg h ⊢
  exact wf_foldl hg l h

theorem canonical_of_eq {α : Type} {p : α × State} {a : α} {u : State} (h : Canonical (memories p.2))
    (hp : p = (a, u)) :
    Canonical (memories u) := by
  rw [hp] at h
  exact h

theorem canonical_receive (p packets : Nat) {f : State → State}
    (hf : ∀ s, Canonical (memories s) → Canonical (memories (f s))) {s : State} (h : Canonical (memories s)) :
    Canonical (memories (receive p packets f s)) := by
  simp only [receive]
  split
  · exact hf _ (by simpa using h)
  · exact h

/-! ## Time, registers, events, words and bytes -/

@[simp] theorem canonical_setSpad (d w : Nat) (x : SWord) {s : State} (h : Canonical (memories s)) :
    Canonical (memories (setSpad d w x s)) :=
  (canonical_iff_wf _).mpr (wf_setSpad d w x ((canonical_iff_wf s).mp h))

@[simp] theorem canonical_setSpadWords (d w : Nat) (xs : List SWord) {s : State} (h : Canonical (memories s)) :
    Canonical (memories (setSpadWords d w xs s)) :=
  (canonical_iff_wf _).mpr (wf_setSpadWords xs d w ((canonical_iff_wf s).mp h))

@[simp] theorem canonical_setHbmByte (a : Nat) (b : Byte) {s : State} (h : Canonical (memories s)) :
    Canonical (memories (setHbmByte a b s)) :=
  (canonical_iff_wf _).mpr (wf_setHbmByte a b ((canonical_iff_wf s).mp h))

@[simp] theorem canonical_hbmWrite (a : Nat) (bs : Bytes) {s : State} (h : Canonical (memories s)) :
    Canonical (memories (hbmWrite a bs s)) :=
  (canonical_iff_wf _).mpr (wf_hbmWrite bs a ((canonical_iff_wf s).mp h))

@[simp] theorem canonical_setBurstPoison (b : Nat) (p : Bool) {s : State} (h : Canonical (memories s)) :
    Canonical (memories (setBurstPoison b p s)) :=
  (canonical_iff_wf _).mpr (wf_setBurstPoison b p ((canonical_iff_wf s).mp h))

@[simp] theorem canonical_hbmStore (a : Nat) (bs : Bytes) (poison : Bool) {s : State} (h : Canonical (memories s)) :
    Canonical (memories (hbmStore a bs poison s).2) :=
  (canonical_iff_wf _).mpr (wf_hbmStore a bs poison ((canonical_iff_wf s).mp h))

@[simp] theorem canonical_hbmStoreParts (a size : Nat) (ps : List Bytes) {s : State} (h : Canonical (memories s)) :
    Canonical (memories (hbmStoreParts a size ps s).2) :=
  (canonical_iff_wf _).mpr (wf_hbmStoreParts a size ps ((canonical_iff_wf s).mp h))

/-! ## Slot rings and windows -/

@[simp] theorem canonical_spadPut (d w : Nat) (x : SWord) {s : State} (h : Canonical (memories s)) :
    Canonical (memories (spadPut d w x s)) := by simp [spadPut, h]

@[simp] theorem canonical_schedWrite (c d w : Nat) (x : SWord) {s : State} (h : Canonical (memories s)) :
    Canonical (memories (schedWrite c d w x s)) := by simp [schedWrite, h]

@[simp] theorem canonical_orFlags (d w fl : Nat) (bad : Bool) {s : State} (h : Canonical (memories s)) :
    Canonical (memories (orFlags d w fl bad s)) := by simp [orFlags, h]

@[simp] theorem canonical_spadPuts (d w : Nat) (xs : List SWord) {s : State} (h : Canonical (memories s)) :
    Canonical (memories (spadPuts d w xs s)) := by
  induction xs generalizing w s with
  | nil => exact h
  | cons x xs ih => exact ih _ (canonical_spadPut d w x h)

@[simp] theorem canonical_winLand (w src die thread off : Nat) (data : List Bytes) {s : State}
    (h : Canonical (memories s)) :
    Canonical (memories (winLand w src die thread off data s)) := by
  simp only [winLand]
  repeat' split
  all_goals simp [h]

/-! ## Tensor operations -/

theorem canonical_withUncorr (bs : List Nat) (wrote : Nat → Bool) {f : State → State}
    (hf : ∀ s, Canonical (memories s) → Canonical (memories (f s))) {s : State} (h : Canonical (memories s)) :
    Canonical (memories (withUncorr bs wrote f s)) := by
  simp only [withUncorr]
  refine canonical_foldl (fun s b hs => canonical_setBurstPoison b false hs) _ (hf _ ?_)
  exact canonical_foldl (fun s b hs => canonical_setBurstPoison b true hs) _ h

@[simp] theorem canonical_vectorDone (t : TensorOp) {s : State} (h : Canonical (memories s)) :
    Canonical (memories (vectorDone t s)) := by
  have put : ∀ (ws : List SWord) (fl : Nat) (bad : Bool) (u : State), memories u = memories s →
      Canonical (memories (orFlags t.die t.flagAddr fl bad (((List.range ws.length).zip ws).foldl
        (fun s e => schedWrite (t.cycle + 11) t.die (t.dst + e.1) e.2 s) u))) := fun ws fl bad u hu =>
    canonical_orFlags _ _ _ _ (canonical_foldl (fun s e hs => canonical_schedWrite _ _ _ _ hs) _ (hu ▸ h))
  simp only [vectorDone]
  repeat' split
  · exact put _ _ _ _ rfl
  · exact put _ _ _ _ (by simp)
  · exact put _ _ _ _ (by simp)
  · exact put _ _ _ _ (by simp)
  · exact put _ _ _ _ rfl

theorem memories_tensorDone {t : TensorOp} (ht : t.op ≠ 11) (s : State) : memories (tensorDone t s) = memories s := by
  simp only [tensorDone, if_neg ht, memories_accResidue]
  repeat' split
  all_goals simp

@[simp] theorem canonical_tensorDone (t : TensorOp) {s : State} (h : Canonical (memories s)) :
    Canonical (memories (tensorDone t s)) := by
  by_cases ht : t.op = 11
  · rw [tensorDone, if_pos ht]
    exact canonical_vectorDone t h
  · rwa [memories_tensorDone ht]

@[simp] theorem canonical_writeDone (due : Nat) (w : WriteOp) {s : State} (h : Canonical (memories s)) :
    Canonical (memories (writeDone due w s)) := by
  unfold writeDone
  extract_lets dead stored
  have hstored : Canonical (memories stored) := canonical_foldl (fun s e hs => canonical_schedWrite _ _ _ _ hs) _ h
  split
  · exact hstored
  · exact canonical_orFlags _ _ _ _ hstored

@[simp] theorem canonical_stageChunksDone (die due : Nat) (cs : List PicChunk) (flagAddr : Nat) (flagBad : Bool)
    {s : State} (h : Canonical (memories s)) : Canonical (memories (stageChunksDone die due cs flagAddr flagBad s)) :=
  canonical_orFlags _ _ _ _ (canonical_foldl (fun _ _ hs => canonical_schedWrite _ _ _ _ hs) cs h)

@[simp] theorem canonical_applyEffect (due : Nat) (e : Effect) {s : State} (h : Canonical (memories s)) :
    Canonical (memories (applyEffect due e s)) := by
  cases e with
  | window d w opening bad => simp only [applyEffect]; split <;> simp [h]
  | ring d r publish => simp only [applyEffect]; split <;> simp [h]
  | flagClear d a => exact canonical_schedWrite _ _ _ _ h
  | tensor t => exact canonical_tensorDone t h
  | write w => exact canonical_writeDone due w h
  | accChunks d cs o => simpa [applyEffect] using h
  | stageChunks d cs fl bad => exact canonical_stageChunksDone _ _ _ _ _ h

@[simp] theorem canonical_applyDue (es : List (Nat × Effect)) {s : State} (h : Canonical (memories s)) :
    Canonical (memories (applyDue es s)) := by
  induction es generalizing s with
  | nil => exact h
  | cons e es ih => exact ih (canonical_applyEffect _ _ (by simpa using h))

@[simp] theorem canonical_reachCycle (c : Nat) {s : State} (h : Canonical (memories s)) :
    Canonical (memories (reachCycle c s)) := by
  have happlied : ∀ es u, memories u = memories s → Canonical (memories (closeAccess c (applyDue es u))) := by
    intro es u hu
    rw [memories_closeAccess]
    exact canonical_applyDue es (hu ▸ h)
  simp only [reachCycle]
  split
  · rw [memories_closeCycle]
    exact happlied _ _ rfl
  · exact happlied _ _ rfl

@[simp] theorem canonical_drain {s : State} (h : Canonical (memories s)) : Canonical (memories (drain s)) := by
  simp only [drain, memories_closeCycle, memories_closeAccess]
  exact canonical_applyDue _ h

/-! ## The key-value cache -/

@[simp] theorem canonical_setPte (i : Nat) (e : Pte) {s : State} (h : Canonical (memories s)) :
    Canonical (memories (setPte i e s)) := by simp [setPte, h]

@[simp] theorem canonical_setWritten (a l v : Nat) {s : State} (h : Canonical (memories s)) :
    Canonical (memories (setWritten a l v s)) :=
  canonical_hbmWrite _ _ h

@[simp] theorem canonical_setCounts (a c t : Nat) {s : State} (h : Canonical (memories s)) :
    Canonical (memories (setCounts a c t s)) := by simp [setCounts, h]

theorem canonical_allocPage (q req owner pos tent : Nat) {s : State} (h : Canonical (memories s)) {x : Nat × State}
    (hx : allocPage q req owner pos tent s = some x) : Canonical (memories x.2) := by
  simp only [allocPage] at hx
  split at hx
  · obtain rfl := Option.some.inj hx
    rw [memories_poolMark]
    exact canonical_hbmWrite _ _ (canonical_setPte _ _ h)
  · cases hx

@[simp] theorem canonical_freeIfUnused (i : Nat) {s : State} (h : Canonical (memories s)) :
    Canonical (memories (freeIfUnused i s)) := by
  simp only [freeIfUnused]
  split
  · rw [memories_update]
    exact canonical_setPte _ _ h
  · exact h

@[simp] theorem canonical_dropRef (i : Nat) {s : State} (h : Canonical (memories s)) :
    Canonical (memories (dropRef i s)) := by simp [dropRef, h]

@[simp] theorem canonical_addRef (i : Nat) {s : State} (h : Canonical (memories s)) :
    Canonical (memories (addRef i s).2) := by
  simp only [addRef]
  split <;> simp [h]

@[simp] theorem canonical_reservePages (q req owner fuel j n : Nat) {s : State} (h : Canonical (memories s)) :
    Canonical (memories (reservePages q req owner fuel j n s).2) := by
  induction fuel generalizing j n s with
  | zero => exact h
  | succ fuel ih =>
    simp only [reservePages]
    split
    · exact h
    · split
      · exact h
      · next heq => exact ih _ _ (canonical_allocPage _ _ _ _ _ h heq)

@[simp] theorem canonical_reserve (pages : List Nat) (q req owner p0 n : Nat) {s : State}
    (h : Canonical (memories s)) :
    Canonical (memories (reserve pages q req owner p0 n s).2) := by
  unfold reserve
  split
  · exact h
  · split
    · simpa using h
    · extract_lets room k need counted
      have hcounted : Canonical (memories counted) := by
        simp only [counted]
        repeat' split
        · exact h
        · exact h
        · exact canonical_setCounts _ _ _ (canonical_setPte _ _ h)
      split
      · simpa using h
      · exact canonical_reservePages _ _ _ _ _ _ hcounted

@[simp] theorem canonical_clearWritten (a c : Nat) {s : State} (h : Canonical (memories s)) :
    Canonical (memories (clearWritten a c s)) :=
  canonical_foldl (fun _ _ hs => canonical_setWritten _ _ _ hs) _ h

@[simp] theorem canonical_resolvePages (is : List Nat) (a : Nat) {s : State} (h : Canonical (memories s)) :
    Canonical (memories (resolvePages is a s).2.2) := by
  induction is generalizing a s with
  | nil => exact h
  | cons i is ih =>
    simp only [resolvePages]
    split
    · exact ih _ h
    · have hcounted : ∀ at' c com e, Canonical (memories (setCounts at' com 0 (setPte i e (clearWritten at' c s)))) :=
        fun at' c com e => canonical_setCounts _ _ _ (canonical_setPte _ _ (canonical_clearWritten at' c h))
      split
      · exact ih _ (canonical_dropRef _ (hcounted ..))
      · refine ih _ ?_
        split
        · rw [memories_update]
          exact hcounted ..
        · exact hcounted ..

@[simp] theorem canonical_pageCrc (i : Nat) {s : State} (h : Canonical (memories s)) :
    Canonical (memories (pageCrc i s)) := by
  simp only [pageCrc]
  split
  · exact h
  · refine canonical_setPte _ _ (canonical_hbmWrite _ _ ?_)
    exact canonical_foldl (fun _ l hs => canonical_hbmWrite _ _ hs) _ (by simpa using h)

@[simp] theorem canonical_appendSlots (die i a layer slot : Nat) (ps : List (List Bytes)) {s : State}
    (h : Canonical (memories s)) : Canonical (memories (appendSlots die i a layer slot ps s).2) := by
  simp only [appendSlots]
  refine canonical_hbmStoreParts _ _ _ ?_
  rw [memories_foldl (fun s e => by simp)]
  exact canonical_hbmStoreParts _ _ _ h

@[simp] theorem canonical_appendPages (die layer : Nat) (ps : List ListPage) (src : List Bytes) {s : State}
    (h : Canonical (memories s)) : Canonical (memories (appendPages die layer ps src s).2) := by
  induction ps generalizing src s with
  | nil => exact h
  | cons p ps ih => exact ih _ (canonical_setWritten _ _ _ (canonical_appendSlots _ _ _ _ _ _ h))

@[simp] theorem canonical_gatherPages (die layer list dst total k : Nat) (ps : List ListPage) {s : State}
    (h : Canonical (memories s)) : Canonical (memories (gatherPages die layer list dst total k ps s).2) := by
  induction ps generalizing k s with
  | nil => exact h
  | cons p ps ih =>
    simp only [gatherPages]
    exact ih _ (canonical_spadPut _ _ _ (canonical_spadPuts _ _ _ (by simpa using h)))

@[simp] theorem canonical_setPrefix (slot : Nat) (b : Bytes) {s : State} (h : Canonical (memories s)) :
    Canonical (memories (setPrefix slot b s)) := by simp [setPrefix, h]

@[simp] theorem canonical_editPrefix (slot a : Nat) (bs : Bytes) {s : State} (h : Canonical (memories s)) :
    Canonical (memories (editPrefix slot a bs s)) := by simp [editPrefix, h]

@[simp] theorem canonical_prefixLookup (q : Nat) (ks : List Bytes) {s : State} (h : Canonical (memories s)) :
    Canonical (memories (prefixLookup q ks s).2) := by
  induction ks generalizing s with
  | nil => exact h
  | cons k ks ih =>
    simp only [prefixLookup]
    split
    · exact h
    · split
      · simpa using h
      · split
        · exact canonical_addRef _ h
        · exact ih (by simpa using canonical_editPrefix _ _ _ (canonical_addRef _ h))

@[simp] theorem canonical_addChild (sl : Nat) (up : Bool) {s : State} (h : Canonical (memories s)) :
    Canonical (memories (addChild sl up s)) := by simp [addChild, h]

@[simp] theorem canonical_evict (sl : Nat) {s : State} (h : Canonical (memories s)) :
    Canonical (memories (evict sl s)) := by
  refine canonical_dropRef _ ?_
  rw [memories_update]
  exact canonical_addChild _ _ (canonical_setPrefix _ _ h)

@[simp] theorem canonical_prefixInsert (q i depth : Nat) (key : Bytes) (parent : Option Bytes) {s : State}
    (h : Canonical (memories s)) : Canonical (memories (prefixInsert q i depth key parent s)) := by
  have href := canonical_addRef i h
  simp only [prefixInsert]
  split
  · exact h
  · split
    · exact h
    · split
      · simpa using h
      · split
        · exact href
        · refine canonical_addChild _ _ ?_
          rw [memories_update]
          refine canonical_setPrefix _ _ (canonical_hbmWrite _ _ (canonical_hbmWrite _ _ (canonical_setPte _ _ ?_)))
          split
          · exact canonical_evict _ href
          · exact href

@[simp] theorem canonical_prefixAge {s : State} (h : Canonical (memories s)) :
    Canonical (memories (prefixAge s)) := by
  refine canonical_foldl (fun s sl hs => ?_) _ h
  dsimp only
  split
  · exact canonical_editPrefix _ _ _ hs
  · exact hs

/-! ## Transfers -/

@[simp] theorem canonical_writePlace (p : Place) (ps : List Bytes) {s : State} (h : Canonical (memories s)) :
    Canonical (memories (writePlace p ps s).2) := by
  simp only [writePlace]
  split <;> simp [h]

@[simp] theorem canonical_sendOwn (die th win off : Nat) (ps : List Bytes) {s : State} (h : Canonical (memories s)) :
    Canonical (memories (sendOwn die th win off ps s)) := by
  simp only [sendOwn]
  repeat' split
  all_goals simp [h]

@[simp] theorem canonical_carryOut (die th : Nat) (b : Bytes) (o : XferObs) (p : Plan) {s : State}
    (h : Canonical (memories s)) : Canonical (memories (carryOut die th b o p s)) := by
  simp only [carryOut]
  split
  · simpa using h
  cases p with
  | done st side => simpa using h
  | copy src dst n => simpa using canonical_writePlace dst _ (by simpa using h)
  | append w n layer owner pages =>
    dsimp only
    split
    · simpa using h
    · rw [memories_endThread]
      exact canonical_appendPages _ _ _ _ (by simpa using h)
  | readGather w layer pages =>
    dsimp only
    rw [memories_endThread]
    exact canonical_gatherPages _ _ _ _ _ _ _ (by simpa using h)
  | send src m win off n =>
    dsimp only
    split
    · exact canonical_sendOwn _ _ _ _ _ (by simpa using h)
    · repeat' split
      all_goals simpa using h
  | eth src q n =>
    dsimp only
    repeat' split
    all_goals simpa using h

@[simp] theorem canonical_moveData (die th : Nat) (o : XferObs) {s : State} (h : Canonical (memories s)) :
    Canonical (memories (moveData die th o s)) := by
  simp only [moveData]
  split
  · exact h
  · split
    · simpa using h
    · rw [memories_inClass]
      exact canonical_withUncorr _ _ (fun _ hs => canonical_carryOut _ _ _ _ _ hs) (by simpa using h)

@[simp] theorem canonical_beginThread (die th : Nat) (o : XferObs) (d : Desc) {s : State}
    (h : Canonical (memories s)) :
    Canonical (memories (beginThread die th o d s)) := by
  simp only [beginThread]
  repeat' split
  all_goals simp [h]

@[simp] theorem canonical_threadStart (die th : Nat) (o : XferObs) {s : State} (h : Canonical (memories s)) :
    Canonical (memories (threadStart die th o s)) := by
  simp only [threadStart]
  repeat' split
  all_goals simp [h]

/-! ## Adapters and training -/

@[simp] theorem canonical_editAdapter (a o : Nat) (bs : Bytes) {s : State} (h : Canonical (memories s)) :
    Canonical (memories (editAdapter a o bs s)) := by simp [editAdapter, h]

@[simp] theorem canonical_editKnown (a o : Nat) (bs : Bytes) {s : State} (h : Canonical (memories s)) :
    Canonical (memories (editKnown a o bs s)) := by
  simp only [editKnown]
  split <;> simp [h]

@[simp] theorem canonical_setAdFlags (a : Nat) (valid training : Bool) {s : State} (h : Canonical (memories s)) :
    Canonical (memories (setAdFlags a valid training s)) := by simp [setAdFlags, h]

@[simp] theorem canonical_adapterUsers (a : Nat) (up : Bool) {s : State} (h : Canonical (memories s)) :
    Canonical (memories (adapterUsers a up s)) := by simp [adapterUsers, h]

@[simp] theorem canonical_adapterLoadNow (a : Nat) {s : State} (h : Canonical (memories s)) :
    Canonical (memories (adapterLoadNow a s)) := by
  unfold adapterLoadNow
  extract_lets b r shown loaded
  have hshown : Canonical (memories shown) := by simpa [shown] using h
  split
  · rw [memories_raise]
    exact canonical_editKnown _ _ _ (canonical_setAdFlags _ _ _ hshown)
  · rwa [memories_raise]

@[simp] theorem canonical_adapterUnloadNow (a : Nat) {s : State} (h : Canonical (memories s)) :
    Canonical (memories (adapterUnloadNow a s)) := by simp [adapterUnloadNow, h]

@[simp] theorem canonical_adapterCommit {s : State} (h : Canonical (memories s)) :
    Canonical (memories (adapterCommit s)) := by
  simp only [adapterCommit]
  split
  · exact h
  · split
    · exact canonical_adapterLoadNow _ h
    · exact canonical_adapterUnloadNow _ h

@[simp] theorem canonical_trainBegin (job a : Nat) (params : Bytes) {s : State} (h : Canonical (memories s)) :
    Canonical (memories (trainBegin job a params s)) :=
  canonical_setAdFlags a _ _ h

@[simp] theorem canonical_storeElems (fmt a : Nat) (es : List Elem) {s : State} (h : Canonical (memories s)) :
    Canonical (memories (storeElems fmt a es s)) := by simp [storeElems, h]

@[simp] theorem canonical_applyUpdate (c : Word) {s : State} (h : Canonical (memories s)) :
    Canonical (memories (applyUpdate c s)) :=
  canonical_storeElems _ _ _ (canonical_storeElems _ _ _ (canonical_storeElems _ _ _ (canonical_storeElems _ _ _ h)))

@[simp] theorem canonical_clearGradient {s : State} (h : Canonical (memories s)) :
    Canonical (memories (clearGradient s)) := by simp [clearGradient, h]

@[simp] theorem canonical_trainStep {s : State} (h : Canonical (memories s)) :
    Canonical (memories (trainStep s)) := by
  simp only [trainStep]
  repeat' split
  all_goals simp [h]

@[simp] theorem canonical_trainDigest {s : State} (h : Canonical (memories s)) :
    Canonical (memories (trainDigest s)) := by
  simp only [trainDigest]
  split
  · exact h
  · split
    · exact h
    · rw [memories_forRequest, memories_raise, memories_update]
      refine canonical_setAdFlags _ _ _ ?_
      rw [memories_update]
      exact canonical_editKnown _ _ _ (by simpa using h)

/-! ## Piccolo -/

@[simp] theorem canonical_shadowIssue (o : XferObs) (sram : Bool) (c : SubCtx) (t : TDesc) {s : State}
    (h : Canonical (memories s)) : Canonical (memories (shadowIssue o sram c t s)) := by
  simp only [shadowIssue]
  split
  · exact h
  · exact canonical_withUncorr _ _ (fun s hs => by simpa using hs) (by simpa using h)

/-! ## Programming and replacement -/

@[simp] theorem canonical_exchangeCoef (d a new : Nat) {s : State} (h : Canonical (memories s)) :
    Canonical (memories (exchangeCoef d a new s).2) := by
  simp only [exchangeCoef]
  split <;> simp [h]

@[simp] theorem canonical_performSwap (d : Nat) (w : Swap) {s : State} (h : Canonical (memories s)) :
    Canonical (memories (performSwap d w s)) := by simp [performSwap, h]

@[simp] theorem canonical_swapMany (d n : Nat) {s : State} (h : Canonical (memories s)) :
    Canonical (memories (swapMany d n s)) := by
  induction n generalizing s with
  | zero => exact h
  | succ n ih =>
    simp only [swapMany]
    split
    · exact h
    · exact ih (canonical_performSwap d _ h)

@[simp] theorem canonical_swapAll {s : State} (h : Canonical (memories s)) : Canonical (memories (swapAll s)) :=
  canonical_foldl (fun _ d hs => canonical_swapMany d 16 hs) _ h

@[simp] theorem canonical_runGains (d : Nat) (c : Channel) (o : ProgObs) {s : State} (h : Canonical (memories s)) :
    Canonical (memories (runGains d c o s).2) := by
  simp only [runGains]
  repeat' split
  all_goals simp_all

@[simp] theorem canonical_runProgram (d : Nat) (c : Channel) (o : ProgObs) {s : State} (h : Canonical (memories s)) :
    Canonical (memories (runProgram d c o s).2) := by
  have hcells : Canonical (memories (runCells d c o s).2) := by simpa using h
  simp only [runProgram]
  split
  · next heq => exact canonical_of_eq hcells heq
  · next heq =>
    have haccept := canonical_of_eq hcells heq
    rw [← memories_runAccept d c o] at haccept
    split
    · next heq => exact canonical_of_eq haccept heq
    · next heq =>
      have hgains := canonical_runGains d c o (canonical_of_eq haccept heq)
      split
      · next heq => exact canonical_of_eq hgains heq
      · next heq =>
        have hseed := canonical_of_eq hgains heq
        rw [← memories_runSeed d c o] at hseed
        split
        · next heq => exact canonical_of_eq hseed heq
        · next heq => exact canonical_of_eq hseed heq

@[simp] theorem canonical_programEnds (d k : Nat) (o : ProgObs) {s : State} (h : Canonical (memories s)) :
    Canonical (memories (programEnds d k o s)) := by
  simp only [programEnds]
  split
  · exact h
  next c _ =>
  have hran := canonical_runProgram d c o h
  split
  · exact h
  · split
    · simpa using h
    · split
      · simpa using h
      · rw [memories_cmdGoOn]
        have hended : ∀ u, Canonical (memories u) →
            Canonical (memories (if (lunaDie u d).cmd.cancelAt.isSome then cancelEnd d u else u)) := by
          intro u hu
          split
          · simpa using hu
          · exact hu
        refine hended _ ?_
        split
        · simpa using h
        · split
          · next heq => simpa using canonical_of_eq hran heq
          · next heq => simpa using canonical_of_eq hran heq

@[simp] theorem canonical_programWrites (d k : Nat) (o : ProgObs) {s : State} (h : Canonical (memories s)) :
    Canonical (memories (programWrites d k o s)) := by
  simp only [programWrites]
  split <;> simp [h]

@[simp] theorem canonical_refreshCmdWrite (d : Nat) (v : Word) {s : State} (h : Canonical (memories s)) :
    Canonical (memories (refreshCmdWrite d v s)) := by simp [refreshCmdWrite, h]

/-! ## The Shawm fabric -/

@[simp] theorem canonical_tensorLands (f : WriteFrame) {s : State} (h : Canonical (memories s)) :
    Canonical (memories (tensorLands f s)) := by simp [tensorLands, h]

@[simp] theorem canonical_tensorArrives (f : WriteFrame) {s : State} (h : Canonical (memories s)) :
    Canonical (memories (tensorArrives f s)) := by simp [tensorArrives, h]

/-! ## The PCIe endpoint -/

@[simp] theorem canonical_setBar2 (o : Nat) (bs : Bytes) {s : State} (h : Canonical (memories s)) :
    Canonical (memories (setBar2 o bs s)) :=
  (canonical_iff_wf _).mpr (wf_setBar2 bs o ((canonical_iff_wf s).mp h))

/-! ## Scrubbing, repair and retirement -/

@[simp] theorem canonical_rowDone (st : Nat) (corr bad : List Nat) {s : State} (h : Canonical (memories s)) :
    Canonical (memories (rowDone st corr bad s)) := by
  simp only [rowDone]
  split
  · exact h
  · rw [memories_raise, memories_setReg, memories_update_mem]
    exact canonical_foldl (fun _ b hs => canonical_setBurstPoison _ true hs) bad (by simpa using h)

@[simp] theorem canonical_haltMemory {s : State} (h : Canonical (memories s)) :
    Canonical (memories (haltMemory s)) := by
  obtain ⟨hspad, hrest⟩ := h
  rw [haltMemory, memories_closeAll]
  exact ⟨wf_filter _ _ hspad, hrest⟩

/-! ## The sequencer -/

@[simp] theorem canonical_testBundle (o : IssueObs) (held : Held) (point : Nat) {s : State}
    (h : Canonical (memories s)) :
    Canonical (memories (testBundle o held point s)) := by
  simp only [testBundle]
  split
  · rw [memories_issueBundle]
    exact canonical_reachCycle _ (by simpa using h)
  · simpa using h

@[simp] theorem canonical_comparePoint (o : IssueObs) {s : State} (h : Canonical (memories s)) :
    Canonical (memories (comparePoint o s)) := by
  simp only [comparePoint]
  split
  · exact h
  · split
    · simpa using h
    · simpa using h
    · split
      · split
        · simpa using h
        · exact canonical_testBundle _ _ _ (by simp [h])
      · split
        · simpa using h
        · exact canonical_testBundle _ _ _ (by simp [h])

@[simp] theorem canonical_fenced {s : State} (h : Canonical (memories s)) : Canonical (memories (fenced s)) := by
  simp [fenced, h]

theorem canonical_afterFences {f : State → State} (hf : ∀ s, Canonical (memories s) → Canonical (memories (f s)))
    {s : State}
    (h : Canonical (memories s)) : Canonical (memories (afterFences f s)) :=
  hf _ (canonical_fenced h)

@[simp] theorem canonical_haltIssue (code : Nat) {s : State} (h : Canonical (memories s)) :
    Canonical (memories (haltIssue code s)) := by simp [haltIssue, h]

@[simp] theorem canonical_haltClear (v : Word) {s : State} (h : Canonical (memories s)) :
    Canonical (memories (haltClear v s)) := by simp [haltClear, h]

@[simp] theorem canonical_seqControlWrite (v : Word) {s : State} (h : Canonical (memories s)) :
    Canonical (memories (seqControlWrite v s)) := by simp [seqControlWrite, h]

/-! ## Shipping and parking -/

@[simp] theorem canonical_addIoRef (i : Nat) {s : State} (h : Canonical (memories s)) :
    Canonical (memories (addIoRef i s)) := by simp [addIoRef, h]

@[simp] theorem canonical_dropIoRef (i : Nat) {s : State} (h : Canonical (memories s)) :
    Canonical (memories (dropIoRef i s)) := by simp [dropIoRef, h]

@[simp] theorem canonical_shipMore (id n : Nat) {s : State} (h : Canonical (memories s)) :
    Canonical (memories (shipMore id n s)) := by
  induction n generalizing s with
  | zero => exact h
  | succ n ih =>
    simp only [shipMore]
    split
    · split
      · exact h
      · split
        · exact h
        · split
          · exact h
          · split
            · simpa using h
            · exact ih (by simp [h])
    · exact h

@[simp] theorem canonical_shipStop (id : Nat) {s : State} (h : Canonical (memories s)) :
    Canonical (memories (shipStop id s)) := by
  simp only [shipStop]
  split
  · exact h
  · exact canonical_foldl (fun _ i hs => canonical_dropIoRef i hs) _ (by simpa using h)

theorem canonical_storePage (cls id k : Nat) (b : Bytes) {s : State} (h : Canonical (memories s)) {t : State}
    (ht : storePage cls id k b s = some t) : Canonical (memories t) := by
  simp only [storePage] at ht
  split at ht
  · cases ht
  · split at ht
    · cases ht
    · next heq =>
      obtain rfl := Option.some.inj ht
      rw [memories_chargeStore, memories_setModReq]
      exact canonical_setPte _ _ (canonical_hbmStore _ _ _ (canonical_allocPage _ _ _ _ _ h heq))

@[simp] theorem canonical_pageArrives (b : Bytes) {s : State} (h : Canonical (memories s)) :
    Canonical (memories (pageArrives b s)) := by
  simp only [pageArrives]
  split
  · exact h
  · split
    · simpa using h
    · split
      · simpa using h
      · next heq =>
        have hstored := canonical_storePage _ _ _ b h heq
        split <;> simpa using hstored

@[simp] theorem canonical_statusArrives (b : Bytes) {s : State} (h : Canonical (memories s)) :
    Canonical (memories (statusArrives b s)) := by
  simp only [statusArrives]
  split <;> simp [h]

@[simp] theorem canonical_shipReceive (b : Bytes) {s : State} (h : Canonical (memories s)) :
    Canonical (memories (shipReceive b s).2) := by
  simp only [shipReceive]
  split
  · exact canonical_foldl (fun s id hs => by split <;> simp [hs]) _ h
  · split
    · simpa using h
    · have hput := canonical_spadPuts 18 (regFld s Reg.SP_RECV_BASE 25 0) (bytesWords b false) h
      repeat' split
      · simpa using hput
      · exact canonical_statusArrives _ hput
      · exact canonical_pageArrives _ hput
      · exact hput

@[simp] theorem canonical_setParkValid (i : Nat) (v : Bool) {s : State} (h : Canonical (memories s)) :
    Canonical (memories (setParkValid i v s)) := by simp [setParkValid, h]

@[simp] theorem canonical_parkDrop (handle : Nat) {s : State} (h : Canonical (memories s)) :
    Canonical (memories (parkDrop handle s)) := by simp [parkDrop, h]

@[simp] theorem canonical_parkMore (id n : Nat) {s : State} (h : Canonical (memories s)) :
    Canonical (memories (parkMore id n s)) := by
  induction n generalizing s with
  | zero => exact h
  | succ n ih =>
    simp only [parkMore]
    repeat' split
    · exact h
    · exact h
    · simpa using h
    · exact ih (by simp [h])
    · exact h

@[simp] theorem canonical_parkStart (id handle region offset capacity : Nat) {s : State}
    (h : Canonical (memories s)) :
    Canonical (memories (parkStart id handle region offset capacity s)) := by
  simp only [parkStart]
  split <;> simp [h]

@[simp] theorem canonical_resumeStart (id handle region offset positions : Nat) {s : State}
    (h : Canonical (memories s)) :
    Canonical (memories (resumeStart id handle region offset positions s)) := by
  simp only [resumeStart]
  split <;> simp [h]

@[simp] theorem canonical_pageRestored (id k : Nat) (b : Bytes) {s : State} (h : Canonical (memories s)) :
    Canonical (memories (pageRestored id k b s)) := by
  simp only [pageRestored]
  split
  · exact h
  · split
    · simpa using h
    · split
      · simpa using h
      · split
        · simpa using h
        · next heq =>
          have hstored := canonical_storePage 5 id k b h heq
          split <;> simpa using hstored

@[simp] theorem canonical_ioGoOn {s : State} (h : Canonical (memories s)) : Canonical (memories (ioGoOn s)) :=
  canonical_foldl (fun s e hs => by simp [hs]) _ h

@[simp] theorem canonical_ioAcked (w : WorkOwner) {s : State} (h : Canonical (memories s)) :
    Canonical (memories (ioAcked w s)) := by
  simp only [ioAcked]
  split <;> simp [h]

@[simp] theorem canonical_ioError (w : WorkOwner) {s : State} (h : Canonical (memories s)) :
    Canonical (memories (ioError w s)) := by
  simp only [ioError]
  split <;> simp [h]

/-! ## A module's part in serving -/

@[simp] theorem canonical_admitReq (req : Word) (home flags : Byte) (adapter : BitVec 16) (len maxNew : Word)
    (kind : Byte) {s : State}
    (h : Canonical (memories s)) :
    Canonical (memories (admitReq req home flags adapter len maxNew kind s)) := by
  simp only [admitReq]
  split <;> simp [h]

@[simp] theorem canonical_goItem {s : State} (i : MsgItem) (h : Canonical (memories s)) :
    Canonical (memories (goItem s i)) := by
  simp only [goItem]
  repeat' split
  all_goals simp [h]

@[simp] theorem canonical_reserveFor (gs : List RowGroup) (id : Nat) {s : State} (h : Canonical (memories s)) :
    Canonical (memories (reserveFor gs id s)) := by
  simp only [reserveFor]
  split
  · exact h
  · split
    · exact h
    · have hreserved := fun pages q n p0 => canonical_reserve pages q id (id % 65536) p0 n h
      split
      · next heq =>
        rw [memories_update]
        exact canonical_of_eq (hreserved ..) heq
      · next heq =>
        rw [memories_setModReq]
        exact canonical_of_eq (hreserved ..) heq

@[simp] theorem canonical_termHeader (d : Nat) (g : Nat × AGroup) {s : State} (e : Nat × RowGroup)
    (h : Canonical (memories s)) :
    Canonical (memories (termHeader d g s e)) := by simp [termHeader, h]

@[simp] theorem canonical_termHeaders (rows : List (Nat × RowGroup)) {s : State} (h : Canonical (memories s)) :
    Canonical (memories (termHeaders rows s)) :=
  canonical_foldl (fun _ d hs => canonical_foldl (fun _ g hs =>
    canonical_foldl (fun _ e hs => canonical_termHeader d g e hs) rows hs) _ hs) _ h

@[simp] theorem canonical_putPageList (gs : List RowGroup) (d : Nat) {s : State} (b : Bytes)
    (h : Canonical (memories s)) :
    Canonical (memories (putPageList gs d s b)) := by
  simp only [putPageList]
  split <;> simp [h]

@[simp] theorem canonical_pageLists (gs : List RowGroup) {s : State} (h : Canonical (memories s)) :
    Canonical (memories (pageLists gs s)) :=
  canonical_foldl (fun _ d hs => canonical_foldl (fun _ b hs => canonical_putPageList gs d b hs) _ hs) _ h

@[simp] theorem canonical_reserveMicro (home id : Nat) (ns : List Nat) {s : State} (h : Canonical (memories s)) :
    Canonical (memories (reserveMicro home id ns s)) := by
  induction ns generalizing s with
  | nil => exact h
  | cons n ns ih =>
    have hreserved := canonical_reserve [] home id (id % 65536) 0 n h
    simp only [reserveMicro]
    split
    · next heq =>
      rw [memories_update]
      exact canonical_of_eq hreserved heq
    · next heq =>
      refine ih ?_
      rw [memories_update]
      exact canonical_of_eq hreserved heq

@[simp] theorem canonical_trainGo {s : State} (h : Canonical (memories s)) : Canonical (memories (trainGo s)) := by
  simp only [trainGo, memories_runWave]
  exact canonical_termHeaders _ (canonical_reserveMicro _ _ _ h)

@[simp] theorem canonical_resolveMicro {s : State} (h : Canonical (memories s)) :
    Canonical (memories (resolveMicro s)) :=
  canonical_foldl (fun _ ps hs => canonical_resolvePages ps 0 hs) _ h

@[simp] theorem canonical_goArrives (m : GoMsg) {s : State} (h : Canonical (memories s)) :
    Canonical (memories (goArrives m s)) := by
  unfold goArrives
  extract_lets _ begun taken started told acted _ _ waves own gs batched ids reserved listed _ needs
  have htaken : memories taken = memories s := by
    simp only [taken]
    split
    · rfl
    · rw [memories_commitRegs, memories_setFld]
      rfl
  have htold : memories told = memories s := by
    simp only [told]
    rw [memories_foldl (fun s v => memories_deliverTokens v s)]
    exact (memories_setReg64 ..).trans htaken
  have hacted : Canonical (memories acted) := canonical_foldl (fun _ i hs => canonical_goItem i hs) _ (htold ▸ h)
  have hbatched : Canonical (memories batched) := hacted
  have hreserved : Canonical (memories reserved) :=
    canonical_foldl (fun _ id hs => canonical_reserveFor gs id hs) _ hbatched
  have hlisted : Canonical (memories listed) := canonical_termHeaders _ (canonical_pageLists _ hreserved)
  split
  · exact canonical_trainGo hacted
  · split
    · rwa [memories_update]
    · rwa [memories_runWave]

@[simp] theorem canonical_resolveReq (id a : Nat) {s : State} (h : Canonical (memories s)) :
    Canonical (memories (resolveReq id a s)) := by
  simp only [resolveReq]
  split
  · exact h
  next r _ =>
  have hresolved : Canonical (memories (resolvePages r.pages a s).2.2) := canonical_resolvePages _ _ h
  split
  · simpa using hresolved
  · refine canonical_foldl (fun s i hs => ?_) _ (by simpa using hresolved)
    split
    · exact hs
    · split
      · exact hs
      · exact canonical_prefixInsert _ _ _ _ _ hs

@[simp] theorem canonical_lookupReq {s : State} (r : ModReq) (h : Canonical (memories s)) :
    Canonical (memories (lookupReq s r)) := by simp [lookupReq, h]

@[simp] theorem canonical_releaseReq {s : State} (e : Nat × Nat × Nat) (h : Canonical (memories s)) :
    Canonical (memories (releaseReq s e)) := by
  unfold releaseReq
  split
  · exact h
  next r _ =>
  extract_lets told _ freed stopped ended
  have htold : Canonical (memories told) := by
    simp only [told]
    repeat' split
    all_goals simp [h]
  have hstopped : Canonical (memories stopped) := canonical_shipStop _ htold
  have hended : Canonical (memories ended) := by
    simp only [ended]
    split
    · split
      · simpa using hstopped
      · exact hstopped
    · exact canonical_adapterUsers _ _ hstopped
  exact canonical_foldl (fun _ i hs => canonical_dropRef i hs) _ hended

@[simp] theorem canonical_commitStep {s : State} (h : Canonical (memories s)) :
    Canonical (memories (commitStep s)) := by
  unfold commitStep
  extract_lets ran err drained counted wave prefilled resolved went committed based q _ closed
  have hcounted : Canonical (memories counted) := by
    simp only [counted, memories_setReg64]
    exact canonical_drain h
  have hresolved : Canonical (memories resolved) :=
    canonical_resolveMicro (canonical_foldl (fun _ id hs => canonical_resolveReq id _ hs) _ hcounted)
  have hwent : Canonical (memories went) := by
    simp only [went]
    split
    · exact hresolved
    next m _ =>
    have hretired : ∀ ls rs ns es, Canonical (memories (List.foldl releaseReq (List.foldl lookupReq
        (List.foldl (fun s (r : Nat × Nat × Nat) => resolveReq r.1 0 s) (List.foldl
          (fun s (v : Nat × Nat × Bool) => resolveReq v.1 (if v.2.2 then 0 else v.2.1) s) resolved ls) rs) ns) es)) :=
      fun ls rs ns es => canonical_foldl (fun _ e hs => canonical_releaseReq e hs) _
        (canonical_foldl (fun _ r hs => canonical_lookupReq r hs) _
        (canonical_foldl (fun _ r hs => canonical_resolveReq r.1 0 hs) _
        (canonical_foldl (fun _ v hs => canonical_resolveReq _ _ hs) _ hresolved)))
    split
    · exact canonical_trainStep (hretired ..)
    · exact hretired ..
  have hbased : Canonical (memories based) := by
    have hcommitted : Canonical (memories committed) := by
      simp only [committed, memories_commitRegs]
      refine canonical_swapAll ?_
      rw [memories_widenCommit]
      exact canonical_adapterCommit hwent
    simp only [based]
    split
    · simpa using hcommitted
    · exact hcommitted
  rw [memories_afterCommit, memories_sendCommitDone]
  exact hbased

/-! ## The lead's serving engine -/

@[simp] theorem canonical_ioComplete (slot t step : Nat) {s : State} (h : Canonical (memories s)) :
    Canonical (memories (ioComplete slot t step s)) := by simp [ioComplete, h]

@[simp] theorem canonical_doneItem (m t step : Nat) {s : State} (i : MsgItem) (h : Canonical (memories s)) :
    Canonical (memories (doneItem m t step s i)) := by
  simp only [doneItem]
  repeat' split
  all_goals simp [h]

@[simp] theorem canonical_acceptEntry (step idx : Nat) (b : Bytes) {s : State} (h : Canonical (memories s)) :
    Canonical (memories (acceptEntry step idx b s)) := by
  simp only [acceptEntry]
  repeat' split
  all_goals simp [h]

@[simp] theorem canonical_takeEntry (t step idx : Nat) {s : State} (h : Canonical (memories s)) :
    Canonical (memories (takeEntry t step idx s)) := by simp [takeEntry, h]

@[simp] theorem canonical_takeEntries (t step n : Nat) {s : State} (h : Canonical (memories s)) :
    Canonical (memories (takeEntries t step n s)) := by
  induction n generalizing s with
  | zero => exact h
  | succ n ih =>
    simp only [takeEntries]
    split
    · exact h
    · exact ih (canonical_takeEntry _ _ _ h)

@[simp] theorem canonical_admits (slot t step : Nat) {s : State} (h : Canonical (memories s)) :
    Canonical (memories (admits slot t step s)) := by simp [admits, h]

@[simp] theorem canonical_admitAll (t step : Nat) (es : List (Nat × Req)) (held : List Nat) {s : State}
    (h : Canonical (memories s)) : Canonical (memories (admitAll t step es held s)) := by
  induction es generalizing held s with
  | nil => exact h
  | cons e es ih =>
    simp only [admitAll]
    repeat' split
    · exact ih _ h
    · exact ih _ h
    · exact ih _ (canonical_admits _ _ _ h)

@[simp] theorem canonical_admissions (t step : Nat) {s : State} (h : Canonical (memories s)) :
    Canonical (memories (admissions t step s)) := by simp [admissions, h]

@[simp] theorem canonical_expireEntry (deferred : Nat) {s : State} (i : Nat) (h : Canonical (memories s)) :
    Canonical (memories (expireEntry deferred s i)) := by simp [expireEntry, h]

@[simp] theorem canonical_expiries (t : Nat) {s : State} (h : Canonical (memories s)) :
    Canonical (memories (expiries t s)) :=
  canonical_foldl (fun _ i hs => canonical_expireEntry _ i hs) _ h

@[simp] theorem canonical_publishWindow (t step : Nat) {s : State} (h : Canonical (memories s)) :
    Canonical (memories (publishWindow t step s)) := by
  simp only [publishWindow, memories_msix]
  refine canonical_foldl (fun s a hs => canonical_setBar2 _ _ hs) _ ?_
  refine canonical_foldl (fun s a hs => canonical_setBar2 _ _ hs) _ ?_
  refine canonical_foldl (fun s a hs => canonical_setBar2 _ _ hs) _ ?_
  exact canonical_setBar2 _ _ h

@[simp] theorem canonical_flushCpl (n : Nat) {s : State} (h : Canonical (memories s)) :
    Canonical (memories (flushCpl n s)) := by
  induction n generalizing s with
  | zero => exact h
  | succ n ih =>
    simp only [flushCpl]
    split
    · exact h
    · split
      · exact h
      · refine ih ?_
        repeat' split
        all_goals simp [h]

@[simp] theorem canonical_writeCpls {s : State} (h : Canonical (memories s)) :
    Canonical (memories (writeCpls s)) := by simp [writeCpls, h]

@[simp] theorem canonical_sendGo (m : GoMsg) {s : State} (h : Canonical (memories s)) :
    Canonical (memories (sendGo m s)) :=
  canonical_goArrives m (by simpa using h)

@[simp] theorem canonical_machineCommit {s : State} (h : Canonical (memories s)) :
    Canonical (memories (machineCommit s)) := by
  unfold machineCommit
  extract_lets t step n msgs train backlog freed checked failed done pooled verified kept prefilled ended jobbed head
    taken next
  have hfailed : Canonical (memories failed) := by
    simp only [failed, checked, freed]
    repeat' split
    all_goals simp [h]
  have hdone : Canonical (memories done) :=
    canonical_foldl (fun _ c hs => canonical_foldl (fun _ i hs => canonical_doneItem _ _ _ i hs) _ hs) _ hfailed
  have hpooled : Canonical (memories pooled) :=
    canonical_foldl (fun s id hs => by split <;> simp [hs]) _ hdone
  have hverified : Canonical (memories verified) := by
    simp only [verified]
    repeat' split
    all_goals simp [hpooled]
  have hjobbed : Canonical (memories jobbed) := by simp [jobbed, ended, prefilled, kept, hverified]
  have htaken : Canonical (memories taken) := by
    simp only [taken]
    split
    · exact hjobbed
    · refine canonical_expiries _ ?_
      rw [memories_startJob]
      exact canonical_admissions _ _ (canonical_takeEntries _ _ _ hjobbed)
  split
  next gs planned hplan =>
  have hplanned : Canonical (memories planned) := by
    refine canonical_of_eq ?_ hplan
    split
    · exact htaken
    · simpa using htaken
  extract_lets written signalled job items go closed
  have hwritten : Canonical (memories written) := canonical_writeCpls (canonical_publishWindow _ _ hplanned)
  have hsignalled : Canonical (memories signalled) := by
    simp only [signalled]
    split
    · exact hwritten
    · simpa using hwritten
  exact canonical_sendGo _ (by simpa [closed] using hsignalled)

@[simp] theorem canonical_tryCommit {s : State} (h : Canonical (memories s)) :
    Canonical (memories (tryCommit s)) := by simp [tryCommit, h]

@[simp] theorem canonical_commitArrives (m : CommitMsg) {s : State} (h : Canonical (memories s)) :
    Canonical (memories (commitArrives m s)) := by
  simp only [commitArrives]
  split
  · exact h
  · refine canonical_receive _ _ (fun s hs => ?_) h
    repeat' split
    · simpa using hs
    · exact hs
    · exact canonical_tryCommit (by simpa using hs)

@[simp] theorem canonical_commitTimeout {s : State} (h : Canonical (memories s)) :
    Canonical (memories (commitTimeout s)) := by
  simp only [commitTimeout]
  repeat' split
  all_goals simp [h]

@[simp] theorem canonical_goReceived (m : GoMsg) {s : State} (h : Canonical (memories s)) :
    Canonical (memories (goReceived m s)) := by
  simp only [goReceived]
  split
  · exact h
  · refine canonical_receive _ _ (fun s hs => ?_) h
    split
    · simpa using hs
    · exact canonical_goArrives m hs

@[simp] theorem canonical_bar2Writes (ws : List (Word × Bytes)) {s : State} (h : Canonical (memories s)) :
    Canonical (memories (bar2Writes ws s)) := by
  refine canonical_foldl (fun s w hs => ?_) ws h
  split
  · exact canonical_setBar2 _ _ hs
  · simpa using hs

/-! ## Power and start-up -/

@[simp] theorem canonical_unpowered (s : State) : Canonical (memories (unpowered s)) :=
  (canonical_iff_wf _).mpr (wf_unpowered s)

@[simp] theorem canonical_powerLoss (hold lockout : Bool) (s : State) :
    Canonical (memories (powerLoss hold lockout s)) := by simp [powerLoss]

@[simp] theorem canonical_powerUp (o : StartupObs) {s : State} (h : Canonical (memories s)) :
    Canonical (memories (powerUp o s)) := by simp [powerUp, h]

@[simp] theorem canonical_bootResets (v : Word) (o : StartupObs) {s : State} (h : Canonical (memories s)) :
    Canonical (memories (bootResets v o s)) := by simp [bootResets, h]

@[simp] theorem canonical_bootCmd (v : Word) (o : StartupObs) {s : State} (h : Canonical (memories s)) :
    Canonical (memories (bootCmd v o s)) := by simp [bootCmd, h]

/-! ## The breath boundary -/

@[simp] theorem canonical_boundaryAt (b : Nat) {s : State} (h : Canonical (memories s)) :
    Canonical (memories (boundaryAt b s)) := by simp [boundaryAt, h]

/-! ## RoCE -/

@[simp] theorem canonical_workError (q cause : Nat) (w : Work) {s : State} (h : Canonical (memories s)) :
    Canonical (memories (workError q cause w s)) := by
  simp only [workError]
  split <;> simp [h]

@[simp] theorem canonical_qpFlush (q cause : Nat) {s : State} (h : Canonical (memories s)) :
    Canonical (memories (qpFlush q cause s)) := by
  rw [qpFlush, memories_jobsError]
  exact canonical_foldl (fun _ w hs => canonical_workError _ _ w hs) _ (by simpa using h)

@[simp] theorem canonical_qpError (q cause : Nat) {s : State} (h : Canonical (memories s)) :
    Canonical (memories (qpError q cause s)) := by simp [qpError, h]

@[simp] theorem canonical_qpModify (q st : Nat) {s : State} (h : Canonical (memories s)) :
    Canonical (memories (qpModify q st s)) := by simp [qpModify, h]

@[simp] theorem canonical_ctxCommand (v : Word) {s : State} (h : Canonical (memories s)) :
    Canonical (memories (ctxCommand v s)) := by simp [ctxCommand, h]

@[simp] theorem canonical_workDone (w : Work) {s : State} (h : Canonical (memories s)) :
    Canonical (memories (workDone w s)) := by
  simp only [workDone]
  repeat' split
  all_goals simp [h]

@[simp] theorem canonical_acked (q n : Nat) {s : State} (h : Canonical (memories s)) :
    Canonical (memories (acked q n s)) := by
  induction n generalizing s with
  | zero => exact h
  | succ n ih =>
    simp only [acked]
    split
    · exact h
    · split
      · exact h
      · exact ih (canonical_workDone _ (by simpa using h))

@[simp] theorem canonical_readBack (q : Nat) (data : Bytes) {s : State} (h : Canonical (memories s)) :
    Canonical (memories (readBack q data s)) := by
  simp only [readBack]
  split <;> simp [h]

@[simp] theorem canonical_qpRetransmit (q : Nat) {s : State} (h : Canonical (memories s)) :
    Canonical (memories (qpRetransmit q s)) := by simp [qpRetransmit, h]

@[simp] theorem canonical_ackIn (q : Nat) (a : RoceAck) {s : State} (h : Canonical (memories s)) :
    Canonical (memories (ackIn q a s)) := by
  simp only [ackIn]
  repeat' split
  all_goals simp [h]

/-! ## Ethernet ports -/

@[simp] theorem canonical_roceArrives (p : Nat) (qpn : BitVec 24) (ce : Bool) (a : RoceAck) (prio fill : Nat)
    {s : State}
    (h : Canonical (memories s)) :
    Canonical (memories (roceArrives p qpn ce a prio fill s)) := by simp [roceArrives, h]

@[simp] theorem canonical_frameIn (p bytes : Nat) (f : EthFrame) {s : State} (h : Canonical (memories s)) :
    Canonical (memories (frameIn p bytes f s)) := by
  simp only [frameIn]
  split <;> simp [h]

/-! ## The event log -/

@[simp] theorem canonical_writeRecord (b : Bytes) {s : State} (h : Canonical (memories s)) :
    Canonical (memories (writeRecord b s)) := by simp [writeRecord, h]

@[simp] theorem canonical_writeLost {s : State} (h : Canonical (memories s)) :
    Canonical (memories (writeLost s).2) := by
  -- The equation lemma of `writeLost` is too deep for the kernel, so the definition is opened as a function.
  have hdef : writeLost = writeLost := rfl
  conv_rhs at hdef => delta writeLost
  have happ := congrFun hdef s
  beta_reduce at happ
  have hroom : Canonical (memories (makeRoom s).2) := by simpa using h
  rw [happ]
  split
  next ok u heq =>
  have hu : Canonical (memories u) := canonical_of_eq hroom heq
  split
  · exact hu
  · refine canonical_writeRecord _ ?_
    rwa [memories_signalEvent, memories_update]

@[simp] theorem canonical_logWrite {s : State} (h : Canonical (memories s)) : Canonical (memories (logWrite s)) := by
  have hdef : logWrite = logWrite := rfl
  conv_rhs at hdef => delta logWrite
  have happ := congrFun hdef s
  beta_reduce at happ
  rw [happ]
  split
  next kept u heq =>
  have hu : Canonical (memories u) := by
    refine canonical_of_eq ?_ heq
    split
    · exact h
    · exact canonical_writeLost h
  split
  · exact hu
  · split
    next ok v heq =>
    have hv : Canonical (memories v) := canonical_of_eq (by simpa using hu) heq
    split
    · refine canonical_writeRecord _ ?_
      rwa [memories_update]
    · exact hv

/-! ## Register accesses -/

theorem canonical_globalWrite (off : Nat) (v : Word) {s : State} (h : Canonical (memories s)) {t : State}
    (ht : globalWrite off v s = some t) : Canonical (memories t) := by
  revert ht
  simp only [globalWrite]
  repeat' split
  all_goals rintro ⟨⟩
  all_goals simp [h]

theorem canonical_refreshWrite (d off : Nat) (v : Word) {s : State} (h : Canonical (memories s)) {t : State}
    (ht : refreshWrite d off v s = some t) : Canonical (memories t) := by
  revert ht
  simp only [refreshWrite]
  repeat' split
  all_goals rintro ⟨⟩
  all_goals simp [h]

theorem canonical_ownWrite (b : Blk) (i off : Nat) (v : Word) {s : State} (h : Canonical (memories s)) {t : State}
    (ht : ownWrite b i off v s = some t) : Canonical (memories t) := by
  have hif : ∀ (p : Prop) [Decidable p] (u : State), Canonical (memories u) → (if p then some u else none) = some t →
      Canonical (memories t) := by
    intro p _ u hu ht
    obtain ⟨-, hsome⟩ := Option.ite_none_right_eq_some.mp ht
    exact Option.some.inj hsome ▸ hu
  cases b with
  | global => exact canonical_globalWrite _ _ h ht
  | seq => exact hif _ _ (canonical_seqControlWrite _ h) ht
  | hawk => exact memories_hawkWrite _ _ _ ht ▸ h
  | atlas => exact hif _ _ (by simpa using h) ht
  | breath => exact hif _ _ (by simpa using h) ht
  | therm => exact memories_thermWrite _ _ _ ht ▸ h
  | drone => exact memories_droneWrite _ _ _ ht ▸ h
  | evtlog => exact memories_evtlogWrite _ _ _ ht ▸ h
  | nvrec => exact memories_nvrecWrite _ _ _ ht ▸ h
  | secure => exact memories_secureWrite _ _ _ ht ▸ h
  | pcie => exact memories_pcieWrite _ _ _ ht ▸ h
  | tunnel => exact hif _ _ h ht
  | hkcLuna => exact hif _ _ (by simpa using h) ht
  | hkcHub => exact hif _ _ (by simpa using h) ht
  | core => exact hif _ _ (by simpa using h) ht
  | map => cases ht
  | piccolo => exact memories_piccoloWrite _ _ _ _ ht ▸ h
  | refresh => exact canonical_refreshWrite _ _ _ h ht
  | colcal => exact hif _ _ (by simpa using h) ht
  | tensor => cases ht
  | spad => exact memories_spadPageWrite _ _ _ _ ht ▸ h
  | windows => exact memories_winWrite _ _ _ _ ht ▸ h
  | hubspad =>
    simp only [ownWrite] at ht
    split at ht
    · exact memories_winWrite _ _ _ _ ht ▸ h
    · exact memories_spadPageWrite _ _ _ _ ht ▸ h
  | hbm => exact memories_hbmWriteReg _ _ _ _ ht ▸ h
  | shawm => exact memories_shawmWrite _ _ _ _ ht ▸ h
  | eth => exact hif _ _ (by simpa using h) ht
  | roce =>
    simp only [ownWrite] at ht
    split at ht
    · obtain rfl := Option.some.inj ht
      simpa using h
    · exact hif _ _ (canonical_ctxCommand _ h) ht
  | shippark => cases ht

@[simp] theorem canonical_regWrite (b : Blk) (i a : Nat) (v : Word) {s : State} (h : Canonical (memories s)) :
    Canonical (memories (regWrite b i a v s)) := by
  simp only [regWrite]
  split
  · exact h
  · split
    · simpa using h
    · split
      · simpa using h
      · cases hown : ownWrite b i (a % 0x1000) v s with
        | none => simpa using h
        | some t => exact canonical_ownWrite _ _ _ _ h hown

@[simp] theorem canonical_localWrite (a : Nat) (v : Word) {s : State} (h : Canonical (memories s)) :
    Canonical (memories (localWrite a v s)) := by
  simp only [localWrite]
  repeat' split
  all_goals simp [h]

/-! ## Broadcast records -/

@[simp] theorem canonical_storeBody (p : Place) (body : Bytes) {s : State} (h : Canonical (memories s)) :
    Canonical (memories (storeBody p body s)) := by
  simp only [storeBody]
  split <;> simp [h]

@[simp] theorem canonical_recordFails (cause : Nat) (r : BcastRecord) {s : State} (h : Canonical (memories s)) :
    Canonical (memories (recordFails cause r s)) := by
  simp only [recordFails]
  split <;> simp [h]

@[simp] theorem canonical_manifest (r : BcastRecord) {s : State} (h : Canonical (memories s)) :
    Canonical (memories (manifest r s)) := by simp [manifest, h]

@[simp] theorem canonical_applyEntry (e : ConfigEntry) {s : State} (h : Canonical (memories s)) :
    Canonical (memories (applyEntry e s)) := by
  simp only [applyEntry]
  repeat' split
  all_goals simp [h]

@[simp] theorem canonical_applyEntries (es : List ConfigEntry) {s : State} (h : Canonical (memories s)) :
    Canonical (memories (applyEntries es s)) :=
  canonical_foldl (fun _ e hs => canonical_applyEntry e hs) es h

@[simp] theorem canonical_streamEnds {s : State} (h : Canonical (memories s)) :
    Canonical (memories (streamEnds s)) := by
  simp only [streamEnds]
  repeat' split
  all_goals simp [h]

@[simp] theorem canonical_recordPasses (mine : Bool) (r : BcastRecord) {s : State} (h : Canonical (memories s)) :
    Canonical (memories (recordPasses mine r s)) := by
  unfold recordPasses
  extract_lets kept shown
  have hkept : Canonical (memories kept) := by
    simp only [kept]
    split
    · next p hp =>
      have hstored := canonical_storeBody p r.body h
      repeat' split
      all_goals simpa only [memories_updStream, memories_setFld, memories_update] using hstored
    · exact h
  have hshown : Canonical (memories shown) := by simpa [shown] using hkept
  split
  · exact canonical_streamEnds hshown
  · exact hshown

@[simp] theorem canonical_laterRecord (mine : Bool) (r : BcastRecord) {s : State} (h : Canonical (memories s)) :
    Canonical (memories (laterRecord mine r s)) := by
  simp only [laterRecord]
  repeat' split
  all_goals simp [h]

@[simp] theorem canonical_bcastRecord (r : BcastRecord) {s : State} (h : Canonical (memories s)) :
    Canonical (memories (bcastRecord r s)) := by
  simp only [bcastRecord]
  repeat' split
  all_goals simp [h]

/-! ## Host accesses and tunnels -/

@[simp] theorem canonical_tunnelWrite (w o : Nat) (v : Word) {s : State} (h : Canonical (memories s)) :
    Canonical (memories (tunnelWrite w o v s)) := by simp [tunnelWrite, h]

@[simp] theorem canonical_hostWrite (a : Nat) (v : Word) {s : State} (h : Canonical (memories s)) :
    Canonical (memories (hostWrite a v s)) := by simp [hostWrite, h]

end Sys2Proof.Machine

/-! The canonical form of the memories under every command, and at reset. -/

namespace Sys2Proof.Machine

open Sys2Proof.Map

/-- A command leaves the memories canonical: where it answers a next state, that state's are. -/
def NextCanonical : Result → Prop
  | .next t => Canonical (memories t)
  | _ => True

theorem nextCanonical_always (dt : Nat) {f : State → State} {s : State} (h : Canonical (memories s))
    (hf : ∀ u, Canonical (memories u) → Canonical (memories (f u))) : NextCanonical (always dt f s) := by
  simpa [NextCanonical, always] using hf (advance dt s) (by simpa using h)

theorem nextCanonical_actPowered (dt : Nat) {f : State → State} {s : State} (h : Canonical (memories s))
    (hf : ∀ u, Canonical (memories u) → Canonical (memories (f u))) : NextCanonical (actPowered dt f s) := by
  have hadvance : Canonical (memories (advance dt s)) := by simpa using h
  simp only [NextCanonical, actPowered, memories_update]
  split
  · exact hf _ hadvance
  · exact hadvance

theorem nextCanonical_act (dt : Nat) {f : State → State} {s : State} (h : Canonical (memories s))
    (hf : ∀ u, Canonical (memories u) → Canonical (memories (f u))) : NextCanonical (act dt f s) :=
  nextCanonical_actPowered dt h fun u hu => by simp [hu, hf]

theorem nextCanonical_actHost (dt page : Nat) {f : State → State} {s : State} (h : Canonical (memories s))
    (hf : ∀ u, Canonical (memories u) → Canonical (memories (f u))) : NextCanonical (actHost dt page f s) :=
  nextCanonical_actPowered dt h fun u hu => by simp [hu, hf]

/-! ## What runs a command's effect: sub-slots, table rows, ports, tunnel frames -/

theorem canonical_withSub (die sub op : Nat) {f : SubCtx → State → State}
    (hf : ∀ c u, Canonical (memories u) → Canonical (memories (f c u))) {s : State} (h : Canonical (memories s)) :
    Canonical (memories (withSub die sub op f s)) := by
  simp only [withSub]
  repeat' split
  all_goals simp [h, hf]

theorem canonical_tensorIssue (op : Nat) {f : SubCtx → TDesc → State → State}
    (hf : ∀ c d u, Canonical (memories u) → Canonical (memories (f c d u))) (c : SubCtx) {s : State}
    (h : Canonical (memories s)) : Canonical (memories (tensorIssue op f c s)) := by
  simp only [tensorIssue]
  repeat' split
  all_goals simp [h, hf]

theorem canonical_overPort (q : Nat) {f : State → State}
    (hf : ∀ u, Canonical (memories u) → Canonical (memories (f u))) {s : State} (h : Canonical (memories s)) :
    Canonical (memories (overPort q f s)) := by
  simp [overPort, h, hf]

theorem canonical_tunnelFrame (f : TunnelFrame) (op : Nat) {here : State → State}
    (hf : ∀ u, Canonical (memories u) → Canonical (memories (here u))) {s : State} (h : Canonical (memories s)) :
    Canonical (memories (tunnelFrame f op here s)) := by
  simp [tunnelFrame, h, hf]

/-! ## The commands -/

@[simp] theorem nextCanonical_execHkcScanStart (dt : Nat) {s : State} (h : Canonical (memories s)) :
    NextCanonical (execHkcScanStart dt s) :=
  nextCanonical_act dt h fun u hu => by simp [hu]

@[simp] theorem nextCanonical_execHkcScanEnd (dt : Nat) (scans : List ScanObs)
    {s : State} (h : Canonical (memories s)) :
    NextCanonical (execHkcScanEnd dt scans s) := by
  simp only [execHkcScanEnd]
  split
  · exact nextCanonical_act dt h fun u hu => by simp [hu]
  · trivial

@[simp] theorem nextCanonical_execAtlasSampleMissing (dt : Nat) (die : Die) {s : State} (h : Canonical (memories s)) :
    NextCanonical (execAtlasSampleMissing dt die s) :=
  nextCanonical_act dt h fun u hu => by simp [hu]

@[simp] theorem nextCanonical_execHkcCal (dt : Nat) (die : Die) {s : State} (h : Canonical (memories s)) :
    NextCanonical (execHkcCal dt die s) :=
  nextCanonical_actHost dt _ h fun u hu => by simp [hu]

@[simp] theorem nextCanonical_execHkcConvert (dt : Nat) (die : Die) (ch : BitVec 5)
    {s : State} (h : Canonical (memories s)) :
    NextCanonical (execHkcConvert dt die ch s) :=
  nextCanonical_actHost dt _ h fun u hu => by simp [hu]

@[simp] theorem nextCanonical_execHkcConvertEnd (dt : Nat) (die : Die) (raw : BitVec 12)
    {s : State} (h : Canonical (memories s)) :
    NextCanonical (execHkcConvertEnd dt die raw s) :=
  nextCanonical_act dt h fun u hu => by split <;> simp [hu]

@[simp] theorem nextCanonical_execHkcCalEnd (dt : Nat) (die : Die) (means : HkcMeans)
    {s : State} (h : Canonical (memories s)) :
    NextCanonical (execHkcCalEnd dt die means s) :=
  nextCanonical_act dt h fun u hu => by simp [hu]

@[simp] theorem nextCanonical_execThermtripAssert (dt : Nat) {s : State} (h : Canonical (memories s)) :
    NextCanonical (execThermtripAssert dt s) :=
  nextCanonical_actPowered dt h fun u hu => by simp [hu]

@[simp] theorem nextCanonical_execClockFault (dt : Nat) (kind : ClockFault) {s : State} (h : Canonical (memories s)) :
    NextCanonical (execClockFault dt kind s) :=
  nextCanonical_act dt h fun u hu => by simp [hu]

@[simp] theorem nextCanonical_execThermDiodeRead (dt : Nat) (mask : BitVec 20)
    {s : State} (h : Canonical (memories s)) :
    NextCanonical (execThermDiodeRead dt mask s) :=
  nextCanonical_actHost dt _ h fun u hu => by simp [hu]

@[simp] theorem nextCanonical_execDiodeReadEnd (dt : Nat) (die : Die) (reading : DiodeObs)
    {s : State} (h : Canonical (memories s)) :
    NextCanonical (execDiodeReadEnd dt die reading s) :=
  nextCanonical_act dt h fun u hu => by simp [hu]

@[simp] theorem nextCanonical_execThermSeed (dt : Nat) (readings : List DiodeObs)
    {s : State} (h : Canonical (memories s)) :
    NextCanonical (execThermSeed dt readings s) := by
  simp only [execThermSeed]
  split
  · exact nextCanonical_actHost dt _ h fun u hu => by simp [hu]
  · trivial

@[simp] theorem nextCanonical_execBreathTicks (dt : Nat) (ticks : Word) {s : State} (h : Canonical (memories s)) :
    NextCanonical (execBreathTicks dt ticks s) :=
  nextCanonical_actHost dt _ h fun u hu => by simp [hu]

@[simp] theorem nextCanonical_execD2dFlitReplay (dt : Nat) (link : Fin 20) {s : State} (h : Canonical (memories s)) :
    NextCanonical (execD2dFlitReplay dt link s) :=
  nextCanonical_act dt h fun u hu => by simp [hu]

@[simp] theorem nextCanonical_execD2dLinkDown (dt : Nat) (link : Fin 20) (seq : BitVec 24)
    {s : State} (h : Canonical (memories s)) :
    NextCanonical (execD2dLinkDown dt link seq s) :=
  nextCanonical_act dt h fun u hu => by simp [hu]

@[simp] theorem nextCanonical_execD2dTrainingEnd (dt : Nat) (link : Fin 20) (failed : List Lane)
    {s : State} (h : Canonical (memories s)) :
    NextCanonical (execD2dTrainingEnd dt link failed s) :=
  nextCanonical_act dt h fun u hu => by simp [hu]

@[simp] theorem nextCanonical_execD2dRepair (dt : Nat) (value : Word) {s : State} (h : Canonical (memories s)) :
    NextCanonical (execD2dRepair dt value s) :=
  nextCanonical_actHost dt _ h fun u hu => by simp [hu]

@[simp] theorem nextCanonical_execMatmul (dt : Nat) (die : Luna) (obs : AccObs)
    {s : State} (h : Canonical (memories s)) :
    NextCanonical (execMatmul dt die obs s) :=
  nextCanonical_act dt h fun u hu => by simp [hu]

@[simp] theorem nextCanonical_execClear (dt : Nat) (die : Luna) {s : State} (h : Canonical (memories s)) :
    NextCanonical (execClear dt die s) :=
  nextCanonical_act dt h fun u hu => by simp [hu]

@[simp] theorem nextCanonical_execPreload (dt : Nat) (die : Luna) (obs : AccObs)
    {s : State} (h : Canonical (memories s)) :
    NextCanonical (execPreload dt die obs s) :=
  nextCanonical_act dt h fun u hu => by simp [hu]

@[simp] theorem nextCanonical_execAdd (dt : Nat) (die : Luna) (obs : AccObs)
    {s : State} (h : Canonical (memories s)) :
    NextCanonical (execAdd dt die obs s) :=
  nextCanonical_act dt h fun u hu => by simp [hu]

@[simp] theorem nextCanonical_execRead (dt : Nat) (die : Luna) (obs : AccObs)
    {s : State} (h : Canonical (memories s)) :
    NextCanonical (execRead dt die obs s) :=
  nextCanonical_act dt h fun u hu => by simp [hu]

@[simp] theorem nextCanonical_execReadClear (dt : Nat) (die : Luna) (obs : AccObs)
    {s : State} (h : Canonical (memories s)) :
    NextCanonical (execReadClear dt die obs s) :=
  nextCanonical_act dt h fun u hu => by simp [hu]

@[simp] theorem nextCanonical_execSave (dt : Nat) (die : Luna) (obs : AccObs)
    {s : State} (h : Canonical (memories s)) :
    NextCanonical (execSave dt die obs s) :=
  nextCanonical_act dt h fun u hu => by simp [hu]

@[simp] theorem nextCanonical_execRestore (dt : Nat) (die : Luna) (obs : AccObs)
    {s : State} (h : Canonical (memories s)) :
    NextCanonical (execRestore dt die obs s) :=
  nextCanonical_act dt h fun u hu => by simp [hu]

@[simp] theorem nextCanonical_execExtInit (dt : Nat) (die : Luna) {s : State} (h : Canonical (memories s)) :
    NextCanonical (execExtInit dt die s) :=
  nextCanonical_act dt h fun u hu => by simp [hu]

@[simp] theorem nextCanonical_execExtChunk (dt : Nat) (die : Luna) (obs : AccObs)
    {s : State} (h : Canonical (memories s)) :
    NextCanonical (execExtChunk dt die obs s) :=
  nextCanonical_act dt h fun u hu => by simp [hu]

@[simp] theorem nextCanonical_execQuant (dt : Nat) (die : Luna) (obs : AccObs)
    {s : State} (h : Canonical (memories s)) :
    NextCanonical (execQuant dt die obs s) :=
  nextCanonical_act dt h fun u hu => by simp [hu]

@[simp] theorem nextCanonical_execVector (dt : Nat) (die : Luna) (obs : AccObs)
    {s : State} (h : Canonical (memories s)) :
    NextCanonical (execVector dt die obs s) :=
  nextCanonical_act dt h fun u hu => by simp [hu]

@[simp] theorem nextCanonical_execFlagClear (dt : Nat) (die : Luna) {s : State} (h : Canonical (memories s)) :
    NextCanonical (execFlagClear dt die s) :=
  nextCanonical_act dt h fun u hu => by simp [hu]

@[simp] theorem nextCanonical_execMark (dt : Nat) (die : Luna) {s : State} (h : Canonical (memories s)) :
    NextCanonical (execMark dt die s) :=
  nextCanonical_act dt h fun u hu => by simp [hu]

@[simp] theorem nextCanonical_execRingPublish (dt : Nat) (die : Die) {s : State} (h : Canonical (memories s)) :
    NextCanonical (execRingPublish dt die s) :=
  nextCanonical_act dt h fun u hu => by split <;> simp [hu]

@[simp] theorem nextCanonical_execRingRelease (dt : Nat) (die : Die) {s : State} (h : Canonical (memories s)) :
    NextCanonical (execRingRelease dt die s) :=
  nextCanonical_act dt h fun u hu => by split <;> simp [hu]

@[simp] theorem nextCanonical_execWindowOpen (dt : Nat) (die : Die) (entryBad : List (Fin 4)) {s : State}
    (h : Canonical (memories s)) :
    NextCanonical (execWindowOpen dt die entryBad s) :=
  nextCanonical_act dt h fun u hu => by split <;> simp [hu]

@[simp] theorem nextCanonical_execWindowClose (dt : Nat) (die : Die) {s : State} (h : Canonical (memories s)) :
    NextCanonical (execWindowClose dt die s) :=
  nextCanonical_act dt h fun u hu => by split <;> simp [hu]

@[simp] theorem nextCanonical_execPrefixAgeTick (dt : Nat) {s : State} (h : Canonical (memories s)) :
    NextCanonical (execPrefixAgeTick dt s) :=
  nextCanonical_act dt h fun u hu => by simp [hu]

@[simp] theorem nextCanonical_execXferIssue (dt : Nat) (die : Die) {s : State} (h : Canonical (memories s)) :
    NextCanonical (execXferIssue dt die s) :=
  nextCanonical_act dt h fun u hu => by split <;> simp [hu]

@[simp] theorem nextCanonical_execXferComplete (dt : Nat) (die : Die) (thread : BitVec 10)
    {s : State} (h : Canonical (memories s)) :
    NextCanonical (execXferComplete dt die thread s) :=
  nextCanonical_act dt h fun u hu => by split <;> simp [hu]

@[simp] theorem nextCanonical_execAdapterLoad (dt : Nat) (index : BitVec 12)
    {s : State} (h : Canonical (memories s)) :
    NextCanonical (execAdapterLoad dt index s) :=
  nextCanonical_actHost dt _ h fun u hu => by simp [hu]

@[simp] theorem nextCanonical_execAdapterUnload (dt : Nat) (index : BitVec 12)
    {s : State} (h : Canonical (memories s)) :
    NextCanonical (execAdapterUnload dt index s) :=
  nextCanonical_actHost dt _ h fun u hu => by simp [hu]

@[simp] theorem nextCanonical_execTrainJobEnd (dt : Nat) {s : State} (h : Canonical (memories s)) :
    NextCanonical (execTrainJobEnd dt s) :=
  nextCanonical_act dt h fun u hu => by simp [hu]

@[simp] theorem nextCanonical_execArrayGroupFwd (dt : Nat) (die : Luna) {s : State} (h : Canonical (memories s)) :
    NextCanonical (execArrayGroupFwd dt die s) :=
  nextCanonical_act dt h fun u hu => by simp [hu]

@[simp] theorem nextCanonical_execArrayGroupTrn (dt : Nat) (die : Luna) {s : State} (h : Canonical (memories s)) :
    NextCanonical (execArrayGroupTrn dt die s) :=
  nextCanonical_act dt h fun u hu => by simp [hu]

@[simp] theorem nextCanonical_execArrayPassStart (dt : Nat) (die : Luna) (obs : AccObs)
    {s : State} (h : Canonical (memories s)) :
    NextCanonical (execArrayPassStart dt die obs s) :=
  nextCanonical_act dt h fun u hu => by simp [hu]

@[simp] theorem nextCanonical_execPiccoloDeliver (dt : Nat) (die : Luna) (obs : ReadObs)
    {s : State} (h : Canonical (memories s)) :
    NextCanonical (execPiccoloDeliver dt die obs s) :=
  nextCanonical_act dt h fun u hu => by simp [hu]

@[simp] theorem nextCanonical_execTrackerStale (dt : Nat) (die : Luna) (phys : BitVec 13)
    {s : State} (h : Canonical (memories s)) :
    NextCanonical (execTrackerStale dt die phys s) :=
  nextCanonical_act dt h fun u hu => by simp [hu]

@[simp] theorem nextCanonical_execShadowCheck (dt : Nat) (die : Luna) (obs : XferObs) (sram : Bool) {s : State}
    (h : Canonical (memories s)) : NextCanonical (execShadowCheck dt die obs sram s) :=
  nextCanonical_act dt h fun _ hu => canonical_withSub _ _ _ (fun _ _ hissue =>
    canonical_tensorIssue _ (fun _ _ _ hshadow => canonical_shadowIssue _ _ _ _ hshadow) _ hissue) hu

@[simp] theorem nextCanonical_execSegq (dt : Nat) (die : Luna) (obs : AccObs)
    {s : State} (h : Canonical (memories s)) :
    NextCanonical (execSegq dt die obs s) :=
  nextCanonical_act dt h fun u hu => by simp [hu]

@[simp] theorem nextCanonical_execPiccoloSnapSel (dt : Nat) (die : Luna) (value : Word)
    {s : State} (h : Canonical (memories s)) :
    NextCanonical (execPiccoloSnapSel dt die value s) :=
  nextCanonical_actHost dt _ h fun u hu => by simp [hu]

@[simp] theorem nextCanonical_execPendingSwapExpire (dt : Nat) (die : Luna) (logical : BitVec 12)
    {s : State} (h : Canonical (memories s)) :
    NextCanonical (execPendingSwapExpire dt die logical s) :=
  nextCanonical_act dt h fun u hu => by split <;> simp [hu]

@[simp] theorem nextCanonical_execProgramComplete (dt : Nat) (die : Luna) (channel : Fin 16) (obs : ProgObs)
    {s : State} (h : Canonical (memories s)) :
    NextCanonical (execProgramComplete dt die channel obs s) :=
  nextCanonical_act dt h fun u hu => by simp [hu]

@[simp] theorem nextCanonical_execProgTimeout (dt : Nat) (die : Luna) (channel : Fin 16)
    {s : State} (h : Canonical (memories s)) :
    NextCanonical (execProgTimeout dt die channel s) :=
  nextCanonical_act dt h fun u hu => by simp [hu]

@[simp] theorem nextCanonical_execBgPassRerun (dt : Nat) (die : Luna) (channel : Fin 16)
    {s : State} (h : Canonical (memories s)) :
    NextCanonical (execBgPassRerun dt die channel s) :=
  nextCanonical_act dt h fun u hu => by simp [hu]

@[simp] theorem nextCanonical_execAuditComplete (dt : Nat) (die : Luna) (phys : BitVec 13) (obs : AuditObs)
    {s : State} (h : Canonical (memories s)) :
    NextCanonical (execAuditComplete dt die phys obs s) :=
  nextCanonical_act dt h fun u hu => by simp [hu]

@[simp] theorem nextCanonical_execInstallComplete (dt : Nat) (die : Luna) {s : State} (h : Canonical (memories s)) :
    NextCanonical (execInstallComplete dt die s) :=
  nextCanonical_act dt h fun u hu => by simp [hu]

@[simp] theorem nextCanonical_execInstall (dt : Nat) (die : Luna) (repair : Bool)
    {s : State} (h : Canonical (memories s)) :
    NextCanonical (execInstall dt die repair s) :=
  nextCanonical_actHost dt _ h fun u hu => by simp [hu]

@[simp] theorem nextCanonical_execReplace (dt : Nat) (die : Luna) (logical : BitVec 12) (phys : BitVec 13)
    (retireOld repair : Bool)
    {s : State} (h : Canonical (memories s)) :
    NextCanonical (execReplace dt die logical phys retireOld repair s) :=
  nextCanonical_actHost dt _ h fun u hu => by simp [hu]

@[simp] theorem nextCanonical_execApply (dt : Nat) (die : Luna) {s : State} (h : Canonical (memories s)) :
    NextCanonical (execApply dt die s) :=
  nextCanonical_actHost dt _ h fun u hu => by simp [hu]

@[simp] theorem nextCanonical_execRefreshCancel (dt : Nat) (die : Luna) {s : State} (h : Canonical (memories s)) :
    NextCanonical (execRefreshCancel dt die s) :=
  nextCanonical_actHost dt _ h fun u hu => by simp [hu]

@[simp] theorem nextCanonical_execRetire (dt : Nat) (die : Luna) (phys : BitVec 13)
    {s : State} (h : Canonical (memories s)) :
    NextCanonical (execRetire dt die phys s) :=
  nextCanonical_actHost dt _ h fun u hu => by simp [hu]

@[simp] theorem nextCanonical_execRefreshOffHours (dt : Nat) (die : Luna) (hours : Word)
    {s : State} (h : Canonical (memories s)) :
    NextCanonical (execRefreshOffHours dt die hours s) :=
  nextCanonical_actHost dt _ h fun u hu => by simp [hu]

@[simp] theorem nextCanonical_execColcalGo (dt : Nat) (die : Luna) (all : Bool)
    {s : State} (h : Canonical (memories s)) :
    NextCanonical (execColcalGo dt die all s) :=
  nextCanonical_actHost dt _ h fun u hu => by simp [hu]

@[simp] theorem nextCanonical_execColcalEnd (dt : Nat) (die : Luna) (found : List ColcalObs)
    {s : State} (h : Canonical (memories s)) :
    NextCanonical (execColcalEnd dt die found s) :=
  nextCanonical_act dt h fun u hu => by simp [hu]

@[simp] theorem nextCanonical_execHello (dt : Nat) (port : Port) (msg : Hello)
    {s : State} (h : Canonical (memories s)) :
    NextCanonical (execHello dt port msg s) :=
  nextCanonical_act dt h fun u hu => by simp [hu]

@[simp] theorem nextCanonical_execShawmMachineWrite (dt : Nat) (value : Word)
    {s : State} (h : Canonical (memories s)) :
    NextCanonical (execShawmMachineWrite dt value s) :=
  nextCanonical_actHost dt _ h fun u hu => by simp [hu]

@[simp] theorem nextCanonical_execShawmTrainingEnd (dt : Nat) (port : Port) (obs : PortObs)
    {s : State} (h : Canonical (memories s)) :
    NextCanonical (execShawmTrainingEnd dt port obs s) :=
  nextCanonical_act dt h fun u hu => by simp [hu]

@[simp] theorem nextCanonical_execShawmRetrain (dt : Nat) (port : Port) (tx rx : BitVec 4)
    {s : State} (h : Canonical (memories s)) :
    NextCanonical (execShawmRetrain dt port tx rx s) :=
  nextCanonical_actHost dt _ h fun u hu => by simp [hu]

@[simp] theorem nextCanonical_execShawmFrameInvalid (dt : Nat) (frame : AnyFrame)
    {s : State} (h : Canonical (memories s)) :
    NextCanonical (execShawmFrameInvalid dt frame s) :=
  nextCanonical_act dt h fun u hu => by simp [hu]

@[simp] theorem nextCanonical_execFrameCrcError (dt : Nat) (port : Port) (crcBad : Bool) (seq : BitVec 20)
    {s : State} (h : Canonical (memories s)) :
    NextCanonical (execFrameCrcError dt port crcBad seq s) :=
  nextCanonical_act dt h fun u hu => by simp [hu]

@[simp] theorem nextCanonical_execShawmAckTimer (dt : Nat) (port : Port) {s : State} (h : Canonical (memories s)) :
    NextCanonical (execShawmAckTimer dt port s) :=
  nextCanonical_act dt h fun u hu => by simp [hu]

@[simp] theorem nextCanonical_execAck (dt : Nat) (port : Port) (seq : BitVec 20)
    {s : State} (h : Canonical (memories s)) :
    NextCanonical (execAck dt port seq s) :=
  nextCanonical_act dt h fun u hu => by simp [hu]

@[simp] theorem nextCanonical_execNak (dt : Nat) (port : Port) (seq : BitVec 20)
    {s : State} (h : Canonical (memories s)) :
    NextCanonical (execNak dt port seq s) :=
  nextCanonical_act dt h fun u hu => by simp [hu]

@[simp] theorem nextCanonical_execShawmReplayTimeout (dt : Nat) (port : Port)
    {s : State} (h : Canonical (memories s)) :
    NextCanonical (execShawmReplayTimeout dt port s) :=
  nextCanonical_act dt h fun u hu => by simp [hu]

@[simp] theorem nextCanonical_execShawmLinkDown (dt : Nat) (port : Port) (cause : BitVec 2) (dir : Bool)
    (lane : BitVec 4)
    {s : State} (h : Canonical (memories s)) :
    NextCanonical (execShawmLinkDown dt port cause dir lane s) :=
  nextCanonical_act dt h fun u hu => by simp [hu]

@[simp] theorem nextCanonical_execFaultNotice (dt : Nat) (notice : FaultNotice)
    {s : State} (h : Canonical (memories s)) :
    NextCanonical (execFaultNotice dt notice s) :=
  nextCanonical_act dt h fun u hu => by simp [hu]

@[simp] theorem nextCanonical_execWindowWriteLanded (dt : Nat) (window : BitVec 12) (src : BitVec 6) (die : BitVec 5)
    (thread : BitVec 10)
    {s : State} (h : Canonical (memories s)) :
    NextCanonical (execWindowWriteLanded dt window src die thread s) :=
  nextCanonical_act dt h fun u hu => by simp [hu]

@[simp] theorem nextCanonical_execXferReply (dt : Nat) (port : Port) (die : BitVec 5) (thread : BitVec 10)
    (status : BitVec 3)
    {s : State} (h : Canonical (memories s)) :
    NextCanonical (execXferReply dt port die thread status s) :=
  nextCanonical_act dt h fun u hu => by simp [hu]

@[simp] theorem nextCanonical_execShawmReplyTimeout (dt : Nat) (die : Die) (thread : BitVec 10)
    {s : State} (h : Canonical (memories s)) :
    NextCanonical (execShawmReplyTimeout dt die thread s) :=
  nextCanonical_act dt h fun u hu => by simp [hu]

@[simp] theorem nextCanonical_execBroadcastFrame (dt : Nat) (port : Port) (src : BitVec 6) (packets : List Bytes)
    {s : State} (h : Canonical (memories s)) :
    NextCanonical (execBroadcastFrame dt port src packets s) := by
  simp only [execBroadcastFrame]
  split
  · exact nextCanonical_act dt h fun u hu => by simp [hu]
  · trivial

@[simp] theorem nextCanonical_execSync (dt : Nat) (frame : SyncFrame) {s : State} (h : Canonical (memories s)) :
    NextCanonical (execSync dt frame s) :=
  nextCanonical_act dt h fun u hu => by simp [hu]

@[simp] theorem nextCanonical_execDroneCorrection (dt : Nat) {s : State} (h : Canonical (memories s)) :
    NextCanonical (execDroneCorrection dt s) :=
  nextCanonical_act dt h fun u hu => by simp [hu]

@[simp] theorem nextCanonical_execDroneHoldover (dt : Nat) {s : State} (h : Canonical (memories s)) :
    NextCanonical (execDroneHoldover dt s) :=
  nextCanonical_act dt h fun u hu => by simp [hu]

@[simp] theorem nextCanonical_execResync (dt : Nat) {s : State} (h : Canonical (memories s)) :
    NextCanonical (execResync dt s) :=
  nextCanonical_actHost dt _ h fun u hu => by simp [hu]

@[simp] theorem nextCanonical_execEventNotice (dt : Nat) (src : BitVec 6) (code : BitVec 16) (severity : BitVec 3)
    {s : State} (h : Canonical (memories s)) :
    NextCanonical (execEventNotice dt src code severity s) :=
  nextCanonical_act dt h fun u hu => by simp [hu]

@[simp] theorem nextCanonical_execPcieRemotePendingClear (dt : Nat) (high : Bool) (value : Word)
    {s : State} (h : Canonical (memories s)) :
    NextCanonical (execPcieRemotePendingClear dt high value s) :=
  nextCanonical_actHost dt _ h fun u hu => by simp [hu]

@[simp] theorem nextCanonical_execPcieReset (dt : Nat) (kind : BitVec 2) {s : State} (h : Canonical (memories s)) :
    NextCanonical (execPcieReset dt kind s) :=
  nextCanonical_act dt h fun u hu => by simp [hu]

@[simp] theorem nextCanonical_execPcieLinkDown (dt : Nat) {s : State} (h : Canonical (memories s)) :
    NextCanonical (execPcieLinkDown dt s) :=
  nextCanonical_act dt h fun u hu => by simp [hu]

@[simp] theorem nextCanonical_execPcieLinkUp (dt : Nat) (speed : BitVec 4) (width : BitVec 3) (flit : Bool)
    {s : State} (h : Canonical (memories s)) :
    NextCanonical (execPcieLinkUp dt speed width flit s) :=
  nextCanonical_act dt h fun u hu => by simp [hu]

@[simp] theorem nextCanonical_execPcieConfigWrite (dt : Nat) (busMaster d3hot : Bool)
    {s : State} (h : Canonical (memories s)) :
    NextCanonical (execPcieConfigWrite dt busMaster d3hot s) :=
  nextCanonical_act dt h fun u hu => by simp [hu]

@[simp] theorem nextCanonical_execAerError (dt : Nat) (uncorrectable : Bool) (status : Word)
    {s : State} (h : Canonical (memories s)) :
    NextCanonical (execAerError dt uncorrectable status s) :=
  nextCanonical_act dt h fun u hu => by simp [hu]

@[simp] theorem nextCanonical_execPcieDataPoison (dt : Nat) (offset : Word) {s : State} (h : Canonical (memories s)) :
    NextCanonical (execPcieDataPoison dt offset s) :=
  nextCanonical_act dt h fun u hu => by simp [hu]

@[simp] theorem nextCanonical_execBar2AccessInvalid (dt : Nat) (bar : BitVec 2) (offset : Word) (bytes : BitVec 7)
    (write : Bool)
    {s : State} (h : Canonical (memories s)) :
    NextCanonical (execBar2AccessInvalid dt bar offset bytes write s) :=
  nextCanonical_act dt h fun u hu => by simp [hu]

@[simp] theorem nextCanonical_execSpadSelfTestEnd (dt : Nat) (die : Die) (failed : List Nat)
    {s : State} (h : Canonical (memories s)) :
    NextCanonical (execSpadSelfTestEnd dt die failed s) :=
  nextCanonical_act dt h fun u hu => by simp [hu]

@[simp] theorem nextCanonical_execSpadRepair (dt : Nat) (die : Die) {s : State} (h : Canonical (memories s)) :
    NextCanonical (execSpadRepair dt die s) :=
  nextCanonical_actHost dt _ h fun u hu => by simp [hu]

@[simp] theorem nextCanonical_execSpadScrub (dt : Nat) (die : Die) (word : BitVec 26) (corrected uncorrectable : Bool)
    {s : State} (h : Canonical (memories s)) :
    NextCanonical (execSpadScrub dt die word corrected uncorrectable s) :=
  nextCanonical_act dt h fun u hu => by simp [hu]

@[simp] theorem nextCanonical_execHbmRetire (dt : Nat) (stack : Stack) (row : BitVec 27)
    {s : State} (h : Canonical (memories s)) :
    NextCanonical (execHbmRetire dt stack row s) :=
  nextCanonical_actHost dt _ h fun u hu => by simp [hu]

@[simp] theorem nextCanonical_execHbmRowRetired (dt : Nat) (stack : Stack) (corrected badBursts : List (Fin 16))
    {s : State} (h : Canonical (memories s)) :
    NextCanonical (execHbmRowRetired dt stack corrected badBursts s) :=
  nextCanonical_act dt h fun u hu => by simp [hu]

@[simp] theorem nextCanonical_execBundleComparePoint (dt : Nat) (obs : IssueObs)
    {s : State} (h : Canonical (memories s)) :
    NextCanonical (execBundleComparePoint dt obs s) :=
  nextCanonical_act dt h fun u hu => by simp [hu]

@[simp] theorem nextCanonical_execTensorFrame (dt : Nat) (frame : WriteFrame) {s : State}
    (h : Canonical (memories s)) :
    NextCanonical (execTensorFrame dt frame s) := by
  simp only [execTensorFrame]
  split
  · exact nextCanonical_act dt h fun _ hu => canonical_afterFences (fun _ hfenced =>
      canonical_receive _ _ (fun _ hframe => canonical_tensorArrives frame hframe) hfenced) hu
  · trivial

@[simp] theorem nextCanonical_execXferThreadStart (dt : Nat) (die : Die) (thread : BitVec 10) (obs : XferObs)
    {s : State}
    (h : Canonical (memories s)) : NextCanonical (execXferThreadStart dt die thread obs s) :=
  nextCanonical_act dt h fun _ hu => canonical_afterFences (fun _ hfenced => canonical_threadStart _ _ _ hfenced) hu

@[simp] theorem nextCanonical_execEndProgram (dt : Nat) {s : State} (h : Canonical (memories s)) :
    NextCanonical (execEndProgram dt s) :=
  nextCanonical_act dt h fun u hu => by simp [hu]

@[simp] theorem nextCanonical_execSeqWaitTimeout (dt : Nat) {s : State} (h : Canonical (memories s)) :
    NextCanonical (execSeqWaitTimeout dt s) :=
  nextCanonical_act dt h fun u hu => by split <;> simp [hu]

@[simp] theorem nextCanonical_execIssueHalt (dt : Nat) {s : State} (h : Canonical (memories s)) :
    NextCanonical (execIssueHalt dt s) :=
  nextCanonical_actPowered dt h fun u hu => by split <;> simp [hu]

@[simp] theorem nextCanonical_execHaltClear (dt : Nat) {s : State} (h : Canonical (memories s)) :
    NextCanonical (execHaltClear dt s) :=
  nextCanonical_actHost dt _ h fun u hu => by simp [hu]

@[simp] theorem nextCanonical_execRun (dt : Nat) (on : Bool) {s : State} (h : Canonical (memories s)) :
    NextCanonical (execRun dt on s) :=
  nextCanonical_actHost dt _ h fun u hu => by simp [hu]

@[simp] theorem nextCanonical_execWidenEnable (dt : Nat) (id : BitVec 12) (thresh : BitVec 16)
    {s : State} (h : Canonical (memories s)) :
    NextCanonical (execWidenEnable dt id thresh s) :=
  nextCanonical_actHost dt _ h fun u hu => by simp [hu]

@[simp] theorem nextCanonical_execWidenDisable (dt : Nat) (id : BitVec 12) {s : State} (h : Canonical (memories s)) :
    NextCanonical (execWidenDisable dt id s) :=
  nextCanonical_actHost dt _ h fun u hu => by simp [hu]

@[simp] theorem nextCanonical_execWidenReset (dt : Nat) (id : BitVec 12) {s : State} (h : Canonical (memories s)) :
    NextCanonical (execWidenReset dt id s) :=
  nextCanonical_actHost dt _ h fun u hu => by simp [hu]

@[simp] theorem nextCanonical_execWidenResetAll (dt : Nat) {s : State} (h : Canonical (memories s)) :
    NextCanonical (execWidenResetAll dt s) :=
  nextCanonical_actHost dt _ h fun u hu => by simp [hu]

@[simp] theorem nextCanonical_execStepCommit (dt : Nat) {s : State} (h : Canonical (memories s)) :
    NextCanonical (execStepCommit dt s) :=
  nextCanonical_act dt h fun u hu => by simp [hu]

@[simp] theorem nextCanonical_execCommitDone (dt : Nat) (msg : CommitMsg) {s : State} (h : Canonical (memories s)) :
    NextCanonical (execCommitDone dt msg s) :=
  nextCanonical_act dt h fun u hu => by simp [hu]

@[simp] theorem nextCanonical_execServeCommitTimeout (dt : Nat) {s : State} (h : Canonical (memories s)) :
    NextCanonical (execServeCommitTimeout dt s) :=
  nextCanonical_act dt h fun u hu => by simp [hu]

@[simp] theorem nextCanonical_execGo (dt : Nat) (msg : GoMsg) {s : State} (h : Canonical (memories s)) :
    NextCanonical (execGo dt msg s) :=
  nextCanonical_act dt h fun u hu => by simp [hu]

@[simp] theorem nextCanonical_execHawkSpare (dt : Nat) (core : Fin 8) {s : State} (h : Canonical (memories s)) :
    NextCanonical (execHawkSpare dt core s) :=
  nextCanonical_actHost dt _ h fun u hu => by simp [hu]

@[simp] theorem nextCanonical_execHawkCoreFault (dt : Nat) (core : Fin 9) (cause : BitVec 2)
    {s : State} (h : Canonical (memories s)) :
    NextCanonical (execHawkCoreFault dt core cause s) :=
  nextCanonical_act dt h fun u hu => by simp [hu]

@[simp] theorem nextCanonical_execServeTableParity (dt : Nat) (table : BitVec 2) (index : Word)
    {s : State} (h : Canonical (memories s)) :
    NextCanonical (execServeTableParity dt table index s) :=
  nextCanonical_act dt h fun u hu => by simp [hu]

@[simp] theorem nextCanonical_execHawkSubTail (dt : Nat) (writes : List (Word × Bytes)) (tail : Word)
    {s : State} (h : Canonical (memories s)) :
    NextCanonical (execHawkSubTail dt writes tail s) :=
  nextCanonical_actHost dt _ h fun u hu => by simp [hu]

@[simp] theorem nextCanonical_execLifeRecordWrite (dt : Nat) (nvm : List (Fin 21 × NvmObs))
    {s : State} (h : Canonical (memories s)) :
    NextCanonical (execLifeRecordWrite dt nvm s) :=
  nextCanonical_act dt h fun u hu => by simp [hu]

@[simp] theorem nextCanonical_execNvrecHostTime (dt : Nat) (high : Bool) (value : Word)
    {s : State} (h : Canonical (memories s)) :
    NextCanonical (execNvrecHostTime dt high value s) :=
  nextCanonical_actHost dt _ h fun u hu => by simp [hu]

@[simp] theorem nextCanonical_execNvrecFwWrite (dt : Nat) (units : BitVec 12)
    {s : State} (h : Canonical (memories s)) :
    NextCanonical (execNvrecFwWrite dt units s) :=
  nextCanonical_actHost dt _ h fun u hu => by simp [hu]

@[simp] theorem nextCanonical_execNvrecFwSelect (dt : Nat) (copy : Bool) {s : State} (h : Canonical (memories s)) :
    NextCanonical (execNvrecFwSelect dt copy s) :=
  nextCanonical_actHost dt _ h fun u hu => by simp [hu]

@[simp] theorem nextCanonical_execFwUpdateDone (dt : Nat) {s : State} (h : Canonical (memories s)) :
    NextCanonical (execFwUpdateDone dt s) :=
  nextCanonical_act dt h fun u hu => by simp [hu]

@[simp] theorem nextCanonical_execPwrEnDeassert (dt : Nat) {s : State} (h : Canonical (memories s)) :
    NextCanonical (execPwrEnDeassert dt s) :=
  nextCanonical_actPowered dt h fun _ _ => canonical_powerLoss ..

@[simp] theorem nextCanonical_execInputVoltageLockout (dt : Nat) (mv : Nat) {s : State} (h : Canonical (memories s)) :
    NextCanonical (execInputVoltageLockout dt mv s) :=
  nextCanonical_actPowered dt h fun u hu => by simp [hu]

@[simp] theorem nextCanonical_execRailOutOfRange (dt : Nat) (die : Die) (rail : Fin 6)
    {s : State} (h : Canonical (memories s)) :
    NextCanonical (execRailOutOfRange dt die rail s) :=
  nextCanonical_actPowered dt h fun u hu => by simp [hu]

@[simp] theorem nextCanonical_execBaselineCheckEnd (dt : Nat) (die : Luna) (obs : List BaselineObs)
    {s : State} (h : Canonical (memories s)) :
    NextCanonical (execBaselineCheckEnd dt die obs s) :=
  nextCanonical_act dt h fun u hu => by simp [hu]

@[simp] theorem nextCanonical_execPowerUp (dt : Nat) (obs : StartupObs) {s : State} (h : Canonical (memories s)) :
    NextCanonical (execPowerUp dt obs s) := by
  simp only [execPowerUp]
  split
  · exact nextCanonical_always dt h fun u hu => by simp [hu]
  · trivial

@[simp] theorem nextCanonical_execEnterReady (dt : Nat) {s : State} (h : Canonical (memories s)) :
    NextCanonical (execEnterReady dt s) :=
  nextCanonical_act dt h fun u hu => by simp [hu]

@[simp] theorem nextCanonical_execAckShutdown (dt : Nat) (arg : BitVec 16) (obs : StartupObs)
    {s : State} (h : Canonical (memories s)) :
    NextCanonical (execAckShutdown dt arg obs s) := by
  simp only [execAckShutdown]
  split
  · exact nextCanonical_actHost dt _ h fun u hu => by simp [hu]
  · trivial

@[simp] theorem nextCanonical_execRetry (dt : Nat) (obs : StartupObs) {s : State} (h : Canonical (memories s)) :
    NextCanonical (execRetry dt obs s) := by
  simp only [execRetry]
  split
  · exact nextCanonical_actHost dt _ h fun u hu => by simp [hu]
  · trivial

@[simp] theorem nextCanonical_execPrepareOff (dt : Nat) {s : State} (h : Canonical (memories s)) :
    NextCanonical (execPrepareOff dt s) :=
  nextCanonical_actHost dt _ h fun u hu => by simp [hu]

@[simp] theorem nextCanonical_execBootReset (dt : Nat) (arg : BitVec 16) (obs : StartupObs)
    {s : State} (h : Canonical (memories s)) :
    NextCanonical (execBootReset dt arg obs s) := by
  simp only [execBootReset]
  split
  · exact nextCanonical_actHost dt _ h fun u hu => by simp [hu]
  · trivial

@[simp] theorem nextCanonical_execBreathBoundary (dt : Nat) (stackTemps : List (BitVec 8))
    {s : State} (h : Canonical (memories s)) :
    NextCanonical (execBreathBoundary dt stackTemps s) :=
  nextCanonical_act dt h fun u hu => by split <;> simp [hu]

@[simp] theorem nextCanonical_execPageCrcCompute (dt : Nat) (entry : BitVec 24)
    {s : State} (h : Canonical (memories s)) :
    NextCanonical (execPageCrcCompute dt entry s) :=
  nextCanonical_act dt h fun u hu => by simp [hu]

@[simp] theorem nextCanonical_execRoceCtxRead (dt : Nat) {s : State} (h : Canonical (memories s)) :
    NextCanonical (execRoceCtxRead dt s) :=
  nextCanonical_actHost dt _ h fun u hu => by simp [hu]

@[simp] theorem nextCanonical_execRoceCtxWrite (dt : Nat) {s : State} (h : Canonical (memories s)) :
    NextCanonical (execRoceCtxWrite dt s) :=
  nextCanonical_actHost dt _ h fun u hu => by simp [hu]

@[simp] theorem nextCanonical_execRoceCtxModify (dt : Nat) (state : BitVec 3)
    {s : State} (h : Canonical (memories s)) :
    NextCanonical (execRoceCtxModify dt state s) :=
  nextCanonical_actHost dt _ h fun u hu => by simp [hu]

@[simp] theorem nextCanonical_execRoceAckTimeout (dt : Nat) (qp : Qp) {s : State} (h : Canonical (memories s)) :
    NextCanonical (execRoceAckTimeout dt qp s) :=
  nextCanonical_act dt h fun u hu => by simp [hu]

@[simp] theorem nextCanonical_execRoceRnrTimeout (dt : Nat) (qp : Qp) {s : State} (h : Canonical (memories s)) :
    NextCanonical (execRoceRnrTimeout dt qp s) :=
  nextCanonical_act dt h fun u hu => by simp [hu]

@[simp] theorem nextCanonical_execCnpReceive (dt : Nat) (qp : Qp) {s : State} (h : Canonical (memories s)) :
    NextCanonical (execCnpReceive dt qp s) :=
  nextCanonical_act dt h fun u hu => by simp [hu]

@[simp] theorem nextCanonical_execRoceRateIncrease (dt : Nat) (qp : Qp) {s : State} (h : Canonical (memories s)) :
    NextCanonical (execRoceRateIncrease dt qp s) :=
  nextCanonical_act dt h fun u hu => by simp [hu]

@[simp] theorem nextCanonical_execRdmaWriteReceive (dt : Nat) (qp : Qp) (rkey : Word) (addr : DWord) (data : Bytes)
    {s : State} (h : Canonical (memories s)) : NextCanonical (execRdmaWriteReceive dt qp rkey addr data s) :=
  nextCanonical_act dt h fun _ hu => canonical_overPort _ (fun v hv => by simp [hv]) hu

@[simp] theorem nextCanonical_execRdmaReadReceive (dt : Nat) (qp : Qp) (rkey : Word) (addr : DWord) (length : Word)
    {s : State} (h : Canonical (memories s)) :
    NextCanonical (execRdmaReadReceive dt qp rkey addr length s) :=
  nextCanonical_act dt h fun u hu => by simp [hu]

@[simp] theorem nextCanonical_execRoceSendReceive (dt : Nat) (qp : Qp) (payload : Bytes) {s : State}
    (h : Canonical (memories s)) : NextCanonical (execRoceSendReceive dt qp payload s) :=
  nextCanonical_act dt h fun _ hu => canonical_overPort _ (fun v hv => by
    dsimp only
    repeat' split
    all_goals simp [hv]) hu

@[simp] theorem nextCanonical_execEthFrameReceive (dt : Nat) (port : EthPort) (bytes : Nat) (frame : EthFrame)
    {s : State} (h : Canonical (memories s)) :
    NextCanonical (execEthFrameReceive dt port bytes frame s) :=
  nextCanonical_act dt h fun u hu => by simp [hu]

@[simp] theorem nextCanonical_execEthLinkDown (dt : Nat) (port : EthPort) {s : State} (h : Canonical (memories s)) :
    NextCanonical (execEthLinkDown dt port s) :=
  nextCanonical_act dt h fun u hu => by simp [hu]

@[simp] theorem nextCanonical_execEthLinkUp (dt : Nat) (port : EthPort) {s : State} (h : Canonical (memories s)) :
    NextCanonical (execEthLinkUp dt port s) :=
  nextCanonical_act dt h fun u hu => by simp [hu]

@[simp] theorem nextCanonical_execEthPauseStorm (dt : Nat) (port : EthPort) (prio : Fin 8) {s : State}
    (h : Canonical (memories s)) : NextCanonical (execEthPauseStorm dt port prio s) :=
  nextCanonical_act dt h fun u hu => by
    dsimp only
    split <;> simp [hu]

@[simp] theorem nextCanonical_execEvtlogRecordWrite (dt : Nat) {s : State} (h : Canonical (memories s)) :
    NextCanonical (execEvtlogRecordWrite dt s) :=
  nextCanonical_act dt h fun u hu => by simp [hu]

@[simp] theorem nextCanonical_execEvtlogSel (dt : Nat) (index : Word) {s : State} (h : Canonical (memories s)) :
    NextCanonical (execEvtlogSel dt index s) :=
  nextCanonical_actHost dt _ h fun u hu => by simp [hu]

@[simp] theorem nextCanonical_execEvtlogFetchDone (dt : Nat) {s : State} (h : Canonical (memories s)) :
    NextCanonical (execEvtlogFetchDone dt s) :=
  nextCanonical_act dt h fun u hu => by simp [hu]

@[simp] theorem nextCanonical_execEvtlogRead (dt : Nat) (index : Word) {s : State} (h : Canonical (memories s)) :
    NextCanonical (execEvtlogRead dt index s) :=
  nextCanonical_actHost dt _ h fun u hu => by simp [hu]

@[simp] theorem nextCanonical_execAttest (dt : Nat) {s : State} (h : Canonical (memories s)) :
    NextCanonical (execAttest dt s) :=
  nextCanonical_actHost dt _ h fun u hu => by simp [hu]

@[simp] theorem nextCanonical_execDevEnter (dt : Nat) (arg : BitVec 16) {s : State} (h : Canonical (memories s)) :
    NextCanonical (execDevEnter dt arg s) :=
  nextCanonical_actHost dt _ h fun u hu => by simp [hu]

@[simp] theorem nextCanonical_execAttestDone (dt : Nat) {s : State} (h : Canonical (memories s)) :
    NextCanonical (execAttestDone dt s) :=
  nextCanonical_act dt h fun u hu => by simp [hu]

@[simp] theorem nextCanonical_execBcastRecord (dt : Nat) (record : BcastRecord)
    {s : State} (h : Canonical (memories s)) :
    NextCanonical (execBcastRecord dt record s) := by
  simp only [execBcastRecord]
  split
  · exact nextCanonical_act dt h fun u hu => by simp [hu]
  · trivial

@[simp] theorem nextCanonical_execTunnelWindowWrite (dt : Nat) (window : Fin 3) (offset : BitVec 24) (data : Word)
    {s : State} (h : Canonical (memories s)) :
    NextCanonical (execTunnelWindowWrite dt window offset data s) :=
  nextCanonical_actPowered dt h fun u hu => by simp [hu]

@[simp] theorem nextCanonical_execTunnelWindowRead (dt : Nat) (window : Fin 3) (offset : BitVec 24)
    {s : State} (h : Canonical (memories s)) :
    NextCanonical (execTunnelWindowRead dt window offset s) :=
  nextCanonical_actPowered dt h fun u hu => by simp [hu]

@[simp] theorem nextCanonical_execTunnelWr (dt : Nat) (frame : TunnelFrame) {s : State} (h : Canonical (memories s)) :
    NextCanonical (execTunnelWr dt frame s) :=
  nextCanonical_act dt h fun _ hu => canonical_receive _ _ (fun _ hframe =>
    canonical_tunnelFrame frame _ (fun _ hhere => canonical_localWrite _ _ hhere) hframe) hu

@[simp] theorem nextCanonical_execTunnelRd (dt : Nat) (frame : TunnelFrame) {s : State} (h : Canonical (memories s)) :
    NextCanonical (execTunnelRd dt frame s) :=
  nextCanonical_act dt h fun u hu => by simp [hu]

@[simp] theorem nextCanonical_execTunnelRsp (dt : Nat) (frame : TunnelFrame)
    {s : State} (h : Canonical (memories s)) :
    NextCanonical (execTunnelRsp dt frame s) :=
  nextCanonical_act dt h fun u hu => by simp [hu]

@[simp] theorem nextCanonical_execShawmTunnelTimeout (dt : Nat) (window : Fin 3) (tag : BitVec 8)
    {s : State} (h : Canonical (memories s)) :
    NextCanonical (execShawmTunnelTimeout dt window tag s) :=
  nextCanonical_act dt h fun u hu => by simp [hu]

@[simp] theorem nextCanonical_execFeRearm (dt : Nat) (page : BitVec 10) {s : State} (h : Canonical (memories s)) :
    NextCanonical (execFeRearm dt page s) :=
  nextCanonical_actPowered dt h fun u hu => by simp [hu]

@[simp] theorem nextCanonical_execSnapshot (dt : Nat) (page : BitVec 10) (on : Bool)
    {s : State} (h : Canonical (memories s)) :
    NextCanonical (execSnapshot dt page on s) :=
  nextCanonical_actPowered dt h fun u hu => by simp [hu]

@[simp] theorem nextCanonical_execReg64LowRead (dt : Nat) (addr : BitVec 26)
    {s : State} (h : Canonical (memories s)) :
    NextCanonical (execReg64LowRead dt addr s) :=
  nextCanonical_actPowered dt h fun u hu => by simp [hu]

@[simp] theorem nextCanonical_execUnmappedAccess (dt : Nat) (addr : BitVec 26) (write : Bool)
    {s : State} (h : Canonical (memories s)) :
    NextCanonical (execUnmappedAccess dt addr write s) :=
  nextCanonical_actPowered dt h fun u hu => by simp [hu]

@[simp] theorem nextCanonical_execRegisterWrite (dt : Nat) (addr : BitVec 26) (value : Word)
    {s : State} (h : Canonical (memories s)) :
    NextCanonical (execRegisterWrite dt addr value s) :=
  nextCanonical_actPowered dt h fun u hu => by simp [hu]

/-- Every command leaves canonical memories canonical. -/
theorem nextCanonical_exec (i : Instr) {s : State} (h : Canonical (memories s)) : NextCanonical (exec i s) := by
  cases i <;> simp [exec, h]

/-- Settles O46, by the canonical form that each command keeps: what does not write a memory leaves all of them as they
were, and every write is a canonical update of one. -/
theorem memoryStaysCanonical : Obligations.MemoryStaysCanonical := by
  unfold Obligations.MemoryStaysCanonical
  intro s t hwf hstep
  have h : Canonical (memories s) := (canonical_iff_wf s).mpr hwf
  have hnext : NextCanonical (step s) := by
    simp only [step]
    split
    · exact h
    · exact nextCanonical_exec _ (by simpa using h)
  rw [hstep] at hnext
  exact (canonical_iff_wf t).mp hnext

/-- Settles O47, by evaluation: the reset state lists no memory and no command. -/
theorem resetMemoryCanonical : Obligations.ResetMemoryCanonical := by
  unfold Obligations.ResetMemoryCanonical
  exact ⟨(Memory.wf_iff _).2 ⟨rfl, rfl, rfl, rfl⟩, rfl, rfl⟩

end Sys2Proof.Machine

/-! The breath boundary and BREATH_TICKS (R297, R429, R430, R432): what begins a breath, and what leaves its
clock alone. -/

namespace Sys2Proof.Machine

open Sys2Proof.Map

/-! ## What leaves a breath's clock alone -/

/-- A breath's number, its first tick, the period in force, and the tick up to which its energy was measured. -/
def breathClock (s : State) : Word × Nat × Nat × Nat :=
  (s.breath.number, s.breath.start, s.breath.ticks, s.atlas.lastSample)

theorem breathClock_of_eq {s t : State} (hb : t.breath = s.breath) (ha : t.atlas = s.atlas) :
    breathClock t = breathClock s := by
  rw [breathClock, hb, ha, breathClock]

section Updates
variable (s : State) {clk log regs seq mem hkc therm fabric drone host secure boot nvm life modLife tensor fmt kv luna
  adapt serve out freeIdx pending}

@[simp] theorem breathClock_update :
    breathClock (State.mk clk log regs seq mem s.breath s.atlas hkc therm fabric drone
    host secure boot nvm life modLife tensor fmt kv luna adapt serve out freeIdx pending) = breathClock s :=
  Eq.trans rfl rfl

@[simp] theorem breathClock_update_breath (ticksAt spend fresh borrowed lenders idle gate gateFrom gatedTicks gateCause
    gatedMask exhausted) : breathClock (State.mk clk log regs seq mem ⟨s.breath.number, s.breath.ticks, s.breath.start,
      ticksAt, spend, fresh, borrowed, lenders, idle, gate, gateFrom, gatedTicks, gateCause, gatedMask, exhausted⟩
      s.atlas hkc therm fabric drone host secure boot nvm life modLife tensor fmt kv luna adapt serve out freeIdx
      pending) = breathClock s := Eq.trans rfl rfl

@[simp] theorem breathClock_update_atlas (k allowance allowed energy meas chgBreath chgSince chgDie chgInt chgMark dieChg
    dieMeas dieHbm samples last winSpent winIndex winCount winBudget winLow) : breathClock (State.mk clk log regs seq mem
      s.breath ⟨k, allowance, allowed, energy, meas, s.atlas.lastSample, chgBreath, chgSince, chgDie, chgInt, chgMark,
      dieChg, dieMeas, dieHbm, samples, last, winSpent, winIndex, winCount, winBudget, winLow⟩ hkc therm fabric drone host
      secure boot nvm life modLife tensor fmt kv luna adapt serve out freeIdx pending) = breathClock s :=
  Eq.trans rfl rfl
end Updates

@[simp] theorem breathClock_ite (p : Prop) [Decidable p] (a b : State) :
    breathClock (if p then a else b) = if p then breathClock a else breathClock b := apply_ite breathClock p a b

@[simp] theorem breathClock_foldl {α : Type} {g : State → α → State} (h : ∀ s x, breathClock (g s x) = breathClock s)
    (l : List α) (s : State) : breathClock (l.foldl g s) = breathClock s := foldl_keeps breathClock l h s

@[simp] theorem breathClock_inClass (c : Nat) (f : State → State) (s : State) :
    breathClock (inClass c f s) = breathClock (f { s with log := { s.log with cls := c } }) := Eq.trans rfl rfl

@[simp] theorem breathClock_forRequest (r : Nat) (f : State → State) (s : State) :
    breathClock (forRequest r f s) = breathClock (f { s with log := { s.log with req := r } }) := Eq.trans rfl rfl

@[simp] theorem breathClock_setHbmByte (a : Nat) (b : Byte) (s : State) :
    breathClock (setHbmByte a b s) = breathClock s := by
  simp [setHbmByte]

@[simp] theorem breathClock_setPort (p : Nat) (x : ShawmPort) (s : State) :
    breathClock (setPort p x s) = breathClock s := by
  simp [setPort]

@[simp] theorem breathClock_setReg (a : Nat) (v : Word) (s : State) : breathClock (setReg a v s) = breathClock s := by
  simp [setReg]

@[simp] theorem breathClock_setReg64 (a v : Nat) (s : State) : breathClock (setReg64 a v s) = breathClock s := by
  simp [setReg64]

@[simp] theorem breathClock_bump64 (a n : Nat) (s : State) :
    breathClock (bump64 a n s) = breathClock s := by simp [bump64]

@[simp] theorem breathClock_emit (o : Output) (s : State) : breathClock (emit o s) = breathClock s := by simp [emit]

@[simp] theorem breathClock_transmit (p : Nat) (f : LinkFrame) (s : State) :
    breathClock (transmit p f s) = breathClock s := by
  simp [transmit]

@[simp] theorem breathClock_bump (a n : Nat) (s : State) : breathClock (bump a n s) = breathClock s := by simp [bump]

@[simp] theorem breathClock_enqueueEvent (e : Event) (s : State) :
    breathClock (enqueueEvent e s) = breathClock s := by
  simp [enqueueEvent]

@[simp] theorem breathClock_fatalStop (sev code : Nat) (s : State) :
    breathClock (fatalStop sev code s) = breathClock s := by
  simp [fatalStop]

@[simp] theorem breathClock_captureFirst (page sev code detail : Nat) (ovf : Bool) (s : State) :
    breathClock (captureFirst page sev code detail ovf s) = breathClock s := by simp [captureFirst]

@[simp] theorem breathClock_firstErr (page sev code detail : Nat) (s : State) :
    breathClock (firstErr page sev code detail s) = breathClock s := by simp [firstErr]

@[simp] theorem breathClock_hwSetBits (a : Nat) (m : Word) (s : State) :
    breathClock (hwSetBits a m s) = breathClock s := by
  simp [hwSetBits]

@[simp] theorem breathClock_keepFatal (e : Event) (s : State) : breathClock (keepFatal e s) = breathClock s := by
  simp [keepFatal]

@[simp] theorem breathClock_updReg (a : Nat) (f : Word → Word) (s : State) :
    breathClock (updReg a f s) = breathClock s := by
  simp [updReg]

@[simp] theorem breathClock_msix (v : Nat) (s : State) : breathClock (msix v s) = breathClock s := by simp [msix]

@[simp] theorem breathClock_sendLink (p : Nat) (f : LinkFrame) (s : State) :
    breathClock (sendLink p f s) = breathClock s := by
  simp [sendLink]

@[simp] theorem breathClock_sendFrame (p : Nat) (f : Frame) (s : State) :
    breathClock (sendFrame p f s) = breathClock s := by
  simp [sendFrame]

@[simp] theorem breathClock_sendTo (dst : Nat) (f : Bool → Frame) (s : State) :
    breathClock (sendTo dst f s) = breathClock s := by
  unfold sendTo
  repeat' split
  all_goals simp

@[simp] theorem breathClock_noticeEvent (sev code : Nat) (s : State) :
    breathClock (noticeEvent sev code s) = breathClock s := by simp [noticeEvent]

@[simp] theorem breathClock_signalEvent (e : Event) (s : State) : breathClock (signalEvent e s) = breathClock s := by
  simp [signalEvent]

@[simp] theorem breathClock_raiseAt (t page code sev cls req detail : Nat) (s : State) :
    breathClock (raiseAt t page code sev cls req detail s) = breathClock s := by simp [raiseAt]

@[simp] theorem breathClock_raiseFor (page code cls req detail : Nat) (s : State) :
    breathClock (raiseFor page code cls req detail s) = breathClock s := by simp [raiseFor]

@[simp] theorem breathClock_raise (page code detail : Nat) (s : State) :
    breathClock (raise page code detail s) = breathClock s := by simp [raise]

@[simp] theorem breathClock_setLunaDie (d : Nat) (x : LunaDie) (s : State) :
    breathClock (setLunaDie d x s) = breathClock s := by simp [setLunaDie]

@[simp] theorem breathClock_updLunaDie (d : Nat) (f : LunaDie → LunaDie) (s : State) :
    breathClock (updLunaDie d f s) = breathClock s := by simp [updLunaDie]

@[simp] theorem breathClock_setTrk (d p : Nat) (t : Tracker) (s : State) :
    breathClock (setTrk d p t s) = breathClock s := by
  simp [setTrk]

@[simp] theorem breathClock_charge (die cls res amount cpj : Nat) (s : State) :
    breathClock (charge die cls res amount cpj s) = breathClock s := by
  simp only [charge]
  repeat' split
  all_goals rfl

@[simp] theorem breathClock_collect (code key n : Nat) (s : State) :
    breathClock (collect code key n s) = breathClock s := by
  simp [collect]

@[simp] theorem breathClock_setFld (a hi lo v : Nat) (s : State) :
    breathClock (setFld a hi lo v s) = breathClock s := by
  simp [setFld]

@[simp] theorem breathClock_highWater (a hi lo v : Nat) (s : State) :
    breathClock (highWater a hi lo v s) = breathClock s := by
  simp [highWater]

@[simp] theorem breathClock_ownPasses (d cls full splits : Nat) (s : State) :
    breathClock (ownPasses d cls full splits s) = breathClock s := by simp [ownPasses]

@[simp] theorem breathClock_addSpend (c r n : Nat) (s : State) : breathClock (addSpend c r n s) = breathClock s := by
  simp [addSpend]

@[simp] theorem breathClock_borrowFrom (cs : List Nat) (r n : Nat) (s : State) :
    breathClock (borrowFrom cs r n s) = breathClock s := by
  induction cs generalizing n s with
  | nil => simp [borrowFrom]
  | cons c cs ih =>
    simp only [borrowFrom]
    repeat' split
    all_goals simp [ih]

@[simp] theorem breathClock_applyCharge (c r n : Nat) (s : State) :
    breathClock (applyCharge c r n s) = breathClock s := by
  unfold applyCharge
  repeat' split
  all_goals simp

@[simp] theorem breathClock_settle (all : Bool) (s : State) :
    breathClock (settle all s) = breathClock s := by simp [settle]

@[simp] theorem breathClock_unseedTracker (d p : Nat) (s : State) :
    breathClock (unseedTracker d p s) = breathClock s := by
  simp [unseedTracker]

@[simp] theorem breathClock_setPhys (d p : Nat) (x : Phys) (s : State) :
    breathClock (setPhys d p x s) = breathClock s := by
  simp [setPhys]

@[simp] theorem breathClock_updPhys (d p : Nat) (f : Phys → Phys) (s : State) :
    breathClock (updPhys d p f s) = breathClock s := by simp [updPhys]

@[simp] theorem breathClock_freeArray (d p : Nat) (s : State) : breathClock (freeArray d p s) = breathClock s := by
  simp [freeArray]

@[simp] theorem breathClock_takeFree (s : State) : breathClock (takeFree s).2 = breathClock s := by simp [takeFree]

@[simp] theorem breathClock_stopPrograms (s : State) :
    breathClock (stopPrograms s) = breathClock s := by simp [stopPrograms]

@[simp] theorem breathClock_nvTouch (s : State) : breathClock (nvTouch s) = breathClock s := by simp [nvTouch]

@[simp] theorem breathClock_writeShutdown (cause die : Nat) (e : Int) (diode : Nat) (s : State) :
    breathClock (writeShutdown cause die e diode s) = breathClock s := by simp [writeShutdown]

@[simp] theorem breathClock_thermalTrip (die : Nat) (e : Int) (cause diode : Nat) (s : State) :
    breathClock (thermalTrip die e cause diode s) = breathClock s := by
  by_cases h : s.therm.tripped = true
  · rw [thermalTrip, if_pos h]
  · rw [thermalTrip, if_neg h, breathClock_writeShutdown, breathClock_stopPrograms]
    generalize hraised : raise _ _ _ _ = raised
    exact (breathClock_update_breath raised ..).trans (hraised ▸ breathClock_raise ..)

@[simp] theorem breathClock_seedModel (rs : List DiodeObs) (s : State) :
    breathClock (seedModel rs s) = breathClock s := by
  simp only [seedModel]
  refine breathClock_foldl ?_ _ s
  exact fun _ _ => rfl

@[simp] theorem breathClock_updCmd (d : Nat) (f : RefreshCmd → RefreshCmd) (s : State) :
    breathClock (updCmd d f s) = breathClock s := by simp [updCmd]

@[simp] theorem breathClock_endCmd (d result : Nat) (s : State) :
    breathClock (endCmd d result s) = breathClock s := by
  simp [endCmd]

@[simp] theorem breathClock_cancelEnd (d : Nat) (s : State) : breathClock (cancelEnd d s) = breathClock s := by
  simp [cancelEnd]

@[simp] theorem breathClock_startChannel (d : Nat) (kind : ChanKind) (p a : Nat) (repair : Bool) (s : State) :
    breathClock (startChannel d kind p a repair s).2 = breathClock s := by
  simp only [startChannel]
  repeat' split
  all_goals simp

@[simp] theorem breathClock_verifyFail (d p a stage what : Nat) (s : State) :
    breathClock (verifyFail d p a stage what s) = breathClock s := by simp [verifyFail]

@[simp] theorem breathClock_installOne (d a : Nat) (s : State) :
    breathClock (installOne d a s).2 = breathClock s := by
  simp only [installOne]
  split <;> simp

@[simp] theorem breathClock_installMore (d n : Nat) (s : State) :
    breathClock (installMore d n s) = breathClock s := by
  induction n generalizing s with
  | zero => rfl
  | succ n ih =>
    simp only [installMore]
    repeat' split
    all_goals simp [ih]

@[simp] theorem breathClock_retireArray (d p cause : Nat) (s : State) :
    breathClock (retireArray d p cause s) = breathClock s := by
  simp only [retireArray]
  repeat' split
  all_goals simp only [breathClock_raise, breathClock_unseedTracker, breathClock_updPhys]

@[simp] theorem breathClock_replaceStart (d : Nat) (s : State) : breathClock (replaceStart d s) = breathClock s := by
  simp only [replaceStart]
  split <;> simp

@[simp] theorem breathClock_cmdGoOn (d : Nat) (s : State) :
    breathClock (cmdGoOn d s) = breathClock s := by simp [cmdGoOn]

@[simp] theorem breathClock_dropChannel (d k : Nat) (keepStage : Bool) (s : State) :
    breathClock (dropChannel d k keepStage s) = breathClock s := by
  simp only [dropChannel]
  split <;> simp

@[simp] theorem breathClock_atlasAdd (c n : Nat) (s : State) : breathClock (atlasAdd c n s) = breathClock s := by
  simp [atlasAdd]

@[simp] theorem breathClock_apportion (d e : Nat) (chg : Map.SMap Nat) (s : State) :
    breathClock (apportion d e chg s) = breathClock s := by simp [apportion]

@[simp] theorem breathClock_chargeHbm (die cls bursts : Nat) (s : State) :
    breathClock (chargeHbm die cls bursts s) = breathClock s := by simp [chargeHbm]

@[simp] theorem breathClock_hbmWrite (a : Nat) (bs : Bytes) (s : State) :
    breathClock (hbmWrite a bs s) = breathClock s := by
  induction bs generalizing a s with
  | nil => rfl
  | cons b bs ih => simp [hbmWrite, ih]

@[simp] theorem breathClock_breakOff (d k : Nat) (s : State) : breathClock (breakOff d k s) = breathClock s := by
  simp only [breakOff]
  split <;> simp

@[simp] theorem breathClock_stopChannels (d : Nat) (cs : List (Nat × Channel)) (s : State) :
    breathClock (stopChannels d cs s) = breathClock s := by
  have key : ∀ s, breathClock (cs.foldl (stopChannel d) s) = breathClock s :=
    breathClock_foldl (fun s e => by simp only [stopChannel]; split <;> simp) cs
  simp only [stopChannels]
  split
  · exact (breathClock_cancelEnd d _).trans (key s)
  · exact key s

@[simp] theorem breathClock_setModReq (r : ModReq) (s : State) : breathClock (setModReq r s) = breathClock s := by
  simp [setModReq]

@[simp] theorem breathClock_parkFail (id cause page : Nat) (s : State) :
    breathClock (parkFail id cause page s) = breathClock s := by
  unfold parkFail
  repeat' split
  all_goals simp

@[simp] theorem breathClock_chargeEth (cls n : Nat) (s : State) :
    breathClock (chargeEth cls n s) = breathClock s := by
  simp [chargeEth]

@[simp] theorem breathClock_setCtxEntry (t i : Nat) (b : Bytes) (s : State) :
    breathClock (setCtxEntry t i b s) = breathClock s := by simp [setCtxEntry]

@[simp] theorem breathClock_psnAdvance (a q n : Nat) (s : State) :
    breathClock (psnAdvance a q n s) = breathClock s := by
  simp [psnAdvance]

@[simp] theorem breathClock_setQp (q : Nat) (x : QpState) (s : State) :
    breathClock (setQp q x s) = breathClock s := by
  simp [setQp]

@[simp] theorem breathClock_markSent (q : Nat) (s : State) :
    breathClock (markSent q s) = breathClock s := by simp [markSent]

@[simp] theorem breathClock_qpSend (q : Nat) (m : RoceMsg) (s : State) :
    breathClock (qpSend q m s) = breathClock s := by
  simp [qpSend]

@[simp] theorem breathClock_qpPost (q : Nat) (w : Work) (s : State) : breathClock (qpPost q w s) = breathClock s := by
  simp [qpPost]

@[simp] theorem breathClock_sendStatus (id ticket : Nat) (ok : Bool) (cause : Nat) (s : State) :
    breathClock (sendStatus id ticket ok cause s) = breathClock s := by
  simp only [sendStatus]
  split <;> simp

@[simp] theorem breathClock_shipFail (id cause page : Nat) (tell : Bool) (s : State) :
    breathClock (shipFail id cause page tell s) = breathClock s := by
  unfold shipFail
  repeat' split
  all_goals simp

@[simp] theorem breathClock_setPte (i : Nat) (e : Pte) (s : State) : breathClock (setPte i e s) = breathClock s := by
  simp [setPte]

@[simp] theorem breathClock_addIoRef (i : Nat) (s : State) : breathClock (addIoRef i s) = breathClock s := by
  simp [addIoRef]

@[simp] theorem breathClock_chargePage (cls q : Nat) (s : State) :
    breathClock (chargePage cls q s) = breathClock s := by
  simp [chargePage]

@[simp] theorem breathClock_updIo (id : Nat) (f : IoJob → IoJob) (s : State) :
    breathClock (updIo id f s) = breathClock s := by
  simp only [updIo]
  split <;> simp

@[simp] theorem breathClock_parkMore (id n : Nat) (s : State) : breathClock (parkMore id n s) = breathClock s := by
  induction n generalizing s with
  | zero => rfl
  | succ n ih =>
    simp only [parkMore]
    repeat' split
    all_goals simp [ih]

@[simp] theorem breathClock_resumeMore (id n : Nat) (s : State) :
    breathClock (resumeMore id n s) = breathClock s := by
  induction n generalizing s with
  | zero => rfl
  | succ n ih =>
    simp only [resumeMore]
    repeat' split
    all_goals simp [ih]

@[simp] theorem breathClock_shipMore (id n : Nat) (s : State) : breathClock (shipMore id n s) = breathClock s := by
  induction n generalizing s with
  | zero => rfl
  | succ n ih =>
    simp only [shipMore]
    repeat' split
    all_goals simp [ih]

@[simp] theorem breathClock_ioGoOn (s : State) : breathClock (ioGoOn s) = breathClock s := by
  simp [ioGoOn]

@[simp] theorem breathClock_ageWarn (d : Nat) (s : State) :
    breathClock (ageWarn d s) = breathClock s := by simp [ageWarn]

@[simp] theorem breathClock_commitRegs (w : When) (s : State) : breathClock (commitRegs w s) = breathClock s := by
  simp [commitRegs]

@[simp] theorem breathClock_checkAllowance (s : State) : breathClock (checkAllowance s) = breathClock s := by
  simp [checkAllowance]

@[simp] theorem breathClock_closeMeasure (b : Nat) (s : State) : breathClock (closeMeasure b s) = breathClock s := by
  simp [closeMeasure]

@[simp] theorem breathClock_closeSpends (s0 : State) :
    breathClock (closeSpends s0) = breathClock s0 := by simp [closeSpends]

@[simp] theorem breathClock_evalGates (s : State) : breathClock (evalGates s) = breathClock s := by simp [evalGates]

@[simp] theorem breathClock_setAllowance (s : State) :
    breathClock (setAllowance s) = breathClock s := by simp [setAllowance]

@[simp] theorem breathClock_spendEvents (s0 s : State) : breathClock (spendEvents s0 s) = breathClock s := by
  unfold spendEvents
  extract_lets s1 s2 ticks
  have h1 : breathClock s1 = breathClock s := by
    refine breathClock_foldl ?_ _ s
    intro s c
    extract_lets ex s'
    have hs' : breathClock s' = breathClock s := by simp only [s']; split <;> simp
    split <;> simp [hs']
  have h2 : breathClock s2 = breathClock s := by simp only [s2]; split <;> simp [h1]
  split <;> simp [h2]

@[simp] theorem breathClock_accrueLife (n : Nat) (s : State) : breathClock (accrueLife n s) = breathClock s := by
  refine breathClock_foldl ?_ _ s
  exact fun _ _ => rfl

@[simp] theorem breathClock_modelUpdate (n : Nat) (s : State) : breathClock (modelUpdate n s) = breathClock s := by
  simp only [modelUpdate]
  refine breathClock_foldl ?_ _ _
  exact fun _ _ => rfl

@[simp] theorem breathClock_publishRates (s : State) : breathClock (publishRates s) = breathClock s := by
  refine breathClock_foldl ?_ _ s
  exact fun _ _ => rfl

@[simp] theorem breathClock_latchEvent (met clear latched : Bool) {ev : State → State} {setL : Bool → State → State}
    (hev : ∀ s, breathClock (ev s) = breathClock s) (hset : ∀ b s, breathClock (setL b s) = breathClock s) (s : State) :
    breathClock (latchEvent met clear latched ev setL s) = breathClock s := by
  simp only [latchEvent]
  repeat' split
  all_goals simp [hev, hset]

@[simp] theorem breathClock_thresholds (s : State) : breathClock (thresholds s) = breathClock s := by
  unfold thresholds
  split
  · rfl
  · refine breathClock_foldl ?_ _ s
    intro s d
    extract_lets e warn trip det warned r rated lowed lowEn blocked
    have hwarned : breathClock warned = breathClock s :=
      breathClock_latchEvent _ _ _ (breathClock_raise 5 _ _) (by intros; rfl) s
    have hrated : breathClock rated = breathClock warned :=
      breathClock_latchEvent _ _ _ (breathClock_raise 5 _ _) (by intros; rfl) _
    have hlowed : breathClock lowed = breathClock rated := by
      simp only [lowed]
      split
      · rfl
      · exact breathClock_latchEvent _ _ _ (breathClock_raise 5 _ _) (by intros; rfl) _
    have hblocked : breathClock blocked = breathClock lowed := by
      simp only [blocked]
      split
      · rfl
      · exact breathClock_latchEvent _ _ _ (breathClock_raise 5 _ _) (by intros; rfl) _
    have hall : breathClock blocked = breathClock s := by rw [hblocked, hlowed, hrated, hwarned]
    split
    · rw [breathClock_thermalTrip, hall]
    · exact hall

@[simp] theorem breathClock_throttleUpdate (s : State) : breathClock (throttleUpdate s) = breathClock s := by
  simp [throttleUpdate]

@[simp] theorem breathClock_thermBoundary (n : Nat) (s : State) :
    breathClock (thermBoundary n s) = breathClock s := by
  simp only [thermBoundary]
  split <;> simp

@[simp] theorem breathClock_updateK (n : Nat) (s : State) :
    breathClock (updateK n s) = breathClock s := by simp [updateK]

@[simp] theorem breathClock_windowUpdate (s : State) : breathClock (windowUpdate s) = breathClock s := by
  simp only [windowUpdate]
  repeat' split
  all_goals simp

@[simp] theorem breathClock_droneCorrect (rho theta : Int) (s : State) :
    breathClock (droneCorrect rho theta s) = breathClock s := by simp [droneCorrect]

@[simp] theorem breathClock_droneSpread (s : State) :
    breathClock (droneSpread s) = breathClock s := by simp [droneSpread]

@[simp] theorem breathClock_sendTree (f : Frame) (s : State) :
    breathClock (sendTree f s) = breathClock s := by simp [sendTree]

@[simp] theorem breathClock_droneBoundary (s : State) : breathClock (droneBoundary s) = breathClock s := by
  simp [droneBoundary]

@[simp] theorem breathClock_flushBreath (s : State) :
    breathClock (flushBreath s) = breathClock s := by simp [flushBreath]

@[simp] theorem breathClock_chargeChannels (d : Nat) (s : State) :
    breathClock (chargeChannels d s) = breathClock s := by
  simp [chargeChannels]

@[simp] theorem breathClock_noteGates (s : State) : breathClock (noteGates s) = breathClock s := by simp [noteGates]

@[simp] theorem breathClock_rotationStart (d : Nat) (s : State) :
    breathClock (rotationStart d s) = breathClock s := by
  simp only [rotationStart]
  repeat' split
  all_goals simp

@[simp] theorem breathClock_startAudits (d : Nat) (ps : List Nat) (s : State) :
    breathClock (startAudits d ps s) = breathClock s := by
  induction ps generalizing s with
  | nil => rfl
  | cons p ps ih =>
    simp only [startAudits]
    split <;> simp [ih]

@[simp] theorem breathClock_windowStop (d : Nat) (s : State) : breathClock (windowStop d s) = breathClock s := by
  simp [windowStop]

@[simp] theorem breathClock_refreshBoundary (s : State) : breathClock (refreshBoundary s) = breathClock s := by
  simp [refreshBoundary]

@[simp] theorem breathClock_stackReadouts (temps : List (BitVec 8)) (s : State) :
    breathClock (stackReadouts temps s) = breathClock s := by
  refine breathClock_foldl (fun s st => ?_) _ s
  split <;> simp

/-! ## The period in force (R430) -/

/-- What the period of the next breath is taken from. -/
def periodView (s : State) : Word × Nat × Nat := (reg s Reg.BREATH_TICKS, s.breath.ticks, s.breath.ticksAt)

theorem periodAt_of_periodView {s t : State} (h : periodView t = periodView s)
    (b : Nat) : periodAt t b = periodAt s b := by
  simp only [periodView, Prod.mk.injEq] at h
  obtain ⟨hreg, hticks, hat⟩ := h
  simp only [periodAt, hreg, hticks, hat]

theorem periodView_setReg {a : Nat} (h : Reg.BREATH_TICKS ≠ a) (v : Word) (s : State) :
    periodView (setReg a v s) = periodView s := by
  simp only [periodView, reg_setReg_other h, setReg_breath]

theorem periodView_bump {a : Nat} (h : Reg.BREATH_TICKS ≠ a) (n : Nat) (s : State) :
    periodView (bump a n s) = periodView s := by
  simp only [periodView, reg_bump_other h, bump_breath]

theorem periodView_borrowFrom (cs : List Nat) (r n : Nat) (s : State) :
    periodView (borrowFrom cs r n s) = periodView s := by
  induction cs generalizing n s with
  | nil => rfl
  | cons c cs ih =>
    simp only [borrowFrom]
    split
    · rfl
    · repeat' split
      all_goals exact (ih _ _).trans rfl

theorem periodView_applyCharge (c r n : Nat) (s : State) : periodView (applyCharge c r n s) = periodView s := by
  simp only [applyCharge]
  repeat' split
  · rfl
  · exact periodView_borrowFrom ..
  · rfl

theorem periodView_settle (all : Bool) (s : State) : periodView (settle all s) = periodView s :=
  foldl_keeps periodView _ (fun u _ => periodView_applyCharge _ _ _ u) _

theorem periodView_closeSpends (s : State) : periodView (closeSpends s) = periodView s := by
  unfold closeSpends
  extract_lets closed exceeded overshot borrowed gated
  have hclosed : periodView closed = periodView s :=
    foldl_keeps_mem periodView _ (fun i _ u => periodView_setReg (by
      simp only [Reg.BREATH_LAST, Reg.BREATH_TICKS]
      omega) _ u) s
  have hovershot : periodView overshot = periodView closed := by
    simp only [overshot]
    split
    · exact periodView_bump (by decide) ..
    · rfl
  have hborrowed : periodView borrowed = periodView overshot := by
    simp only [borrowed]
    split
    · exact periodView_bump (by decide) ..
    · rfl
  have hgated : periodView gated = periodView borrowed := by
    simp only [gated]
    split
    · rfl
    · exact periodView_bump (by decide) ..
  calc periodView _ = periodView gated := rfl
    _ = periodView s := by rw [hgated, hborrowed, hovershot, hclosed]

theorem periodView_commitRegs (w : When) (s : State) : periodView (commitRegs w s) = periodView s := rfl

/-! ## The breath boundary (R432) -/

/-- The boundary's own step starts the breath; what follows it reads the breath's clock and leaves it (R432). -/
theorem breathClock_boundaryCore (b : Nat) (s : State) :
    breathClock (boundaryCore b s) = (s.breath.number + 1, b, periodAt s b, b) := by
  unfold boundaryCore
  extract_lets n settled closed committed _ begun measured checked warmed corrected windowed allowed _ measuring
  have hbegun : breathClock begun = (committed.breath.number + 1, b, periodAt committed b, begun.atlas.lastSample) :=
    rfl
  have hview : periodView committed = periodView s :=
    ((periodView_commitRegs ..).trans (periodView_closeSpends _)).trans (periodView_settle ..)
  have hnumber : committed.breath.number = s.breath.number :=
    congrArg (·.1) (show breathClock committed = breathClock s by simp [committed, closed, settled])
  have hallowed : breathClock allowed = breathClock begun := by
    simp [allowed, windowed, corrected, warmed, checked, measured]
  have hmeasuring : breathClock measuring =
      ((breathClock allowed).1, (breathClock allowed).2.1, (breathClock allowed).2.2.1, b) :=
    rfl
  rw [breathClock_spendEvents, breathClock_evalGates, hmeasuring, hallowed, hbegun, hnumber,
    periodAt_of_periodView hview]

theorem breathClock_boundaryAt (b : Nat) (s : State) :
    breathClock (boundaryAt b s) = (s.breath.number + 1, b, periodAt s b, b) := by
  unfold boundaryAt
  extract_lets late _ there ended onward
  have honward : breathClock onward = breathClock (boundaryCore b there) := by simp [onward, ended]
  rw [breathClock_update, honward, breathClock_boundaryCore]
  rfl

/-- A stack's readout of the breath stands in its HBM_STATUS (R297). -/
theorem fld_stackReadouts {temps : List (BitVec 8)} {k : Nat} {c : BitVec 8} (hk : k < 24) (hc : temps[k]? = some c)
    (s : State) : fld (reg (stackReadouts temps s) (ra (pgHbm k) 0x100)) 15 8 = c.toNat := by
  obtain ⟨before, after, hrange⟩ := List.append_of_mem (List.mem_range.mpr hk)
  have hnodup : (before ++ k :: after).Nodup := hrange ▸ List.nodup_range
  have hafter : k ∉ after := (List.nodup_cons.mp (List.nodup_append.mp hnodup).2.1).1
  rw [stackReadouts, hrange, List.foldl_append, List.foldl_cons]
  rw [foldl_keeps_mem (fun t => reg t (ra (pgHbm k) 0x100))]
  · rw [hc, reg_setFld_same, fld_putFld (by omega), Nat.mod_eq_of_lt c.isLt]
  · intro j hj t
    have hjk : ra (pgHbm k) 0x100 ≠ ra (pgHbm j) 0x100 := by
      have : j ≠ k := fun h => hafter (h ▸ hj)
      simp only [ra, pgHbm]
      omega
    split
    · rfl
    · exact reg_setFld_other hjk ..

/-! ## BREATH_BOUNDARY and BREATH_TICKS (R297, R429, R430, R432) -/

theorem boundaryDue_some {dt b : Nat} (temps : List (BitVec 8)) {s : State} (hs : Clocked s)
    (hdue : boundaryDue (advance dt s) = some b) :
    ∃ t, exec (.breathBoundary dt temps) s = .next t ∧ breathClock t = (s.breath.number + 1, b, periodAt s b, b) ∧
      ∀ (k : Nat) (c : BitVec 8), k < 24 → temps[k]? = some c → fld (reg t (ra (pgHbm k) 0x100)) 15 8 = c.toNat := by
  have hexec : exec (.breathBoundary dt temps) s = .next { stackReadouts temps (boundaryAt b (advance dt s)) with
      pending := s.pending } := by
    rw [exec, execBreathBoundary, act_on hs, hdue]
  refine ⟨_, hexec, ?_, fun k c hk hc => ?_⟩
  · rw [breathClock_update, breathClock_stackReadouts, breathClock_boundaryAt, advance_breath,
      periodAt_of_periodView (s := s) (by simp [periodView])]
  · exact fld_stackReadouts hk hc _

theorem exec_breathBoundary_early {dt : Nat} (temps : List (BitVec 8)) {s : State} (hs : Clocked s)
    (hdue : boundaryDue (advance dt s) = none) : exec (.breathBoundary dt temps) s = .next (advance dt s) := by
  rw [exec, execBreathBoundary, act_on hs, hdue]
  exact congrArg _ (advance_keeps_queue dt s)

theorem exec_breathTicks (dt : Nat) (ticks : Word) {s : State} (hs : HostMay 4 s) :
    exec (.breathTicks dt ticks) s = .next { breathTicksWrite ticks (advance dt s) with pending := s.pending } := by
  rw [exec, execBreathTicks, actHost_on hs]

theorem breathTicksWrite_stopped (ticks : Word) {s : State} (h : s.seq.state = .stopped) :
    breathTicksWrite ticks s =
      { setReg Reg.BREATH_TICKS (word (fld ticks 21 0)) s with breath := { s.breath with ticksAt := tick s } } := by
  simp [breathTicksWrite, isStopped, h]
  rfl

theorem breathTicksWrite_running (ticks : Word) {s : State} (h : s.seq.state ≠ .stopped) :
    breathTicksWrite ticks s = cmdInvalidPg Evt.BREATH_CMD_INVALID Reg.BREATH_TICKS ticks s := by
  simp [breathTicksWrite, isStopped, h]

/-- A command of page 4 that is refused logs BREATH_CMD_INVALID. -/
theorem raisesEvent_breathCmdInvalid (v : Word) (s : State) :
    RaisesEvent 4 Evt.BREATH_CMD_INVALID (4 + Reg.BREATH_TICKS % 0x1000 * 2 ^ 8 + v.toNat * 2 ^ 20) [] s
      (cmdInvalidPg Evt.BREATH_CMD_INVALID Reg.BREATH_TICKS v s) where
  logged := raiseFor_logged (by decide) ..
  fatal := raiseFor_fatal ..
  regs := fun _ ha _ => reg_raiseFor (by decide) ha ..
  memory := .of_eq (by simp) (by simp)

/-- Settles O15, by the breath's clock that everything after the boundary's own step leaves as that step set it, and by
the cases of a BREATH_TICKS write. -/
theorem breathBoundary : Obligations.BreathBoundary := by
  unfold Obligations.BreathBoundary
  refine ⟨?due, ?early, ?stopped, ?running⟩
  case due =>
    intro dt b temps s hs hdue
    obtain ⟨t, hexec, hclock, htemps⟩ := boundaryDue_some temps hs hdue
    simp only [breathClock, Prod.mk.injEq] at hclock
    obtain ⟨hnumber, hstart, hticks, hsample⟩ := hclock
    exact ⟨t, hexec, hnumber, hstart, hticks, hsample, htemps⟩
  case early => exact fun dt temps s hs hdue => exec_breathBoundary_early temps hs hdue
  case stopped =>
    intro dt ticks s hs hstopped
    refine ⟨_, exec_breathTicks dt ticks hs, ?_⟩
    rw [breathTicksWrite_stopped ticks (by simpa using hstopped)]
    refine ⟨reg_setReg_same .., fun a ha => ?_, by simp, .of_eq (by simp) (by simp)⟩
    exact (reg_setReg_other ha ..).trans (reg_advance ..)
  case running =>
    intro dt ticks s hs hrunning
    refine ⟨_, exec_breathTicks dt ticks hs, ?_⟩
    rw [breathTicksWrite_running ticks (by simpa using hrunning)]
    have hraises := (raisesEvent_breathCmdInvalid ticks (advance dt s)).ofAdvance (q := s.pending)
    exact ⟨by simp, hraises.logged, hraises.regs, hraises.memory⟩

end Sys2Proof.Machine

/-! The memories' commands (R301, R302). -/

namespace Sys2Proof.Machine

open Sys2Proof.Map

/-! ## A retired row beyond its stack (R301, R302) -/

theorem reg_rowCorrected {b a : Nat} (h : eventReg (pgHbm (b / 2 ^ 31)) a = false) (s : State) :
    reg (rowCorrected b s) a = reg s a := by
  have hcode : Evt.HBM_ROW_SUSPECT < 0x10000 := by decide
  unfold rowCorrected
  extract_lets st row k hour x fresh counted n lim put
  split
  · exact reg_raise hcode h ..
  · rfl

/-- A row's burst that its copy found corrected counts in the HBM_ECC_CORR_COUNT of the stack that its place names. -/
theorem reg_hbmEcc_corrected {b a : Nat} (ha : a = ra (pgHbm (b / 2 ^ 31)) 0x104)
    (h : eventReg (pgHbm (b / 2 ^ 31)) a = false) (s : State) :
    reg (hbmEcc { hbmCorr := [b] } s) a = satAdd (reg s a) 1 := by
  simp only [hbmEcc, List.foldl_cons, List.foldl_nil, reg_rowCorrected h, reg_collect]
  rw [← ha, reg_bump_same]

/-- The number that follows the last row that 2³¹ bursts of a stack hold. -/
def rowBeyond : Nat := 2 ^ 27

/-- HBM_ECC_CORR_COUNT of stack 1. -/
def nextCorrCount : Nat := ra (pgHbm 1) 0x104

/-- Stack 0 retires a row beyond its own, where stack 1 has counted no corrected burst. -/
def retiringBeyond : State :=
  setReg nextCorrCount 0 { State.reset with
    clk := { State.reset.clk with powered := true }
    mem := { State.reset.mem with retiring := [(0, rowBeyond)] } }

theorem reg_rowDone_beyond {s : State} (h : find? s.mem.retiring 0 = some rowBeyond) :
    reg (rowDone 0 [0] [] s) nextCorrCount = satAdd (reg s nextCorrCount) 1 := by
  have hcode : Evt.HBM_ROW_RETIRED < 0x10000 := by decide
  have hevent : eventReg (pgHbm 0) nextCorrCount = false := by decide
  have hcount : eventReg (pgHbm 1) nextCorrCount = false := by decide
  have hstatus : nextCorrCount ≠ ra (pgHbm 0) 0x114 := by decide
  simp only [rowDone, h, List.foldl_nil, List.map_cons, List.map_nil, reg_raise hcode hevent, reg_setReg_other hstatus,
    reg_mk, readReg_regs]
  have hstack : (0 * 2 ^ 31 + rowBeyond * 16 + 0) / 2 ^ 31 = 1 := by norm_num [rowBeyond]
  exact reg_hbmEcc_corrected (by rw [hstack, nextCorrCount]) (by rw [hstack, hcount]) s

/-- Refutes O24: the statement takes any state, also one whose row in retirement is 2²⁷ or more. Such a row's bursts are
the next stack's, so one that its copy found corrected counts in that stack's HBM_ECC_CORR_COUNT, which the statement's
frame says to stay. HBM_RETIRE starts no such retirement, for it refuses a row from 75,497,472 on. -/
theorem not_memoryCommands : ¬ Obligations.MemoryCommands := by
  unfold Obligations.MemoryCommands
  rintro ⟨-, -, -, -, hretired⟩
  have hclocked : Clocked retiringBeyond := ⟨rfl, rfl⟩
  have hrow : find? retiringBeyond.mem.retiring 0 = some rowBeyond := rfl
  obtain ⟨t, hexec, -, -, -, -, -, -, -, hregs⟩ := hretired 0 0 [0] [] retiringBeyond rowBeyond hclocked hrow
  have hkept : reg t nextCorrCount = reg retiringBeyond nextCorrCount := hregs nextCorrCount (by decide) (by decide)
  have hcounted : reg t nextCorrCount = satAdd (reg retiringBeyond nextCorrCount) 1 := by
    obtain rfl : _ = t := Host.Outcome.next.inj ((act_on hclocked ..).symm.trans hexec)
    simpa using reg_rowDone_beyond (s := advance 0 retiringBeyond) (by simpa using hrow)
  have hzero : reg retiringBeyond nextCorrCount = 0 := reg_setReg_same ..
  rw [hcounted, hzero] at hkept
  exact absurd hkept (by decide)

end Sys2Proof.Machine

/-! What arriving fabric traffic does to windows and threads (R307, R309, R310, R484, R493, R494, R501). -/

namespace Sys2Proof.Machine

open Sys2Proof.Map

/-! ## The module's place in the machine (R478) -/

section Machine

variable {s t : State} (h : reg t Reg.SHAWM_MACHINE = reg s Reg.SHAWM_MACHINE)
include h

theorem myX_of_machine : myX t = myX s := by rw [myX, regFld, h, myX, regFld]

theorem myY_of_machine : myY t = myY s := by rw [myY, regFld, h, myY, regFld]

theorem dimX_of_machine : dimX t = dimX s := by rw [dimX, h, dimX]

theorem dimY_of_machine : dimY t = dimY s := by rw [dimY, h, dimY]

theorem moduleId_of_machine : moduleId t = moduleId s := by
  rw [moduleId, myX_of_machine h, myY_of_machine h, dimX_of_machine h, moduleId]

theorem machineSize_of_machine : machineSize t = machineSize s := by
  rw [machineSize, dimX_of_machine h, dimY_of_machine h, machineSize]

theorem treePorts_of_machine : treePorts t = treePorts s := by
  simp only [treePorts, myX_of_machine h, myY_of_machine h, dimX_of_machine h, dimY_of_machine h]

end Machine

/-! ## Accepted frames (R486) -/

section Accept

variable (p n : Nat) (s : State)

theorem quiet_accept : quiet (accept p n s) = quiet s := by
  have hport (q : Nat) (x : ShawmPort) (u : State) : quiet (setPort q x u) = quiet u := rfl
  have hemit (o : Output) (u : State) : quiet (emit o u) = quiet u := rfl
  simp only [accept, sendAck]
  split
  · rw [hemit, hport, quiet_bump64, hport]
  · rw [quiet_bump64, hport]

theorem machine_accept : reg (accept p n s) Reg.SHAWM_MACHINE = reg s Reg.SHAWM_MACHINE := by
  have hcount (k : Nat) : Reg.SHAWM_MACHINE ≠ shawmReg p 0x124 + k := by
    simp only [Reg.SHAWM_MACHINE, shawmReg, ra, pgShawm]
    omega
  exact reg_accept (hcount 0) (hcount 4) n s

theorem receive_up {p : Nat} {s : State} (h : (portOf s p).up = true) (n : Nat) (f : State → State) :
    receive p n f s = f (accept p n s) := if_pos h

end Accept

/-! ## Words that land in a window (R307, R309) -/

/-- From `s` to `t` words were stored from a place of a die's scratchpad on, as far as it reaches, and nothing else of
the scratchpads or HBM changed. -/
structure LandsWords (d a : Nat) (ws : List SWord) (s t : State) : Prop where
  stored : ∀ k < ws.length, a + k < spadWords d → spadAt t d (a + k) = ws.getD k {}
  others : ∀ e w, (e ≠ d ∨ w < a ∨ a + ws.length ≤ w) → spadAt t e w = spadAt s e w
  hbm : t.mem.hbm = s.mem.hbm
  poison : t.mem.hbmPoison = s.mem.hbmPoison

section Lands

variable {d a w src die thread off : Nat} {data : List Bytes} {fl : Flight} {s s' t t' : State}

/-- A word of a run that lies in the scratchpad reads as it was put, whether the run fits or not. -/
theorem spadAt_spadPuts_within (d : Nat) (xs : List SWord) : ∀ (w k : Nat) (s : State), k < xs.length →
    w + k < spadWords d → spadAt (spadPuts d w xs s) d (w + k) = xs.getD k {} := by
  induction xs with
  | nil => exact fun w k s hk _ => absurd hk (Nat.not_lt_zero k)
  | cons x xs ih =>
    intro w k s hk hfit
    cases k with
    | zero =>
      rw [spadPuts, spadAt_spadPuts_other _ _ _ _ _ _ (by omega)]
      exact spadAt_spadPut_same hfit x s
    | succ k =>
      have hrest := ih (w + 1) k (spadPut d w x s) (by simpa using hk) (by omega)
      rwa [spadPuts, ← Nat.add_assoc, Nat.add_right_comm, List.getD_cons_succ]

theorem landsWords_spadPuts (d a : Nat) (ws : List SWord) (s : State) : LandsWords d a ws s (spadPuts d a ws s) where
  stored k hk hfit := spadAt_spadPuts_within d ws a k s hk hfit
  others e w h := spadAt_spadPuts_other d e w ws a s h
  hbm := (congrArg Mem.hbm (spadPuts_mem d ws a s) :)
  poison := (congrArg Mem.hbmPoison (spadPuts_mem d ws a s) :)

/-- The scratchpads and HBM decide. -/
theorem LandsWords.congr {ws : List SWord} (h : LandsWords d a ws s t) (hs : memories s' = memories s)
    (ht : memories t' = memories t) : LandsWords d a ws s' t' := by
  simp only [memories, Prod.mk.injEq] at hs ht
  obtain ⟨hspad, hhbm, hpoison, -⟩ := hs
  obtain ⟨hspad', hhbm', hpoison', -⟩ := ht
  constructor
  case stored => simpa only [spadAt, spadWord, hspad'] using h.stored
  case others => simpa only [spadAt, spadWord, hspad, hspad'] using h.others
  case hbm => rw [hhbm', hhbm, h.hbm]
  case poison => rw [hpoison', hpoison, h.poison]

theorem winOf_setWin (w : Nat) (x : Win) (s : State) : winOf (setWin w x s) w = x := mget_mset_same ..

theorem winOf_of_quiet (h : quiet t = quiet s) (w : Nat) : winOf t w = winOf s w := by
  rw [winOf, mem_of_quiet h, winOf]

/-- A frame of an admitted write stores its packets' words at the write's base and its own offset. -/
theorem landsWords_winLand {j : Nat} (howner : winOwner w = some (d, j))
    (hflight : (winOf s w).flight.find? (isFlight src die thread) = some fl) :
    LandsWords d (fl.base + off) (data.flatMap packetWords) s (winLand w src die thread off data s) := by
  simp only [winLand, howner, hflight]
  exact (landsWords_spadPuts d _ _ (reportBreaks d _ true s)).congr (memories_reportBreaks ..).symm (memories_setWin ..)

/-- The write that a first frame opens (R308, R309). -/
def openedFlight (x : Win) (src die thread packets : Nat) : Flight :=
  { src := src, die := die, thread := thread, base := x.base, arrive := x.arrive, ring := x.ring, packets := packets }

theorem winAdmit_opened {j packets hub : Nat} (howner : winOwner w = some (d, j))
    (hopened : (winOf s w).state = .opened)
    (hmask : (winOf s w).mask.getLsbD src = true) (hfits : off + 9 * packets ≤ (winOf s w).len) :
    winAdmit w src die thread off packets hub s = (0, setWin w { winOf s w with
      flight := (winOf s w).flight ++ [openedFlight (winOf s w) src die thread packets] } s) := by
  have hlen : ¬ (winOf s w).len < off + 9 * packets := Nat.not_lt.mpr hfits
  simp [winAdmit, howner, hopened, hmask, hlen, openedFlight]

theorem find_openedFlight {l : List Flight} (h : l.find? (isFlight src die thread) = none) (x : Win) (packets : Nat) :
    (l ++ [openedFlight x src die thread packets]).find? (isFlight src die thread) =
      some (openedFlight x src die thread packets) := by
  rw [List.find?_append, h]
  simp [isFlight, openedFlight]

/-- The first frame of a write stores its words at the window's base. -/
theorem landsWords_opened {j : Nat} (howner : winOwner w = some (d, j))
    (hnone : (winOf s w).flight.find? (isFlight src die thread) = none) (packets : Nat) :
    LandsWords d ((winOf s w).base + off) (data.flatMap packetWords) s (winLand w src die thread off data
      (setWin w { winOf s w with
        flight := (winOf s w).flight ++ [openedFlight (winOf s w) src die thread packets] } s)) := by
  refine (landsWords_winLand (fl := openedFlight (winOf s w) src die thread packets) howner ?_).congr
    (memories_setWin ..).symm rfl
  rw [winOf_setWin]
  exact find_openedFlight hnone ..

/-- A TENSOR frame of an admitted write, or of one that its first frame opens, stores its packets' words. -/
theorem landsWords_tensorLands {f : WriteFrame} {j base : Nat} (howner : winOwner f.window.toNat = some (d, j))
    (hbase : let x := winOf s f.window.toNat
      if f.first then x.flight.find? (isFlight f.src.toNat f.die.toNat f.thread.toNat) = none ∧ x.state = .opened ∧
          x.mask.getLsbD f.src.toNat = true ∧ f.offset.toNat + 9 * f.length.toNat ≤ x.len ∧ base = x.base
        else (x.flight.find? (isFlight f.src.toNat f.die.toNat f.thread.toNat)).map (·.base) = some base) :
    LandsWords d (base + f.offset.toNat) (f.data.flatMap packetWords) s (tensorLands f s) := by
  cases hfirst : f.first with
  | true =>
    simp only [hfirst, if_true] at hbase
    obtain ⟨hnone, hopened, hmask, hfits, rfl⟩ := hbase
    simp only [tensorLands, hfirst, if_true, winAdmit_opened howner hopened hmask hfits]
    exact landsWords_opened howner hnone f.length.toNat
  | false =>
    simp only [hfirst, Bool.false_eq_true, if_false, Option.map_eq_some_iff] at hbase
    obtain ⟨fl, hflight, rfl⟩ := hbase
    simp only [tensorLands, hfirst, Bool.false_eq_true, if_false]
    exact landsWords_winLand howner hflight

theorem landsWords_tensorArrives {f : WriteFrame} {base : Nat} {ws : List SWord}
    (hhere : f.dst.toNat = moduleId s) (hmachine : moduleId s < machineSize s)
    (h : LandsWords d base ws s (tensorLands f s)) : LandsWords d base ws s (tensorArrives f s) := by
  rwa [tensorArrives, hhere, if_neg (Nat.not_le.mpr hmachine), if_pos rfl]

end Lands

theorem exec_tensorFrame (dt : Nat) {f : WriteFrame} {s : State} (hs : Clocked s) (hformed : f.wellFormed = true) :
    exec (.tensorFrame dt f) s = .next { receive f.port f.data.length (tensorArrives f) (fenced (advance dt s)) with
      pending := s.pending } := by
  have hshape : f.data.length ≤ 8 ∧ f.data.all (fun p => p.isEmpty || p.length == 72) = true := by
    simpa [WriteFrame.wellFormed] using hformed
  have hexec : exec (.tensorFrame dt f) s = execTensorFrame dt f s := rfl
  rw [hexec, execTensorFrame, if_pos hshape, act_on hs, afterFences]

/-! ## Windows and tags when a write has landed (R309, R310) -/

/-- The windows and the completion tags. -/
def landView (s : State) : SMap Win × SMap Tag := (s.mem.wins, s.seq.tags)

section Landed

variable {d w src die th : Nat} {fl : Flight} {s t : State}

theorem landView_of_quiet (h : quiet t = quiet s) : landView t = landView s := (congrArg landView h :)

theorem landView_ringPublish (d r : Nat) (s : State) : landView (ringPublish d r s) = landView s := by
  have hring (x : Ring) : landView (setRing d r x s) = landView s := rfl
  have herror (u : State) : landView (ringError d r 1 true u) = landView u :=
    landView_of_quiet ((quiet_collect ..).trans (quiet_bump ..))
  simp only [ringPublish]
  repeat' split
  · rfl
  · rw [herror, hring]
  · exact hring _

theorem landView_endThread (die th st side : Nat)
    (s : State) : landView (endThread die th st side s) = landView s := by
  simp only [endThread]
  split <;> rfl

theorem landView_sendReply (src die th st : Nat) (s : State) : landView (sendReply src die th st s) = landView s := by
  simp only [landView, sendReply, sendTo_mem, sendTo_seq]

/-- The window without the write that has landed (R309). -/
def landedWin (x : Win) (fl : Flight) : Win :=
  { x with
    flight := x.flight.erase fl
    state := if x.state = .closing ∧ (x.flight.erase fl).isEmpty = true then .closed else x.state }

/-- The completion tags when a write has landed: its ARRIVE tag, if it has one, has advanced. -/
def arrivedTags (fl : Flight) (tags : SMap Tag) : SMap Tag :=
  match fl.arrive with
  | none => tags
  | some k => mset {} tags k { mget {} tags k with count := (mget {} tags k).count + 1 }

/-- The state with a landed write's ARRIVE tag advanced. -/
def arrived (fl : Flight) (s : State) : State :=
  match fl.arrive with
  | none => s
  | some k => tagAdvance k s

theorem landView_arrived (fl : Flight)
    (s : State) : landView (arrived fl s) = (s.mem.wins, arrivedTags fl s.seq.tags) := by
  unfold arrived arrivedTags
  cases fl.arrive <;> rfl

theorem landView_winLanded {j : Nat} (howner : winOwner w = some (d, j)) (fl : Flight) (s : State) :
    landView (winLanded w fl s) = (mset {} s.mem.wins w (landedWin (winOf s w) fl), arrivedTags fl s.seq.tags) := by
  have harrived : landView (arrived fl (bump (winReg d 0x110) 1 (setWin w (landedWin (winOf s w) fl) s))) =
      (mset {} s.mem.wins w (landedWin (winOf s w) fl), arrivedTags fl s.seq.tags) := landView_arrived ..
  simp only [winLanded, howner]
  split
  · exact harrived
  · exact (landView_ringPublish ..).trans harrived

theorem landView_writeLanded {j : Nat} (howner : winOwner w = some (d, j))
    (hflight : (winOf s w).flight.find? (isFlight src die th) = some fl) (hcome : fl.packets ≤ fl.got) :
    landView (writeLanded w src die th s) =
      (mset {} s.mem.wins w (landedWin (winOf s w) fl), arrivedTags fl s.seq.tags) := by
  rw [← landView_winLanded howner fl s]
  simp only [writeLanded, hflight, if_neg (Nat.not_lt.mpr hcome)]
  split
  · exact landView_endThread ..
  · exact landView_sendReply ..

end Landed

theorem exec_windowWriteLanded (dt : Nat) (window : BitVec 12) (src : BitVec 6) (die : BitVec 5) (thread : BitVec 10)
    {s : State} (hs : Clocked s) : exec (.windowWriteLanded dt window src die thread) s = .next
      { writeLanded window.toNat src.toNat die.toNat thread.toNat (advance dt s) with pending := s.pending } := by
  have hexec : exec (.windowWriteLanded dt window src die thread) s =
    execWindowWriteLanded dt window src die thread s := rfl
  rw [hexec, execWindowWriteLanded, act_on hs]

/-! ## Threads that wait for a reply (R310) -/

/-- What a reply's arrival reads beside its thread, and leaves alone before the thread completes. -/
def replyView (s : State) : Mem × SMap Tag × Hostif := (s.mem, s.seq.tags, s.host)

section Reply

variable {die th st side : Nat} {x : Xfer} {s t u : State}

theorem replyView_of_quiet (h : quiet t = quiet s) : replyView t = replyView s := (congrArg replyView h :)

theorem replyView_advance (dt : Nat) (s : State) : replyView (advance dt s) = replyView s := by
  simp only [replyView, advance_mem, advance_seq, advance_host]

/-- A thread that completes at a reply's arrival or for want of one. -/
theorem completes_completeNow (hview : replyView u = replyView s) (hthread : threadOf s die th = some x)
    (st side : Nat) :
    threadOf (completeNow die th st side u) die th = none ∧
      tagOf (completeNow die th st side u) (dTag x.desc.bytes) =
        completedTag (tagOf s (dTag x.desc.bytes)) st (stepErrorStatus st) ∧
      SameMemory s (completeNow die th st side u) := by
  simp only [replyView, Prod.mk.injEq] at hview
  obtain ⟨hmem, htags, hhost⟩ := hview
  have hfound : threadOf u die th = some x := by rw [threadOf, hmem]; exact hthread
  have htag (k : Nat) : tagOf u k = tagOf s k := by rw [tagOf, htags, tagOf]
  have hdone := completes_publish die th { x with status := st, side := side } u
  simp only [completeNow, hfound]
  exact ⟨hdone.freed, htag _ ▸ hdone.tag, .trans (.of_eq hmem (by rw [hhost])) hdone.memory⟩

theorem count_completedTag (y : Tag) (st : Nat) (failed : Bool) : (completedTag y st failed).count = y.count + 1 := by
  cases failed <;> rfl

/-- The state in which a thread completes at a reply's arrival: status 3 says that the window was closed there. -/
def replyArrived (die : Nat) (x : Xfer) (st : Nat) (s : State) : State :=
  if st = 3 then
    senderClosed die x.dst (match placeOf die (dDst x.desc.bytes) with | some (.window _ w _) => w | _ => 0)
      (1 + (takeFree s).1 % 2) (takeFree s).2
  else s

theorem replyView_replyArrived (die : Nat) (x : Xfer) (st : Nat) (s : State) :
    replyView (replyArrived die x st s) = replyView s := by
  have hfree : replyView (takeFree s).2 = replyView s := rfl
  simp only [replyArrived]
  split
  · exact (replyView_of_quiet (quiet_raise ..)).trans hfree
  · rfl

theorem replyArrives_waiting {p : Nat} (hthread : threadOf s die th = some x) (hwaits : x.phase = .waitReply)
    (hst : st < 7) : replyArrives p die th st s =
      completeNow die th st (if st = 2 then 1 else 0) (replyArrived die x st s) := by
  simp only [replyArrives, if_neg (Nat.not_le.mpr hst), hthread, hwaits, ne_eq, not_true_eq_false, if_false]
  rfl

theorem replyLate_waiting (hthread : threadOf s die th = some x) (hwaits : x.phase = .waitReply)
    (hlate : x.sentAt + replyTimeout s ≤ tick s) : ∃ p detail, replyLate die th s =
      completeNow die th 6 0 (raise (pgShawm p) Evt.SHAWM_REPLY_TIMEOUT detail s) := by
  have hdue : ¬ (x.phase ≠ .waitReply ∨ tick s < x.sentAt + replyTimeout s) := by
    simp [hwaits, hlate]
  simp only [replyLate, hthread, if_neg hdue]
  exact ⟨_, _, rfl⟩

end Reply

/-! ## Broadcasts down the tree (R493, R501) -/

/-- The frames that a port has sent and not seen acknowledged, or has yet to send. -/
def heldFrames (x : ShawmPort) : List Frame := (x.unacked ++ x.waiting).map (·.frame)

/-- From `s` to `t` the ports kept what they received and what they hold, and may hold more. -/
structure HoldsMore (s t : State) : Prop where
  rxSeq : ∀ p, (portOf t p).rxSeq = (portOf s p).rxSeq
  up : ∀ p, (portOf t p).up = (portOf s p).up
  held : ∀ p, ∀ f ∈ heldFrames (portOf s p), f ∈ heldFrames (portOf t p)

section Broadcast

variable {p q : Nat} {s t u : State}

theorem portOf_setPort (p : Nat) (x : ShawmPort) (s : State) : portOf (setPort p x s) p = x := mget_mset_same ..

theorem portOf_setPort_other (h : q ≠ p) (x : ShawmPort) (s : State) : portOf (setPort p x s) q = portOf s q :=
  mget_mset_other _ _ _ h

theorem HoldsMore.refl (s : State) : HoldsMore s s := ⟨fun _ => rfl, fun _ => rfl, fun _ _ h => h⟩

theorem HoldsMore.trans (h : HoldsMore s t) (h' : HoldsMore t u) : HoldsMore s u :=
  ⟨fun p => (h'.rxSeq p).trans (h.rxSeq p), fun p => (h'.up p).trans (h.up p),
    fun p f hf => h'.held p f (h.held p f hf)⟩

theorem portOf_setPort_ite (p q : Nat) (x : ShawmPort) (s : State) :
    portOf (setPort p x s) q = if q = p then x else portOf s q := by
  split
  case isTrue h => rw [h, portOf_setPort]
  case isFalse h => exact portOf_setPort_other h ..

theorem up_setPort {x : ShawmPort} (h : x.up = (portOf s p).up) (q : Nat) :
    (portOf (setPort p x s) q).up = (portOf s q).up := by
  rw [portOf_setPort_ite]
  split <;> simp [*]

theorem HoldsMore.of_setPort {x : ShawmPort} (hrx : x.rxSeq = (portOf s p).rxSeq) (hup : x.up = (portOf s p).up)
    (hheld : ∀ f ∈ heldFrames (portOf s p), f ∈ heldFrames x) : HoldsMore s (setPort p x s) where
  rxSeq q := by
    rw [portOf_setPort_ite]
    split <;> simp [*]
  up := up_setPort hup
  held q f hf := by
    rw [portOf_setPort_ite]
    split
    case isTrue h => exact hheld f (h ▸ hf)
    case isFalse => exact hf

theorem portOf_of_fabric (h : t.fabric = s.fabric) (p : Nat) : portOf t p = portOf s p := by rw [portOf, h, portOf]

theorem HoldsMore.of_fabric (h : HoldsMore s t) (hfabric : u.fabric = t.fabric) : HoldsMore s u := by
  obtain ⟨hrx, hup, hheld⟩ := h
  constructor <;> simpa only [portOf_of_fabric hfabric]

/-- A port that has sent a frame (R487). -/
def sentPort (x : ShawmPort) (f : LinkFrame) (now : Nat) : ShawmPort :=
  { x with
    txSeq := x.txSeq + 1
    unacked := x.unacked ++ [f]
    oldestAt := if x.unacked.isEmpty then now else x.oldestAt
    lastTensor := if frameType f.frame < 2 then frameType f.frame == 0 else x.lastTensor
    lastFwd := (if f.recv.isSome then [frameType f.frame] else []) ++ x.lastFwd.filter (· != frameType f.frame) }

theorem fabric_transmit (p : Nat) (f : LinkFrame) (s : State) :
    (transmit p f s).fabric = (setPort p (sentPort (portOf s p) f s.clk.now) s).fabric := by
  simp only [transmit, bump64_fabric, emit_fabric]
  rfl

/-- A port that is up takes a frame as one sent, to be acknowledged, or as one that waits (R487). -/
theorem sendLink_up (hup : (portOf s p).up = true) (f : LinkFrame) : ∃ x : ShawmPort,
    (sendLink p f s).fabric = (setPort p x s).fabric ∧ x.rxSeq = (portOf s p).rxSeq ∧ x.up = (portOf s p).up ∧
      ∀ g, g ∈ heldFrames x ↔ g ∈ heldFrames (portOf s p) ∨ g = f.frame := by
  have hsends : ¬ (!(portOf s p).up) = true := by simp [hup]
  simp only [sendLink, if_neg hsends]
  split
  · refine ⟨_, fabric_transmit .., rfl, rfl, fun g => ?_⟩
    simp only [heldFrames, sentPort, List.map_append, List.mem_append, List.map_cons, List.map_nil, List.mem_singleton]
    tauto
  · refine ⟨_, rfl, rfl, rfl, fun g => ?_⟩
    simp only [heldFrames, List.map_append, List.mem_append, List.map_cons, List.map_nil, List.mem_singleton]
    tauto

theorem holdsMore_sendLink (p : Nat) (f : LinkFrame) (s : State) : HoldsMore s (sendLink p f s) ∧
    ((portOf s p).up = true → f.frame ∈ heldFrames (portOf (sendLink p f s) p)) := by
  cases hup : (portOf s p).up with
  | false =>
    have hdown : sendLink p f s = s := by simp [sendLink, hup]
    rw [hdown]
    exact ⟨.refl s, fun h => absurd h (by decide)⟩
  | true =>
    obtain ⟨x, hfabric, hrx, hsame, hheld⟩ := sendLink_up hup f
    refine ⟨(HoldsMore.of_setPort hrx hsame fun g hg => (hheld g).mpr (.inl hg)).of_fabric hfabric, fun _ => ?_⟩
    rw [portOf_of_fabric hfabric, portOf_setPort]
    exact (hheld f.frame).mpr (.inr rfl)

/-- Each port of a list that is up takes a frame sent on to the list's ports. -/
theorem holdsMore_sendOn (q : Nat) (f g : Frame) (ports : List Nat) : ∀ s : State,
    HoldsMore s (ports.foldl (fun s p => sendOn q p f g s) s) ∧ ∀ p ∈ ports, (portOf s p).up = true →
      g ∈ heldFrames (portOf (ports.foldl (fun s p => sendOn q p f g s) s) p) := by
  induction ports with
  | nil => exact fun s => ⟨.refl s, fun p hp => absurd hp List.not_mem_nil⟩
  | cons p ports ih =>
    intro s
    obtain ⟨hfirst, hsent⟩ := holdsMore_sendLink p { frame := g, recv := some (((portOf s q).rxSeq - 1).toNat, f) } s
    obtain ⟨hrest, hothers⟩ := ih (sendOn q p f g s)
    refine ⟨hfirst.trans hrest, fun r hr hup => ?_⟩
    rcases List.mem_cons.mp hr with rfl | hr
    · exact hrest.held r g (hsent hup)
    · exact hothers r hr ((hfirst.up r).trans hup)

/-- A port that has accepted a frame (R486). -/
def acceptedPort (x : ShawmPort) : ShawmPort :=
  { x with rxSeq := x.rxSeq + 1, nakSent := false, sinceAck := x.sinceAck + 1 }

theorem holdsMore_sendAck (p : Nat) (s : State) : HoldsMore s (sendAck p s) :=
  (HoldsMore.of_setPort (x := { portOf s p with sinceAck := 0, ackAt := s.clk.now }) rfl rfl fun _ h => h).of_fabric
    (emit_fabric ..)

/-- What acknowledgements leave is the port that has accepted the frame. -/
theorem holdsMore_accept (p n : Nat) (s : State) :
    HoldsMore (setPort p (acceptedPort (portOf s p)) s) (accept p n s) := by
  have hcount : HoldsMore (setPort p (acceptedPort (portOf s p)) s)
      (bump64 (shawmReg p 0x124) (72 * n) (setPort p (acceptedPort (portOf s p)) s)) :=
    (HoldsMore.refl _).of_fabric (bump64_fabric ..)
  simp only [accept]
  split
  · exact hcount.trans (holdsMore_sendAck ..)
  · exact hcount

theorem rxSeq_accept (p n : Nat) (s : State) : (portOf (accept p n s) p).rxSeq = (portOf s p).rxSeq + 1 := by
  rw [(holdsMore_accept p n s).rxSeq, portOf_setPort]
  rfl

theorem up_accept (p n q : Nat) (s : State) : (portOf (accept p n s) q).up = (portOf s q).up :=
  ((holdsMore_accept p n s).up q).trans (up_setPort (x := acceptedPort (portOf s p)) rfl q)

end Broadcast

/-! ## The obligation -/

theorem sameMemory_of_memories {s t : State} (h : memories t = memories s) : SameMemory s t := by
  simp only [memories, Prod.mk.injEq] at h
  obtain ⟨hspad, hhbm, hpoison, hbar2⟩ := h
  simp only [SameMemory, spadWord, hbmByte, burstPoison, hspad, hhbm, hpoison, hbar2, implies_true, and_self]

theorem exec_xferReply (dt : Nat) {port : Port} (die : BitVec 5) (thread : BitVec 10) (status : BitVec 3) {s : State}
    (hs : Clocked s) (hup : (portOf s port).up = true) : exec (.xferReply dt port die thread status) s = .next
      { replyArrives port die.toNat thread.toNat status.toNat (accept port 0 (advance dt s)) with
        pending := s.pending } := by
  have hexec : exec (.xferReply dt port die thread status) s = execXferReply dt port die thread status s := rfl
  have hlive : (portOf (advance dt s) port).up = true := by rwa [portOf_of_fabric (advance_fabric dt s)]
  rw [hexec, execXferReply, act_on hs, receive_up hlive]

theorem exec_shawmReplyTimeout (dt : Nat) (die : Die) (thread : BitVec 10) {s : State} (hs : Clocked s) :
    exec (.shawmReplyTimeout dt die thread) s =
      .next { replyLate die thread.toNat (advance dt s) with pending := s.pending } := by
  have hexec : exec (.shawmReplyTimeout dt die thread) s = execShawmReplyTimeout dt die thread s := rfl
  rw [hexec, execShawmReplyTimeout, act_on hs]

/-- The state in which a broadcast of the lead that a port accepted has been sent on down the tree (R493, R501). -/
def sentOn (port : Nat) (ps : List Bytes) (s : State) : State :=
  (treePorts s).foldl (fun u p => sendOn port p (.broadcast ps) (.broadcast ps) u) (accept port ps.length s)

theorem exec_broadcastFrame (dt : Nat) {port : Port} {ps : List Bytes} {s : State} (hs : Clocked s)
    (hlen : ps.length ≤ 8)
    (hup : (portOf s port).up = true) : exec (.broadcastFrame dt port 0 ps) s =
      .next { sentOn port ps (advance dt s) with pending := s.pending } := by
  have hexec : exec (.broadcastFrame dt port 0 ps) s = execBroadcastFrame dt port 0 ps s := rfl
  have hlive : (portOf (advance dt s) port).up = true := by rwa [portOf_of_fabric (advance_fabric dt s)]
  rw [hexec, execBroadcastFrame, if_pos hlen, act_on hs, receive_up hlive]
  simp only [ne_eq, not_true_eq_false, if_false,
    treePorts_of_machine (machine_accept port ps.length (advance dt s)), sentOn]

theorem sentOn_holds (port : Nat) (ps : List Bytes) (s : State) :
    (portOf (sentOn port ps s) port).rxSeq = (portOf s port).rxSeq + 1 ∧
      ∀ p ∈ treePorts s, (portOf s p).up = true → Frame.broadcast ps ∈ heldFrames (portOf (sentOn port ps s) p) := by
  obtain ⟨hmore, hsent⟩ := holdsMore_sendOn port (.broadcast ps) (.broadcast ps) (treePorts s) (accept port ps.length s)
  exact ⟨(hmore.rxSeq port).trans (rxSeq_accept ..), fun p hp hup => hsent p hp ((up_accept ..).trans hup)⟩

theorem memories_sentOn (port : Nat) (ps : List Bytes) (s : State) : memories (sentOn port ps s) = memories s := by
  simp [sentOn]

/-- Settles O14, by what the scratchpads hold once a frame's words have landed, by the windows and tags that a landed
write leaves, by the completion of a thread at its reply, and by the frames that the tree's ports hold. -/
theorem windowFrames : Obligations.WindowFrames := by
  unfold Obligations.WindowFrames
  refine ⟨?tensor, ?landed, ?reply, ?late, ?broadcast⟩
  case tensor =>
    intro dt f s d j base hs hformed u hup hhere hmachine howner x hbase
    have hplace := machine_accept f.port f.data.length u
    have hwin := winOf_of_quiet (quiet_accept f.port f.data.length u) f.window.toNat
    have hlands : LandsWords d (base + f.offset.toNat) (f.data.flatMap packetWords) (accept f.port f.data.length u)
        (tensorArrives f (accept f.port f.data.length u)) := by
      refine landsWords_tensorArrives (by rwa [moduleId_of_machine hplace])
        (by rwa [moduleId_of_machine hplace, machineSize_of_machine hplace])
        (landsWords_tensorLands howner ?_)
      rwa [hwin]
    have hlanded := hlands.congr (memories_accept ..).symm rfl
    refine ⟨_, exec_tensorFrame dt hs hformed, ?_⟩
    rw [receive_up hup]
    exact ⟨hlanded.stored, hlanded.others, hlanded.hbm, hlanded.poison⟩
  case landed =>
    intro dt window src die thread s d j fl hs howner hflight hcome
    have hwin : winOf (advance dt s) window.toNat = winOf s window.toNat := by rw [winOf, advance_mem, winOf]
    have hview := landView_writeLanded (s := advance dt s) howner (by rwa [hwin]) hcome
    simp only [landView, Prod.mk.injEq, hwin, advance_mem, advance_seq] at hview
    obtain ⟨hwins, htags⟩ := hview
    refine ⟨_, exec_windowWriteLanded dt window src die thread hs, ?_, fun k hk => ?_, ?_⟩
    · exact congrArg Win.flight ((congrArg (mget {} · window.toNat) hwins).trans (mget_mset_same ..))
    · have htag : tagOf (writeLanded window.toNat src.toNat die.toNat thread.toNat (advance dt s)) k =
          { tagOf s k with count := (tagOf s k).count + 1 } := by
        rw [tagOf, htags, arrivedTags, hk]
        exact mget_mset_same ..
      exact congrArg Tag.count htag
    · exact sameMemory_of_memories (by simp)
  case reply =>
    intro dt port die thread status s x hs hup hthread hwaits hstatus
    have haccepted := quiet_accept port 0 (advance dt s)
    have hfound : threadOf (accept port 0 (advance dt s)) die.toNat thread.toNat = some x := by
      rw [threadOf, mem_of_quiet haccepted, advance_mem]
      exact hthread
    have hview : replyView (replyArrived die.toNat x status.toNat (accept port 0 (advance dt s))) = replyView s :=
      (replyView_replyArrived ..).trans ((replyView_of_quiet haccepted).trans (replyView_advance dt s))
    obtain ⟨hfreed, htag, hmemory⟩ := completes_completeNow hview hthread status.toNat
      (if status.toNat = 2 then 1 else 0)
    rw [← replyArrives_waiting (p := port) hfound hwaits hstatus] at hfreed htag hmemory
    exact ⟨_, exec_xferReply dt die thread status hs hup, hfreed,
      (congrArg Tag.count htag).trans (count_completedTag ..), hmemory⟩
  case late =>
    intro dt die thread s x hs hthread hwaits hlate
    have hfound : threadOf (advance dt s) die.val thread.toNat = some x := by rwa [threadOf, advance_mem]
    have htimeout : replyTimeout (advance dt s) = replyTimeout s := by rw [replyTimeout, reg_advance, replyTimeout]
    obtain ⟨p, detail, hreply⟩ := replyLate_waiting hfound hwaits (htimeout ▸ hlate)
    have hview : replyView (raise (pgShawm p) Evt.SHAWM_REPLY_TIMEOUT detail (advance dt s)) = replyView s :=
      (replyView_of_quiet (quiet_raise ..)).trans (replyView_advance dt s)
    obtain ⟨hfreed, htag, hmemory⟩ := completes_completeNow hview hthread 6 0
    rw [← hreply] at hfreed htag hmemory
    exact ⟨_, exec_shawmReplyTimeout dt die thread hs, hfreed, (congrArg Tag.count htag :), (congrArg Tag.err htag :),
      (congrArg Tag.last htag :), hmemory⟩
  case broadcast =>
    intro dt port ps s hs hlen hup
    obtain ⟨hrx, hheld⟩ := sentOn_holds port ps (advance dt s)
    have hports (p : Nat) : portOf (advance dt s) p = portOf s p := portOf_of_fabric (advance_fabric dt s) p
    have htree : treePorts (advance dt s) = treePorts s := treePorts_of_machine (reg_advance ..)
    refine ⟨_, exec_broadcastFrame dt hs hlen hup, ?_, fun p hp hlive => ?_, ?_⟩
    · exact hrx.trans (congrArg (·.rxSeq + 1) (hports port))
    · exact hheld p (by rwa [htree]) (by rwa [hports])
    · exact sameMemory_of_memories (by simp [memories_sentOn])

end Sys2Proof.Machine

/-! The clocks of the key-value cache: page CRCs and the ages of shared pages' table entries (R325, R342, R349, R354). -/

namespace Sys2Proof.Machine

open Sys2Proof.Map

/-! ## Numbers and their bytes (R6) -/

/-- A number that fits in its bytes reads back from them. -/
theorem ofBytes_toBytes {n v : Nat} (h : v < 256 ^ n) : ofBytes (toBytes n v) = v := by
  induction n generalizing v with
  | zero => exact (Nat.lt_one_iff.mp h).symm
  | succ n ih =>
    rw [toBytes, ofBytes, ih (Nat.div_lt_of_lt_mul (by rwa [pow_succ'] at h)), BitVec.toNat_ofNat]
    exact Nat.mod_add_div v 256

/-! ## Stretches of HBM -/

section Stretches

variable {s t : State} {a b n : Nat} {bs : Bytes}

theorem hbmRead_congr (h : ∀ x, a ≤ x → x < a + n → hbmByte t x = hbmByte s x) : hbmRead t a n = hbmRead s a n :=
  List.map_congr_left fun i hi => h _ (by omega) (by simpa using hi)

theorem hbmRead_hbmWrite (h : bs.length = n) (a : Nat) (s : State) : hbmRead (hbmWrite a bs s) a n = bs := by
  refine List.ext_getElem (by simp [hbmRead, h]) fun i _ hi => ?_
  simp only [hbmRead, List.getElem_map, List.getElem_range]
  exact hbmByte_hbmWrite bs a i s hi

theorem hbmRead_hbmWrite_other (h : a + n ≤ b ∨ b + bs.length ≤ a) (s : State) :
    hbmRead (hbmWrite b bs s) a n = hbmRead s a n :=
  hbmRead_congr fun _ _ _ => hbmByte_hbmWrite_other _ _ _ (by omega)

/-- A field of a structure in HBM is the number its bytes there make. -/
theorem byteField_hbmRead {i j : Nat} (h : j < n) :
    byteField (hbmRead s a n) i j = ofBytes (hbmRead s (a + i) (j + 1 - i)) := by
  rw [byteField]
  congr 1
  refine List.ext_getElem (by simp [hbmRead]; omega) fun k _ _ => ?_
  simp [hbmRead, Nat.add_assoc]

theorem byteAt_hbmRead {i : Nat} (h : i < n) : byteAt (hbmRead s a n) i = (hbmByte s (a + i)).toNat := by
  simp [byteAt, hbmRead, h]

/-- From `s` to `t` only HBM changed, and there only bytes from `lo` up to `hi`. -/
structure HbmWithin (lo hi : Nat) (s t : State) : Prop where
  only : ∃ hbm, t = { s with mem := { s.mem with hbm := hbm } }
  outside : ∀ x, x < lo ∨ hi ≤ x → hbmByte t x = hbmByte s x

namespace HbmWithin

variable {lo hi : Nat} {u : State}

theorem refl (lo hi : Nat) (s : State) : HbmWithin lo hi s s := ⟨⟨s.mem.hbm, rfl⟩, fun _ _ => rfl⟩

theorem trans (h : HbmWithin lo hi s t) (h' : HbmWithin lo hi t u) : HbmWithin lo hi s u := by
  obtain ⟨⟨m, rfl⟩, hout⟩ := h
  obtain ⟨⟨m', rfl⟩, hout'⟩ := h'
  exact ⟨⟨m', rfl⟩, fun x hx => (hout' x hx).trans (hout x hx)⟩

theorem write (hlo : lo ≤ a) (hhi : a + bs.length ≤ hi) (s : State) : HbmWithin lo hi s (hbmWrite a bs s) :=
  ⟨hbmWrite_only bs a s, fun _ hx => hbmByte_hbmWrite_other bs a s (by omega)⟩

theorem regs (h : HbmWithin lo hi s t) : t.regs = s.regs := by
  obtain ⟨⟨m, rfl⟩, -⟩ := h
  rfl

theorem kv (h : HbmWithin lo hi s t) : t.kv = s.kv := by
  obtain ⟨⟨m, rfl⟩, -⟩ := h
  rfl

theorem spad (h : HbmWithin lo hi s t) : t.mem.spad = s.mem.spad := by
  obtain ⟨⟨m, rfl⟩, -⟩ := h
  rfl

theorem hbmPoison (h : HbmWithin lo hi s t) : t.mem.hbmPoison = s.mem.hbmPoison := by
  obtain ⟨⟨m, rfl⟩, -⟩ := h
  rfl

end HbmWithin

end Stretches

/-! ## Page table entries (R325) -/

/-- Every field of an entry fits its place in the entry's 16 bytes. -/
def Pte.Fits (e : Pte) : Prop :=
  e.phys < 2 ^ 32 ∧ e.gen < 2 ^ 16 ∧ e.committed < 2 ^ 5 ∧ e.tentative < 2 ^ 5 ∧ e.refs < 2 ^ 16 ∧ e.owner < 2 ^ 16 ∧
    e.ioRefs < 2 ^ 8

theorem fits_decodePte (n : Nat) : (decodePte n).Fits := by
  simp only [Pte.Fits, decodePte, bits]
  refine ⟨?_, ?_, ?_, ?_, ?_, ?_, ?_⟩ <;> exact Nat.mod_lt _ (by decide)

/-- An entry fits whatever its flags. -/
theorem Pte.Fits.crcValid {e : Pte} (h : e.Fits) (b : Bool) : ({ e with crcValid := b } : Pte).Fits := h

theorem flags_le (e : Pte) : one e.valid ≤ 1 ∧ one e.shared ≤ 1 ∧ one e.parked ≤ 1 ∧ one e.crcValid ≤ 1 :=
  ⟨Bool.toNat_le _, Bool.toNat_le _, Bool.toNat_le _, Bool.toNat_le _⟩

theorem encodePte_lt {e : Pte} (h : e.Fits) : encodePte e < 256 ^ 16 := by
  obtain ⟨hphys, hgen, hcommitted, htentative, hrefs, howner, hio⟩ := h
  have hflags := flags_le e
  simp only [encodePte]
  omega

/-- A bit of a number, from the arithmetic of its place. -/
theorem bit_eq_of_one {n i : Nat} {b : Bool} (h : n / 2 ^ i % 2 = one b) : bit n i = b := by
  rw [bit, Nat.shiftRight_eq_div_pow, h]
  cases b <;> rfl

theorem decodePte_encodePte {e : Pte} (h : e.Fits) : decodePte (encodePte e) = e := by
  obtain ⟨hphys, hgen, hcommitted, htentative, hrefs, howner, hio⟩ := h
  have hflags := flags_le e
  obtain ⟨phys, gen, committed, tentative, refs, owner, valid, shared, parked, crcValid, ioRefs⟩ := e
  simp only [decodePte, encodePte, Pte.mk.injEq] at *
  simp only [bits, Nat.shiftRight_eq_div_pow]
  refine ⟨?_, ?_, ?_, ?_, ?_, ?_, bit_eq_of_one ?_, bit_eq_of_one ?_, bit_eq_of_one ?_, bit_eq_of_one ?_, ?_⟩
  all_goals omega

section Pages

variable {i a n : Nat} {s t : State} {e : Pte}

theorem pteAddr_of_regs (h : t.regs = s.regs) (i : Nat) : pteAddr t i = pteAddr s i := by
  simp only [pteAddr, ptBase, reg64, reg, h]

/-- An entry reads back as it was stored. -/
theorem pte_setPte_same (h : e.Fits) (i : Nat) (s : State) : pte (setPte i e s) i = e := by
  have haddr : pteAddr (setPte i e s) i = pteAddr s i :=
    pteAddr_of_regs (HbmWithin.write le_rfl le_rfl s).regs i
  rw [pte, haddr, setPte, hbmRead_hbmWrite (length_toBytes ..), ofBytes_toBytes (encodePte_lt h), decodePte_encodePte h]

/-! ## PAGE_CRC_COMPUTE (R342) -/

/-- A layer's CRC is written to the page's header. -/
def crcAdded (a : Nat) (s : State) (l : Nat) : State :=
  hbmWrite (a + 64 + 4 * l) (toBytes 4 (crc32c (hbmRead s (sectionAt a l) 5632))) s

/-- The CRCs of the first `n` layers are in the page's header. -/
def crcsAdded (a n : Nat) (s : State) : State := (List.range n).foldl (crcAdded a) s

/-- A page's header with its CRCs and FLAGS.CRC_VALID. -/
def headerCompleted (a n : Nat) (s : State) : State :=
  let u := crcsAdded a n s
  hbmWrite (a + 13) [BitVec.ofNat 8 (headerByte u a 13 ||| 1)] u

/-- A page waits for its CRC no more, and the work on it is charged. -/
def crcCharged (i : Nat) (s : State) : State :=
  chargeHbm (16 + bits (pte s i).phys 31 30) 7 (88 * kvLayers s + 2)
    { s with kv := { s.kv with crcDue := s.kv.crcDue.filter (· != i) } }

/-- The CRCs of a valid page that is not parked go to its header, then CRC_VALID to its entry. -/
theorem pageCrc_computes (hvalid : (pte s i).valid = true) (hparked : (pte s i).parked = false) :
    pageCrc i s = setPte i { pte s i with crcValid := true }
      (headerCompleted (pageAddr s (pte s i).phys) (kvLayers s) (crcCharged i s)) := by
  have hcomputes : (!(pte s i).valid || (pte s i).parked) = false := by rw [hvalid, hparked]; rfl
  exact if_neg (Bool.eq_false_iff.mp hcomputes)

theorem crcsAdded_succ (a n : Nat) (s : State) : crcsAdded a (n + 1) s = crcAdded a (crcsAdded a n s) n := by
  rw [crcsAdded, List.range_succ, List.foldl_append, List.foldl_cons, List.foldl_nil, crcsAdded]

/-- A header has room for the CRCs of 112 layers. -/
theorem crcsAdded_within (hn : n ≤ 112) (a : Nat) (s : State) : HbmWithin a (a + 512) s (crcsAdded a n s) := by
  induction n with
  | zero => exact .refl ..
  | succ n ih =>
    rw [crcsAdded_succ]
    exact (ih (by omega)).trans (.write (by omega) (by rw [length_toBytes]; omega) _)

/-- Each layer's CRC stands in the header, over its section: the sections lie behind the header. -/
theorem crcsAdded_crc (hn : n ≤ 112) (a : Nat) (s : State) {l : Nat} (hl : l < n) :
    hbmRead (crcsAdded a n s) (a + 64 + 4 * l) 4 = toBytes 4 (crc32c (hbmRead s (sectionAt a l) 5632)) := by
  induction n with
  | zero => cases hl
  | succ n ih =>
    rw [crcsAdded_succ, crcAdded]
    obtain hl | rfl := Nat.lt_succ_iff_lt_or_eq.mp hl
    · rw [hbmRead_hbmWrite_other (by omega)]
      exact ih (by omega) hl
    · have hsection : hbmRead (crcsAdded a l s) (sectionAt a l) 5632 = hbmRead s (sectionAt a l) 5632 :=
        hbmRead_congr fun x hx _ => (crcsAdded_within (by omega) a s).outside x (by rw [sectionAt] at hx; omega)
      rw [hbmRead_hbmWrite (length_toBytes ..), hsection]

theorem headerCompleted_within (hn : n ≤ 112) (a : Nat) (s : State) :
    HbmWithin a (a + 512) s (headerCompleted a n s) :=
  (crcsAdded_within hn a s).trans (.write (by omega) (by simp) _)

theorem headerCompleted_crc (hn : n ≤ 112) (a : Nat) (s : State) {l : Nat} (hl : l < n) :
    hbmRead (headerCompleted a n s) (a + 64 + 4 * l) 4 = toBytes 4 (crc32c (hbmRead s (sectionAt a l) 5632)) := by
  rw [headerCompleted, hbmRead_hbmWrite_other (by simp; omega), crcsAdded_crc hn a s hl]

theorem kvLayers_le (s : State) : kvLayers s ≤ 112 := by
  have := fld_lt (reg s Reg.KV_CONFIG) 11 8
  rw [kvLayers, regFld]
  omega

/-- What computing a page's CRCs does, its entry lying outside its header. -/
theorem pageCrc_effect (hvalid : (pte s i).valid = true) (hparked : (pte s i).parked = false)
    (ha : pageAddr s (pte s i).phys = a) (happart : a + 512 ≤ pteAddr s i ∨ pteAddr s i + 16 ≤ a) :
    let t := pageCrc i s
    i ∉ t.kv.crcDue ∧ pte t i = { pte s i with crcValid := true } ∧
      (∀ l < kvLayers s, hbmRead t (a + 64 + 4 * l) 4 = toBytes 4 (crc32c (hbmRead s (sectionAt a l) 5632))) ∧
      (∀ x, (x < a ∨ a + 512 ≤ x) → (x < pteAddr s i ∨ pteAddr s i + 16 ≤ x) → hbmByte t x = hbmByte s x) ∧
      t.mem.spad = s.mem.spad ∧ t.mem.hbmPoison = s.mem.hbmPoison ∧ t.regs = s.regs := by
  intro t
  have hn := kvLayers_le s
  have hcharged : (crcCharged i s).mem = s.mem ∧ (crcCharged i s).regs = s.regs ∧
      (crcCharged i s).kv.crcDue = s.kv.crcDue.filter (· != i) := by simp [crcCharged]
  obtain ⟨hmem, hregs, hdue⟩ := hcharged
  have hbyte (x : Nat) : hbmByte (crcCharged i s) x = hbmByte s x := by rw [hbmByte, hmem, hbmByte]
  have hread (x n : Nat) : hbmRead (crcCharged i s) x n = hbmRead s x n := hbmRead_congr fun y _ _ => hbyte y
  have hheader := headerCompleted_within hn a (crcCharged i s)
  have hentry : pteAddr (headerCompleted a (kvLayers s) (crcCharged i s)) i = pteAddr s i :=
    pteAddr_of_regs (hheader.regs.trans hregs) i
  have hlength : (toBytes 16 (encodePte { pte s i with crcValid := true })).length = 16 := length_toBytes ..
  have ht : t = setPte i { pte s i with crcValid := true } (headerCompleted a (kvLayers s) (crcCharged i s)) := by
    rw [← ha]
    exact pageCrc_computes hvalid hparked
  have hstored : HbmWithin (pteAddr s i) (pteAddr s i + 16) (headerCompleted a (kvLayers s) (crcCharged i s)) t := by
    rw [ht]
    exact .write hentry.ge (by rw [hentry, hlength]) _
  refine ⟨?due, ?entry, fun l hl => ?crc, fun x hx hx' => ?frame, ?_, ?_, ?_⟩
  case due => simp [hstored.kv, hheader.kv, hdue]
  case entry =>
    rw [ht]
    exact pte_setPte_same ((fits_decodePte _).crcValid true) ..
  case crc =>
    calc hbmRead t (a + 64 + 4 * l) 4
        = hbmRead (headerCompleted a (kvLayers s) (crcCharged i s)) (a + 64 + 4 * l) 4 :=
          hbmRead_congr fun x _ _ => hstored.outside x (by omega)
      _ = toBytes 4 (crc32c (hbmRead (crcCharged i s) (sectionAt a l) 5632)) := headerCompleted_crc hn a _ hl
      _ = toBytes 4 (crc32c (hbmRead s (sectionAt a l) 5632)) := by rw [hread]
  case frame => rw [hstored.outside x hx', hheader.outside x hx, hbyte]
  · rw [hstored.spad, hheader.spad, hmem]
  · rw [hstored.hbmPoison, hheader.hbmPoison, hmem]
  · rw [hstored.regs, hheader.regs, hregs]

theorem exec_pageCrcCompute (hs : Clocked s) {entry : BitVec 24} (hdue : entry.toNat ∈ s.kv.crcDue) {dt : Nat}
    (hopen : startOpen (advance dt s) 7 = true) : exec (.pageCrcCompute dt entry) s =
      .next { pageCrc entry.toNat (advance dt s) with pending := s.pending } := by
  have hexec : exec (.pageCrcCompute dt entry) s = execPageCrcCompute dt entry s := rfl
  have hready : (((advance dt s).kv.crcDue.contains entry.toNat) && startOpen (advance dt s) 7) = true := by
    simp [hdue, hopen]
  rw [hexec, execPageCrcCompute, act_on hs, if_pos hready]

end Pages

/-! ## PREFIX_AGE_TICK (R354) -/

section Ageing

variable {s t : State} {sl : Nat}

/-- AGE of the entry in a slot of the table of reused pages (R349). -/
def slotAge (s : State) (sl : Nat) : Nat := byteField (prefixEntry s sl) 22 23

/-- What a second adds to a slot's AGE. -/
def ageStep (s : State) (sl : Nat) : Nat :=
  if prefixIsValid (prefixEntry s sl) = true ∧ slotAge s sl < 65535 then 1 else 0

/-- A second passes for one slot. -/
def ageSlot (s : State) (sl : Nat) : State :=
  if prefixIsValid (prefixEntry s sl) && decide (slotAge s sl < 65535) then
    editPrefix sl 22 (toBytes 2 (slotAge s sl + 1)) s else s

theorem prefixAge_eq (s : State) : prefixAge s = (prefixSlots s).foldl ageSlot s := rfl

theorem prefixAddr_of_regs (h : t.regs = s.regs) (sl : Nat) : prefixAddr t sl = prefixAddr s sl := by
  simp only [prefixAddr, reg64, reg, h]

theorem slotAge_eq (s : State) (sl : Nat) : slotAge s sl = ofBytes (hbmRead s (prefixAddr s sl + 22) 2) :=
  byteField_hbmRead (by decide)

/-- A slot's second changes bytes of its entry only. -/
theorem ageSlot_within (s : State) (sl : Nat) :
    HbmWithin (prefixAddr s sl) (prefixAddr s sl + 32) s (ageSlot s sl) := by
  rw [ageSlot]
  split
  · exact .write (by omega) (by rw [length_toBytes]; omega) s
  · exact .refl ..

theorem prefixEntry_ageSlot_other {j : Nat} (h : j ≠ sl) (s : State) :
    prefixEntry (ageSlot s j) sl = prefixEntry s sl := by
  rw [prefixEntry, prefixAddr_of_regs (ageSlot_within s j).regs, prefixEntry]
  refine hbmRead_congr fun x hx hx' => (ageSlot_within s j).outside x ?_
  simp only [prefixAddr] at hx hx' ⊢
  omega

theorem slotAge_ageSlot_same (s : State) (sl : Nat) : slotAge (ageSlot s sl) sl = slotAge s sl + ageStep s sl := by
  rw [slotAge_eq (ageSlot s sl), prefixAddr_of_regs (ageSlot_within s sl).regs, ageSlot, ageStep]
  by_cases h : prefixIsValid (prefixEntry s sl) = true ∧ slotAge s sl < 65535
  · rw [if_pos (by simpa using h), if_pos h, editPrefix, hbmRead_hbmWrite (length_toBytes ..),
      ofBytes_toBytes (by omega)]
  · rw [if_neg (by simpa using h), if_neg h, ← slotAge_eq, Nat.add_zero]

theorem foldl_ageSlot_only (ls : List Nat) (s : State) :
    ∃ hbm, ls.foldl ageSlot s = { s with mem := { s.mem with hbm := hbm } } := by
  induction ls generalizing s with
  | nil => exact ⟨s.mem.hbm, rfl⟩
  | cons j ls ih =>
    obtain ⟨m, hm⟩ := (ageSlot_within s j).only
    obtain ⟨m', hm'⟩ := ih (ageSlot s j)
    exact ⟨m', by rw [List.foldl_cons, hm', hm]⟩

theorem prefixEntry_foldl_ageSlot {ls : List Nat} (h : sl ∉ ls) (s : State) :
    prefixEntry (ls.foldl ageSlot s) sl = prefixEntry s sl := by
  induction ls generalizing s with
  | nil => rfl
  | cons j ls ih =>
    obtain ⟨hj, hls⟩ := not_or.mp (List.mem_cons.not.mp h)
    rw [List.foldl_cons, ih hls, prefixEntry_ageSlot_other (Ne.symm hj)]

/-- Among slots that do not repeat, each ages once. -/
theorem slotAge_foldl_ageSlot {ls : List Nat} (hnodup : ls.Nodup) (h : sl ∈ ls) (s : State) :
    slotAge (ls.foldl ageSlot s) sl = slotAge s sl + ageStep s sl := by
  obtain ⟨front, back, rfl⟩ := List.append_of_mem h
  obtain ⟨hfresh, -⟩ := List.nodup_cons.mp (List.nodup_middle.mp hnodup)
  obtain ⟨hfront, hback⟩ := not_or.mp (List.mem_append.not.mp hfresh)
  have hentry := prefixEntry_foldl_ageSlot hfront s
  have hage : slotAge (front.foldl ageSlot s) sl = slotAge s sl := by rw [slotAge, hentry, slotAge]
  rw [List.foldl_append, List.foldl_cons, slotAge, prefixEntry_foldl_ageSlot hback, ← slotAge, slotAge_ageSlot_same,
    hage, ageStep, hentry, hage, ageStep]

/-- The library names a list's elements after `eraseDups`, but not that none repeats. -/
theorem nodup_eraseDups (l : List Nat) : l.eraseDups.Nodup := by
  induction hn : l.length using Nat.strong_induction_on generalizing l with
  | _ n ih =>
    cases l with
    | nil => exact List.nodup_nil
    | cons x l =>
      rw [List.eraseDups_cons]
      refine List.nodup_cons.mpr ⟨by simp, ih _ ?_ _ rfl⟩
      rw [← hn, List.length_cons]
      exact Nat.lt_succ_of_le (List.length_filter_le ..)

/-- A valid entry's slot is among those that hold a listed byte. -/
theorem mem_prefixSlots (hsl : sl < 8388608) (hvalid : prefixIsValid (prefixEntry s sl) = true) :
    sl ∈ prefixSlots s := by
  have hbyte : hbmByte s (prefixAddr s sl + 19) ≠ 0 := by
    intro hzero
    rw [prefixIsValid, prefixEntry, byteAt_hbmRead (by decide), hzero] at hvalid
    exact absurd hvalid (by decide)
  rw [hbmByte, mget] at hbyte
  cases hfound : find? s.mem.hbm (prefixAddr s sl + 19) with
  | none =>
    rw [hfound] at hbyte
    exact absurd rfl hbyte
  | some v =>
    have hlisted := mem_of_find? hfound
    simp only [prefixSlots, List.mem_eraseDups, List.mem_map, List.mem_filter, decide_eq_true_eq]
    refine ⟨_, ⟨hlisted, ?_⟩, ?_⟩
    all_goals
      rw [prefixAddr]
      omega

/-- A second ages every valid entry below 65,535 by one, and no other. -/
theorem slotAge_prefixAge (hsl : sl < 8388608) (s : State) :
    slotAge (prefixAge s) sl = slotAge s sl + ageStep s sl := by
  rw [prefixAge_eq]
  by_cases h : sl ∈ prefixSlots s
  · exact slotAge_foldl_ageSlot (nodup_eraseDups _) h s
  · have hinvalid : ageStep s sl = 0 := if_neg fun hv => h (mem_prefixSlots hsl hv.1)
    rw [hinvalid, slotAge, prefixEntry_foldl_ageSlot h, slotAge, Nat.add_zero]

theorem exec_prefixAgeTick (hs : Clocked s) {dt : Nat} (hdue : s.kv.aged < poweredNow (advance dt s)) :
    exec (.prefixAgeTick dt) s = .next
      { prefixAge { advance dt s with kv := { s.kv with aged := s.kv.aged + 1 } } with pending := s.pending } := by
  have hexec : exec (.prefixAgeTick dt) s = execPrefixAgeTick dt s := rfl
  rw [hexec, execPrefixAgeTick, act_on hs, if_neg (by rw [advance_kv]; omega), advance_kv]

end Ageing

/-! ## The obligation -/

/-- Settles O23, by what the page engine writes to a page's header and entry, and by the ageing of each listed slot
once. -/
theorem kvClocks : Obligations.KvClocks := by
  unfold Obligations.KvClocks
  refine ⟨?crc, ?age⟩
  case crc =>
    intro dt entry s hs hdue hopen hvalid hparked a happart
    exact ⟨_, exec_pageCrcCompute hs hdue hopen, pageCrc_effect (s := advance dt s) hvalid hparked rfl happart⟩
  case age =>
    intro dt s hs hdue
    refine ⟨_, exec_prefixAgeTick hs hdue, ?_⟩
    generalize hu : ({ advance dt s with kv := { s.kv with aged := s.kv.aged + 1 } } : State) = u
    have hage (sl : Nat) (hsl : sl < 8388608) := slotAge_prefixAge hsl u
    obtain ⟨m, hm⟩ := foldl_ageSlot_only (prefixSlots u) u
    rw [← prefixAge_eq] at hm
    rw [hm] at hage ⊢
    subst hu
    exact ⟨rfl, hage, rfl, rfl, rfl⟩

end Sys2Proof.Machine

/-! The Hawk cores' commands (R384, R385, R387, R399, R518). -/

namespace Sys2Proof.Machine

open Sys2Proof.Map

/-! ## HAWK_SPARE (R384) -/

/-- HAWK_STATUS with the spare in the place of a core, which is active again. -/
def sparedStatus (core : Fin 8) (w : Word) : Word := putFld (putFld w 15 12 core) core core 1

/-- The command word of HAWK_SPARE sets bit 31 and names the core. -/
theorem spareWord (core : Fin 8) :
    flag (word (2 ^ 31 + core.val)) 31 = true ∧ fld (word (2 ^ 31 + core.val)) 2 0 = core := by
  revert core
  decide

theorem spareCmd_unused {core : Fin 8} {s : State} (hstopped : s.seq.state = .stopped)
    (hunused : regFld s Reg.HAWK_STATUS 15 12 = 15) : spareCmd (word (2 ^ 31 + core.val)) s =
      setReg Reg.HAWK_STATUS (sparedStatus core (reg s Reg.HAWK_STATUS)) (setFld Reg.HAWK_STATUS 15 12 core s) := by
  obtain ⟨hflag, hcore⟩ := spareWord core
  generalize word (2 ^ 31 + core.val) = v at hflag hcore ⊢
  simp [spareCmd, hflag, hcore, isStopped, hstopped, hunused, sparedStatus, setFld, updReg]

/-- The spare stands for the core, and the core shows as active. -/
theorem sparedStatus_fields (core : Fin 8) (w : Word) :
    fld (sparedStatus core w) 15 12 = core ∧ flag (sparedStatus core w) core = true := by
  have hcore := core.isLt
  constructor
  · rw [sparedStatus, fld_putFld_other (by decide) (by omega), fld_putFld (by decide)]
    omega
  · rw [sparedStatus, flag_putFld (by omega) le_rfl le_rfl]
    simp

theorem exec_hawkSpare {core : Fin 8} {s : State} (dt : Nat) (hm : HostMay 2 s) (hstopped : s.seq.state = .stopped)
    (hunused : regFld s Reg.HAWK_STATUS 15 12 = 15) :
    ∃ t, exec (.hawkSpare dt core) s = .next t ∧ regFld t Reg.HAWK_STATUS 15 12 = core.val ∧
      flag (reg t Reg.HAWK_STATUS) core = true ∧ (∀ a, a ≠ Reg.HAWK_STATUS → reg t a = reg s a) ∧ t.log = s.log ∧
      SameMemory s t := by
  have hstopped' : (advance dt s).seq.state = .stopped := hstopped
  have hunused' : regFld (advance dt s) Reg.HAWK_STATUS 15 12 = 15 := hunused
  have hexec : exec (.hawkSpare dt core) s = actHost dt 2 (spareCmd (word (2 ^ 31 + core.val))) s := rfl
  refine ⟨_, hexec.trans (actHost_eq hm (spareCmd_unused hstopped' hunused')), ?_⟩
  obtain ⟨hfield, hflag⟩ := sparedStatus_fields core (reg s Reg.HAWK_STATUS)
  refine ⟨?_, ?_, fun a ha => ?_, rfl, .of_eq rfl rfl⟩
  · simpa [regFld] using hfield
  · simpa using hflag
  · simp [reg_setReg_other ha, reg_setFld_other ha]

/-! ## HAWK_CORE_FAULT (R385) -/

theorem raisesEvent_coreFault (core cause : Nat) (s : State) :
    RaisesEvent 2 Evt.HAWK_CORE_FAULT (core + cause * 2 ^ 4) [Reg.HAWK_STATUS] s (coreFault core cause s) := by
  have hraised := raisesEvent_raise (code := Evt.HAWK_CORE_FAULT) (by decide) 2 (core + cause * 2 ^ 4)
  have hstatus : eventReg 2 Reg.HAWK_STATUS = false := by decide
  unfold coreFault
  dsimp only
  generalize (if core = 8 then regFld s Reg.HAWK_STATUS 15 12 else core) = c
  split
  · exact (hraised _).afterWrite (writesOnly_updReg ..) hstatus
  · exact (hraised s).thenWrite (w := reg (raise 2 Evt.HAWK_CORE_FAULT (core + cause * 2 ^ 4) s) Reg.HAWK_STATUS)
      ⟨rfl, fun _ _ => rfl, rfl⟩ hstatus

/-- The core, or the one that the ninth core stands for, is not active any more. -/
theorem status_coreFault (core cause : Nat) (s : State)
    (hc : (if core = 8 then regFld s Reg.HAWK_STATUS 15 12 else core) < 8) :
    reg (coreFault core cause s) Reg.HAWK_STATUS = putFlag (reg s Reg.HAWK_STATUS)
      (if core = 8 then regFld s Reg.HAWK_STATUS 15 12 else core) false := by
  unfold coreFault
  dsimp only
  rw [reg_raise (by decide) (by decide), if_pos hc, reg_setFld_same]
  rfl

/-! ## SERVE_TABLE_PARITY (R387) -/

/-- It stops issue where it is FATAL and nothing has stopped it yet (R272). -/
theorem fatal_raiseAt (t page code sev cls req detail : Nat) (s : State) :
    (raiseAt t page code sev cls req detail s).seq.fatal =
      if sev = 4 ∧ s.seq.fatal = none then some code else s.seq.fatal := by
  have hstop (u : State) (hu : u.seq = s.seq) : (fatalStop sev code u).seq.fatal =
      if sev = 4 ∧ s.seq.fatal = none then some code else s.seq.fatal := by
    simp only [fatalStop, hu]
    split <;> simp [hu]
  simp only [raiseAt, signalEvent]
  apply hstop
  rw [noticeEvent_seq]
  repeat' split
  all_goals simp

/-- SERVE_TABLE_PARITY of a severity, for a request (R387). -/
def parityEvent (sev id detail : Nat) (s : State) : State :=
  raiseAt (tick s) 2 Evt.SERVE_TABLE_PARITY sev (eventClass 2 s) id detail s

/-- The event leaves the serving state and the memories alone, and stops issue where it is FATAL. -/
theorem parityEvent_frame {sev : Nat} (hsev : sev < 5) (id detail : Nat) (s : State) :
    let t := parityEvent sev id detail s
    t.seq.fatal = (if sev = 4 ∧ s.seq.fatal = none then some Evt.SERVE_TABLE_PARITY else s.seq.fatal) ∧
      t.serve = s.serve ∧ SameRegsBut 2 [] s t ∧ SameMemory s t := by
  have hcode : Evt.SERVE_TABLE_PARITY < 0x10000 := by decide
  refine ⟨fatal_raiseAt .., raiseAt_serve .., fun a ha _ => ?_,
    .of_eq (raiseAt_mem ..) (congrArg Hostif.bar2 (raiseAt_host ..))⟩
  refine (reg_signalEvent _ ?_ ?_ ?_ _).trans (reg_enqueueEvent ha _ s)
  · exact hcode
  · exact hsev
  · exact (eventReg_false ha).1

/-- A state with a failed table entry noted for a request, none for 0 (R387). -/
def parityNoted (id table index : Nat) (s : State) : State :=
  { s with serve := { s.serve with parity := s.serve.parity ++ (if id = 0 then [] else [(id, table, index)]) } }

/-- An entry of the request table: the event is no FATAL one, and the request is noted. -/
theorem tableParity_requests (index : Nat) (s : State) : tableParity 1 index s =
    parityNoted (tableReq s (index / 32)) 1 index
      (parityEvent 3 (tableReq s (index / 32)) (1 + index % 2 ^ 32 * 2 ^ 4) s) := by
  unfold tableParity
  simp only [if_true]
  generalize tableReq s (index / 32) = id
  rw [← parityEvent]
  generalize parityEvent 3 id (1 + index % 2 ^ 32 * 2 ^ 4) s = u
  unfold parityNoted
  split <;> simp

theorem tableParity_fatal {table : Nat} (h : table ≠ 1) (index : Nat) (s : State) :
    tableParity table index s = parityEvent 4 0 (table + index % 2 ^ 32 * 2 ^ 4) s := if_neg h

theorem exec_serveTableParity {table : BitVec 2} {index : Word} {s : State} (dt : Nat) (hs : Clocked s)
    (hentry : ¬ (table = 0 ∨ (table = 1 ∧ 2097152 ≤ index.toNat))) : exec (.serveTableParity dt table index) s =
      .next { tableParity table.toNat index.toNat (advance dt s) with pending := s.pending } := by
  have hexec : exec (.serveTableParity dt table index) s = execServeTableParity dt table index s := rfl
  rw [hexec, execServeTableParity]
  exact act_eq hs (if_neg hentry)

theorem exec_serveTableParity_fatal {table : BitVec 2} {s : State} (dt : Nat) (index : Word) (hs : Clocked s)
    (hnone : table ≠ 0) (hother : table ≠ 1) : ∃ t, exec (.serveTableParity dt table index) s = .next t ∧
      t.seq.fatal.isSome = true ∧ t.serve = s.serve ∧ SameRegsBut 2 [] s t ∧ SameMemory s t := by
  have hnumber : table.toNat ≠ 1 := fun h => hother (BitVec.eq_of_toNat_eq h)
  have hentry : ¬ (table = 0 ∨ (table = 1 ∧ 2097152 ≤ index.toNat)) := fun h => h.elim hnone fun h' => hother h'.1
  have hexec := exec_serveTableParity dt hs hentry
  rw [tableParity_fatal hnumber] at hexec
  obtain ⟨hfatal, hserve, hregs, hmem⟩ := parityEvent_frame (sev := 4) (by decide) 0
    (table.toNat + index.toNat % 2 ^ 32 * 2 ^ 4) (advance dt s)
  generalize parityEvent 4 0 _ (advance dt s) = u at *
  refine ⟨_, hexec, ?_, hserve, hregs, hmem⟩
  show u.seq.fatal.isSome = true
  rw [hfatal]
  cases hheld : (advance dt s).seq.fatal <;> rfl

theorem exec_serveTableParity_requests {index : Word} {s : State} (dt : Nat) (hs : Clocked s)
    (hindex : index.toNat < 2097152) : ∃ t, exec (.serveTableParity dt 1 index) s = .next t ∧
      t.seq.fatal = s.seq.fatal ∧ t.serve = (parityNoted (tableReq s (index.toNat / 32)) 1 index.toNat s).serve ∧
      SameRegsBut 2 [] s t ∧ SameMemory s t := by
  have hentry : ¬ ((1 : BitVec 2) = 0 ∨ ((1 : BitVec 2) = 1 ∧ 2097152 ≤ index.toNat)) :=
    fun h => h.elim (by decide) fun h' => absurd h'.2 (Nat.not_le.mpr hindex)
  have hexec := exec_serveTableParity dt hs hentry
  have hone : (1 : BitVec 2).toNat = 1 := rfl
  have hreq : tableReq (advance dt s) (index.toNat / 32) = tableReq s (index.toNat / 32) := rfl
  rw [hone, tableParity_requests, hreq] at hexec
  generalize tableReq s (index.toNat / 32) = id at *
  obtain ⟨hfatal, hserve, hregs, hmem⟩ := parityEvent_frame (sev := 3) (by decide) id
    (1 + index.toNat % 2 ^ 32 * 2 ^ 4) (advance dt s)
  generalize parityEvent 3 id _ (advance dt s) = u at *
  refine ⟨_, hexec, hfatal, ?_, hregs, hmem⟩
  rw [parityNoted, parityNoted]
  dsimp only
  rw [hserve, advance_serve]

/-! ## HAWK_SUB_TAIL (R399, R518) -/

/-- A byte behind BAR2. -/
def bar2Byte (s : State) (o : Nat) : Byte := mget 0 s.host.bar2 o

theorem setBar2_only (o : Nat) (bs : Bytes) (s : State) :
    ∃ m, setBar2 o bs s = { s with host := { s.host with bar2 := m } } := by
  induction bs generalizing o s with
  | nil => exact ⟨s.host.bar2, rfl⟩
  | cons b bs ih =>
    obtain ⟨m, h⟩ := ih (o + 1) { s with host := { s.host with bar2 := mset 0 s.host.bar2 o b } }
    exact ⟨m, h⟩

theorem bar2Byte_setBar2_outside {o k : Nat} {bs : Bytes} (h : k < o ∨ o + bs.length ≤ k) (s : State) :
    bar2Byte (setBar2 o bs s) k = bar2Byte s k := by
  induction bs generalizing o s with
  | nil => rfl
  | cons b bs ih =>
    rw [List.length_cons] at h
    rw [setBar2, ih (by omega)]
    exact mget_mset_other _ _ _ (by omega)

theorem bar2Byte_setBar2 {o k : Nat} {bs : Bytes} (h : k < bs.length) (s : State) :
    bar2Byte (setBar2 o bs s) (o + k) = bs.getD k 0 := by
  induction bs generalizing o k s with
  | nil => exact absurd h (Nat.not_lt_zero _)
  | cons b bs ih =>
    rw [setBar2]
    cases k with
    | zero =>
      rw [bar2Byte_setBar2_outside (by omega)]
      exact mget_mset_same ..
    | succ k =>
      rw [show o + (k + 1) = o + 1 + k by omega, ih (by simpa using h)]
      rfl

/-- The writes that a host has sent before a tail, each to a place that BAR2 decodes. -/
def ringWrites (ws : List (Word × Bytes)) (s : State) : State := ws.foldl (fun s w => setBar2 w.1.toNat w.2 s) s

/-- Writes behind BAR2 leave the rest of the state alone. -/
theorem ringWrites_only (ws : List (Word × Bytes)) (s : State) :
    ∃ m, ringWrites ws s = { s with host := { s.host with bar2 := m } } := by
  induction ws generalizing s with
  | nil => exact ⟨s.host.bar2, rfl⟩
  | cons w ws ih =>
    obtain ⟨m, hfirst⟩ := setBar2_only w.1.toNat w.2 s
    obtain ⟨m', hrest⟩ := ih (setBar2 w.1.toNat w.2 s)
    refine ⟨m', Eq.trans hrest ?_⟩
    rw [hfirst]

theorem regs_setBar2 (o : Nat) (bs : Bytes) (s : State) : (setBar2 o bs s).regs = s.regs := by
  obtain ⟨m, h⟩ := setBar2_only o bs s
  rw [h]

/-- Whether BAR2 decodes an access rests on the registers alone, and so does being the lead. -/
theorem bar2Valid_setBar2 (o : Nat) (bs : Bytes) (offset bytes : Nat) (write : Bool) (s : State) :
    bar2Valid (setBar2 o bs s) offset bytes write = bar2Valid s offset bytes write := by
  have hring : ringLog2 (setBar2 o bs s) Reg.HAWK_SUB_RING = ringLog2 s Reg.HAWK_SUB_RING := by
    rw [ringLog2, regFld, reg_of_regs (regs_setBar2 o bs s), ringLog2, regFld]
  rw [bar2Valid, hring, bar2Valid]

theorem isLead_setBar2 (o : Nat) (bs : Bytes) (s : State) : isLead (setBar2 o bs s) = isLead s := by
  rw [isLead, moduleId_of_machine (reg_of_regs (regs_setBar2 o bs s) _), isLead]

theorem bar2Writes_valid {ws : List (Word × Bytes)} {s : State} (hlead : isLead s = true)
    (hvalid : ∀ w ∈ ws, bar2Valid s w.1.toNat w.2.length true = true) : bar2Writes ws s = ringWrites ws s := by
  induction ws generalizing s with
  | nil => rfl
  | cons w ws ih =>
    have hdecoded : (isLead s && bar2Valid s w.1.toNat w.2.length true) = true := by
      rw [hlead, hvalid w List.mem_cons_self, Bool.and_self]
    have hrest := ih (s := setBar2 w.1.toNat w.2 s) (by rw [isLead_setBar2, hlead])
      (fun x hx => by rw [bar2Valid_setBar2, hvalid x (List.mem_cons_of_mem _ hx)])
    unfold bar2Writes at hrest ⊢
    rw [List.foldl_cons, if_pos hdecoded]
    exact hrest

theorem bar2Byte_ringWrites_outside {o : Nat} {ws : List (Word × Bytes)}
    (h : ∀ w ∈ ws, o < w.1.toNat ∨ w.1.toNat + w.2.length ≤ o) (s : State) :
    bar2Byte (ringWrites ws s) o = bar2Byte s o :=
  foldl_keeps_mem (fun s => bar2Byte s o) ws (fun w hw s => bar2Byte_setBar2_outside (h w hw) s) s

theorem bar2Byte_ringWrites_last {k : Nat} {w : Word × Bytes} (h : k < w.2.length) (ws : List (Word × Bytes))
    (s : State) : bar2Byte (ringWrites (ws ++ [w]) s) (w.1.toNat + k) = w.2.getD k 0 := by
  rw [ringWrites, List.foldl_append]
  exact bar2Byte_setBar2 h _

/-- A tail within the ring is taken (R399). -/
theorem subTailWrite_within {v : Word} {s : State} (hlead : isLead s = true)
    (hring : (v - reg s Reg.HAWK_SUB_HEAD).toNat ≤ 2 ^ ringLog2 s Reg.HAWK_SUB_RING) :
    subTailWrite v s = setReg Reg.HAWK_SUB_TAIL v s := by
  have hover : ¬ 2 ^ ringLog2 s Reg.HAWK_SUB_RING < (v - reg s Reg.HAWK_SUB_HEAD).toNat := Nat.not_lt.mpr hring
  simp only [subTailWrite, hlead, Bool.not_true, Bool.false_eq_true, if_false, hover]

theorem exec_hawkSubTail {writes : List (Word × Bytes)} {tail : Word} {s : State} (dt : Nat) (hm : HostMay 2 s)
    (hawake : s.host.d3hot = false) (hlead : isLead s = true)
    (hvalid : ∀ w ∈ writes, bar2Valid s w.1.toNat w.2.length true = true)
    (hring : (tail - reg s Reg.HAWK_SUB_HEAD).toNat ≤ 2 ^ ringLog2 s Reg.HAWK_SUB_RING) :
    exec (.hawkSubTail dt writes tail) s =
      .next { setReg Reg.HAWK_SUB_TAIL tail (ringWrites writes (advance dt s)) with pending := s.pending } := by
  have hexec : exec (.hawkSubTail dt writes tail) s = execHawkSubTail dt writes tail s := rfl
  have hawake' : (advance dt s).host.d3hot = false := hawake
  have hwrites : bar2Writes writes (advance dt s) = ringWrites writes (advance dt s) := bar2Writes_valid hlead hvalid
  obtain ⟨m, honly⟩ := ringWrites_only writes (advance dt s)
  rw [hexec, execHawkSubTail]
  refine actHost_eq hm ?_
  rw [hawake', hwrites, honly]
  exact subTailWrite_within hlead hring

/-- Settles O34, by one lemma per command: what HAWK_SPARE writes, the events of a core's fault and of a table's parity
with their frames, and a tail whose writes are all decoded. -/
theorem hawkCommands : Obligations.HawkCommands := by
  unfold Obligations.HawkCommands
  refine ⟨?spare, ?fault, ?fatal, ?requests, ?tail⟩
  case spare => exact fun dt core s hm hstopped hunused => exec_hawkSpare dt hm hstopped hunused
  case fault =>
    intro dt core cause s hs hcause c
    have hexec : exec (.hawkCoreFault dt core cause) s = execHawkCoreFault dt core cause s := rfl
    obtain ⟨hlogged, -, hregs, hmem⟩ :=
      (raisesEvent_coreFault core cause.toNat (advance dt s)).ofAdvance (q := s.pending)
    exact ⟨_, hexec.trans (act_eq hs (if_pos hcause)), status_coreFault core cause.toNat (advance dt s), hlogged, hregs,
      hmem⟩
  case fatal => exact fun dt table index s hs hnone hother => exec_serveTableParity_fatal dt index hs hnone hother
  case requests => exact fun dt index s hs hindex => exec_serveTableParity_requests dt hs hindex
  case tail =>
    intro dt writes tail s hm hawake hlead hvalid hring
    obtain ⟨m, honly⟩ := ringWrites_only writes (advance dt s)
    refine ⟨_, exec_hawkSubTail dt hm hawake hlead hvalid hring, reg_setReg_same .., ?outside, ?last, ?regs, ?mem, ?log⟩
    case outside => exact fun o ho => bar2Byte_ringWrites_outside ho (advance dt s)
    case last =>
      intro ws w hws k hk
      rw [hws]
      exact bar2Byte_ringWrites_last hk ws (advance dt s)
    all_goals rw [honly]
    case regs => exact fun a ha => reg_setReg_other ha tail (advance dt s)
    case mem => rfl
    case log => rfl

end Sys2Proof.Machine

/-! Step commits, machine commits and GOs (R389 to R392). -/

namespace Sys2Proof.Machine

open Sys2Proof.Map

/-! ## What work leaves alone of a step commit (R389, R392) -/

/-- The registers that a step commit and a GO set, and that which says whether the module is the lead. -/
def stepAddrs : List Nat :=
  [Reg.SHAWM_MACHINE, Reg.SEQ_STEP_START, Reg.SEQ_STEP_START + 4, Reg.SEQ_STEP_NUMBER, Reg.SEQ_STEP_NUMBER + 4,
    Reg.HAWK_CONFIG]

@[simp] theorem mem_stepAddrs {a : Nat} : a ∈ stepAddrs ↔
    a = 0x500 ∨ a = 0x110C ∨ a = 0x1110 ∨ a = 0x1114 ∨ a = 0x1118 ∨ a = 0x2100 := by simp [stepAddrs]

/-- Those registers' words. -/
def stepRegs (r : RegFile) : List Word := stepAddrs.map (readReg r)

/-- What a step commit, a machine commit and a GO set: those registers, the latched commands, the end of the program,
the commit's mark, the module's wait for a GO, and the messages of the lead with its own tick. -/
structure CommitView where
  regs : List Word
  ending : Bool
  cmds : List Word
  cmd : Option Word
  committed : Bool
  waiting : Bool
  go : Option GoMsg
  done : SMap CommitMsg
  ownAt : Option Nat

def commitView (s : State) : CommitView :=
  ⟨stepRegs s.regs, s.seq.ending, s.fmt.cmds, s.adapt.cmd, s.boot.committed, s.serve.waiting, s.serve.go,
    s.serve.lead.done, s.serve.lead.ownAt⟩

section Updates

@[simp] theorem commitView_mk (clk log regs seq mem breath atlas hkc therm fabric drone host secure boot nvm life
    modLife tensor fmt kv luna adapt serve out freeIdx pending) :
    commitView (State.mk clk log regs seq mem breath atlas hkc therm fabric drone host secure boot nvm life modLife
      tensor fmt kv luna adapt serve out freeIdx pending) =
    ⟨stepRegs regs, seq.ending, fmt.cmds, adapt.cmd, boot.committed, serve.waiting, serve.go, serve.lead.done,
      serve.lead.ownAt⟩ := Eq.trans rfl rfl

@[simp] theorem commitView_fold (s : State) :
    CommitView.mk (stepRegs s.regs) s.seq.ending s.fmt.cmds s.adapt.cmd s.boot.committed s.serve.waiting s.serve.go
      s.serve.lead.done s.serve.lead.ownAt = commitView s := Eq.trans rfl rfl

@[simp] theorem stepRegs_mk (r : RegFile) {inForce holdHigh heldLow snap hwSet hwInc hwCycle up} :
    stepRegs ⟨r.words, inForce, holdHigh, heldLow, snap, hwSet, hwInc, hwCycle, up⟩ = stepRegs r := Eq.trans rfl rfl

end Updates

@[simp] theorem commitView_ite (p : Prop) [Decidable p] (a b : State) :
    commitView (if p then a else b) = if p then commitView a else commitView b := apply_ite commitView p a b

@[simp] theorem commitView_foldl {α : Type} {g : State → α → State} (h : ∀ s x, commitView (g s x) = commitView s)
    (l : List α) (s : State) : commitView (l.foldl g s) = commitView s := foldl_keeps commitView l h s

@[simp] theorem commitView_inClass (c : Nat) (f : State → State) (s : State) :
    commitView (inClass c f s) = commitView (f { s with log := { s.log with cls := c } }) := Eq.trans rfl rfl

@[simp] theorem commitView_forRequest (r : Nat) (f : State → State) (s : State) :
    commitView (forRequest r f s) = commitView (f { s with log := { s.log with req := r } }) := Eq.trans rfl rfl

/-! ### Registers -/

theorem stepRegs_congr {s t : State} (h : ∀ a ∈ stepAddrs, reg t a = reg s a) : stepRegs t.regs = stepRegs s.regs :=
  List.map_congr_left h

theorem commitView_of_regs {s t : State} (hregs : ∀ a ∈ stepAddrs, reg t a = reg s a) (hseq : t.seq = s.seq)
    (hfmt : t.fmt = s.fmt) (hadapt : t.adapt = s.adapt) (hboot : t.boot = s.boot) (hserve : t.serve = s.serve) :
    commitView t = commitView s := by
  simp only [commitView, stepRegs_congr hregs, hseq, hfmt, hadapt, hboot, hserve]

/-- The registers of the dies, of the scratchpads and of the ports stand above all of these. -/
@[simp] theorem luna_ne {n k off c : Nat} (h : c < 0x40000) : Reg.luna n k off ≠ c := by
  simp only [Reg.luna]
  omega

@[simp] theorem tensorReg_ne {d off c : Nat} (h : c < 0x40000) : tensorReg d off ≠ c := luna_ne h

@[simp] theorem refReg_ne {d off c : Nat} (h : c < 0x40000) : refReg d off ≠ c := luna_ne h

@[simp] theorem spadReg_ne {d off c : Nat} (h : c < 0x40000) : spadReg d off ≠ c := by
  simp only [spadReg, ra, pgSpad, pgLuna, pgHubspad]
  split <;> omega

theorem shawmPage_lt (p off : Nat) : 0x40000 < ra (pgShawm p) off := by
  rw [ra, pgShawm]
  omega

theorem ethPage_lt (p off : Nat) : 0x40000 < ra (pgEth p) off := by
  rw [ra, pgEth]
  omega

/-- The common header of a page stands below offset 0x100, where none of these registers do. -/
theorem header_notMem {page off : Nat} (h : off < 0x100) : ra page off ∉ stepAddrs := by
  rw [mem_stepAddrs, ra]
  omega

@[simp] theorem commitView_setReg {a : Nat} (h : a ∉ stepAddrs) (v : Word) (s : State) :
    commitView (setReg a v s) = commitView s :=
  commitView_of_regs (fun _ hb => reg_setReg_other (ne_of_mem_of_not_mem hb h) v s) rfl rfl rfl rfl rfl

@[simp] theorem stepRegs_setReg {a : Nat} (h : a ∉ stepAddrs) (v : Word) (s : State) :
    stepRegs (setReg a v s).regs = stepRegs s.regs := congrArg CommitView.regs (commitView_setReg h v s)

@[simp] theorem commitView_updReg {a : Nat} (h : a ∉ stepAddrs) (f : Word → Word) (s : State) :
    commitView (updReg a f s) = commitView s := commitView_setReg h _ s

@[simp] theorem commitView_setFld {a : Nat} (h : a ∉ stepAddrs) (hi lo v : Nat) (s : State) :
    commitView (setFld a hi lo v s) = commitView s := commitView_setReg h _ s

@[simp] theorem stepRegs_setFld {a : Nat} (h : a ∉ stepAddrs) (hi lo v : Nat) (s : State) :
    stepRegs (setFld a hi lo v s).regs = stepRegs s.regs := stepRegs_setReg h _ s

@[simp] theorem commitView_bump {a : Nat} (h : a ∉ stepAddrs) (n : Nat) (s : State) :
    commitView (bump a n s) = commitView s :=
  commitView_of_regs (fun _ hb => reg_bump_other (ne_of_mem_of_not_mem hb h) n s) rfl rfl rfl rfl rfl

@[simp] theorem stepRegs_bump {a : Nat} (h : a ∉ stepAddrs) (n : Nat) (s : State) :
    stepRegs (bump a n s).regs = stepRegs s.regs := congrArg CommitView.regs (commitView_bump h n s)

@[simp] theorem commitView_hwSetBits {a : Nat} (h : a ∉ stepAddrs) (m : Word) (s : State) :
    commitView (hwSetBits a m s) = commitView s :=
  commitView_of_regs (fun _ hb => reg_hwSetBits_other (ne_of_mem_of_not_mem hb h) m s) rfl rfl rfl rfl rfl

@[simp] theorem commitView_setReg64 {a : Nat} (h : a ∉ stepAddrs) (h' : a + 4 ∉ stepAddrs) (v : Nat) (s : State) :
    commitView (setReg64 a v s) = commitView s := by rw [setReg64, commitView_setReg h', commitView_setReg h]

@[simp] theorem commitView_bump64 {a : Nat} (h : a ∉ stepAddrs) (h' : a + 4 ∉ stepAddrs) (n : Nat) (s : State) :
    commitView (bump64 a n s) = commitView s := commitView_setReg64 h h' _ s

theorem commitView_bump64_of_lt {a : Nat} (h : 0x40000 < a) (n : Nat) (s : State) :
    commitView (bump64 a n s) = commitView s := by
  apply commitView_bump64
  all_goals
    rw [mem_stepAddrs]
    omega

@[simp] theorem commitView_commitRegs (w : When) (s : State) : commitView (commitRegs w s) = commitView s := by
  simp [commitRegs]

/-! ### Events -/

@[simp] theorem commitView_emit (o : Output) (s : State) : commitView (emit o s) = commitView s := by simp [emit]

@[simp] theorem commitView_setPort (p : Nat) (x : ShawmPort) (s : State) :
    commitView (setPort p x s) = commitView s := by simp [setPort]

@[simp] theorem commitView_transmit (p : Nat) (f : LinkFrame) (s : State) :
    commitView (transmit p f s) = commitView s := by
  unfold transmit
  exact (commitView_bump64_of_lt (shawmPage_lt p _) ..).trans
    ((commitView_emit ..).trans (commitView_setPort ..))

@[simp] theorem commitView_sendLink (p : Nat) (f : LinkFrame) (s : State) :
    commitView (sendLink p f s) = commitView s := by
  simp [sendLink]

@[simp] theorem commitView_sendFrame (p : Nat) (f : Frame) (s : State) :
    commitView (sendFrame p f s) = commitView s := by simp [sendFrame]

@[simp] theorem commitView_sendTo (dst : Nat) (f : Bool → Frame) (s : State) :
    commitView (sendTo dst f s) = commitView s := by
  unfold sendTo
  repeat' split
  all_goals simp

@[simp] theorem commitView_msix (v : Nat) (s : State) : commitView (msix v s) = commitView s := by
  have hpending : 0xAC00 + 4 * (v / 32) ∉ stepAddrs := by
    rw [mem_stepAddrs]
    omega
  simp [msix, commitView_updReg hpending]

@[simp] theorem commitView_captureFirst (page sev code detail : Nat) (ovf : Bool) (s : State) :
    commitView (captureFirst page sev code detail ovf s) = commitView s := by
  have hheader (off : Nat) (h : off < 0x100) (v : Word) (u : State) :
      stepRegs (setReg (ra page off) v u).regs = stepRegs u.regs := stepRegs_setReg (header_notMem h) v u
  simp [captureFirst, hheader]

@[simp] theorem commitView_firstErr (page sev code detail : Nat) (s : State) :
    commitView (firstErr page sev code detail s) = commitView s := by
  simp [firstErr, commitView_setReg (header_notMem _)]

@[simp] theorem commitView_enqueueEvent (e : Event) (s : State) :
    commitView (enqueueEvent e s) = commitView s := by simp [enqueueEvent]

@[simp] theorem commitView_keepFatal (e : Event) (s : State) : commitView (keepFatal e s) = commitView s := by
  refine commitView_foldl (fun s k => commitView_setReg ?_ _ s) _ s
  rw [mem_stepAddrs]
  simp only [Reg.EVTLOG_LAST_FATAL]
  omega

@[simp] theorem commitView_noticeEvent (sev code : Nat) (s : State) :
    commitView (noticeEvent sev code s) = commitView s := by simp [noticeEvent]

@[simp] theorem commitView_fatalStop (sev code : Nat) (s : State) :
    commitView (fatalStop sev code s) = commitView s := by simp [fatalStop]

@[simp] theorem commitView_signalEvent (e : Event) (s : State) : commitView (signalEvent e s) = commitView s := by
  have hcount : Reg.EVTLOG_SEV_COUNT e.sev ∉ stepAddrs := by
    rw [mem_stepAddrs]
    simp only [Reg.EVTLOG_SEV_COUNT]
    omega
  simp only [signalEvent, commitView_fatalStop, commitView_noticeEvent, commitView_ite, commitView_keepFatal,
    commitView_bump hcount, commitView_firstErr, commitView_bump (header_notMem _), Nat.reduceLT,
    commitView_hwSetBits (header_notMem _), commitView_updReg (header_notMem _), ite_self]

@[simp] theorem commitView_raiseAt (t page code sev cls req detail : Nat) (s : State) :
    commitView (raiseAt t page code sev cls req detail s) = commitView s := by simp [raiseAt]

@[simp] theorem commitView_raiseFor (page code cls req detail : Nat) (s : State) :
    commitView (raiseFor page code cls req detail s) = commitView s := by simp [raiseFor]

@[simp] theorem commitView_raise (page code detail : Nat) (s : State) :
    commitView (raise page code detail s) = commitView s := by simp [raise]

/-! ### Memory and accumulators (R208 to R235) -/

@[simp] theorem commitView_takeFree (s : State) : commitView (takeFree s).2 = commitView s := by simp [takeFree]

@[simp] theorem commitView_collect (code key n : Nat) (s : State) :
    commitView (collect code key n s) = commitView s := by simp [collect]

@[simp] theorem commitView_collectFirst (code key n first : Nat) (s : State) :
    commitView (collectFirst code key n first s) = commitView s := by simp [collectFirst]

@[simp] theorem commitView_setSpad (d w : Nat) (x : SWord) (s : State) :
    commitView (setSpad d w x s) = commitView s := by simp [setSpad]

@[simp] theorem commitView_setHbmByte (a : Nat) (b : Byte) (s : State) :
    commitView (setHbmByte a b s) = commitView s := by simp [setHbmByte]

@[simp] theorem commitView_hbmWrite (a : Nat) (bs : Bytes) (s : State) :
    commitView (hbmWrite a bs s) = commitView s := by
  induction bs generalizing a s with
  | nil => rfl
  | cons b bs ih => simp [hbmWrite, ih]

@[simp] theorem commitView_setBurstPoison (b : Nat) (p : Bool) (s : State) :
    commitView (setBurstPoison b p s) = commitView s := by simp [setBurstPoison]

@[simp] theorem commitView_hbmStore (a : Nat) (bs : Bytes) (poison : Bool) (s : State) :
    commitView (hbmStore a bs poison s).2 = commitView s := by simp [hbmStore]

@[simp] theorem commitView_charge (die cls res amount cpj : Nat) (s : State) :
    commitView (charge die cls res amount cpj s) = commitView s := by simp [charge]

@[simp] theorem commitView_chargeHbm (die cls bursts : Nat) (s : State) :
    commitView (chargeHbm die cls bursts s) = commitView s := by simp [chargeHbm]

@[simp] theorem commitView_chargeEth (cls n : Nat) (s : State) : commitView (chargeEth cls n s) = commitView s := by
  simp [chargeEth]

@[simp] theorem commitView_setTag (t : Nat) (x : Tag) (s : State) : commitView (setTag t x s) = commitView s := by
  simp [setTag]

@[simp] theorem commitView_setAcc (d i : Nat) (a : Acc) (s : State) : commitView (setAcc d i a s) = commitView s := by
  simp [setAcc]

@[simp] theorem commitView_poisonAcc (d i : Nat) (s : State) : commitView (poisonAcc d i s) = commitView s := by
  simp [poisonAcc]

@[simp] theorem commitView_addAccFlags (d i f : Nat) (s : State) :
    commitView (addAccFlags d i f s) = commitView s := by simp [addAccFlags]

@[simp] theorem commitView_closeCycle (s : State) : commitView (closeCycle s) = commitView s := by simp [closeCycle]

@[simp] theorem commitView_enterCycle (c : Nat) (s : State) : commitView (enterCycle c s) = commitView s := by
  simp [enterCycle]

@[simp] theorem commitView_noteChunk (d i : Nat) (s : State) : commitView (noteChunk d i s) = commitView s := by
  simp [noteChunk]

@[simp] theorem commitView_takeAdd (d : Nat) (s : State) : commitView (takeAdd d s).2 = commitView s := by
  simp [takeAdd]

@[simp] theorem commitView_accOrder (d i kseq : Nat) (s : State) :
    commitView (accOrder d i kseq s) = commitView s := by simp [accOrder]

@[simp] theorem commitView_accClear (d i : Nat) (s : State) : commitView (accClear d i s) = commitView s := by
  simp [accClear]

@[simp] theorem commitView_accPreload (d i : Nat) (e : Elem) (fl : Nat) (s : State) :
    commitView (accPreload d i e fl s) = commitView s := by simp [accPreload]

@[simp] theorem commitView_accAdd (d i : Nat) (e : Elem) (kseq fl : Nat) (s : State) :
    commitView (accAdd d i e kseq fl s) = commitView s := by simp [accAdd]

@[simp] theorem commitView_accExtInit (d i mode : Nat) (s : State) :
    commitView (accExtInit d i mode s) = commitView s := by simp [accExtInit]

@[simp] theorem commitView_accExtChunk (d i : Nat) (es : List Elem) (kseq fl : Nat) (invalid : Bool) (s : State) :
    commitView (accExtChunk d i es kseq fl invalid s) = commitView s := by
  simp only [accExtChunk]
  repeat' split
  all_goals simp

@[simp] theorem commitView_accRestore (d i : Nat) (img : Option Bytes) (s : State) :
    commitView (accRestore d i img s) = commitView s := by simp [accRestore]

@[simp] theorem commitView_accFile (d : Nat) (o : AccObs) (s : State) :
    commitView (accFile d o s) = commitView s := by simp [accFile]

@[simp] theorem commitView_accResidue (d : Nat) (o : AccObs) (s : State) :
    commitView (accResidue d o s) = commitView s := by
  refine commitView_foldl (fun u e => ?_) _ s
  simp

@[simp] theorem commitView_spadPut (d w : Nat) (x : SWord) (s : State) :
    commitView (spadPut d w x s) = commitView s := by simp [spadPut]

/-! ### Rings and windows (R288 to R310) -/

@[simp] theorem commitView_setRing (d r : Nat) (x : Ring) (s : State) :
    commitView (setRing d r x s) = commitView s := by simp [setRing]

@[simp] theorem commitView_ringError (d r n : Nat) (overrun : Bool) (s : State) :
    commitView (ringError d r n overrun s) = commitView s := by simp [ringError]

@[simp] theorem commitView_ringPublish (d r : Nat) (s : State) : commitView (ringPublish d r s) = commitView s := by
  simp only [ringPublish]
  split <;> simp

@[simp] theorem commitView_ringRelease (d r : Nat) (s : State) : commitView (ringRelease d r s) = commitView s := by
  simp [ringRelease]

@[simp] theorem commitView_reportBreaks (d : Nat) (bs : List (Nat × Nat)) (write : Bool) (s : State) :
    commitView (reportBreaks d bs write s) = commitView s := by simp [reportBreaks]

@[simp] theorem commitView_bankClash (k n : Nat) (s : State) : commitView (bankClash k n s) = commitView s := by
  simp [bankClash]

@[simp] theorem commitView_closeAccess (c : Nat) (s : State) :
    commitView (closeAccess c s) = commitView s := by
  have hbump (u : State) (k : Nat) : commitView (bump (spadReg (k % 20) 0x124) 1 u) = commitView u := by simp
  simp [closeAccess, hbump]

@[simp] theorem commitView_schedWrite (c d w : Nat) (x : SWord) (s : State) :
    commitView (schedWrite c d w x s) = commitView s := by simp [schedWrite]

@[simp] theorem commitView_orFlags (d w fl : Nat) (bad : Bool) (s : State) :
    commitView (orFlags d w fl bad s) = commitView s := by simp [orFlags]

@[simp] theorem commitView_setWin (w : Nat) (x : Win) (s : State) : commitView (setWin w x s) = commitView s := by
  simp [setWin]

@[simp] theorem commitView_winConflict (d w cause : Nat) (s : State) :
    commitView (winConflict d w cause s) = commitView s := by simp [winConflict]

@[simp] theorem commitView_spadEcc (die corr : Nat) (bad : List Nat) (s : State) :
    commitView (spadEcc die corr bad s) = commitView s := by
  unfold spadEcc
  refine (commitView_foldl (fun u w => ?_) _ _).trans ?_
  · simp
  · split <;> simp

@[simp] theorem commitView_winOpen (d w : Nat) (bad : List Nat) (s : State) :
    commitView (winOpen d w bad s) = commitView s := by
  simp only [winOpen]
  repeat' split
  all_goals simp

@[simp] theorem commitView_winClose (d w : Nat) (s : State) : commitView (winClose d w s) = commitView s := by
  simp [winClose]

@[simp] theorem commitView_spadPuts (d w : Nat) (ws : List SWord) (s : State) :
    commitView (spadPuts d w ws s) = commitView s := by
  induction ws generalizing w s with
  | nil => rfl
  | cons x xs ih => simp [spadPuts, ih]

/-! ### Effects of a bundle (R224 to R229) -/

@[simp] theorem commitView_bundleInvalid (die slot sub pos : Nat) (s : State) :
    commitView (bundleInvalid die slot sub pos s) = commitView s := by simp [bundleInvalid]

@[simp] theorem commitView_fmtCount (die code : Nat) {counter : Nat} (h : counter ∉ stepAddrs) (n first : Nat)
    (s : State) : commitView (fmtCount die code counter n first s) = commitView s := by
  simp [fmtCount, h]

@[simp] theorem commitView_fmtNonfinite (die n : Nat) (s : State) :
    commitView (fmtNonfinite die n s) = commitView s := by simp [fmtNonfinite]

@[simp] theorem commitView_countReading (die : Nat) (r : Reading) (s : State) :
    commitView (countReading die r s) = commitView s := by simp [countReading]

@[simp] theorem commitView_vectorDone (t : TensorOp) (s : State) : commitView (vectorDone t s) = commitView s := by
  simp [vectorDone]

@[simp] theorem commitView_tensorDone (t : TensorOp) (s : State) : commitView (tensorDone t s) = commitView s := by
  simp [tensorDone]

@[simp] theorem commitView_writeDone (due : Nat) (w : WriteOp) (s : State) :
    commitView (writeDone due w s) = commitView s := by
  simp only [writeDone]
  split <;> simp

@[simp] theorem commitView_accChunksDone (die cycle : Nat) (cs : List PicChunk) (o : AccObs) (s : State) :
    commitView (accChunksDone die cycle cs o s) = commitView s := by simp [accChunksDone]

@[simp] theorem commitView_stageChunksDone (die due : Nat) (cs : List PicChunk) (flagAddr : Nat)
    (flagBad : Bool) (s : State) : commitView (stageChunksDone die due cs flagAddr flagBad s) = commitView s := by
  simp [stageChunksDone]

@[simp] theorem commitView_applyEffect (due : Nat) (e : Effect) (s : State) :
    commitView (applyEffect due e s) = commitView s := by
  simp only [applyEffect]
  split <;> simp

@[simp] theorem commitView_applyDue (l : List (Nat × Effect)) (s : State) :
    commitView (applyDue l s) = commitView s := by
  induction l generalizing s with
  | nil => rfl
  | cons x l ih => simp [applyDue, ih]

@[simp] theorem commitView_drain (s : State) : commitView (drain s) = commitView s := by simp [drain]

/-! ### Pages and prefixes (R331 to R356) -/

@[simp] theorem commitView_setPte (i : Nat) (e : Pte) (s : State) : commitView (setPte i e s) = commitView s := by
  simp [setPte]

@[simp] theorem commitView_poolMark (q before : Nat) (s : State) :
    commitView (poolMark q before s) = commitView s := by simp [poolMark]

@[simp] theorem commitView_setWritten (a l v : Nat) (s : State) : commitView (setWritten a l v s) = commitView s := by
  simp [setWritten]

@[simp] theorem commitView_setCounts (a c t : Nat) (s : State) : commitView (setCounts a c t s) = commitView s := by
  simp [setCounts]

@[simp] theorem commitView_freeIfUnused (i : Nat) (s : State) : commitView (freeIfUnused i s) = commitView s := by
  simp [freeIfUnused]

@[simp] theorem commitView_dropRef (i : Nat) (s : State) : commitView (dropRef i s) = commitView s := by
  simp [dropRef]

@[simp] theorem commitView_addRef (i : Nat) (s : State) : commitView (addRef i s).2 = commitView s := by
  simp only [addRef]
  split <;> simp

theorem commitView_allocPage {q req owner pos tent i : Nat} {s t : State}
    (h : allocPage q req owner pos tent s = some (i, t)) : commitView t = commitView s := by
  unfold allocPage at h
  split at h
  · dsimp only at h
    cases h
    simp
  · cases h

@[simp] theorem commitView_reservePages (q req owner fuel j n : Nat) (s : State) :
    commitView (reservePages q req owner fuel j n s).2 = commitView s := by
  induction fuel generalizing j n s with
  | zero => rfl
  | succ fuel ih =>
    rw [reservePages]
    split
    · rfl
    · split
      next => rfl
      next i t h => exact (ih ..).trans (commitView_allocPage h)

@[simp] theorem commitView_reserve (pages : List Nat) (q req owner p0 n : Nat) (s : State) :
    commitView (reserve pages q req owner p0 n s).2 = commitView s := by
  simp only [reserve]
  repeat' split
  all_goals simp

@[simp] theorem commitView_clearWritten (a c : Nat) (s : State) : commitView (clearWritten a c s) = commitView s := by
  simp [clearWritten]

@[simp] theorem commitView_resolvePages (l : List Nat) (n : Nat) (s : State) :
    commitView (resolvePages l n s).2.2 = commitView s := by
  induction l generalizing n s with
  | nil => rfl
  | cons x l ih =>
    simp only [resolvePages]
    repeat' split
    all_goals simp [ih]

@[simp] theorem commitView_setPrefix (slot : Nat) (b : Bytes) (s : State) :
    commitView (setPrefix slot b s) = commitView s := by simp [setPrefix]

@[simp] theorem commitView_editPrefix (slot a : Nat) (bs : Bytes) (s : State) :
    commitView (editPrefix slot a bs s) = commitView s := by simp [editPrefix]

@[simp] theorem commitView_prefixLookup (q : Nat) (l : List Bytes) (s : State) :
    commitView (prefixLookup q l s).2 = commitView s := by
  induction l generalizing s with
  | nil => rfl
  | cons x l ih =>
    simp only [prefixLookup]
    repeat' split
    all_goals simp [ih]

@[simp] theorem commitView_addChild (sl : Nat) (up : Bool) (s : State) :
    commitView (addChild sl up s) = commitView s := by simp [addChild]

@[simp] theorem commitView_evict (sl : Nat) (s : State) : commitView (evict sl s) = commitView s := by simp [evict]

@[simp] theorem commitView_prefixInsert (q i depth : Nat) (key : Bytes) (parent : Option Bytes) (s : State) :
    commitView (prefixInsert q i depth key parent s) = commitView s := by
  simp only [prefixInsert]
  repeat' split
  all_goals simp

/-! ### Queue pairs (R523 to R533) -/

@[simp] theorem commitView_setCtxEntry (t i : Nat) (b : Bytes) (s : State) :
    commitView (setCtxEntry t i b s) = commitView s := by simp [setCtxEntry]

@[simp] theorem commitView_setQp (q : Nat) (x : QpState) (s : State) : commitView (setQp q x s) = commitView s := by
  simp [setQp]

@[simp] theorem commitView_psnAdvance (a q n : Nat) (s : State) : commitView (psnAdvance a q n s) = commitView s := by
  simp [psnAdvance]

@[simp] theorem commitView_markSent (q : Nat) (s : State) : commitView (markSent q s) = commitView s := by
  simp [markSent]

@[simp] theorem commitView_qpSend (q : Nat) (m : RoceMsg) (s : State) :
    commitView (qpSend q m s) = commitView s := by
  simp [qpSend, commitView_bump64_of_lt (ethPage_lt _ _)]

@[simp] theorem commitView_qpPost (q : Nat) (w : Work) (s : State) : commitView (qpPost q w s) = commitView s := by
  simp [qpPost]

/-! ### Adapters and training (R360 to R375) -/

@[simp] theorem commitView_editAdapter (a o : Nat) (bs : Bytes) (s : State) :
    commitView (editAdapter a o bs s) = commitView s := by simp [editAdapter]

@[simp] theorem commitView_editKnown (a o : Nat) (bs : Bytes) (s : State) :
    commitView (editKnown a o bs s) = commitView s := by
  simp only [editKnown]
  split <;> simp

@[simp] theorem commitView_setAdFlags (a : Nat) (valid training : Bool) (s : State) :
    commitView (setAdFlags a valid training s) = commitView s := by simp [setAdFlags]

@[simp] theorem commitView_adapterUsers (a : Nat) (up : Bool) (s : State) :
    commitView (adapterUsers a up s) = commitView s := by simp [adapterUsers]

@[simp] theorem commitView_adapterLoadNow (a : Nat) (s : State) :
    commitView (adapterLoadNow a s) = commitView s := by
  simp [adapterLoadNow]

@[simp] theorem commitView_adapterUnloadNow (a : Nat) (s : State) :
    commitView (adapterUnloadNow a s) = commitView s := by simp [adapterUnloadNow]

@[simp] theorem commitView_trainBegin (job a : Nat) (params : Bytes) (s : State) :
    commitView (trainBegin job a params s) = commitView s := by simp [trainBegin]

@[simp] theorem commitView_storeElems (fmt a : Nat) (es : List Elem) (s : State) :
    commitView (storeElems fmt a es s) = commitView s := by simp [storeElems]

@[simp] theorem commitView_gradNorm (gs : List Elem) (s : State) : commitView (gradNorm gs s).2 = commitView s := by
  simp only [gradNorm]
  split <;> simp

@[simp] theorem commitView_applyUpdate (c : Word) (s : State) : commitView (applyUpdate c s) = commitView s := by
  simp [applyUpdate]

@[simp] theorem commitView_clearGradient (s : State) : commitView (clearGradient s) = commitView s := by
  simp [clearGradient]

@[simp] theorem commitView_trainStep (s : State) : commitView (trainStep s) = commitView s := by
  simp only [trainStep]
  repeat' split
  all_goals simp

@[simp] theorem commitView_jobEnds (cause : Nat) (s : State) : commitView (jobEnds cause s) = commitView s := by
  simp [jobEnds]

/-! ### Swaps of the refresh tables (R142 to R170) -/

@[simp] theorem commitView_setLunaDie (d : Nat) (x : LunaDie) (s : State) :
    commitView (setLunaDie d x s) = commitView s := by simp [setLunaDie]

@[simp] theorem commitView_updLunaDie (d : Nat) (f : LunaDie → LunaDie) (s : State) :
    commitView (updLunaDie d f s) = commitView s := by simp [updLunaDie]

@[simp] theorem commitView_setMap (d a : Nat) (e : MapEntry) (s : State) :
    commitView (setMap d a e s) = commitView s := by simp [setMap]

@[simp] theorem commitView_setPhys (d p : Nat) (x : Phys) (s : State) :
    commitView (setPhys d p x s) = commitView s := by simp [setPhys]

@[simp] theorem commitView_updPhys (d p : Nat) (f : Phys → Phys) (s : State) :
    commitView (updPhys d p f s) = commitView s := by simp [updPhys]

@[simp] theorem commitView_clearLapsed (d a cause : Nat) (s : State) :
    commitView (clearLapsed d a cause s) = commitView s := by simp [clearLapsed]

@[simp] theorem commitView_setTrk (d p : Nat) (t : Tracker) (s : State) :
    commitView (setTrk d p t s) = commitView s := by simp [setTrk]

@[simp] theorem commitView_unseedTracker (d p : Nat) (s : State) :
    commitView (unseedTracker d p s) = commitView s := by simp [unseedTracker]

@[simp] theorem commitView_updCmd (d : Nat) (f : RefreshCmd → RefreshCmd) (s : State) :
    commitView (updCmd d f s) = commitView s := by simp [updCmd]

@[simp] theorem commitView_endCmd (d result : Nat) (s : State) : commitView (endCmd d result s) = commitView s := by
  simp [endCmd]

@[simp] theorem commitView_exchangeCoef (d a new : Nat) (s : State) :
    commitView (exchangeCoef d a new s).2 = commitView s := by
  simp only [exchangeCoef]
  split <;> simp

@[simp] theorem commitView_countSwap (d : Nat) (mine : Bool) (s : State) :
    commitView (countSwap d mine s) = commitView s := by simp [countSwap]

@[simp] theorem commitView_ageReset (d a : Nat) (s : State) : commitView (ageReset d a s) = commitView s := by
  simp [ageReset]

@[simp] theorem commitView_performSwap (d : Nat) (w : Swap) (s : State) :
    commitView (performSwap d w s) = commitView s := by simp [performSwap]

@[simp] theorem commitView_swapMany (d n : Nat) (s : State) :
    commitView (swapMany d n s) = commitView s := by
  induction n generalizing s with
  | zero => rfl
  | succ n ih =>
    simp only [swapMany]
    repeat' split
    all_goals simp [ih]

@[simp] theorem commitView_swapAll (s : State) : commitView (swapAll s) = commitView s := by simp [swapAll]

/-! ### Accepted frames and the host's window -/

@[simp] theorem commitView_sendAck (p : Nat) (s : State) : commitView (sendAck p s) = commitView s := by
  simp [sendAck]

@[simp] theorem commitView_accept (p packets : Nat) (s : State) :
    commitView (accept p packets s) = commitView s := by
  have hcount (n : Nat) (u : State) : commitView (bump64 (shawmReg p 0x124) n u) = commitView u :=
    commitView_bump64_of_lt (shawmPage_lt p _) n u
  simp [accept, hcount]

@[simp] theorem commitView_setBar2 (o : Nat) (bs : Bytes) (s : State) :
    commitView (setBar2 o bs s) = commitView s := by
  induction bs generalizing o s with
  | nil => rfl
  | cons b bs ih => simp [setBar2, ih]

@[simp] theorem commitView_enterStopped (s : State) : commitView (enterStopped s) = commitView s := by
  simp [enterStopped]

/-! ### Requests on a module -/

@[simp] theorem commitView_setModReq (r : ModReq) (s : State) : commitView (setModReq r s) = commitView s := by
  simp [setModReq]

@[simp] theorem commitView_updIo (id : Nat) (f : IoJob → IoJob) (s : State) :
    commitView (updIo id f s) = commitView s := by
  simp only [updIo]
  split <;> simp

@[simp] theorem commitView_chargePage (cls q : Nat) (s : State) : commitView (chargePage cls q s) = commitView s := by
  simp [chargePage]

@[simp] theorem commitView_sendStatus (id ticket : Nat) (ok : Bool) (cause : Nat) (s : State) :
    commitView (sendStatus id ticket ok cause s) = commitView s := by
  simp only [sendStatus]
  split <;> simp

@[simp] theorem commitView_shipFail (id cause page : Nat) (tell : Bool) (s : State) :
    commitView (shipFail id cause page tell s) = commitView s := by
  simp only [shipFail]
  repeat' split
  all_goals simp

@[simp] theorem commitView_parkFail (id cause page : Nat) (s : State) :
    commitView (parkFail id cause page s) = commitView s := by
  simp only [parkFail]
  repeat' split
  all_goals simp

@[simp] theorem commitView_addIoRef (i : Nat) (s : State) : commitView (addIoRef i s) = commitView s := by
  simp [addIoRef]

@[simp] theorem commitView_dropIoRef (i : Nat) (s : State) : commitView (dropIoRef i s) = commitView s := by
  simp [dropIoRef]

@[simp] theorem commitView_holdTokens (e : OutTokens) (s : State) : commitView (holdTokens e s) = commitView s := by
  simp [holdTokens]

@[simp] theorem commitView_shipStart (id ticket len : Nat) (s : State) :
    commitView (shipStart id ticket len s) = commitView s := by
  simp only [shipStart]
  repeat' split
  all_goals simp

@[simp] theorem commitView_shipStop (id : Nat) (s : State) : commitView (shipStop id s) = commitView s := by
  simp only [shipStop]
  split <;> simp

@[simp] theorem commitView_adoptStart (id ticket len : Nat) (s : State) :
    commitView (adoptStart id ticket len s) = commitView s := by
  simp only [adoptStart]
  split <;> simp

@[simp] theorem commitView_setParkValid (i : Nat) (v : Bool) (s : State) :
    commitView (setParkValid i v s) = commitView s := by simp [setParkValid]

@[simp] theorem commitView_parkDrop (handle : Nat) (s : State) : commitView (parkDrop handle s) = commitView s := by
  simp [parkDrop]

@[simp] theorem commitView_parkMore (id n : Nat) (s : State) :
    commitView (parkMore id n s) = commitView s := by
  induction n generalizing s with
  | zero => rfl
  | succ n ih =>
    simp only [parkMore]
    repeat' split
    all_goals simp [ih]

@[simp] theorem commitView_parkStart (id handle region offset capacity : Nat) (s : State) :
    commitView (parkStart id handle region offset capacity s) = commitView s := by
  simp only [parkStart]
  split <;> simp

@[simp] theorem commitView_resumeMore (id n : Nat) (s : State) :
    commitView (resumeMore id n s) = commitView s := by
  induction n generalizing s with
  | zero => rfl
  | succ n ih =>
    simp only [resumeMore]
    repeat' split
    all_goals simp [ih]

@[simp] theorem commitView_resumeStart (id handle region offset positions : Nat) (s : State) :
    commitView (resumeStart id handle region offset positions s) = commitView s := by
  simp only [resumeStart]
  split <;> simp

/-! ### The widening table (R198 to R200) -/

@[simp] theorem commitView_setWiden (i : Nat) (w : Widen) (s : State) :
    commitView (setWiden i w s) = commitView s := by simp [setWiden]

@[simp] theorem commitView_widenBack (i : Nat) (s : State) : commitView (widenBack i s) = commitView s := by
  simp [widenBack]

@[simp] theorem commitView_widenApply (v : Word) (s : State) : commitView (widenApply v s) = commitView s := by
  simp only [widenApply]
  split <;> simp

@[simp] theorem commitView_widenRate (w : Widen) (s : State) : commitView (widenRate w s).2 = commitView s := by
  simp only [widenRate]
  split <;> simp

@[simp] theorem commitView_widenGrant (i : Nat) (s : State) : commitView (widenGrant i s) = commitView s := by
  simp [widenGrant]

@[simp] theorem commitView_widenDeny (layer : Nat) (s : State) : commitView (widenDeny layer s) = commitView s := by
  simp [widenDeny]

@[simp] theorem commitView_widenGrants (s : State) : commitView (widenGrants s) = commitView s := by
  simp [widenGrants]

/-! ### Items of a GO (R392) -/

@[simp] theorem commitView_drawSampling (s : State) : commitView (drawSampling s).2 = commitView s := by
  simp [drawSampling]

@[simp] theorem commitView_jobParams (id adapter : Nat) (s : State) :
    commitView (jobParams id adapter s).2 = commitView s := by
  simp only [jobParams]
  split <;> simp

@[simp] theorem commitView_admitReq (req : Word) (home flags : Byte) (adapter : BitVec 16) (len maxNew : Word)
    (kind : Byte) (s : State) : commitView (admitReq req home flags adapter len maxNew kind s) = commitView s := by
  simp only [admitReq]
  split <;> simp

@[simp] theorem commitView_goItem (s : State) (i : MsgItem) : commitView (goItem s i) = commitView s := by
  simp only [goItem]
  repeat' split
  all_goals simp

@[simp] theorem commitView_reserveFor (gs : List RowGroup) (id : Nat) (s : State) :
    commitView (reserveFor gs id s) = commitView s := by
  unfold reserveFor
  split
  next => rfl
  next r _ =>
    dsimp only
    split
    · rfl
    · split
      all_goals
        next t h =>
          have ht := (congrArg (fun x => commitView x.2) h).symm.trans (commitView_reserve ..)
          simpa using ht

@[simp] theorem commitView_termHeader (d : Nat) (g : Nat × AGroup) (s : State) (e : Nat × RowGroup) :
    commitView (termHeader d g s e) = commitView s := by simp [termHeader]

@[simp] theorem commitView_termHeaders (rows : List (Nat × RowGroup)) (s : State) :
    commitView (termHeaders rows s) = commitView s :=
  commitView_foldl
    (fun _ d => commitView_foldl (fun _ g => commitView_foldl (commitView_termHeader d g) rows _) _ _) _ s

@[simp] theorem commitView_putPageList (gs : List RowGroup) (d : Nat) (s : State) (b : Bytes) :
    commitView (putPageList gs d s b) = commitView s := by
  simp only [putPageList]
  split <;> simp

@[simp] theorem commitView_pageLists (gs : List RowGroup) (s : State) :
    commitView (pageLists gs s) = commitView s := by simp [pageLists]

@[simp] theorem commitView_egressRecords (id : Nat) (t : Target) (i : Nat) (l : List (Nat × Nat × Nat)) (s : State) :
    commitView (egressRecords id t i l s) = commitView s := by
  induction l generalizing s with
  | nil => rfl
  | cons x l ih => simp [egressRecords, ih]

@[simp] theorem commitView_deliverTokens (v : Nat × Nat × Bool) (s : State) :
    commitView (deliverTokens v s) = commitView s := by
  simp only [deliverTokens]
  split <;> simp

@[simp] theorem commitView_reserveMicro (home id : Nat) (l : List Nat) (s : State) :
    commitView (reserveMicro home id l s) = commitView s := by
  induction l generalizing s with
  | nil => rfl
  | cons n ns ih =>
    rw [reserveMicro]
    split
    next t h =>
      have ht := (congrArg (fun x => commitView x.2) h).symm.trans (commitView_reserve ..)
      simpa using ht
    next ps t h =>
      have ht := (congrArg (fun x => commitView x.2) h).symm.trans (commitView_reserve ..)
      simpa [ih] using ht

@[simp] theorem commitView_resolveMicro (s : State) : commitView (resolveMicro s) = commitView s := by
  simp [resolveMicro]

/-! ### Requests at a step commit (R389) -/

@[simp] theorem commitView_resolveReq (id a : Nat) (s : State) :
    commitView (resolveReq id a s) = commitView s := by
  unfold resolveReq
  split
  next => rfl
  next r _ =>
    dsimp only
    split
    · simp
    · refine (commitView_foldl (fun u i => ?_) _ _).trans (by simp)
      repeat' split
      all_goals simp

@[simp] theorem commitView_lookupReq (s : State) (r : ModReq) : commitView (lookupReq s r) = commitView s := by
  simp [lookupReq]

@[simp] theorem commitView_releaseReq (s : State) (e : Nat × Nat × Nat) :
    commitView (releaseReq s e) = commitView s := by
  simp only [releaseReq]
  repeat' split
  all_goals simp

@[simp] theorem commitView_advanceBase (s : State) : commitView (advanceBase s) = commitView s := by
  simp only [advanceBase]
  split <;> simp

@[simp] theorem commitView_verdictOf (step fl : Nat) (s : State) (g : RowGroup) :
    commitView (verdictOf step fl s g).2 = commitView s := by
  simp only [verdictOf]
  repeat' split
  all_goals simp

@[simp] theorem commitView_verdictItems (step fl : Nat) (l : List RowGroup) (s : State) :
    commitView (verdictItems step fl l s).2 = commitView s := by
  induction l generalizing s with
  | nil => rfl
  | cons x l ih => simp [verdictItems, ih]

/-! ### Requests of the lead (R390 to R410) -/

@[simp] theorem commitView_setReq (slot : Nat) (r : Req) (s : State) : commitView (setReq slot r s) = commitView s := by
  simp [setReq, updLead]

@[simp] theorem commitView_updReq (slot : Nat) (f : Req → Req) (s : State) :
    commitView (updReq slot f s) = commitView s := by simp [updReq]

@[simp] theorem commitView_addOrder (i : MsgItem) (s : State) : commitView (addOrder i s) = commitView s := by
  simp [addOrder, updLead]

@[simp] theorem commitView_addCpl (b : Bytes) (s : State) : commitView (addCpl b s) = commitView s := by
  simp [addCpl, updLead]

@[simp] theorem commitView_complete (slot kind cause step detail : Nat) (s : State) :
    commitView (complete slot kind cause step detail s) = commitView s := by simp [complete]

@[simp] theorem commitView_parkRelease (client req : Nat) (b : Bytes) (s : State) :
    commitView (parkRelease client req b s) = commitView s := by simp [parkRelease]

@[simp] theorem commitView_endReq (slot state kind cause step : Nat) (s : State) :
    commitView (endReq slot state kind cause step s) = commitView s := by simp [endReq]

@[simp] theorem commitView_finishReq (slot cause step : Nat) (s : State) :
    commitView (finishReq slot cause step s) = commitView s := by simp [finishReq]

@[simp] theorem commitView_failReq (slot cause step : Nat) (s : State) :
    commitView (failReq slot cause step s) = commitView s := by simp [failReq]

@[simp] theorem commitView_moveReq (slot state step : Nat) (s : State) :
    commitView (moveReq slot state step s) = commitView s := by simp [moveReq]

@[simp] theorem commitView_waveReport (step : Nat) (s : State) (m : CommitMsg) :
    commitView (waveReport step s m) = commitView s := by
  simp only [waveReport]
  repeat' split
  · rfl
  · simp [updLead]
  · rw [commitView_foldl (fun s id => by split <;> simp)]
    simp [updLead]

@[simp] theorem commitView_turnEnds (slot cause step : Nat) (s : State) :
    commitView (turnEnds slot cause step s) = commitView s := by simp [turnEnds]

@[simp] theorem commitView_deliverReq (slot n k fl t step : Nat) (s : State) :
    commitView (deliverReq slot n k fl t step s) = commitView s := by
  simp only [deliverReq]
  split <;> simp

@[simp] theorem commitView_verdictArrives (w : Wave) (t step : Nat) (s : State) (v : Nat × Nat × Bool) :
    commitView (verdictArrives w t step s v) = commitView s := by
  simp only [verdictArrives]
  split <;> simp

@[simp] theorem commitView_ioComplete (slot t step : Nat) (s : State) :
    commitView (ioComplete slot t step s) = commitView s := by simp [ioComplete]

@[simp] theorem commitView_doneItem (m t step : Nat) (s : State) (i : MsgItem) :
    commitView (doneItem m t step s i) = commitView s := by
  simp only [doneItem]
  repeat' split
  all_goals simp

@[simp] theorem commitView_poolCheck (s : State) (m : CommitMsg) : commitView (poolCheck s m) = commitView s := by
  simp [poolCheck]

@[simp] theorem commitView_deadline (t step : Nat) (s : State) (e : Nat × Req) :
    commitView (deadline t step s e) = commitView s := by simp [deadline]

@[simp] theorem commitView_copyPrompt (b : Bytes) (s : State) : commitView (copyPrompt b s).2 = commitView s := by
  simp only [copyPrompt]
  split <;> simp

@[simp] theorem commitView_acceptEntry (step idx : Nat) (b : Bytes) (s : State) :
    commitView (acceptEntry step idx b s) = commitView s := by
  simp only [acceptEntry]
  repeat' split
  all_goals simp

@[simp] theorem commitView_takeEntry (t step idx : Nat) (s : State) :
    commitView (takeEntry t step idx s) = commitView s := by
  simp [takeEntry, updLead]

@[simp] theorem commitView_takeEntries (t step n : Nat) (s : State) :
    commitView (takeEntries t step n s) = commitView s := by
  induction n generalizing s with
  | zero => rfl
  | succ n ih => simp [takeEntries, ih]

@[simp] theorem commitView_admits (slot t step : Nat) (s : State) :
    commitView (admits slot t step s) = commitView s := by simp [admits]

@[simp] theorem commitView_admitAll (t step : Nat) (l : List (Nat × Req)) (h : List Nat) (s : State) :
    commitView (admitAll t step l h s) = commitView s := by
  induction l generalizing h s with
  | nil => rfl
  | cons x l ih => simp [admitAll, ih]

@[simp] theorem commitView_admissions (t step : Nat) (s : State) :
    commitView (admissions t step s) = commitView s := by simp [admissions]

@[simp] theorem commitView_startJob (step : Nat) (s : State) : commitView (startJob step s) = commitView s := by
  simp only [startJob]
  repeat' split
  all_goals simp

@[simp] theorem commitView_checkJob (step : Nat) (s : State) : commitView (checkJob step s) = commitView s := by
  simp only [checkJob]
  split <;> simp

@[simp] theorem commitView_expireEntry (deferred : Nat) (s : State) (i : Nat) :
    commitView (expireEntry deferred s i) = commitView s := by simp [expireEntry]

@[simp] theorem commitView_expiries (t : Nat) (s : State) : commitView (expiries t s) = commitView s := by
  simp [expiries]

@[simp] theorem commitView_planWave (step : Nat) (s : State) : commitView (planWave step s).2 = commitView s := by
  simp [planWave]

/-! ### The state window and the completion ring -/

@[simp] theorem commitView_publishWindow (t step : Nat) (s : State) :
    commitView (publishWindow t step s) = commitView s := by simp [publishWindow]

@[simp] theorem commitView_flushCpl (n : Nat) (s : State) : commitView (flushCpl n s) = commitView s := by
  induction n generalizing s with
  | zero => rfl
  | succ n ih =>
    rw [flushCpl]
    split
    · rfl
    · dsimp only
      repeat' split
      all_goals simp [ih, updLead]

@[simp] theorem commitView_writeCpls (s : State) : commitView (writeCpls s) = commitView s := by simp [writeCpls]

@[simp] theorem commitView_freeClosed (s : State) : commitView (freeClosed s) = commitView s := by
  simp [freeClosed, updLead]

@[simp] theorem commitView_startPrefill (step : Nat) (s : State) (e : Nat × Req) :
    commitView (startPrefill step s e) = commitView s := by
  simp only [startPrefill]
  repeat' split
  all_goals simp

/-! ### What a step commit, a machine commit and a GO set -/

theorem reg_of_stepRegs {s t : State} (h : stepRegs t.regs = stepRegs s.regs) {a : Nat} (ha : a ∈ stepAddrs) :
    reg t a = reg s a := List.map_inj_left.mp h a ha

theorem stepNumber_of_stepRegs {s t : State} (h : stepRegs t.regs = stepRegs s.regs) : stepNumber t = stepNumber s := by
  simp [stepNumber, reg64, reg_of_stepRegs h]

theorem isLead_of_stepRegs {s t : State} (h : stepRegs t.regs = stepRegs s.regs) : isLead t = isLead s := by
  rw [isLead, moduleId_of_machine (reg_of_stepRegs h (by simp)), isLead]

theorem machineSize_of_stepRegs {s t : State} (h : stepRegs t.regs = stepRegs s.regs) :
    machineSize t = machineSize s := machineSize_of_machine (reg_of_stepRegs h (by simp))

@[simp] theorem commitView_adapterCommit (s : State) :
    commitView (adapterCommit s) = { commitView s with cmd := none } := by
  unfold adapterCommit
  split
  next hnone => simp [commitView, hnone]
  next =>
    simp
    simp only [commitView, and_self]

@[simp] theorem commitView_widenCommit (s : State) :
    commitView (widenCommit s) = { commitView s with cmds := [] } := by
  simp [widenCommit]
  simp only [commitView, and_self]

/-- `t` is what `s` becomes when a program may start in it: of what a step commit sets, only the end of the program that
ran before may change, and it is then gone. -/
def StartsProgram (s t : State) : Prop :=
  commitView t = { commitView s with ending := t.seq.ending } ∧ (s.seq.ending = false → t.seq.ending = false)

section StartsProgram

variable {s t u : State}

theorem StartsProgram.of_commitView (h : commitView t = commitView s) : StartsProgram s t := by
  have hending : t.seq.ending = s.seq.ending := congrArg CommitView.ending h
  exact ⟨by rw [h, hending, commitView], hending.trans⟩

theorem StartsProgram.trans (hst : StartsProgram s t) (htu : StartsProgram t u) : StartsProgram s u := by
  obtain ⟨hview, hending⟩ := hst
  obtain ⟨hview', hending'⟩ := htu
  exact ⟨by rw [hview', hview], fun h => hending' (hending h)⟩

theorem startsProgram_programStart (i : Nat) (s : State) : StartsProgram s (programStart i s) := by
  unfold programStart
  split
  next => exact .of_commitView (by simp)
  next p _ =>
    refine ⟨?_, fun _ => rfl⟩
    have h : commitView (commitRegs .programStart (closeCycle s)) = commitView s := by simp
    simp only [commitView_mk, ← h]
    rfl

theorem startsProgram_choose (p : Nat) (s : State) : StartsProgram s (choose p s) := by
  unfold choose
  split
  · exact startsProgram_programStart p s
  · exact .of_commitView (by simp)

theorem startsProgram_runWave (kind rows pos k : Nat) (s : State) : StartsProgram s (runWave kind rows pos k s) := by
  unfold runWave
  split
  · exact startsProgram_choose _ s
  · exact .of_commitView (by simp)

theorem startsProgram_leaveStopped (s : State) : StartsProgram s (leaveStopped s) := by
  unfold leaveStopped
  split
  · dsimp only
    split
    · exact .of_commitView (by simp)
    · exact .trans (.of_commitView (by simp)) (startsProgram_programStart ..)
  · exact .of_commitView rfl

theorem startsProgram_afterCommit (s : State) : StartsProgram s (afterCommit s) := by
  unfold afterCommit
  dsimp only
  split
  · exact .of_commitView rfl
  split
  · exact .of_commitView (by simp)
  split
  · exact startsProgram_leaveStopped s
  split
  · exact .of_commitView (by simp)
  · exact .trans (.of_commitView (by simp)) (startsProgram_programStart ..)

theorem startsProgram_trainGo (s : State) : StartsProgram s (trainGo s) := by
  unfold trainGo
  exact .trans (.of_commitView (by simp)) (startsProgram_runWave ..)

end StartsProgram

/-! ### A GO -/

/-- A GO as a module takes it before any of its items: the role in force, the start tick, the wait over (R392). -/
def goTaken (m : GoMsg) (s : State) : State :=
  let s := { s with serve := { s.serve with go := some m, waiting := false, commitAt := none } }
  let s := if isLead s then s else commitRegs .machineCommit (setFld Reg.HAWK_CONFIG 1 0 (m.role.toNat % 4) s)
  setReg64 Reg.SEQ_STEP_START m.start.toNat s

/-- The wave of a GO: this module's groups of it get their positions and headers, and its program starts (R392). -/
def serveWave (m : GoMsg) (s : State) : State :=
  let waves := ((m.step.toNat, rowGroups m) :: s.serve.waves).take (machineSize s)
  let own := waves.getD (moduleId s) (m.step.toNat, [])
  let gs := own.2.map (voided s m)
  let s := { s with serve := { s.serve with waves := waves, wave := (own.1, gs) }, seq := { s.seq with batch := gs } }
  let ids := ((gs.filter (fun g => g.kind != 0)).map groupId).eraseDups
  let s : State := ids.foldl (fun s id => reserveFor gs id s) s
  let s := termHeaders (waveRows gs) (pageLists gs s)
  if gs.isEmpty then { s with serve := { s.serve with commitAt := some m.start.toNat } }
  else
    let n := waveNeeds own.2
    runWave 0 n.1 n.2.1 n.2.2 s

/-- What a module then does of a GO: verdicts, items, and the training step or the wave (R392). -/
def goServed (m : GoMsg) (s : State) : State :=
  let s : State := m.items.foldl goItem ((verdicts m).foldl (fun s v => deliverTokens v s) s)
  if m.train then
    trainGo { s with serve := { s.serve with wave := (m.step.toNat, []) }, seq := { s.seq with batch := [] } }
  else serveWave m s

section Go

variable (m : GoMsg) (s : State)

theorem goArrives_eq : goArrives m s = goServed m (goTaken m s) := by
  simp only [goArrives, goServed, serveWave, goTaken]

theorem startsProgram_serveWave : StartsProgram s (serveWave m s) := by
  unfold serveWave
  dsimp only
  split
  · exact .of_commitView (by simp)
  · exact .trans (.of_commitView (by simp)) (startsProgram_runWave ..)

theorem startsProgram_goServed : StartsProgram s (goServed m s) := by
  unfold goServed
  dsimp only
  split
  · exact .trans (.of_commitView (by simp)) (startsProgram_trainGo _)
  · exact .trans (.of_commitView (by simp)) (startsProgram_serveWave ..)

theorem commitView_goTaken :
    commitView (goTaken m s) =
      { commitView s with regs := stepRegs (goTaken m s).regs, waiting := false, go := some m } := by
  simp only [goTaken]
  split <;> rfl

/-- A GO sets no register but HAWK_CONFIG, the lead's none, and SEQ_STEP_START. -/
theorem reg_goTaken {a : Nat} (hconfig : a ≠ Reg.HAWK_CONFIG) (h : a ≠ Reg.SEQ_STEP_START)
    (h' : a ≠ Reg.SEQ_STEP_START + 4) : reg (goTaken m s) a = reg s a := by
  simp only [goTaken]
  rw [reg_setReg64_other h h']
  split
  · rfl
  · exact reg_setReg_other hconfig _ _

theorem stepNumber_goTaken : stepNumber (goTaken m s) = stepNumber s := by
  simp only [stepNumber, reg64]
  rw [reg_goTaken, reg_goTaken]
  all_goals decide

theorem reg64_goTaken_start : reg64 (goTaken m s) Reg.SEQ_STEP_START = m.start.toNat :=
  reg64_setReg64 _ _ _ m.start.isLt

theorem role_goTaken (h : isLead s = false) : fld (reg (goTaken m s) Reg.HAWK_CONFIG) 1 0 = m.role.toNat % 4 := by
  have hlead (serve : Serve) : isLead { s with serve := serve } = false := h
  simp only [goTaken, hlead]
  rw [reg_setReg64_other (by decide) (by decide)]
  exact (congrArg (fld · 1 0) (reg_setReg_same ..)).trans ((fld_putFld (by decide) _ _).trans (Nat.mod_mod _ _))

end Go

/-! ### A step commit -/

/-- The step counts (R389). -/
def stepCounted (s : State) : State :=
  let s := drain s
  setReg64 Reg.SEQ_STEP_NUMBER ((stepNumber s + 1) % 2 ^ 48) s

/-- The requests of the step resolve, and those of its GO enter or leave (R335, R342, R352, R389). -/
def stepResolved (err : Bool) (s : State) : State :=
  let s : State := (((s.serve.wave.2.filter isPrefill).map groupId).eraseDups).foldl
    (fun s id => resolveReq id (if err then 0 else 1048576) s) s
  let s := resolveMicro s
  match s.serve.go with
  | none => s
  | some m =>
    let s : State := (verdicts m).foldl (fun s v => resolveReq v.1 (if v.2.2 then 0 else v.2.1) s) s
    let s : State := (retirals m).foldl (fun s r => resolveReq r.1 0 s) s
    let new := m.items.filterMap (fun i => match i with | .admits r _ _ _ _ _ _ _ => modReq s r.toNat | _ => none)
    let new := (new.foldl (fun m r => mput m (r.id % 65536) r) ([] : SMap ModReq)).map (·.2)
    let s := new.foldl lookupReq s
    let s := (retirals m).foldl releaseReq s
    if m.train && s.adapt.job != 0 then trainStep s else s

/-- The latched commands run, registers take effect, and the program that ran has ended (R389). -/
def stepEnded (ran : Bool) (s : State) : State :=
  let s := commitRegs .stepCommit (swapAll (widenCommit (adapterCommit s)))
  let s := if ran then advanceBase s else s
  let q := s.seq
  { s with
    seq := { q with ending := false, held := none, issued := none, arrival := none, points := 0 }
    boot := { s.boot with committed := true } }

/-- The view of a module that has sent its COMMIT_DONE and waits for the next GO. -/
def CommitView.sent (v : CommitView) (done : SMap CommitMsg) (ownAt : Option Nat) : CommitView :=
  { v with waiting := true, go := none, done := done, ownAt := ownAt }

section StepCommit

variable (err ran : Bool) (s : State)

theorem commitStep_eq : commitStep s =
    afterCommit (sendCommitDone (s.seq.state == .running && s.seq.stepError) (stepEnded (s.seq.state == .running)
      (stepResolved (s.seq.state == .running && s.seq.stepError) (stepCounted s)))) := by
  simp only [commitStep, stepEnded, stepResolved, stepCounted] <;> rfl

theorem commitView_stepCounted :
    commitView (stepCounted s) = { commitView s with regs := stepRegs (stepCounted s).regs } := by
  have h : commitView (drain s) = commitView s := by simp
  rw [← h]
  rfl

theorem stepNumber_stepCounted : stepNumber (stepCounted s) = (stepNumber s + 1) % 2 ^ 48 := by
  rw [← stepNumber_of_stepRegs (congrArg CommitView.regs (commitView_drain s))]
  exact reg64_setReg64 _ _ _ (by omega)

theorem isLead_stepCounted : isLead (stepCounted s) = isLead s := by
  rw [← isLead_of_stepRegs (congrArg CommitView.regs (commitView_drain s)), isLead, moduleId_of_machine, isLead]
  exact reg_setReg64_other (by decide) (by decide) ..

@[simp] theorem commitView_stepResolved : commitView (stepResolved err s) = commitView s := by
  unfold stepResolved
  dsimp only
  split <;> simp

theorem commitView_stepEnded : commitView (stepEnded ran s) =
    { commitView s with ending := false, cmds := [], cmd := none, committed := true } := by
  unfold stepEnded
  extract_lets u v q
  have h : commitView v = { commitView s with cmds := [], cmd := none } := by simp [v, u]
  calc _ = { commitView v with ending := false, committed := true } := rfl
    _ = _ := by rw [h]

theorem commitView_sendCommitDone :
    ∃ done ownAt, commitView (sendCommitDone err s) = (commitView s).sent done ownAt := by
  unfold sendCommitDone
  extract_lets wave
  split
  next f u hu =>
  split
  next vs v hv =>
  have hu : commitView u = commitView s := by
    calc commitView u = commitView (Prod.snd (f, u)) := rfl
      _ = _ := by
        rw [← hu]
        split <;> simp
  have hv : commitView v = commitView s := by
    calc commitView v = commitView (Prod.snd (vs, v)) := rfl
      _ = _ := by
        rw [← hv]
        split <;> simp [hu]
  rw [← hv]
  extract_lets items msg train
  split
  · exact ⟨_, _, rfl⟩
  · exact ⟨_, _, by simp; rfl⟩

end StepCommit

/-! ### A machine commit -/

/-- What a step commit leaves of the state before it: the step counted, no latched command and no program that ends. -/
structure StepCommitted (s t : State) : Prop where
  step : stepNumber t = (stepNumber s + 1) % 2 ^ 48
  cmds : t.fmt.cmds = []
  cmd : t.adapt.cmd = none
  ending : t.seq.ending = false
  committed : t.boot.committed = true

theorem commitStep_effect (s : State) :
    StepCommitted s (commitStep s) ∧ isLead (commitStep s) = isLead s ∧
      (commitStep s).serve.waiting = true ∧ (commitStep s).serve.go = none := by
  let err := s.seq.state == .running && s.seq.stepError
  let u := stepEnded (s.seq.state == .running) (stepResolved err (stepCounted s))
  obtain ⟨done, ownAt, hsent⟩ := commitView_sendCommitDone err u
  obtain ⟨hview, hending⟩ := startsProgram_afterCommit (sendCommitDone err u)
  rw [← commitStep_eq] at hview hending
  rw [hsent, commitView_stepEnded, commitView_stepResolved, commitView_stepCounted] at hview
  have hregs : stepRegs (commitStep s).regs = stepRegs (stepCounted s).regs := congrArg CommitView.regs hview
  have hended : (sendCommitDone err u).seq.ending = false := by
    rw [commitView_stepEnded] at hsent
    exact congrArg CommitView.ending hsent
  refine ⟨?_, (isLead_of_stepRegs hregs).trans (isLead_stepCounted s), congrArg CommitView.waiting hview,
    congrArg CommitView.go hview⟩
  exact {
    step := (stepNumber_of_stepRegs hregs).trans (stepNumber_stepCounted s)
    cmds := congrArg CommitView.cmds hview
    cmd := congrArg CommitView.cmd hview
    ending := hending hended
    committed := congrArg CommitView.committed hview }

/-- The lead's messages of a GO, sent to every other module (R392). -/
def goSent (m : GoMsg) (s : State) : State :=
  (List.range (machineSize s - 1)).foldl (fun s i =>
    (List.range (messageParts m.items)).foldl (fun s p => sendTo (i + 1) (fun vc => .go vc (i + 1) p m) s) s) s

theorem sendGo_eq (m : GoMsg) (s : State) : sendGo m s = goArrives m (goSent m s) := rfl

theorem commitView_goSent (m : GoMsg) (s : State) : commitView (goSent m s) = commitView s := by simp [goSent]

/-- A machine commit empties the lead's messages and sends the next GO. -/
theorem machineCommit_eq_sendGo (s : State) :
    ∃ m u, machineCommit s = sendGo m u ∧ commitView u = { commitView s with done := [], ownAt := none } := by
  unfold machineCommit
  extract_lets t step n msgs train backlog u₁ u₂ u₃ u₄ u₅ u₆ u₇ u₈ u₉ u₁₀ head u₁₁ more
  have h₁ : commitView u₁ = { commitView s with done := [], ownAt := none } := by
    simp [u₁, updLead]
    simp only [commitView, and_self]
  have h₃ : commitView u₃ = commitView u₁ := by
    simp only [u₃, u₂]
    repeat' split
    all_goals simp
  have h₅ : commitView u₅ = commitView u₃ := by
    refine (commitView_foldl (fun s id => ?_) _ _).trans (by simp [u₄])
    split <;> simp
  have h₆ : commitView u₆ = commitView u₅ := by
    simp only [u₆]
    repeat' split
    all_goals simp
  have h₁₁ : commitView u₁₁ = commitView u₆ := by simp [u₁₁, u₁₀, u₉, u₈, u₇, updLead]
  split
  next gs v hv =>
  have hv : commitView v = commitView u₁₁ := by
    calc commitView v = commitView (Prod.snd (gs, v)) := rfl
      _ = _ := by
        rw [← hv]
        split <;> simp
  extract_lets w x job items m y
  refine ⟨m, y, rfl, ?_⟩
  rw [← h₁, ← h₃, ← h₅, ← h₆, ← h₁₁, ← hv]
  simp [y, x, w, updLead]

/-- What a machine commit and its GO leave: no message, no wait, and what a step commit set. -/
structure MachineCommitted (s t : State) : Prop where
  step : stepNumber t = stepNumber s
  cmds : t.fmt.cmds = s.fmt.cmds
  cmd : t.adapt.cmd = s.adapt.cmd
  ending : s.seq.ending = false → t.seq.ending = false
  committed : t.boot.committed = s.boot.committed
  done : t.serve.lead.done = []
  ownAt : t.serve.lead.ownAt = none
  waiting : t.serve.waiting = false

theorem machineCommit_effect (s : State) : MachineCommitted s (machineCommit s) := by
  obtain ⟨m, u, hgo, hu⟩ := machineCommit_eq_sendGo s
  have hsent : commitView (goSent m u) = { commitView s with done := [], ownAt := none } :=
    (commitView_goSent m u).trans hu
  obtain ⟨hview, hending⟩ := startsProgram_goServed m (goTaken m (goSent m u))
  rw [← goArrives_eq, ← sendGo_eq, ← hgo] at hview hending
  have hended : (goTaken m (goSent m u)).seq.ending = s.seq.ending :=
    (congrArg CommitView.ending (commitView_goTaken ..)).trans (congrArg CommitView.ending hsent)
  rw [commitView_goTaken, hsent] at hview
  have hregs : stepRegs (machineCommit s).regs = stepRegs (goTaken m (goSent m u)).regs :=
    congrArg CommitView.regs hview
  exact {
    step := by
      rw [stepNumber_of_stepRegs hregs, stepNumber_goTaken]
      exact stepNumber_of_stepRegs (congrArg CommitView.regs hsent)
    cmds := congrArg CommitView.cmds hview
    cmd := congrArg CommitView.cmd hview
    ending := fun h => hending (hended.trans h)
    committed := congrArg CommitView.committed hview
    done := congrArg CommitView.done hview
    ownAt := congrArg CommitView.ownAt hview
    waiting := congrArg CommitView.waiting hview }

/-! ### Messages of the machine commit -/

theorem machineReady_iff {s : State} : machineReady s = true ↔
    isLead s = true ∧ s.serve.lead.ownAt.isSome = true ∧ s.seq.fatal = none ∧ s.seq.state ≠ .halted ∧
      ∀ k < machineSize s, (find? s.serve.lead.done k).isSome = true := by
  simp [machineReady, and_assoc]

theorem tryCommit_of_ready {s : State} (h : machineReady s = true) : tryCommit s = machineCommit s := if_pos h

theorem tryCommit_of_not_ready {s : State} (h : ¬ machineReady s = true) : tryCommit s = s := if_neg h

theorem accept_serve_seq (p n : Nat) (s : State) : (accept p n s).serve = s.serve ∧ (accept p n s).seq = s.seq := by
  simp only [accept, sendAck]
  split <;> simp

/-- A step commit, on the lead with the machine commit that may follow it. -/
theorem stepCommitted_tryCommit (s : State) : StepCommitted s (tryCommit (commitStep s)) := by
  obtain ⟨⟨step, cmds, cmd, ending, committed⟩, -⟩ := commitStep_effect s
  unfold tryCommit
  split
  · have h := machineCommit_effect (commitStep s)
    exact ⟨h.step.trans step, h.cmds.trans cmds, h.cmd.trans cmd, h.ending ending, h.committed.trans committed⟩
  · exact ⟨step, cmds, cmd, ending, committed⟩

/-- Another module has no machine commit of its own. -/
theorem tryCommit_commitStep_of_not_lead {s : State} (h : isLead s = false) :
    tryCommit (commitStep s) = commitStep s := by
  obtain ⟨-, hlead, -⟩ := commitStep_effect s
  refine tryCommit_of_not_ready fun hready => ?_
  obtain ⟨hready, -⟩ := machineReady_iff.mp hready
  rw [hlead, h] at hready
  contradiction

/-- A module's COMMIT_DONE as the lead keeps it (R390). -/
def recordDone (m : CommitMsg) (s : State) : State :=
  updLead (fun l => { l with done := mput l.done m.src.toNat m }) s

/-- A COMMIT_DONE that the lead awaits, taken from an up port. -/
theorem commitArrives_of_awaited {m : CommitMsg} {s : State} (hlead : isLead s = true) (hsrc : m.src ≠ 0)
    (hsize : m.src.toNat < machineSize s) (hup : (portOf s (arrivalPort s m.src.toNat)).up = true)
    (hok : messageOk m.items = true) (hstep : m.step.toNat = awaited s) :
    commitArrives m s =
      tryCommit (recordDone m (accept (arrivalPort s m.src.toNat) (messagePackets m.items.length) s)) := by
  have hawaited (p n : Nat) : awaited (accept p n s) = awaited s := by
    rw [awaited, (accept_serve_seq p n s).1, stepNumber_of_stepRegs (congrArg CommitView.regs (commitView_accept ..)),
      awaited]
  have hsrc' : (m.src = 0) = False := eq_false hsrc
  simp only [commitArrives, hlead, hsrc', hsize.not_ge, receive_up hup, hok, hawaited, hstep, Bool.not_true,
    decide_false, Bool.or_false, reduceIte, ne_eq, not_true, Bool.false_eq_true, recordDone]

/-- The last message that was missing makes the machine commit ready. -/
theorem machineReady_of_last {m : CommitMsg} {s : State} (hlead : isLead s = true)
    (hown : s.serve.lead.ownAt.isSome = true) (hfatal : s.seq.fatal = none) (hrun : s.seq.state ≠ .halted)
    (hothers : ∀ k < machineSize s, k ≠ m.src.toNat → (find? s.serve.lead.done k).isSome = true) :
    machineReady (recordDone m s) = true := by
  refine machineReady_iff.mpr ⟨hlead, hown, hfatal, hrun, fun k hk => ?_⟩
  have hdone : find? (mput s.serve.lead.done m.src.toNat m) k ≠ none := by
    by_cases h : k = m.src.toNat
    · simp [h]
    · rw [find?_mput_other _ _ h]
      exact Option.isSome_iff_ne_none.mp (hothers k hk h)
  exact Option.isSome_iff_ne_none.mpr hdone

/-- While another module's message is missing, the machine commit waits. -/
theorem not_machineReady_of_missing {k : Nat} {s : State} (hk : k < machineSize s)
    (hmissing : (find? s.serve.lead.done k).isNone = true) : ¬ machineReady s = true := by
  intro hready
  obtain ⟨-, -, -, -, hall⟩ := machineReady_iff.mp hready
  have hheld := hall k hk
  rw [Option.isNone_iff_eq_none.mp hmissing] at hheld
  contradiction

section Arrives

variable {m : CommitMsg} {s : State} (hlead : isLead s = true) (hsrc : m.src ≠ 0) (hsize : m.src.toNat < machineSize s)
  (hup : (portOf s (arrivalPort s m.src.toNat)).up = true) (hok : messageOk m.items = true)
  (hstep : m.step.toNat = awaited s)
include hlead hsrc hsize hup hok hstep

/-- A COMMIT_DONE that completes the lead's messages brings the machine commit. -/
theorem commitArrives_last (hown : s.serve.lead.ownAt.isSome = true) (hfatal : s.seq.fatal = none)
    (hrun : s.seq.state ≠ .halted)
    (hothers : ∀ k < machineSize s, k ≠ m.src.toNat → (find? s.serve.lead.done k).isSome = true) :
    ∃ u, commitArrives m s = machineCommit u := by
  rw [commitArrives_of_awaited hlead hsrc hsize hup hok hstep]
  generalize arrivalPort s m.src.toNat = p, messagePackets m.items.length = n
  obtain ⟨hserve, hseq⟩ := accept_serve_seq p n s
  have hregs : stepRegs (accept p n s).regs = stepRegs s.regs := congrArg CommitView.regs (commitView_accept p n s)
  rw [← hserve] at hown
  rw [← hseq] at hfatal hrun
  rw [← hserve, ← machineSize_of_stepRegs hregs] at hothers
  rw [← isLead_of_stepRegs hregs] at hlead
  exact ⟨_, tryCommit_of_ready (machineReady_of_last hlead hown hfatal hrun hothers)⟩

/-- A COMMIT_DONE is only kept while another module's is missing. -/
theorem commitArrives_missing {k : Nat} (hk : k < machineSize s) (hother : k ≠ m.src.toNat)
    (hmissing : (find? s.serve.lead.done k).isNone = true) :
    ∃ p n, commitArrives m s = recordDone m (accept p n s) := by
  rw [commitArrives_of_awaited hlead hsrc hsize hup hok hstep]
  generalize arrivalPort s m.src.toNat = p, messagePackets m.items.length = n
  have hregs : stepRegs (accept p n s).regs = stepRegs s.regs := congrArg CommitView.regs (commitView_accept p n s)
  refine ⟨p, n, tryCommit_of_not_ready (not_machineReady_of_missing (k := k) ?_ ?_)⟩
  · rw [← machineSize_of_stepRegs hregs] at hk
    exact hk
  · simp only [recordDone, updLead, (accept_serve_seq p n s).1, find?_mput_other _ _ hother]
    exact hmissing

end Arrives

theorem recordDone_accept_frame (m : CommitMsg) (p n : Nat) (s : State) :
    (recordDone m (accept p n s)).serve.lead.done = mput s.serve.lead.done m.src.toNat m ∧
      (recordDone m (accept p n s)).serve.lead.ownAt = s.serve.lead.ownAt ∧
      (recordDone m (accept p n s)).log = s.log ∧ SameMemory s (recordDone m (accept p n s)) := by
  obtain ⟨hlog, hmem, hhost⟩ := accept_frame p n s
  refine ⟨?_, ?_, hlog, .of_eq hmem (by rw [recordDone, updLead, hhost])⟩
  all_goals simp [recordDone, updLead, (accept_serve_seq p n s).1]

/-- A commit timeout once due names the first module whose message is missing. -/
theorem commitTimeout_of_due {t0 k : Nat} {s : State} (hown : s.serve.lead.ownAt = some t0)
    (hdue : t0 + max 2400 (force s Reg.HAWK_COMMIT_TIMEOUT).toNat ≤ tick s)
    (hfirst : (List.range (machineSize s)).find? (fun m => (find? s.serve.lead.done m).isNone) = some k) :
    commitTimeout s =
      raise 2 Evt.SERVE_COMMIT_TIMEOUT (stepNumber s + k * 2 ^ 48) (updLead (fun l => { l with ownAt := none }) s) := by
  have hk : k < machineSize s := List.mem_range.mp (List.mem_of_find?_eq_some hfirst)
  have hmissing : (find? s.serve.lead.done k).isNone = true := by simpa using List.find?_some hfirst
  simp only [commitTimeout, hown, not_machineReady_of_missing hk hmissing, hdue.not_gt, hfirst, reduceIte,
    Bool.false_eq_true]

/-- A GO for the next step is taken by a module that waits for it. -/
theorem goReceived_of_waiting {m : GoMsg} {s : State} (hlead : isLead s = false) (hwait : s.serve.waiting = true)
    (hstep : m.step.toNat = stepNumber s + 1) (hup : (portOf s (arrivalPort s 0)).up = true)
    (hok : messageOk m.items = true) :
    ∃ p n, goReceived m s = goArrives m (accept p n s) :=
  ⟨arrivalPort s 0, messagePackets m.items.length, by simp [goReceived, hlead, hwait, hstep, receive_up hup, hok]⟩

/-- What a GO sets on a module other than the lead. -/
theorem goArrives_effect {m : GoMsg} {s : State} (hlead : isLead s = false) :
    (goArrives m s).serve.waiting = false ∧ reg64 (goArrives m s) Reg.SEQ_STEP_START = m.start.toNat ∧
      fld (reg (goArrives m s) Reg.HAWK_CONFIG) 1 0 = m.role.toNat % 4 ∧ (goArrives m s).serve.go = some m := by
  obtain ⟨hview, -⟩ := startsProgram_goServed m (goTaken m s)
  rw [← goArrives_eq] at hview
  have hregs : stepRegs (goArrives m s).regs = stepRegs (goTaken m s).regs := congrArg CommitView.regs hview
  rw [commitView_goTaken] at hview
  refine ⟨congrArg CommitView.waiting hview, ?start, ?role, congrArg CommitView.go hview⟩
  case start =>
    rw [reg64, reg_of_stepRegs hregs (by simp), reg_of_stepRegs hregs (by simp)]
    exact reg64_goTaken_start m s
  case role =>
    rw [reg_of_stepRegs hregs (by simp)]
    exact role_goTaken m s hlead

/-- SERVE_COMMIT_TIMEOUT on the lead, with power and the root clock. -/
theorem exec_serveCommitTimeout_of_lead (dt : Nat) {s : State} (hs : Clocked s) (hlead : isLead s = true) :
    exec (.serveCommitTimeout dt) s = .next { commitTimeout (advance dt s) with pending := s.pending } := by
  have hexec : exec (.serveCommitTimeout dt) s = execServeCommitTimeout dt s := rfl
  exact hexec.trans (act_eq hs (if_pos hlead))

theorem ownAt_withPending (t : State) (q : List Instr) :
    ({ t with pending := q } : State).serve.lead.ownAt = t.serve.lead.ownAt := rfl

theorem ownAt_commitTimeout (detail : Nat) (s : State) :
    (raise 2 Evt.SERVE_COMMIT_TIMEOUT detail (updLead (fun l => { l with ownAt := none }) s)).serve.lead.ownAt =
      none := by
  rw [raise_serve, updLead]

/-- A commit timeout that is raised ends the lead's wait and records its event. -/
theorem raisesEvent_commitTimeout (dt detail : Nat) (q : List Instr) (s : State) :
    RaisesEvent 2 Evt.SERVE_COMMIT_TIMEOUT detail [] s
      { raise 2 Evt.SERVE_COMMIT_TIMEOUT detail (updLead (fun l => { l with ownAt := none }) (advance dt s)) with
        pending := q } := by
  have hcode : Evt.SERVE_COMMIT_TIMEOUT < 0x10000 := by decide
  have hraised := raisesEvent_raise hcode 2 detail (updLead (fun l => { l with ownAt := none }) (advance dt s))
  exact (hraised.congr (s' := advance dt s) rfl rfl).ofAdvance

/-- Settles O33: of the view of a state that its clauses speak of, a step commit, a machine commit and a GO set what
they say, and all that runs within them keeps the rest. -/
theorem servingCommits : Obligations.ServingCommits := by
  unfold Obligations.ServingCommits
  refine ⟨?due, ?early, ?last, ?missing, ?timeout, ?go⟩
  case due =>
    intro dt s hs hdue
    have hexec : exec (.stepCommit dt) s = execStepCommit dt s := rfl
    have hcommit := stepCommitted_tryCommit (advance dt s)
    refine ⟨_, hexec.trans (act_eq hs (if_pos hdue)), hcommit.step, hcommit.cmds, hcommit.cmd, hcommit.ending,
      hcommit.committed, fun hlead => ?_⟩
    rw [tryCommit_commitStep_of_not_lead (s := advance dt s) hlead]
    obtain ⟨-, -, hwait, hgo⟩ := commitStep_effect (advance dt s)
    exact ⟨hwait, hgo⟩
  case early =>
    intro dt s hs hearly
    have hexec : exec (.stepCommit dt) s = execStepCommit dt s := rfl
    rw [hexec, execStepCommit, act_on hs]
    simp only [hearly, Bool.false_eq_true, reduceIte, advance_keeps_queue]
  case last =>
    intro dt m s hs hlead hsrc hsize hup hok hstep hown hfatal hrun hothers
    have hexec : exec (.commitDone dt m) s = execCommitDone dt m s := rfl
    obtain ⟨u, harrives⟩ :=
      commitArrives_last (s := advance dt s) hlead hsrc hsize hup hok hstep hown hfatal hrun hothers
    have hcommit := machineCommit_effect u
    exact ⟨_, hexec.trans (act_eq hs harrives), hcommit.done, hcommit.ownAt, hcommit.waiting⟩
  case missing =>
    intro dt m s k hs hlead hsrc hsize hup hok hstep hk hother hmissing
    have hexec : exec (.commitDone dt m) s = execCommitDone dt m s := rfl
    obtain ⟨p, n, harrives⟩ :=
      commitArrives_missing (s := advance dt s) hlead hsrc hsize hup hok hstep hk hother hmissing
    obtain ⟨hdone, hown, hlog, hmem⟩ := recordDone_accept_frame m p n (advance dt s)
    exact ⟨_, hexec.trans (act_eq hs harrives), hdone, hown, hlog, hmem⟩
  case timeout =>
    intro dt s t0 k hs hlead hown hdue hfirst
    have hnumber : stepNumber (advance dt s) = stepNumber s := by simp [stepNumber, reg64]
    rw [exec_serveCommitTimeout_of_lead dt hs hlead, commitTimeout_of_due (s := advance dt s) hown hdue hfirst, hnumber]
    obtain ⟨hlogged, -, hregs, hmem⟩ := raisesEvent_commitTimeout dt (stepNumber s + k * 2 ^ 48) s.pending s
    exact ⟨_, rfl, (ownAt_withPending ..).trans (ownAt_commitTimeout ..), hlogged, hregs, hmem⟩
  case go =>
    intro dt m s hs hlead hwait hstep hup hok
    have hexec : exec (.go dt m) s = execGo dt m s := rfl
    obtain ⟨p, n, hreceived⟩ := goReceived_of_waiting (s := advance dt s) hlead hwait hstep hup hok
    have hlead' : isLead (accept p n (advance dt s)) = false :=
      (isLead_of_stepRegs (congrArg CommitView.regs (commitView_accept ..))).trans hlead
    exact ⟨_, hexec.trans (act_eq hs hreceived), goArrives_effect hlead'⟩

end Sys2Proof.Machine
